-- ==== Sys2Proof/Word.lean ====
section
/-!
DEFINITION. The plain types of the MLD-8820 model (spec/00_scope.md R7, R9, R10, R16).
-/
namespace Sys2Proof

/-- One register word of the window (R10). -/
abbrev Word := BitVec 32

/-- One byte of a cue, a frame or a blob (R9). -/
abbrev Byte := BitVec 8

/-- An instant, counted from the power-on reset in fine edge steps of 39.0625 ps, the
smallest time unit the specification gives (R16: 1/64 SCLK cycle). -/
abbrev Time := Nat

/-- Fine edge steps in one SCLK cycle of 2.5 ns (R16). -/
abbrev sclk : Nat := 64
/-- Fine edge steps in one FCLK clock of 1.25 ns (R16). -/
abbrev fclk : Nat := 32
/-- Fine edge steps in one MCLK clock of 5 ns (R16). -/
abbrev mclk : Nat := 128
/-- Fine edge steps in one 40 ns Pyngeo frame slot (R157). -/
abbrev slot : Nat := 1024
/-- Fine edge steps in one microsecond. -/
abbrev us : Nat := 25600
/-- Fine edge steps in one millisecond. -/
abbrev ms : Nat := 25600000
/-- Fine edge steps in one second. -/
abbrev sec : Nat := 25600000000

/-- A dyadic number `m × 2^e`. -/
structure Dy where
  m : Int
  e : Int
  deriving DecidableEq, Repr, Inhabited

end Sys2Proof
end

