-- ==== Sys2Proof/Syntax.lean ====
section
/-!
DEFINITION. The commands of the block: one constructor per row of spec/opcode_table.json. Every
command but a shot carries `t`, the instant it happens at (fine edge steps from power-on). The other
operands are what the event brings from outside: the values that pads, wires, frames, sensors and
senders present.
-/
namespace Sys2Proof

/-- The operand fields of a shot word (R41). -/
structure Shot where
  lanes : BitVec 4
  dst   : BitVec 13
  srcA  : BitVec 13
  srcB  : BitVec 13
  coef  : BitVec 12
  mode  : BitVec 3
  deriving DecidableEq, Repr

/-- What the datapath's own checking finds in a shot (R46): nothing, two results that differ, or a
fetched word with an uncorrectable error. -/
inductive ShotCheck where
  | good | mismatch | uncorrectable
  deriving DecidableEq, Repr

/-- The stages of a background calibration visit (R77): the spare joins in parallel; it takes the
channel's place; the channel is handed back; a monitor of R78 fires on the spare. -/
inductive BgStage where
  | connect | substitute | handBack | spareMonitor
  deriving DecidableEq, Repr

/-- What a channel's clock check finds (R59, R78): no bit clock on channel `n`, or the rate measured over 16
bit times, in kHz. -/
structure ClockCheck where
  n    : Fin 40
  rate : Option (BitVec 16)
  deriving DecidableEq, Repr

/-- A housekeeping conversion (R80): the averages of its bits under the rising and the falling half of the
sinc2 window, as Q15.16 volts or °C. -/
structure HkRamps where
  up : Word
  dn : Word
  deriving DecidableEq, Repr

/-- Where a dead-time release runs (R137): a carrier unit's pair of outputs, or a gate island. -/
inductive RelAt where
  | unit (n : Fin 12)
  | island (n : Fin 14)
  deriving DecidableEq, Repr

/-- The three shadows of a carrier unit (R132). -/
inductive ShadowItem where
  | prd | cmpa | cmpb
  deriving DecidableEq, Repr

/-- A cue as the cue processor takes it from its transport (R377): origin class and sender, session,
sequence, flags, CRC, and its payload, assembled where it came in fragments (R384). -/
structure Cue where
  cls     : BitVec 8
  sender  : BitVec 24
  session : BitVec 32
  seq     : BitVec 16
  flags   : BitVec 8
  crc     : BitVec 32
  payload : List Byte
  deriving DecidableEq, Repr

/-- The IEC 62351-6 fields of a received frame (R325): key id, IV, the octets it covers, tag. -/
structure FrameAuth where
  keyId : Byte
  iv    : List Byte
  data  : List Byte
  tag   : BitVec 128
  deriving DecidableEq, Repr

/-- Addressing of a frame on a process-bus port (R314, R318): source and redundancy sequence for the
duplicate discard, destination, APPID, VLAN. -/
structure NetHdr where
  port  : Fin 2
  src   : BitVec 48
  rseq  : BitVec 16
  dst   : BitVec 48
  appid : BitVec 16
  vlan  : Option (BitVec 16)
  auth  : Option FrameAuth
  deriving DecidableEq, Repr

/-- One ASDU of a sampled-value frame (R318): member values as INT32 with their quality, 0 good. -/
structure SvAsdu where
  svId    : List Byte
  confRev : BitVec 32
  synch   : Byte
  smpCnt  : BitVec 16
  vals    : List (BitVec 32 × BitVec 32)
  deriving DecidableEq, Repr

/-- One GOOSE message (R322): dataset values in order with their quality, 0 good; time allowed to live in
ms. -/
structure GooseMsg where
  gocbRef : List Byte
  datSet  : List Byte
  confRev : BitVec 32
  ndsCom  : Bool
  test    : Bool
  sim     : Bool
  stNum   : BitVec 32
  ttl     : BitVec 32
  items   : List (BitVec 64 × BitVec 16)
  deriving DecidableEq, Repr

/-- One transfer a customer FPGA asks for on the external scene port (R347, R349): its request line, a write
or a read, of the register window or of the DRAM exchange window, the byte offset there, and the word. -/
structure ExtReq where
  req   : Fin 4
  write : Bool
  dram  : Bool
  addr  : BitVec 32
  data  : BitVec 32
  deriving DecidableEq, Repr

/-- What an external transfer meets (R349 to R353): ELOCK, and for each decision of its target's arbiter from
its grant on the other requests raised there, with the LOCK of the owner. -/
structure ExtArb where
  lock   : Bool
  rivals : List (List (Fin 13) × Bool)
  deriving DecidableEq, Repr

/-- An access on the debug port (R404): a certificate stored, a core pair halted, a byte of memory written. -/
inductive DebugOp where
  | cert (i : Fin 3) (der : List Byte)
  | halt (pair : Fin 2)
  | poke (a : BitVec 32) (v : Byte)
  deriving DecidableEq, Repr

/-- The commands (spec/opcode_table.json). -/
inductive Instr where
  /-- TICK (R29): The frame period expires: the slate latches, the previous frame's outputs commit, band-law ramps start and the next scene begins. -/
  | tick (t : Time)
  /-- MOV (R44): Shot MOV copies a source word or a coefficient to the destination. -/
  | mov (w : Shot) (c : ShotCheck)
  /-- ADD (R44): Shot ADD writes a + b. -/
  | add (w : Shot) (c : ShotCheck)
  /-- SUB (R44): Shot SUB writes a − b. -/
  | sub (w : Shot) (c : ShotCheck)
  /-- MUL (R44): Shot MUL writes a × b, or a × k. -/
  | mul (w : Shot) (c : ShotCheck)
  /-- FMA (R44): Shot FMA writes a × k + b, rounded once. -/
  | fma (w : Shot) (c : ShotCheck)
  /-- MIN (R44): Shot MIN writes the smaller operand exactly. -/
  | min (w : Shot) (c : ShotCheck)
  /-- MAX (R44): Shot MAX writes the larger operand exactly. -/
  | max (w : Shot) (c : ShotCheck)
  /-- LIM (R44): Shot LIM clamps a between coefficient or state-word bounds. -/
  | lim (w : Shot) (c : ShotCheck)
  /-- INT (R44): Shot INT integrates k × a into d within bounds, conditionally in mode 01. -/
  | int (w : Shot) (c : ShotCheck)
  /-- LPF (R44): Shot LPF applies a first-order low-pass to d. -/
  | lpf (w : Shot) (c : ShotCheck)
  /-- DIF (R44): Shot DIF writes the scaled difference and stores the new sample. -/
  | dif (w : Shot) (c : ShotCheck)
  /-- ABS (R44): Shot ABS writes |a|. -/
  | abs (w : Shot) (c : ShotCheck)
  /-- SQRT (R44): Shot SQRT writes √a, or 0.0 with DOMAIN for a negative input. -/
  | sqrt (w : Shot) (c : ShotCheck)
  /-- RECIP (R44): Shot RECIP writes 1/a, or the largest value with DOMAIN for zero. -/
  | recip (w : Shot) (c : ShotCheck)
  /-- SINCOS (R44): Shot SINCOS writes cos and sin of 2πa. -/
  | sincos (w : Shot) (c : ShotCheck)
  /-- CLARKE (R44): Shot CLARKE transforms abc into alpha, beta and zero sequence. -/
  | clarke (w : Shot) (c : ShotCheck)
  /-- PARK (R44): Shot PARK rotates alpha-beta into d-q. -/
  | park (w : Shot) (c : ShotCheck)
  /-- IPARK (R44): Shot IPARK rotates d-q into alpha-beta. -/
  | ipark (w : Shot) (c : ShotCheck)
  /-- LOAD (R44): Shot LOAD reads a table word over the scene bus into the destination. -/
  | load (w : Shot) (c : ShotCheck) (lat : Nat)
  /-- STORE (R44): Shot STORE stages a value for a STORE target. -/
  | store (w : Shot) (c : ShotCheck)
  /-- PUB (R44): Shot PUB stages a value for an output port. -/
  | pub (w : Shot) (c : ShotCheck)
  /-- END (R31): Shot END ends the scene and retires one cycle later, ending the frame normally or late. -/
  | endShot (w : Shot) (c : ShotCheck)
  /-- PERIOD_WRITE (R36): A SEQ.PERIOD write goes to the shadow, or is not taken and sets PERIOD_REJECT. -/
  | periodWrite (t : Time) (v : Word)
  /-- DIRECTOR_POLICY_CYCLE (R24): Every 10 ms the director evaluates its policy tables and issues cues. -/
  | directorPolicyCycle (t : Time)
  /-- DIRECTOR_ABSENT (R284): The director misses three policy cycles and hold-over begins. -/
  | directorAbsent (t : Time)
  /-- HOLDOVER_EXPIRY (R284): Hold-over lasts SYS.HOLD.TIME without ending, so HOLDOVER is set and the device reacts by state. -/
  | holdoverExpiry (t : Time)
  /-- CONTROL_SAMPLE_VALID (R60): A control-path window completes and its corrected sample becomes valid. -/
  | controlSampleValid (t : Time) (n : Fin 40) (r : BitVec 64) (mismatch : Bool)
  /-- METERING_SAMPLE_VALID (R60): A sinc4 metering-path sample becomes valid; `r`: the filter's rounding. -/
  | meteringSampleValid (t : Time) (n : Fin 40) (r : BitVec 24)
  /-- SUPRA_SAMPLE_VALID (R60): A supraharmonic-path sample becomes valid; `r`: the filter's rounding. -/
  | supraSampleValid (t : Time) (n : Fin 16) (r : BitVec 24)
  /-- RESAMPLER_OUTPUT (R66): The metering angle reaches the next index and the Farrow resampler produces output k with its time and marks; `place` - 25: the error of its instant (R70) in steps of 39.0625 ps. -/
  | resamplerOutput (t : Time) (place : Fin 51)
  /-- STUCK_BITSTREAM (R78): No bitstream transition for 256 bit clocks makes every path of the channel invalid. -/
  | stuckBitstream (t : Time) (n : Fin 40)
  /-- MISSING_CLOCK (R78): A missing bit clock or rate error makes every path of the channel invalid. -/
  | missingClock (t : Time) (m : ClockCheck)
  /-- OVERRANGE (R78): The overrange filter count expires and the overrange monitor sets or clears. -/
  | overrange (t : Time) (n : Fin 40)
  /-- CHANNEL_RECOVER (R79): The monitor condition stays absent for 4,096 bit clocks and the paths start settling. -/
  | channelRecover (t : Time) (n : Fin 40)
  /-- PATH_SETTLED (R63): A path's settling time passes after enable, change or recovery and it becomes valid. -/
  | pathSettled (t : Time) (n : Fin 40) (path : Fin 3)
  /-- SUPRA_SLOT_WRITE (R65): A supraharmonic slot write is taken at once or refused with CFG_ERR. -/
  | supraSlotWrite (t : Time) (hi : Bool) (v : Word)
  /-- BG_CAL_VISIT (R77): The spare modulator substitutes for a channel, measures its drift and hands the channel back. -/
  | bgCalVisit (t : Time) (n : Fin 16) (stage : BgStage)
  /-- CAL_AVERAGE_DONE (R73): A zero or span average completes and the cue completes with its coefficient or a failure. -/
  | calAverageDone (t : Time) (n : Fin 40)
  /-- HK_OUTPUT (R80): The housekeeping filter produces an output and the averaged value updates MOD.HK_VAL. -/
  | hkOutput (t : Time) (ramps : HkRamps)
  /-- SYNC_SAMPLE (R82): A 10.24 µs window closes and the synchronizer runs sequence separation, loop and state evaluation. -/
  | syncSample (t : Time)
  /-- LOW_VOLTAGE_ENTRY (R88): |V+| stays below LOW_THR for FILT + 1 samples, so the synchronizer enters HOLD or BORROW with the restored angle. -/
  | lowVoltageEntry (t : Time)
  /-- LOCAL_RECOVERY (R87): |V+| stays above LOW_THR + HYST for FILT + 1 samples, so the synchronizer returns to LOCKED or ACQUIRE. -/
  | localRecovery (t : Time)
  /-- SYNC_LOCK (R87): The error stays within 2° for a whole grid cycle, so ACQUIRE becomes LOCKED. -/
  | syncLock (t : Time)
  /-- SYNC_RANGE (R87): f_ar stays at a clamp for 16 samples, so the synchronizer goes LOST. -/
  | syncRange (t : Time)
  /-- SYNC_HOLD_EXPIRY (R89): The accumulated hold time reaches HOLD.TIME, so the synchronizer goes LOST. -/
  | syncHoldExpiry (t : Time)
  /-- BORROW_MISMATCH (R91): The borrow offset error stays beyond or within tolerance for one second and the flag changes. -/
  | borrowMismatch (t : Time)
  /-- JUMP_DETECT (R94): The jump counter reaches FILT + 1, θ steps, the filters re-seed and ride-through is informed. -/
  | jumpDetect (t : Time)
  /-- REALIGN_CLEAR (R94): |e| stays below 1° for 16 sync samples and REALIGN clears. -/
  | realignClear (t : Time)
  /-- REALIGN_FAIL (R94): REALIGN is still set 1 ms after detection, so REALIGN_FAIL is set. -/
  | realignFail (t : Time)
  /-- THETA_WRAP (R95): θ wraps, so f_pc, ROCOF, the clean-cycle judgement and the fusion disagreement update. -/
  | thetaWrap (t : Time)
  /-- FSEL_RATE_CHANGE (R97): |r_fast| exceeds THR for 4 samples and f_sel changes to f_ar. -/
  | fselRateChange (t : Time)
  /-- EXTRAPOLATION_QUERY (R100): A consumer asks the angle at a time and receives the extrapolated value or an invalid mark. -/
  | extrapolationQuery (t : Time) (tq : BitVec 64)
  /-- THETA_R_SLEW_DONE (R121): The reference angle reaches θ and ANG_SLEWING clears. -/
  | thetaRSlewDone (t : Time)
  /-- RETURN_RAMP_START (R120): After a return to NORMAL, the leg's carrier zero starts the bias and band ramp. -/
  | returnRampStart (t : Time) (l : Fin 11)
  /-- RETURN_RAMP_END (R120): RET_CYC carrier periods pass and RETURNING clears. -/
  | returnRampEnd (t : Time) (l : Fin 11)
  /-- SOFT_RAMP_DONE (R124): Every reference of a soft-ramped target falls below h and the target is taken OFF. -/
  | softRampDone (t : Time) (g : Fin 9)
  /-- CARRIER_VALLEY (R127): A carrier counter reaches 0, with reload, wick and clap actions at the valley. -/
  | carrierValley (t : Time) (n : Fin 12)
  /-- CARRIER_PEAK (R127): A carrier counter reaches PRD and reverses, with reload and clap actions at the peak. -/
  | carrierPeak (t : Time) (n : Fin 12)
  /-- CARRIER_MID_COUNT (R127): A carrier passes PRD/2, the carrier zero used by claps and return ramps. -/
  | carrierMidCount (t : Time) (n : Fin 12)
  /-- COMMIT_GO (R132): A write of 1 to PWM.CU[n].COMMIT.GO commits the shadows for the next reload point. -/
  | commitGo (t : Time) (n : Fin 12)
  /-- SHADOW_WRITE (R133): A PRD, CMPA or CMPB shadow write is stored, pending if it coincides with a reload. -/
  | shadowWrite (t : Time) (n : Fin 12) (w : ShadowItem) (v : Word)
  /-- DIRECT_COMPARE_EDGE (R131): A direct-mode counter reaches its compare value and the output changes, subject to the minimum pulse. -/
  | directCompareEdge (t : Time) (n : Fin 12)
  /-- FEED_EDGE_EXECUTE (R116): A scheduled feed-output edge reaches its instant and the edge placer executes it. -/
  | feedEdgeExecute (t : Time) (k : Fin 8)
  /-- FSN_TRANSITION (R137): The FSNk pad changes level and gives the observed switching-node transition. -/
  | fsnTransition (t : Time) (k : Fin 8) (rise : Bool)
  /-- DEADTIME_RELEASE (R137): The incoming switch is released after dead time, at DT_MAX counting a miss if no transition was seen. -/
  | deadtimeRelease (t : Time) (w : RelAt)
  /-- WICK_NOTCH_END (R139): The notch width W passes, so L turns off, WKS is sampled and H is released. -/
  | wickNotchEnd (t : Time) (k : Fin 8) (wks : Bool)
  /-- WICK_LOW_FILTERED (R140): WKSk stays low for 1 µs while H is on and a notch is requested. -/
  | wickLowFiltered (t : Time) (k : Fin 8)
  /-- DELAY_LINE_CALIBRATION (R141): The spare line swaps in at an idle window and the line is calibrated and returned. -/
  | delayLineCalibration (t : Time) (line : Fin 21) (back : Bool)
  /-- CLAP_IN (R142): A CLAP_IN rising edge with 10 ns of high is a clap and aligns the followers. -/
  | clapIn (t : Time) (high : Nat)
  /-- VIRTUAL_CLAP (R144): The PTP-timed virtual clap instant arrives and the followers align. -/
  | virtualClap (t : Time)
  /-- CLAP_LOST (R145): No clap within WIN intervals sets CLAP_LOST and the carriers run free. -/
  | clapLost (t : Time)
  /-- LINK_SLOT (R159): A 40 ns Pyngeo slot starts and the highest-priority frame goes out. -/
  | linkSlot (t : Time) (n : Fin 14)
  /-- PING (R158): The island receives PING with primary time and keeps its time base in phase. -/
  | ping (t : Time) (n : Fin 14) (seq : BitVec 3)
  /-- EDGE_ARM (R161): The island receives an edge command with target and offset and arms, executes or refuses it. -/
  | edgeArm (t : Time) (n : Fin 14) (seq : BitVec 3) (on imm : Bool) (off : BitVec 16)
  /-- CANCEL (R161): The island receives CANCEL and removes the armed edge if it is early enough and the offsets match. -/
  | cancel (t : Time) (n : Fin 14) (seq : BitVec 3) (off : BitVec 16)
  /-- STATE_OFF (R161): The island receives STATE OFF, drops any armed edge and turns off, reporting EDGE_DONE. -/
  | stateOff (t : Time) (n : Fin 14) (seq : BitVec 3)
  /-- OUTER_CONFIRM (R166): A latched inner island receives OUTER_CONFIRM and starts its soft-off. -/
  | outerConfirm (t : Time) (n : Fin 14) (seq : BitVec 3)
  /-- CLEAR (R164): The island receives CLEAR after configuration and clears its fault latch or hold-off. -/
  | clear (t : Time) (n : Fin 14) (seq : BitVec 3)
  /-- LINK_CFG (R158): The island receives a CFG item mirroring its settings. -/
  | linkCfg (t : Time) (n : Fin 14) (seq : BitVec 3) (item value : Byte)
  /-- IDLE (R162): The primary receives IDLE echoing the SEQ of the last good frame, which confirms CFG and PING. -/
  | idle (t : Time) (n : Fin 14) (seq echo : BitVec 3)
  /-- EDGE_DONE (R115): The primary receives an execution report and updates the leg level, counts and dead-time state. -/
  | edgeDone (t : Time) (n : Fin 14) (seq : BitVec 3) (res : Fin 3) (back : BitVec 16)
  /-- VCE_TIME (R169): The primary receives a Vce transition time. -/
  | vceTime (t : Time) (n : Fin 14) (seq : BitVec 3) (rise : Bool) (back : BitVec 16)
  /-- FAULT_FRAME (R446): The primary receives a FAULT frame and updates the island levels, events and trip sources. -/
  | faultFrame (t : Time) (n : Fin 14) (seq : BitVec 3) (bits : Byte)
  /-- SOFT_DONE (R156): The primary receives SOFT_DONE, which may complete an outer turn-off and release OUTER_CONFIRM. -/
  | softDone (t : Time) (n : Fin 14) (seq : BitVec 3) (back : BitVec 16)
  /-- MEAS (R170): The primary receives a temperature or supply measurement and updates ISL[n].TEMP or SUPPLY. -/
  | meas (t : Time) (n : Fin 14) (seq : BitVec 3) (kind : Fin 3) (val : BitVec 16)
  /-- NAK (R162): The primary receives NAK and resends the failed CFG or PING once. -/
  | nak (t : Time) (n : Fin 14) (seq failed : BitVec 3)
  /-- LINK_RESEND_TIMEOUT (R162): No echo arrives within 200 ns of a CFG or PING, so it is resent once. -/
  | linkResendTimeout (t : Time) (n : Fin 14) (seq : BitVec 3)
  /-- LINK_DOUBLE_FAIL (R162): Two consecutive frames fail CRC and the link double failure is handled. -/
  | linkDoubleFail (t : Time) (n : Fin 14) (atIsland cfgTwice : Bool)
  /-- ISLAND_HEARTBEAT_EXPIRY (R163): The island receives no good frame for 2 µs (plus the inner delay), so it self-offs and latches. -/
  | islandHeartbeatExpiry (t : Time) (n : Fin 14)
  /-- LINK_LOSS_DETECT (R163): The primary declares the link lost and forces a hard-off of the island's group. -/
  | linkLossDetect (t : Time) (n : Fin 14)
  /-- LINK_TRAINED (R164): The link trains, CFG items load and LINK_UP sets. -/
  | linkTrained (t : Time) (n : Fin 14)
  /-- ISLAND_EDGE_EXECUTE (R161): An armed island edge reaches its instant and the switch changes state. -/
  | islandEdgeExecute (t : Time) (n : Fin 14)
  /-- ISLAND_SC_DETECT (R166): A sense input stays above SC_THR for 100 ns and the island soft-offs or holds, and reports. -/
  | islandScDetect (t : Time) (n : Fin 14)
  /-- ISLAND_OC_DETECT (R165): The OC filter expires outside blanking and the island reports OC. -/
  | islandOcDetect (t : Time) (n : Fin 14)
  /-- BLANKING_END (R165): OC blanking ends after a turn-on and any expired OC filter is reported. -/
  | blankingEnd (t : Time) (n : Fin 14)
  /-- INNER_SC_TIMEOUT (R166): A latched inner island gets no OUTER_CONFIRM within 2 µs, soft-offs and reports INNER_TIMEOUT. -/
  | innerScTimeout (t : Time) (n : Fin 14)
  /-- SOFT_OFF_END (R156): SOFT_T passes, OUTL engages and the island reports SOFT_DONE. -/
  | softOffEnd (t : Time) (n : Fin 14)
  /-- ISLAND_UV_WARN (R153): VP or |VN| stays below its warning level for 1 µs and UV_WARN is reported. -/
  | islandUvWarn (t : Time) (n : Fin 14)
  /-- ISLAND_UVLO (R153): VP or |VN| stays below its trip level for 1 µs, so the island soft-offs and latches. -/
  | islandUvlo (t : Time) (n : Fin 14)
  /-- ISLAND_SUPPLY_RECOVERY (R153): The supply rises above its rising threshold and the level clears in a FAULT report. -/
  | islandSupplyRecovery (t : Time) (n : Fin 14) (warning : Bool)
  /-- VCE_TRANSITION (R169): The island's VCE comparator sees a filtered transition and stamps it. -/
  | vceTransition (t : Time) (n : Fin 14) (rise : Bool)
  /-- ISLAND_MEAS_REPORT (R170): The 1 ms or 100 µs measurement period expires and the island sends MEAS. -/
  | islandMeasReport (t : Time) (n : Fin 14) (kind : Fin 3) (val : Word)
  /-- ISLAND_OT (R170): The temperature stays above OT_THR for 10 ms and OT is reported. -/
  | islandOt (t : Time) (n : Fin 14)
  /-- FEED_MODE_WRITE (R196): A FED[k].CFG.MODE write is taken in OFF, WAIT or FAULT, moving the feed to WAIT or OFF. -/
  | feedModeWrite (t : Time) (k : Fin 8) (v : Word)
  /-- FEED_START (R199): The start conditions hold (V_START for T_START in mode 1), so the feed goes START and its channel is released. -/
  | feedStart (t : Time) (k : Fin 8)
  /-- FEED_REFERENCE_REACHED (R199): v_track reaches its start target and the feed goes RUN. -/
  | feedReferenceReached (t : Time) (k : Fin 8)
  /-- FEED_LOW_POWER (R199): P_k stays below P_STOP for T_STOP and the feed stops. -/
  | feedLowPower (t : Time) (k : Fin 8)
  /-- FEED_CURRENT_GONE (R199): |i_k| stays below 0.01 pu for 1 ms, so the feed goes WAIT with the channel OFF. -/
  | feedCurrentGone (t : Time) (k : Fin 8)
  /-- FEED_OVERVOLT (R201): The feed voltage stays above the limit for 100 samples and the feed faults. -/
  | feedOvervolt (t : Time) (k : Fin 8)
  /-- FEED_REVERSE (R201): Reverse current persists for 16 samples and the feed faults. -/
  | feedReverse (t : Time) (k : Fin 8)
  /-- FEED_RETRY (R202): 60 s after FAULT, a retryable feed returns to WAIT. -/
  | feedRetry (t : Time) (k : Fin 8)
  /-- FEED_RETRIES_RESET (R202): After 1 h of continuous RUN, RETRIES returns to 0. -/
  | feedRetriesReset (t : Time) (k : Fin 8)
  /-- FIX_WRITE (R212): A write to FED[k].FIX restarts the fixed-voltage watchdog. -/
  | fixWrite (t : Time) (k : Fin 8) (v : Word)
  /-- FIX_WATCHDOG_EXPIRY (R212): The FIX watchdog expires in START or RUN and the feed stops. -/
  | fixWatchdogExpiry (t : Time) (k : Fin 8)
  /-- RIPPLE_WINDOW_END (R205): A ripple-correlation window of W carrier periods ends and v_track updates at the next tick. -/
  | rippleWindowEnd (t : Time) (k : Fin 8)
  /-- SWEEP_WINDOW (R206): The feed's PTP-timed sweep window opens and a sweep starts or is skipped. -/
  | sweepWindow (t : Time) (k : Fin 8)
  /-- SWEEP_PATH_DONE (R208): The sweep path completes and the sweep is classified. -/
  | sweepPathDone (t : Time) (k : Fin 8)
  /-- RELOCATION_DONE (R208): v_track reaches v_g after a SHADED_MOVED sweep and the ripple window restarts. -/
  | relocationDone (t : Time) (k : Fin 8)
  /-- FRT_ENTRY (R217): A band exit persists for FILT + 1 sync samples, so the detector enters FAULT posture and captures pre-fault values. -/
  | frtEntry (t : Time)
  /-- JUMP_HOLD_EXPIRY (R222): JUMP_T passes and JUMP_HOLD clears. -/
  | jumpHoldExpiry (t : Time)
  /-- FRT_RETURN (R217): Samples stay inside the band for EXIT_T, so the detector goes RECOVERING. -/
  | frtReturn (t : Time)
  /-- FRT_HANDOVER (R229): At the second tick after return, the band-law ramps take the detector references and follow the committed targets. -/
  | frtHandover (t : Time)
  /-- ENVELOPE_EXIT (R224): |V+| stays beyond an envelope curve for ENV_FILT + 1 samples and source 38 asserts. -/
  | envelopeExit (t : Time)
  /-- ZV_TIME_EXIT (R221): The ZV condition lasts longer than ZV_MAX and asserts envelope exit. -/
  | zvTimeExit (t : Time)
  /-- TOPO_DECISION (R237): TIED stays 0 for TOPO_FILT and the topology islanding decision is taken. -/
  | topoDecision (t : Time)
  /-- SUPV_HOLD_EXPIRY (R236): A supervision-lost device's position is held for SUPV_HOLD and is then treated as open. -/
  | supvHoldExpiry (t : Time) (dev : Fin 96)
  /-- PASSIVE_WINDOW_PICKUP (R239): A passive window's condition holds for its delay, raising an alarm or decision. -/
  | passiveWindowPickup (t : Time) (w : Fin 7)
  /-- PROBE_CHIP_BOUNDARY (R242): A 20 ms chip boundary changes the probe chip and closes the demodulator chip. -/
  | probeChipBoundary (t : Time)
  /-- Z_PUBLISH (R244): 1 ms after a chip boundary the impedance and SCR are published and the active test counts. -/
  | zPublish (t : Time)
  /-- RECON_DELAY_EXPIRY (R246): The reconnection conditions hold for RECON_T.DELAY and RECON_OK sets. -/
  | reconDelayExpiry (t : Time)
  /-- COMPARATOR_CHANGE (R250): An input crosses a comparator threshold and the majority-filtered output changes its snuffer source. -/
  | comparatorChange (t : Time) (n : Fin 24) (v : BitVec 32)
  /-- COMPARATOR_UNRESOLVED (R253): A comparator has not resolved 1 ms after profile apply and UNRES sets. -/
  | comparatorUnresolved (t : Time) (n : Fin 24)
  /-- SELFTEST_GO (R254): A write to CMP.TEST.GO starts a self-test of the named comparator or sets REFUSED. -/
  | selftestGo (t : Time) (n : Fin 24)
  /-- SELFTEST_SCHEDULE (R256): The periodic schedule starts the next due comparator self-test. -/
  | selftestSchedule (t : Time)
  /-- SELFTEST_STEP_END (R255): A 2 µs test step ends, is checked, and the test proceeds, passes or fails. -/
  | selftestStepEnd (t : Time) (out : Bool)
  /-- TEST_LATE (R256): A comparator is untested for INT hours plus 10 min and TEST_LATE sets. -/
  | testLate (t : Time) (n : Fin 24)
  /-- XTRIP_INPUT (R257): An XTRIP pad stays low for 10 ns and asserts its source. -/
  | xtripInput (t : Time) (n : Fin 4)
  /-- TRIP_PULSE_END (R257): The 1 µs assertion of a mismatch or overrun source ends. -/
  | tripPulseEnd (t : Time) (overrun : Bool)
  /-- INNER_DELAY_EXPIRY (R260): The inner delay of a grid hard-off passes and STATE OFF goes to the inner islands. -/
  | innerDelayExpiry (t : Time)
  /-- BRK_PULSE_END (R261): BRK_T passes and BRK_OPEN goes low. -/
  | brkPulseEnd (t : Time)
  /-- LATCH_CLEAR_WRITE (R262): A W1C to TRP.LATCH clears non-forced latch bits whose sources are deasserted. -/
  | latchClearWrite (t : Time) (mask : BitVec 40)
  /-- TRIP_RESET_COMPLETE (R262): Link training for a trip reset ends and the cue replies with the latches cleared. -/
  | tripResetComplete (t : Time)
  /-- SC_EVENT_AGED (R264): An SC event becomes older than SC_WIN and leaves the count and I2T sum. -/
  | scEventAged (t : Time) (n : Fin 14)
  /-- DISCHARGE_START (R266): Discharge begins when allowed: DCD_OPEN is driven and the device waits for confirmation. -/
  | dischargeStart (t : Time)
  /-- DISCHARGE_CONFIRM (R266): The DC disconnect confirms, or fails within 200 ms, and discharge takes CU9 or blocks. -/
  | dischargeConfirm (t : Time) (closed : Bool)
  /-- DISCHARGE_DONE (R266): The link falls below 50 V, CU9 is released and DIS_DONE sets. -/
  | dischargeDone (t : Time)
  /-- DISCHARGE_LATE (R266): Discharge has not ended DIS_T after start and DIS_LATE sets. -/
  | dischargeLate (t : Time)
  /-- E_REM_UPDATE (R267): Every 1 ms during discharge, TRP.E_REM is updated. -/
  | eRemUpdate (t : Time)
  /-- BROWN_OUT (R439): VMAIN, VIO33 or VIO18 falls below brown-out for 2 µs and the device goes DARK. -/
  | brownOut (t : Time)
  /-- VANA_BROWN_OUT (R439): VANA falls below or rises above its level, so on-module channels and comparators go invalid and in alarm, or resolve. -/
  | vanaBrownOut (t : Time) (low : Bool)
  /-- VIOC_BROWN_OUT (R439): VIOC falls below its level and the CKO outputs are gated low. -/
  | viocBrownOut (t : Time) (low : Bool)
  /-- POWER_ON_RESET (R276): All rails are in range with PORST_N high for the reset delay, so the reset is released and the device enters BOOT. -/
  | powerOnReset (t : Time) (vioc18 : Bool)
  /-- BOOT_COMPLETE (R271): Boot verifies and applies the profile, calibration and network image and enters SEALED or COMMISSION. -/
  | bootComplete (t : Time) (bad : BitVec 4) (gib : BitVec 8) (image : List Byte)
  /-- PRECHARGE_VOLTAGE_HELD (R278): V_DC stays at or above PCH_V for 10 ms and DCD_OPEN goes low. -/
  | prechargeVoltageHeld (t : Time)
  /-- DCD_AUX_CLOSED (R278): DCD_AUX reads closed, PCH_CLOSE goes low and SYNC follows at the next tick. -/
  | dcdAuxClosed (t : Time)
  /-- PRECHARGE_TIMEOUT (R278): Step 2 is not reached within PCH_T, so PCH_FAIL sets and the state returns to STANDBY. -/
  | prechargeTimeout (t : Time)
  /-- DCD_CONFIRM_TIMEOUT (R278): DCD_AUX is not closed within DCD_CT, so DCD_FAIL sets and the state returns to STANDBY. -/
  | dcdConfirmTimeout (t : Time)
  /-- BRK_AUX_CLOSED (R279): BRK_AUX reads closed in ENERGIZE and the two-grid-cycle wait begins. -/
  | brkAuxClosed (t : Time)
  /-- GRID_RELEASE (R279): Two grid cycles after breaker close, CLEAR goes to the grid islands and the legs are released. -/
  | gridRelease (t : Time)
  /-- BRK_CLOSE_TIMEOUT (R276): BRK_AUX is not closed within BRK_CT, so BRK_FAIL sets and the state goes STOPPING. -/
  | brkCloseTimeout (t : Time)
  /-- STOP_CURRENT_LOW (R281): All grid references stay below 0.02 pu for 1 ms, so the grid switches off and the breaker opens. -/
  | stopCurrentLow (t : Time)
  /-- STOP_TIMEOUT (R281): STOP_T passes in STOPPING, so the grid switches off and STOP_TIMEOUT sets. -/
  | stopTimeout (t : Time)
  /-- BRK_AUX_OPENED (R281): BRK_AUX reads open, or BRK_CT expires with BRK_FAIL, and DCD_OPEN goes high. -/
  | brkAuxOpened (t : Time) (open' : Bool)
  /-- RESET_START (R287): The reset reply is delivered, or 100 ms pass, and the warm reset starts. -/
  | resetStart (t : Time)
  /-- UPDATE_IMAGE_RUNNING (R288): The new pair image starts, restores state, replays owed replies and ends the hold-over. -/
  | updateImageRunning (t : Time)
  /-- LOCKSTEP_MISMATCH (R288): A core-pair lockstep mismatch restarts that pair under hold-over. -/
  | lockstepMismatch (t : Time) (p : Fin 2)
  /-- GPIO_INPUT_CHANGE (R291): A GPIO pad changes and GPIO_IN follows within 3 SCLK cycles. -/
  | gpioInputChange (t : Time) (level : BitVec 16)
  /-- MTR_SNAP_GO (R296): A write to MTR.SNAP.GO copies the ten accumulators into MTR.ACC and increments SEQ. -/
  | mtrSnapGo (t : Time)
  /-- ENERGY_PULSE_START (R299): A pending pulse starts on an enabled EP output once the previous low interval ends. -/
  | energyPulseStart (t : Time) (m : Fin 8)
  /-- ENERGY_PULSE_END (R299): PW ms pass and the pulse output goes low. -/
  | energyPulseEnd (t : Time) (m : Fin 8)
  /-- SETTLEMENT_LATCH (R300): At every N-th index wrap the accumulators latch with time and are journaled. -/
  | settlementLatch (t : Time)
  /-- BLOCK_SIGNED (R302): The security core finishes signing a settlement block, or fails with SIGN_FAIL. -/
  | blockSigned (t : Time) (ok : Bool)
  /-- BLOCK_STORED (R302): A signed block is stored in the archive, or held with STORE_FAIL. -/
  | blockStored (t : Time) (ok : Bool)
  /-- PHSEQ_CHANGE (R305): A phase-sequence condition holds for 10 grid cycles and PHSEQ changes. -/
  | phseqChange (t : Time)
  /-- NEUTRAL_MISSING (R306): The neutral condition holds or fails for 50 cycles and NEU_MISSING changes. -/
  | neutralMissing (t : Time)
  /-- PQ_WINDOW_END (R307): A W-cycle PQ window ends and the harmonic, rms and aggregate results update. -/
  | pqWindowEnd (t : Time)
  /-- SUPRA_DFT_DONE (R310): A 5 ms supraharmonic DFT completes for a slot. -/
  | supraDftDone (t : Time) (j : Fin 8)
  /-- HSR_FORWARD (R314): An HSR frame not addressed only to this device is forwarded by cut-through, with transparent-clock correction. -/
  | hsrForward (t : Time) (h : NetHdr) (badFcs ptpEvent : Bool) (residence : BitVec 32)
  /-- REDUNDANCY_SUPERVISION_SEND (R314): Every 2 s a PRP or HSR supervision frame is sent. -/
  | redundancySupervisionSend (t : Time)
  /-- RING_OPEN (R314): Own supervision frames fail to return for three intervals, or return, and RING_OPEN changes. -/
  | ringOpen (t : Time)
  /-- PORT_LINK_LOSS (R314): A process-bus port loses link, PORT_LOST sets and the fault collector is informed. -/
  | portLinkLoss (t : Time) (p : Fin 3)
  /-- PTP_SYNC (R337): A Sync or Follow_Up is received, the offset updates and the servo applies a clamped correction. -/
  | ptpSync (t : Time) (port : Fin 2) (off : BitVec 64)
  /-- PTP_ANNOUNCE (R316): An Announce is received, updating master selection and traceability. -/
  | ptpAnnounce (t : Time) (port : Fin 2) (domain : BitVec 8) (gm : BitVec 64) (q prio : BitVec 32) (every : BitVec 16)
  /-- PTP_PDELAY (R315): A peer-delay message exchange on a port updates the mean peer delay. -/
  | ptpPdelay (t : Time) (port : Fin 2) (ns : BitVec 32)
  /-- PTP_ANNOUNCE_TIMEOUT (R316): Announces time out on every port and PTP enters HOLDOVER. -/
  | ptpAnnounceTimeout (t : Time)
  /-- TRACEABLE_HOLD_EXPIRY (R316): HOLD_T after the announce timeout passes and TRACEABLE clears. -/
  | traceableHoldExpiry (t : Time)
  /-- SV_FRAME (R318): An SV frame is received, its ASDUs are checked, timed and aligned into the fusion buffer. -/
  | svFrame (t : Time) (h : NetHdr) (good : Bool) (asdus : List SvAsdu)
  /-- SV_SUPERVISION_LOSS (R320): No SV frame is accepted for LOSS_T and the context loses supervision. -/
  | svSupervisionLoss (t : Time) (ctx : BitVec 8)
  /-- GOOSE_MESSAGE (R322): A GOOSE message is received, checked and applied, refreshing supervision and positions. -/
  | gooseMessage (t : Time) (h : NetHdr) (good : Bool) (m : GooseMsg)
  /-- GOOSE_SUPERVISION_LOSS (R322): The time allowed to live of a GOOSE context expires and supervision is lost. -/
  | gooseSupervisionLoss (t : Time) (ctx : BitVec 8)
  /-- SV_PUBLISH (R321): A published SV frame is formed from the second Farrow stage and sent. -/
  | svPublish (t : Time) (ctx : BitVec 8)
  /-- GOOSE_RETRANSMIT (R324): The retransmission interval expires and the GOOSE message repeats with doubling. -/
  | gooseRetransmit (t : Time) (ctx : BitVec 8)
  /-- MMS_OPERATE (R332): An MMS operate on a control-writable point becomes a cue of origin MMS_CLIENT. -/
  | mmsOperate (t : Time) (assoc : Fin 8) (roles : BitVec 3) (handle : BitVec 32) (v : BitVec 32)
  /-- PLL_LOCK (R345): The PLL locks after reset or relock. -/
  | pllLock (t : Time) (refTen : Bool)
  /-- UNLOCK (R342): PFD phase error or a stopped clock is detected, LOCKED clears and source 35 trips every target. -/
  | unlock (t : Time) (stopped : Bool)
  /-- CLOCK_LOSS_HALT (R285): Clock loss is not recovered within 1 ms and the device enters HALT. -/
  | clockLossHalt (t : Time)
  /-- CLOCK_INPUT_LOST (R341): The reference input misses edges or errs in frequency, so the loop enters holdover. -/
  | clockInputLost (t : Time)
  /-- CLOCK_INPUT_RESUME (R341): An input is good for REF_WAIT, or REFIN for 10 s on revert, and the loop resumes with phase build-out. -/
  | clockInputResume (t : Time) (ref other : Bool)
  /-- CLOCK_HOLDOVER_EXPIRY (R341): Holdover lasts CLK.HOLD.T without a good input, so HOLD_EXP sets with clock loss. -/
  | clockHoldoverExpiry (t : Time)
  /-- RELOCK_START (R339): A pending relock starts at the first tick outside the live power states. -/
  | relockStart (t : Time)
  /-- DIVIDER_ALIGNMENT (R343): At the due PTP second the output dividers reset in phase and ALIGNED sets. -/
  | dividerAlignment (t : Time)
  /-- ALIGN_GO (R343): A write of 1 to CLK.CTRL.ALIGN_GO requests realignment outside the live states. -/
  | alignGo (t : Time)
  /-- STROBE_PHASE_MEASURE (R343): At each PTP second the strobe error is measured into CLK.PHASE_ERR. -/
  | strobePhaseMeasure (t : Time) (ps : BitVec 32)
  /-- GAFFER_CUTOFF (R354): An owner's hold time reaches its limit, so the grant is withdrawn and CUT (and LOCK_BREAK) set. -/
  | gafferCutoff (t : Time) (arb : Fin 3) (req : Fin 13) (locked : Bool)
  /-- GAFFER_STARVATION (R355): A request waits beyond its starvation limit, so STARVE sets and the director is interrupted. -/
  | gafferStarvation (t : Time) (req : Fin 13) (wait : BitVec 32)
  /-- EXT_ACCESS (R349): An external requester accesses the window, served or ended with an error and EXT_ERR. -/
  | extAccess (t : Time) (reqs : List ExtReq) (arb : ExtArb)
  /-- DRAM_RETRAIN (R356): A periodic, thermal, alignment or boot retraining starts after the block in progress. -/
  | dramRetrain (t : Time)
  /-- DRAM_RETRAIN_DONE (R356): The retraining ends and DP grants resume. -/
  | dramRetrainDone (t : Time)
  /-- SRAM_UNCORRECTABLE (R357): A read or scrub finds an SRAM double-bit error, which is marked and reported. -/
  | sramUncorrectable (t : Time) (a : Word)
  /-- DRAM_BLOCK_POISONED (R358): Three re-reads of a DRAM block fail and the block is poisoned and reported. -/
  | dramBlockPoisoned (t : Time) (block : BitVec 27)
  /-- SCRUB_PASS (R33): An SRAM or DRAM scrub pass completes, or its period passes with SCRUB_LATE. -/
  | scrubPass (t : Time) (dram done : Bool) (ce again : BitVec 16)
  /-- BACKGROUND_PERIOD_MISSED (R33): A background activity misses its period and its LATE flag is raised. -/
  | backgroundPeriodMissed (t : Time) (which : Fin 5)
  /-- EMMC_BLOCK_WRITE (R361): An archive block write is read back, rewritten and remapped on failure. -/
  | emmcBlockWrite (t : Time) (fails : Fin 5)
  /-- WEAR_MANAGEMENT_PASS (R362): A wear-management and spill pass runs and updates ENDUR. -/
  | wearManagementPass (t : Time) (erases groups : BitVec 32)
  /-- REEL_ROW (R364): A reel row instant arrives, a row is taken and triggers are tested. -/
  | reelRow (t : Time) (r : Fin 16) (drop : Bool)
  /-- REEL_RECORD_END (R370): A record's POST rows complete and it is stored, overwritten or the reel stops. -/
  | reelRecordEnd (t : Time) (r : Fin 16)
  /-- RECORD_EXPORTED (R371): The director finishes exporting a record as COMTRADE into the archive. -/
  | recordExported (t : Time)
  /-- RECORD_READ_TIMEOUT (R391): 10 s pass without a read of a record being read and it is no longer protected. -/
  | recordReadTimeout (t : Time)
  /-- DAILIES_SAMPLE (R373): At each millisecond boundary, the dailies points are sampled. -/
  | dailiesSample (t : Time)
  /-- DAILIES_DIGEST (R373): A 1 s, 1 min or 1 day digest period ends and the digest is formed and stored. -/
  | dailiesDigest (t : Time) (k : Fin 3)
  /-- CUE_IN (R375): The host-port CUE_IN transaction delivers one cue into the inbound buffer. -/
  | cueIn (t : Time) (b : List Byte)
  /-- REPLY_OUT (R375): The host-port REPLY_OUT transaction returns the oldest owed reply. -/
  | replyOut (t : Time) (whole : Bool)
  /-- REG_WRITE (R426): The host-port REG_WRITE transaction writes 1 to 256 words directly. -/
  | regWrite (t : Time) (a : Word) (vs : List Word) (whole : Bool)
  /-- REG_READ (R426): The host-port REG_READ transaction reads 1 to 256 words directly. -/
  | regRead (t : Time) (a : Word) (n : BitVec 16) (late : List Nat)
  /-- REGISTER_FIELD_WRITE (R12): A write to a register with no row of its own is applied under the field access codes and rules. -/
  | registerFieldWrite (t : Time) (a : BitVec 17) (v : Word)
  /-- MGMT_CUE (R376): A cue arrives over the management-port TLS connection. -/
  | mgmtCue (t : Time) (k : Fin 4) (cert : BitVec 32) (roles : BitVec 3) (b : List Byte)
  /-- MGMT_IDLE_TIMEOUT (R376): A management connection idle for 300 s closes. -/
  | mgmtIdleTimeout (t : Time) (k : Fin 4)
  /-- FRAGMENT_TIMEOUT (R384): More than 10 s pass since the last fragment and the assembly is discarded. -/
  | fragmentTimeout (t : Time)
  /-- SESSION_REPLY_EXPIRY (R393): 60 s after a session closes, or after delivery, its stored replies are discarded. -/
  | sessionReplyExpiry (t : Time)
  /-- SESSION_OPEN (R388): Cue 0x0001 opens or resumes a session and returns its roles. -/
  | sessionOpen (t : Time) (c : Cue)
  /-- SESSION_CLOSE (R388): Cue 0x0002 closes the session. -/
  | sessionClose (t : Time) (c : Cue)
  /-- IDENTIFY (R388): Cue 0x0003 returns part, step, serial, versions, state and lifecycle. -/
  | identify (t : Time) (c : Cue)
  /-- STATE_REQUEST (R274): Cue 0x0010 requests a state, which is checked, pending and taken at the tick. -/
  | stateRequest (t : Time) (c : Cue)
  /-- SCENE_SELECT (R49): Cue 0x0011 writes SEQ.MODE.SCENE for the next tick. -/
  | sceneSelect (t : Time) (c : Cue)
  /-- RESET (R287): Cue 0x0012 requests a warm reset once its reply has been delivered. -/
  | reset (t : Time) (c : Cue)
  /-- HALT (R285): Cue 0x0013 puts the device into HALT. -/
  | halt (t : Time) (c : Cue)
  /-- TRIP_RESET (R262): Cue 0x0014 clears the named latches, re-trains links and clears islands where allowed. -/
  | tripReset (t : Time) (c : Cue)
  /-- GOVERNOR_RESET (R264): Cue 0x0015 ends SC lockouts of the named groups and clears their counts. -/
  | governorReset (t : Time) (c : Cue)
  /-- FEED_CLEAR (R199): Cue 0x0016 sends faulted feeds to OFF and clears RETRIES. -/
  | feedClear (t : Time) (c : Cue)
  /-- PIN_ASSIGN (R146): Cue 0x0017 writes PWM.PINSEL subject to owner ranking. -/
  | pinAssign (t : Time) (c : Cue)
  /-- FAULT_READ (R421): Cue 0x0018 returns fault collector entries. -/
  | faultRead (t : Time) (c : Cue)
  /-- FAULT_ACKNOWLEDGE (R420): Cue 0x0019 acknowledges the named and all older fault entries. -/
  | faultAcknowledge (t : Time) (c : Cue)
  /-- REGISTER_READ (R389): Cue 0x0100 reads consecutive registers, CUE fields included. -/
  | registerRead (t : Time) (c : Cue)
  /-- REGISTER_WRITE (R389): Cue 0x0101 writes one register under a mask and returns the read-back. -/
  | registerWrite (t : Time) (c : Cue)
  /-- REGISTER_WRITE_LIST (R389): Cue 0x0102 writes a list of registers in order as one commit. -/
  | registerWriteList (t : Time) (c : Cue)
  /-- IMAGE_LOAD (R54): Cue 0x0200 loads a script image into the standby bank after the checks. -/
  | imageLoad (t : Time) (c : Cue)
  /-- SWAP (R55): Cue 0x0201 requests the bank swap at the next tick. -/
  | swap (t : Time) (c : Cue)
  /-- COEFFICIENT_WRITE (R56): Cue 0x0202 writes tunable coefficients into the active bank. -/
  | coefficientWrite (t : Time) (c : Cue)
  /-- TABLE_WRITE (R389): Cue 0x0203 writes table words into the active bank. -/
  | tableWrite (t : Time) (c : Cue)
  /-- SCRIPT_STATUS (R389): Cue 0x0204 returns the id, version and validity of each bank. -/
  | scriptStatus (t : Time) (c : Cue)
  /-- SETPOINT_WRITE (R389): Cue 0x0300 writes setpoint shadows copied at the next tick. -/
  | setpointWrite (t : Time) (c : Cue)
  /-- SETPOINT_READ (R389): Cue 0x0301 returns setpoint shadows. -/
  | setpointRead (t : Time) (c : Cue)
  /-- FEED_FIXED_VOLTAGE_WRITE (R211): Cue 0x0302 writes a feed's fixed-voltage fields. -/
  | feedFixedVoltageWrite (t : Time) (c : Cue)
  /-- ENERGY_SNAPSHOT (R390): Cue 0x0400 returns the ten accumulators and the time. -/
  | energySnapshot (t : Time) (c : Cue)
  /-- HARMONIC_READ (R390): Cue 0x0401 returns the harmonic groups of a PQ channel and interval. -/
  | harmonicRead (t : Time) (c : Cue)
  /-- SUPRAHARMONIC_SPECTRUM (R390): Cue 0x0402 returns 740 bands of a slot. -/
  | supraharmonicSpectrum (t : Time) (c : Cue)
  /-- ZERO (R72): Cue 0x0410 starts a zero average on a channel. -/
  | zero (t : Time) (c : Cue)
  /-- SPAN (R72): Cue 0x0411 starts a DC or AC span average on a channel. -/
  | span (t : Time) (c : Cue)
  /-- CALIBRATION_SET (R72): Cue 0x0412 writes NOM_GAIN, FDELAY and the METER flag. -/
  | calibrationSet (t : Time) (c : Cue)
  /-- CALIBRATION_STORE (R72): Cue 0x0413 stores the calibration set in NOR, signed. -/
  | calibrationStore (t : Time) (c : Cue)
  /-- METROLOGY_SEAL (R76): Cue 0x0414 seals the METER channels' calibration. -/
  | metrologySeal (t : Time) (c : Cue)
  /-- PROFILE_READ (R390): Cue 0x0500 reads the applied or candidate profile. -/
  | profileRead (t : Time) (c : Cue)
  /-- PROFILE_STORE (R271): Cue 0x0501 checks and stores a candidate profile. -/
  | profileStore (t : Time) (c : Cue)
  /-- SEAL_FLAG (R271): Cue 0x0502 sets or clears the seal flag for the next boot. -/
  | sealFlag (t : Time) (c : Cue)
  /-- CONTEXT_WRITE (R317): Cue 0x0610 writes a stream context. -/
  | contextWrite (t : Time) (c : Cue)
  /-- CONTEXT_FREE (R317): Cue 0x0611 frees a stream context. -/
  | contextFree (t : Time) (c : Cue)
  /-- CONTEXT_READ (R317): Cue 0x0612 returns a context and its counters. -/
  | contextRead (t : Time) (c : Cue)
  /-- FUSED_SET_WRITE (R326): Cue 0x0620 defines a fused quantity. -/
  | fusedSetWrite (t : Time) (c : Cue)
  /-- SOURCE_SELECT (R328): Cue 0x0621 selects a fused quantity's source for the next tick. -/
  | sourceSelect (t : Time) (c : Cue)
  /-- POINT_TABLE_LOAD (R330): Cue 0x0630 loads the point table. -/
  | pointTableLoad (t : Time) (c : Cue)
  /-- DATA_MODEL_LOAD (R330): Cue 0x0631 loads the SCL data model. -/
  | dataModelLoad (t : Time) (c : Cue)
  /-- NETWORK_IMAGE_STORE (R317): Cue 0x0640 stores the signed network image in NOR. -/
  | networkImageStore (t : Time) (c : Cue)
  /-- REEL_ALLOCATE (R367): Cue 0x0700 allocates a reel area. -/
  | reelAllocate (t : Time) (c : Cue)
  /-- REEL_CONFIGURE (R391): Cue 0x0701 configures a reel and its taps. -/
  | reelConfigure (t : Time) (c : Cue)
  /-- REEL_ARM (R366): Cue 0x0702 arms reels within the write-rate limit. -/
  | reelArm (t : Time) (c : Cue)
  /-- REEL_DISARM (R369): Cue 0x0703 disarms reels, deferred while a record runs. -/
  | reelDisarm (t : Time) (c : Cue)
  /-- REEL_TRIGGER (R369): Cue 0x0704 triggers reels at the next row instant. -/
  | reelTrigger (t : Time) (c : Cue)
  /-- REEL_READ (R391): Cue 0x0705 reads reel record data. -/
  | reelRead (t : Time) (c : Cue)
  /-- RECORD_LIST (R391): Cue 0x0710 lists disturbance records. -/
  | recordList (t : Time) (c : Cue)
  /-- RECORD_READ (R391): Cue 0x0711 reads a .cff record file. -/
  | recordRead (t : Time) (c : Cue)
  /-- RECORD_DELETE (R372): Cue 0x0712 deletes a record. -/
  | recordDelete (t : Time) (c : Cue)
  /-- SETTLEMENT_BLOCK_READ (R391): Cue 0x0720 returns settlement blocks. -/
  | settlementBlockRead (t : Time) (c : Cue)
  /-- DAILIES_SELECT (R373): Cue 0x0730 selects the dailies points. -/
  | dailiesSelect (t : Time) (c : Cue)
  /-- DAILIES_READ (R391): Cue 0x0731 reads a dailies digest. -/
  | dailiesRead (t : Time) (c : Cue)
  /-- ATTEST (R402): Cue 0x0800 returns a signed attestation report. -/
  | attest (t : Time) (c : Cue)
  /-- CERTIFICATE_READ (R401): Cue 0x0801 reads a stored certificate. -/
  | certificateRead (t : Time) (c : Cue)
  /-- KEY_LOAD (R406): Cue 0x0810 unwraps and loads a stream or host key. -/
  | keyLoad (t : Time) (c : Cue)
  /-- KEY_ACTIVATE (R392): Cue 0x0811 makes the next key current. -/
  | keyActivate (t : Time) (c : Cue)
  /-- HOST_SLOT_ROLES (R392): Cue 0x0812 sets a host slot's roles and KEYED. -/
  | hostSlotRoles (t : Time) (c : Cue)
  /-- LIFECYCLE (R403): Cue 0x0820 moves the lifecycle state where allowed. -/
  | lifecycle (t : Time) (c : Cue)
  /-- LOG_READ (R410): Cue 0x0900 returns continuity log entries. -/
  | logRead (t : Time) (c : Cue)
  /-- LOG_SEAL_READ (R409): Cue 0x0901 returns a seal's head hash and signature. -/
  | logSealRead (t : Time) (c : Cue)
  /-- LOG_HEAD (R392): Cue 0x0902 returns the next index and head hash. -/
  | logHead (t : Time) (c : Cue)
  /-- UPDATE_LOAD (R398): Cue 0x0A00 verifies and stores an update package. -/
  | updateLoad (t : Time) (c : Cue)
  /-- UPDATE_START (R288): Cue 0x0A01 starts a hitless update of a pair under hold-over. -/
  | updateStart (t : Time) (c : Cue)
  /-- UPDATE_STATUS (R392): Cue 0x0A02 returns update progress. -/
  | updateStatus (t : Time) (c : Cue)
  /-- TAMPER_INPUT (R412): TAMPER stays high for 100 µs, the tamper latch sets and a security violation follows. -/
  | tamperInput (t : Time)
  /-- DEBUG_ACCESS (R404): A debug-port access is served, or is a security violation in FIELD or RETIRED. -/
  | debugAccess (t : Time) (d : DebugOp)
  /-- DIGEST_CHECK (R407): The periodic security-core digest check verifies the loaded objects. -/
  | digestCheck (t : Time) (good : Bool)
  /-- LOG_SPILL (R409): Log entries spill to the archive with a chain check, at least once per second. -/
  | logSpill (t : Time) (intact : Bool)
  /-- LOG_SEAL_SIGNED (R409): The security core signs the seal of a completed group of 256 entries. -/
  | logSealSigned (t : Time)
  /-- CHECKER_TEST (R417): Once per second each checker is given a deliberate difference and must flag it. -/
  | checkerTest (t : Time) (fail : BitVec 4)
  /-- ISLAND_OC_CLEAR (R446): The island's OC level clears when the sense input falls below OC_THR by its hysteresis, and the island sends a FAULT frame with OC clear. -/
  | islandOcClear (t : Time) (n : Fin 14)
  /-- ISLAND_OT_CLEAR (R170): The island temperature falls 5 °C below OT_THR, OT clears and a FAULT frame reports it. -/
  | islandOtClear (t : Time) (n : Fin 14)
  /-- XTRIP_RELEASE (R257): An XTRIP pad returns high and its snuffer source deasserts. -/
  | xtripRelease (t : Time) (n : Fin 4)
  /-- LINK_CRC_ERROR (R162): A Pyngeo frame, or a good frame of a reserved type, fails its CRC at either end and is counted in LINKCNT. -/
  | linkCrcError (t : Time) (n : Fin 14) (atIsland : Bool) (w : Word)
  /-- PORT_LINK_UP (R314): A process-bus or management port regains its link and traffic resumes on it. -/
  | portLinkUp (t : Time) (p : Fin 3)
  /-- MGMT_CONNECTION_CLOSED (R393): The peer closes or loses a management-port TLS connection, and its session's replies are kept for 60 s for resumption. -/
  | mgmtConnectionClosed (t : Time) (k : Fin 4)
  /-- PAIR_RESTART_DONE (R394): A core pair restarted after a lockstep mismatch or checker failure runs again, restores its state and replays owed replies. -/
  | pairRestartDone (t : Time) (p : Fin 2)
  /-- SECURITY_CORE_FAULT (R285): The security core's own lockstep detects a fault and the device enters HALT. -/
  | securityCoreFault (t : Time)
  /-- VBAT_LOSS (R411): VBAT falls below 2.0 V while VMAIN is absent and the VBAT domain loses the RTC, tamper latch and log counter. -/
  | vbatLoss (t : Time)
  deriving DecidableEq, Repr

end Sys2Proof
end

