-- ==== Sys2Proof/Decode.lean ====
section
/-!
DEFINITION. Words to commands. The block's commands are events on its pads, wires and timers and cues
of its senders: spec/opcode_table.json gives no row any bits, so no word spells a command.
-/
namespace Sys2Proof

/-- The command a word of `nbits` bits spells: none, since the table gives no row bits. -/
def decodeTableWord (_nbits _w : Nat) : Option Instr := none

end Sys2Proof
end

