-- ==== Sys2Proof/Machine/Arith.lean ====
section
/-!
DEFINITION. Exact arithmetic the blocks share: rounding to nearest with ties to even (R8), square
roots, saturation, and sines of turns.
-/
namespace Sys2Proof.Machine

/-- Quotient rounded to nearest, ties to even (R8). A zero divisor gives 0. -/
def rneDiv (n : Int) (d : Nat) : Int :=
  let q := n / d
  let r := n - q * d
  if 2 * r < d then q else if (d : Int) < 2 * r then q + 1 else if q % 2 = 0 then q else q + 1

/-- Quotient rounded to nearest, ties away from zero upward, of naturals. -/
def roundHalfUp (n d : Nat) : Nat := (2 * n + d) / (2 * d)

/-- Quotient rounded up. -/
def ceilDiv (n d : Nat) : Nat := (n + d - 1) / d

/-- An integer held within bounds. -/
def clampInt (lo hi x : Int) : Int := if x < lo then lo else if hi < x then hi else x

/-- A natural held within bounds. -/
def clampNat (lo hi x : Nat) : Nat := if x < lo then lo else if hi < x then hi else x

/-- A count that stays at its greatest value. -/
def satInc (max x : Nat) : Nat := if x < max then x + 1 else max

/-- Integer square root: the greatest root whose square is at most `n`, bit by bit from `bits` down. -/
def isqrtBits (n : Nat) : Nat → Nat → Nat
  | 0, r => r
  | b + 1, r => isqrtBits n b (if (r + 2 ^ b) * (r + 2 ^ b) ≤ n then r + 2 ^ b else r)

/-- Integer square root. -/
def isqrt (n : Nat) : Nat := isqrtBits n (Nat.log2 n / 2 + 1) 0

/-- The square root of the exact quotient `n / d` rounded to nearest (R8), `d` positive. A tie would need
4 × n = (2 × k + 1)² × d, which goes to the even root. -/
def rneSqrt (n d : Nat) : Nat :=
  let k := isqrt (n / d)
  let mid := (2 * k + 1) * (2 * k + 1) * d
  if 4 * n < mid then k else if mid < 4 * n then k + 1 else if k % 2 = 0 then k else k + 1

/-- An integer as a word, modulo 2^32. -/
def wordOfInt (x : Int) : Word := BitVec.ofInt 32 x

/-- A word saturated into signed Q15.16 or any signed 32-bit format (R8). -/
def satWord (x : Int) : Word := BitVec.ofInt 32 (clampInt (-2147483648) 2147483647 x)

/-- The exact rational `n / d` in Q15.16, rounded and saturated under R8. -/
def q16 (n : Int) (d : Nat) : Word := satWord (rneDiv (n * 65536) d)

/-- Two pi with 256 fractional bits. -/
def twoPi256 : Nat := 0x6487ED5110B4611A62633145C06E0E68948127044533E63A0105DF531D89CD912

/-- Taylor sum of the sine (`k` = 1) or cosine (`k` = 0) of `x` radians, 256 fractional bits:
`t` is the current term, `k` its degree. -/
def taylor256 (x2 : Nat) : Nat → Nat → Nat → Int
  | 0, _, _ => 0
  | f + 1, t, k => (t : Int) - taylor256 x2 f (t * x2 / 2 ^ 256 / ((k + 1) * (k + 2))) (k + 2)

/-- sin(2 pi x) for `x` in the first eighth of a turn, `x` and result with 256 fractional bits. -/
def sinOct (x : Nat) : Int :=
  let r := x * twoPi256 / 2 ^ 256
  taylor256 (r * r / 2 ^ 256) 30 r 1

/-- cos(2 pi x) for `x` in the first eighth of a turn, `x` and result with 256 fractional bits. -/
def cosOct (x : Nat) : Int :=
  let r := x * twoPi256 / 2 ^ 256
  taylor256 (r * r / 2 ^ 256) 30 (2 ^ 256) 0

/-- sin(2 pi x) for `x` in the first quarter turn. -/
def sinQuad (x : Nat) : Int := if x ≤ 2 ^ 253 then sinOct x else cosOct (2 ^ 254 - x)

/-- sin(2 pi x), `x` a turn fraction with 256 fractional bits taken modulo one turn; the result
has 256 fractional bits and is within 2^-240 of the exact value. -/
def sinTurn (x : Nat) : Int :=
  let y := x % 2 ^ 256
  if y < 2 ^ 254 then sinQuad y
  else if y < 2 ^ 255 then sinQuad (2 ^ 255 - y)
  else if y < 3 * 2 ^ 254 then - sinQuad (y - 2 ^ 255)
  else - sinQuad (2 ^ 256 - y)

/-- cos(2 pi x) as sin(2 pi (x + 1/4)). -/
def cosTurn (x : Nat) : Int := sinTurn (x + 2 ^ 254)

/-- A U32 angle (R7) as a turn fraction with 256 fractional bits. -/
def turnOf (a : Nat) : Nat := a % 2 ^ 32 * 2 ^ 224

/-- Sine of a U32 angle with 64 fractional bits, rounded. -/
def sinU32 (a : Nat) : Int := rneDiv (sinTurn (turnOf a)) (2 ^ 192)

/-- Cosine of a U32 angle with 64 fractional bits, rounded. -/
def cosU32 (a : Nat) : Int := rneDiv (cosTurn (turnOf a)) (2 ^ 192)

/-- The shorter signed separation of two U32 angles (R8). -/
def angleDiff (a b : Nat) : Int := (BitVec.ofNat 32 (a + 2 ^ 32 - b % 2 ^ 32)).toInt

/-- Taylor sum of the arctangent of `x`, 128 fractional bits: `p` is the power of `x`, `k` its degree. -/
def atanTaylor (x2 : Nat) : Nat → Nat → Nat → Int
  | 0, _, _ => 0
  | f + 1, p, k => (p / k : Nat) - atanTaylor x2 f (p * x2 / 2 ^ 128) (k + 2)

/-- tan(π/8) with 128 fractional bits. -/
def tanEighth : Nat := isqrt (2 * 4 ^ 128) - 2 ^ 128

/-- arctan(y/x) in 2^-64 turns for 0 ≤ y ≤ x, x positive. -/
def atanOct (y x : Nat) : Nat :=
  let r := y * 2 ^ 128 / x
  let rad (z : Nat) : Nat := (atanTaylor (z * z / 2 ^ 128) 60 z 1).toNat * 2 ^ 192 / twoPi256
  if r ≤ tanEighth then rad r
  else 2 ^ 60 + rad ((r - tanEighth) * 2 ^ 128 / (2 ^ 128 + r * tanEighth / 2 ^ 128))

/-- atan2(y, x) in 2^-64 turns, from -2^63 to 2^63; 0 for the zero vector. -/
def atan2T (y x : Int) : Int :=
  let a := y.natAbs; let b := x.natAbs
  if a = 0 ∧ b = 0 then 0
  else
    let q : Int := if a ≤ b then atanOct a b else 2 ^ 62 - atanOct b a
    let h : Int := if x < 0 then 2 ^ 63 - q else q
    if y < 0 then -h else h

end Sys2Proof.Machine
end

