-- ==== Sys2Proof/Machine/Fields.lean ====
section
/-!
DEFINITION. Every named register field of the window, at the address and bits that the register
tables of spec/ give it (the chapter of each block; the Register Index, spec/22_register_index.md).
A replicated register takes its index as an argument (R15). `lo` is the least significant bit.
-/
namespace Sys2Proof.Machine

set_option linter.dupNamespace false

/-- A field: the address of its word, its lowest bit and its width (R15). -/
structure Field where
  addr  : Nat
  lo    : Nat
  width : Nat
  deriving DecidableEq, Repr

namespace Reg

/-! ### SEQ (spec/02_frame_and_script.md) -/

abbrev SEQ.PERIOD.CYCLES : Field := ⟨0x3000, 0, 15⟩
abbrev SEQ.MODE.FORCED : Field := ⟨0x3004, 16, 1⟩
abbrev SEQ.MODE.ACTIVE : Field := ⟨0x3004, 8, 6⟩
abbrev SEQ.MODE.SCENE : Field := ⟨0x3004, 0, 6⟩
abbrev SEQ.STATUS.OVR_RUN : Field := ⟨0x3008, 8, 2⟩
abbrev SEQ.STATUS.MISMATCH : Field := ⟨0x3008, 7, 1⟩
abbrev SEQ.STATUS.SWAP_PENDING : Field := ⟨0x3008, 6, 1⟩
abbrev SEQ.STATUS.BANK : Field := ⟨0x3008, 5, 1⟩
abbrev SEQ.STATUS.PERIOD_REJECT : Field := ⟨0x3008, 4, 1⟩
abbrev SEQ.STATUS.SHOT_ILLEGAL : Field := ⟨0x3008, 3, 1⟩
abbrev SEQ.STATUS.DOMAIN : Field := ⟨0x3008, 2, 1⟩
abbrev SEQ.STATUS.OVERRUN : Field := ⟨0x3008, 1, 1⟩
abbrev SEQ.STATUS.BUDGET_LATE : Field := ⟨0x3008, 0, 1⟩
abbrev SEQ.FRAMECNT.COUNT : Field := ⟨0x300C, 0, 32⟩
abbrev SEQ.SLATE_TIME.TAI_NS : Field := ⟨0x3010, 0, 64⟩
abbrev SEQ.SLATE_ANGLE.THETA : Field := ⟨0x3018, 0, 32⟩
abbrev SEQ.END_CYC.MAX : Field := ⟨0x301C, 16, 16⟩
abbrev SEQ.END_CYC.LAST : Field := ⟨0x301C, 0, 16⟩
abbrev SEQ.LATE_CNT.OVERRUNS : Field := ⟨0x3020, 16, 16⟩
abbrev SEQ.LATE_CNT.LATE : Field := ⟨0x3020, 0, 16⟩
abbrev SEQ.IMAGE_ID.ID : Field := ⟨0x3024, 0, 32⟩
abbrev SEQ.IMAGE_VER.VERSION : Field := ⟨0x3028, 0, 32⟩

/-! ### MOD (spec/03_measurement_chain.md) -/

abbrev MOD.CTRL.METRO_SEALED : Field := ⟨0x4000, 8, 1⟩
abbrev MOD.CTRL.BG_CAL_EN : Field := ⟨0x4000, 0, 1⟩
abbrev MOD.STATUS.SPARE_CH : Field := ⟨0x4004, 8, 6⟩
abbrev MOD.STATUS.CAL_BUSY : Field := ⟨0x4004, 2, 1⟩
abbrev MOD.STATUS.CALSET_BAD : Field := ⟨0x4004, 1, 1⟩
abbrev MOD.STATUS.CFG_ERR : Field := ⟨0x4004, 0, 1⟩
abbrev MOD.INVALID_LO.CH : Field := ⟨0x4008, 0, 32⟩
abbrev MOD.INVALID_HI.CH : Field := ⟨0x400C, 0, 8⟩
abbrev MOD.SUPRA_SEL0.EN0 : Field := ⟨0x4010, 7, 1⟩
abbrev MOD.SUPRA_SEL0.CHAN0 : Field := ⟨0x4010, 0, 6⟩
abbrev MOD.SUPRA_SEL0.EN1 : Field := ⟨0x4010, 15, 1⟩
abbrev MOD.SUPRA_SEL0.CHAN1 : Field := ⟨0x4010, 8, 6⟩
abbrev MOD.SUPRA_SEL0.EN2 : Field := ⟨0x4010, 23, 1⟩
abbrev MOD.SUPRA_SEL0.CHAN2 : Field := ⟨0x4010, 16, 6⟩
abbrev MOD.SUPRA_SEL0.EN3 : Field := ⟨0x4010, 31, 1⟩
abbrev MOD.SUPRA_SEL0.CHAN3 : Field := ⟨0x4010, 24, 6⟩
abbrev MOD.SUPRA_SEL1.EN4 : Field := ⟨0x4014, 7, 1⟩
abbrev MOD.SUPRA_SEL1.CHAN4 : Field := ⟨0x4014, 0, 6⟩
abbrev MOD.SUPRA_SEL1.EN5 : Field := ⟨0x4014, 15, 1⟩
abbrev MOD.SUPRA_SEL1.CHAN5 : Field := ⟨0x4014, 8, 6⟩
abbrev MOD.SUPRA_SEL1.EN6 : Field := ⟨0x4014, 23, 1⟩
abbrev MOD.SUPRA_SEL1.CHAN6 : Field := ⟨0x4014, 16, 6⟩
abbrev MOD.SUPRA_SEL1.EN7 : Field := ⟨0x4014, 31, 1⟩
abbrev MOD.SUPRA_SEL1.CHAN7 : Field := ⟨0x4014, 24, 6⟩
abbrev MOD.RSM_CTL.SLEW : Field := ⟨0x4018, 0, 4⟩
abbrev MOD.RSM_STAT.SLEW_CNT : Field := ⟨0x401C, 16, 16⟩
abbrev MOD.RSM_STAT.DISTURBED : Field := ⟨0x401C, 2, 1⟩
abbrev MOD.RSM_STAT.SLEWING : Field := ⟨0x401C, 1, 1⟩
abbrev MOD.RSM_STAT.FREERUN : Field := ⟨0x401C, 0, 1⟩
abbrev MOD.RSM_INDEX.CYCLE : Field := ⟨0x4020, 16, 16⟩
abbrev MOD.RSM_INDEX.INDEX : Field := ⟨0x4020, 0, 9⟩
abbrev MOD.HK_CTL.EN : Field := ⟨0x4024, 8, 8⟩
abbrev MOD.HK_CTL.AVG : Field := ⟨0x4024, 4, 3⟩
abbrev MOD.HK_CTL.NOTCH : Field := ⟨0x4024, 0, 1⟩
abbrev MOD.HK_VAL.VALUE (i : Nat) : Field := ⟨0x4040 + 0x4 * i, 0, 32⟩
abbrev MOD.CH.CFG.BSFREQ (i : Nat) : Field := ⟨0x5000 + 0x40 * i, 10, 5⟩
abbrev MOD.CH.CFG.BSMODE (i : Nat) : Field := ⟨0x5000 + 0x40 * i, 8, 2⟩
abbrev MOD.CH.CFG.MOSR (i : Nat) : Field := ⟨0x5000 + 0x40 * i, 5, 3⟩
abbrev MOD.CH.CFG.COSR (i : Nat) : Field := ⟨0x5000 + 0x40 * i, 3, 2⟩
abbrev MOD.CH.CFG.CORD (i : Nat) : Field := ⟨0x5000 + 0x40 * i, 1, 2⟩
abbrev MOD.CH.CFG.ENABLE (i : Nat) : Field := ⟨0x5000 + 0x40 * i, 0, 1⟩
abbrev MOD.CH.MON_CFG.OVR_FILT (i : Nat) : Field := ⟨0x5004 + 0x40 * i, 20, 4⟩
abbrev MOD.CH.MON_CFG.OVR_HYST (i : Nat) : Field := ⟨0x5004 + 0x40 * i, 12, 8⟩
abbrev MOD.CH.MON_CFG.OVR_THR (i : Nat) : Field := ⟨0x5004 + 0x40 * i, 0, 12⟩
abbrev MOD.CH.FDELAY.DELAY (i : Nat) : Field := ⟨0x5008 + 0x40 * i, 0, 14⟩
abbrev MOD.CH.OFFSET.VALUE (i : Nat) : Field := ⟨0x500C + 0x40 * i, 0, 32⟩
abbrev MOD.CH.GAIN.VALUE (i : Nat) : Field := ⟨0x5010 + 0x40 * i, 0, 32⟩
abbrev MOD.CH.NOM_GAIN.VALUE (i : Nat) : Field := ⟨0x5014 + 0x40 * i, 0, 32⟩
abbrev MOD.CH.DRIFT.VALUE (i : Nat) : Field := ⟨0x5018 + 0x40 * i, 0, 32⟩
abbrev MOD.CH.STATUS.SUPRA (i : Nat) : Field := ⟨0x501C + 0x40 * i, 15, 1⟩
abbrev MOD.CH.STATUS.SPARE (i : Nat) : Field := ⟨0x501C + 0x40 * i, 14, 1⟩
abbrev MOD.CH.STATUS.SEALED (i : Nat) : Field := ⟨0x501C + 0x40 * i, 13, 1⟩
abbrev MOD.CH.STATUS.METER (i : Nat) : Field := ⟨0x501C + 0x40 * i, 12, 1⟩
abbrev MOD.CH.STATUS.NOCLK (i : Nat) : Field := ⟨0x501C + 0x40 * i, 10, 1⟩
abbrev MOD.CH.STATUS.OVR (i : Nat) : Field := ⟨0x501C + 0x40 * i, 9, 1⟩
abbrev MOD.CH.STATUS.STUCK (i : Nat) : Field := ⟨0x501C + 0x40 * i, 8, 1⟩
abbrev MOD.CH.STATUS.NOCLK_NOW (i : Nat) : Field := ⟨0x501C + 0x40 * i, 6, 1⟩
abbrev MOD.CH.STATUS.OVR_NOW (i : Nat) : Field := ⟨0x501C + 0x40 * i, 5, 1⟩
abbrev MOD.CH.STATUS.STUCK_NOW (i : Nat) : Field := ⟨0x501C + 0x40 * i, 4, 1⟩
abbrev MOD.CH.STATUS.VALID_S (i : Nat) : Field := ⟨0x501C + 0x40 * i, 2, 1⟩
abbrev MOD.CH.STATUS.VALID_M (i : Nat) : Field := ⟨0x501C + 0x40 * i, 1, 1⟩
abbrev MOD.CH.STATUS.VALID_C (i : Nat) : Field := ⟨0x501C + 0x40 * i, 0, 1⟩
abbrev MOD.CH.CSAMPLE.VALUE (i : Nat) : Field := ⟨0x5020 + 0x40 * i, 0, 32⟩
abbrev MOD.CH.MSAMPLE.VALUE (i : Nat) : Field := ⟨0x5024 + 0x40 * i, 0, 32⟩
abbrev MOD.CH.EVCNT.OVR_CNT (i : Nat) : Field := ⟨0x5028 + 0x40 * i, 16, 16⟩
abbrev MOD.CH.EVCNT.LOSS_CNT (i : Nat) : Field := ⟨0x5028 + 0x40 * i, 0, 16⟩
abbrev MOD.CH.GD_CTL.DELAY (i : Nat) : Field := ⟨0x502C + 0x40 * i, 0, 32⟩
abbrev MOD.CH.GD_MTR.DELAY (i : Nat) : Field := ⟨0x5030 + 0x40 * i, 0, 32⟩

/-! ### SYN (spec/04_grid_synchronizer.md) -/

abbrev SYN.CTRL.STEP : Field := ⟨0x6000, 8, 3⟩
abbrev SYN.CTRL.BORROW_EN : Field := ⟨0x6000, 2, 1⟩
abbrev SYN.CTRL.BW_AUTO : Field := ⟨0x6000, 1, 1⟩
abbrev SYN.CTRL.ENABLE : Field := ⟨0x6000, 0, 1⟩
abbrev SYN.SRC.LL : Field := ⟨0x6004, 25, 1⟩
abbrev SYN.SRC.FUSED : Field := ⟨0x6004, 24, 1⟩
abbrev SYN.SRC.SRC_C : Field := ⟨0x6004, 16, 6⟩
abbrev SYN.SRC.SRC_B : Field := ⟨0x6004, 8, 6⟩
abbrev SYN.SRC.SRC_A : Field := ⟨0x6004, 0, 6⟩
abbrev SYN.LOW.FILT : Field := ⟨0x6008, 20, 4⟩
abbrev SYN.LOW.HYST : Field := ⟨0x6008, 12, 6⟩
abbrev SYN.LOW.THR : Field := ⟨0x6008, 0, 10⟩
abbrev SYN.HOLD.TIME : Field := ⟨0x600C, 0, 9⟩
abbrev SYN.JUMP_CFG.FILT : Field := ⟨0x6010, 16, 5⟩
abbrev SYN.JUMP_CFG.HYST : Field := ⟨0x6010, 8, 8⟩
abbrev SYN.JUMP_CFG.THR : Field := ⟨0x6010, 0, 8⟩
abbrev SYN.CHG.WIN : Field := ⟨0x6014, 24, 4⟩
abbrev SYN.CHG.HYST : Field := ⟨0x6014, 12, 8⟩
abbrev SYN.CHG.THR : Field := ⟨0x6014, 0, 10⟩
abbrev SYN.BORROW.MIN : Field := ⟨0x6018, 24, 7⟩
abbrev SYN.BORROW.SRC_C : Field := ⟨0x6018, 16, 6⟩
abbrev SYN.BORROW.SRC_B : Field := ⟨0x6018, 8, 6⟩
abbrev SYN.BORROW.SRC_A : Field := ⟨0x6018, 0, 6⟩
abbrev SYN.BORROW_OFS.OFFSET : Field := ⟨0x601C, 0, 32⟩
abbrev SYN.BORROW_TOL.TOL : Field := ⟨0x6020, 0, 8⟩
abbrev SYN.STATUS.JUMP_SRC : Field := ⟨0x6024, 18, 2⟩
abbrev SYN.STATUS.CFG_ERR : Field := ⟨0x6024, 17, 1⟩
abbrev SYN.STATUS.SRC_INVALID : Field := ⟨0x6024, 16, 1⟩
abbrev SYN.STATUS.RANGE : Field := ⟨0x6024, 15, 1⟩
abbrev SYN.STATUS.HOLD_EXPIRED : Field := ⟨0x6024, 14, 1⟩
abbrev SYN.STATUS.REALIGN_FAIL : Field := ⟨0x6024, 13, 1⟩
abbrev SYN.STATUS.JUMP : Field := ⟨0x6024, 12, 1⟩
abbrev SYN.STATUS.STEP_EFF : Field := ⟨0x6024, 8, 3⟩
abbrev SYN.STATUS.BORROW_MISMATCH : Field := ⟨0x6024, 7, 1⟩
abbrev SYN.STATUS.BORROW_OK : Field := ⟨0x6024, 6, 1⟩
abbrev SYN.STATUS.REALIGN : Field := ⟨0x6024, 5, 1⟩
abbrev SYN.STATUS.FSEL : Field := ⟨0x6024, 4, 1⟩
abbrev SYN.STATUS.ANGLE_VALID : Field := ⟨0x6024, 3, 1⟩
abbrev SYN.STATUS.STATE : Field := ⟨0x6024, 0, 3⟩
abbrev SYN.THETA.VALUE : Field := ⟨0x6028, 0, 32⟩
abbrev SYN.F_AR.VALUE : Field := ⟨0x602C, 0, 32⟩
abbrev SYN.F_PC.VALUE : Field := ⟨0x6030, 0, 32⟩
abbrev SYN.F_SEL.VALUE : Field := ⟨0x6034, 0, 32⟩
abbrev SYN.ROCOF.VALUE : Field := ⟨0x6038, 0, 32⟩
abbrev SYN.VPOS.VALUE : Field := ⟨0x603C, 0, 32⟩
abbrev SYN.VNEG.VALUE : Field := ⟨0x6040, 0, 32⟩
abbrev SYN.VZERO.VALUE : Field := ⟨0x6044, 0, 32⟩
abbrev SYN.JUMP.ANGLE : Field := ⟨0x6048, 0, 32⟩
abbrev SYN.JUMP_TIME.TAI_NS : Field := ⟨0x604C, 0, 64⟩
abbrev SYN.BORROW_MEAS.DIFF : Field := ⟨0x6054, 0, 32⟩
abbrev SYN.COUNT.HOLDS : Field := ⟨0x6058, 16, 16⟩
abbrev SYN.COUNT.JUMPS : Field := ⟨0x6058, 0, 16⟩
abbrev SYN.HOLD_LEFT.MS : Field := ⟨0x605C, 0, 9⟩

/-! ### BND (spec/05_band_law.md) -/

abbrev BND.STATUS.CFG_ERR : Field := ⟨0x7000, 12, 1⟩
abbrev BND.STATUS.ADAPT_LIMIT : Field := ⟨0x7000, 11, 1⟩
abbrev BND.STATUS.LATE_CANCEL : Field := ⟨0x7000, 10, 1⟩
abbrev BND.STATUS.MEAS_LOST : Field := ⟨0x7000, 9, 1⟩
abbrev BND.STATUS.MISMATCH : Field := ⟨0x7000, 8, 1⟩
abbrev BND.STATUS.ANG_SLEWING : Field := ⟨0x7000, 2, 1⟩
abbrev BND.STATUS.RETURNING : Field := ⟨0x7000, 1, 1⟩
abbrev BND.STATUS.POSTURE : Field := ⟨0x7000, 0, 1⟩
abbrev BND.GRID_CFG.ANG_SLEW : Field := ⟨0x7004, 16, 8⟩
abbrev BND.GRID_CFG.ZCW : Field := ⟨0x7004, 8, 8⟩
abbrev BND.GRID_CFG.SL_FAULT : Field := ⟨0x7004, 1, 1⟩
abbrev BND.GRID_CFG.SIGN_LOCK : Field := ⟨0x7004, 0, 1⟩
abbrev BND.FAULT_CFG.RET_CYC : Field := ⟨0x7008, 16, 4⟩
abbrev BND.FAULT_CFG.H_FAULT : Field := ⟨0x7008, 0, 16⟩
abbrev BND.ILIM.GOV : Field := ⟨0x700C, 16, 16⟩
abbrev BND.ILIM.PROF : Field := ⟨0x700C, 0, 16⟩
abbrev BND.FEED_ILIM.PROF : Field := ⟨0x7010, 0, 16⟩
abbrev BND.SOFT.RATE : Field := ⟨0x7014, 0, 16⟩
abbrev BND.THETA_R.ANGLE : Field := ⟨0x7018, 0, 32⟩
abbrev BND.CH.CFG.KRATIO (i : Nat) : Field := ⟨0x7100 + 0x40 * i, 24, 7⟩
abbrev BND.CH.CFG.SRC_B (i : Nat) : Field := ⟨0x7100 + 0x40 * i, 16, 6⟩
abbrev BND.CH.CFG.SRC (i : Nat) : Field := ⟨0x7100 + 0x40 * i, 8, 6⟩
abbrev BND.CH.CFG.HORIZON (i : Nat) : Field := ⟨0x7100 + 0x40 * i, 4, 4⟩
abbrev BND.CH.CFG.LEVELS (i : Nat) : Field := ⟨0x7100 + 0x40 * i, 1, 1⟩
abbrev BND.CH.CFG.ENABLE (i : Nat) : Field := ⟨0x7100 + 0x40 * i, 0, 1⟩
abbrev BND.CH.ADAPT.FREEZE (i : Nat) : Field := ⟨0x7104 + 0x40 * i, 24, 1⟩
abbrev BND.CH.ADAPT.WIN (i : Nat) : Field := ⟨0x7104 + 0x40 * i, 16, 8⟩
abbrev BND.CH.ADAPT.GSHIFT (i : Nat) : Field := ⟨0x7104 + 0x40 * i, 12, 3⟩
abbrev BND.CH.ADAPT.TGT_FREQ (i : Nat) : Field := ⟨0x7104 + 0x40 * i, 0, 10⟩
abbrev BND.CH.H.VALUE (i : Nat) : Field := ⟨0x7108 + 0x40 * i, 0, 32⟩
abbrev BND.CH.H_LIM.H_MAX (i : Nat) : Field := ⟨0x710C + 0x40 * i, 16, 16⟩
abbrev BND.CH.H_LIM.H_MIN (i : Nat) : Field := ⟨0x710C + 0x40 * i, 0, 16⟩
abbrev BND.CH.DWELL.FAULT_DWELL (i : Nat) : Field := ⟨0x7110 + 0x40 * i, 16, 10⟩
abbrev BND.CH.DWELL.MIN_DWELL (i : Nat) : Field := ⟨0x7110 + 0x40 * i, 0, 10⟩
abbrev BND.CH.REF.VALUE (i : Nat) : Field := ⟨0x7114 + 0x40 * i, 0, 32⟩
abbrev BND.CH.ERR.VALUE (i : Nat) : Field := ⟨0x7118 + 0x40 * i, 0, 32⟩
abbrev BND.CH.STATE.DUMP_SW (i : Nat) : Field := ⟨0x711C + 0x40 * i, 8, 2⟩
abbrev BND.CH.STATE.H_CLAMP (i : Nat) : Field := ⟨0x711C + 0x40 * i, 6, 1⟩
abbrev BND.CH.STATE.AT_LIMIT (i : Nat) : Field := ⟨0x711C + 0x40 * i, 5, 1⟩
abbrev BND.CH.STATE.TRIPPED (i : Nat) : Field := ⟨0x711C + 0x40 * i, 4, 1⟩
abbrev BND.CH.STATE.BLOCKED (i : Nat) : Field := ⟨0x711C + 0x40 * i, 3, 1⟩
abbrev BND.CH.STATE.ARMED (i : Nat) : Field := ⟨0x711C + 0x40 * i, 2, 1⟩
abbrev BND.CH.STATE.LEVEL (i : Nat) : Field := ⟨0x711C + 0x40 * i, 0, 2⟩
abbrev BND.CH.FSW.HZ (i : Nat) : Field := ⟨0x7120 + 0x40 * i, 0, 32⟩
abbrev BND.CH.CNT.WITHDRAWN (i : Nat) : Field := ⟨0x7124 + 0x40 * i, 16, 16⟩
abbrev BND.CH.CNT.EXECUTED (i : Nat) : Field := ⟨0x7124 + 0x40 * i, 0, 16⟩
abbrev BND.CH.EVT.LATE_CNT (i : Nat) : Field := ⟨0x7128 + 0x40 * i, 16, 16⟩
abbrev BND.CH.EVT.MISMATCH_CNT (i : Nat) : Field := ⟨0x7128 + 0x40 * i, 0, 16⟩

/-! ### PWM (spec/06_pulse_generation.md) -/

abbrev PWM.STATUS.SPARE_FOR : Field := ⟨0x8000, 8, 5⟩
abbrev PWM.STATUS.CAL_LATE : Field := ⟨0x8000, 4, 1⟩
abbrev PWM.STATUS.CLAP_LOST_NOW : Field := ⟨0x8000, 3, 1⟩
abbrev PWM.STATUS.CLAP_LOST : Field := ⟨0x8000, 2, 1⟩
abbrev PWM.STATUS.PRD_REJECT : Field := ⟨0x8000, 1, 1⟩
abbrev PWM.STATUS.CFG_ERR : Field := ⟨0x8000, 0, 1⟩
abbrev PWM.CLAP.WIN : Field := ⟨0x8004, 12, 4⟩
abbrev PWM.CLAP.VIRT_EN : Field := ⟨0x8004, 9, 1⟩
abbrev PWM.CLAP.IN_EN : Field := ⟨0x8004, 8, 1⟩
abbrev PWM.CLAP.OUT_EVT : Field := ⟨0x8004, 5, 2⟩
abbrev PWM.CLAP.OUT_CU : Field := ⟨0x8004, 1, 4⟩
abbrev PWM.CLAP.OUT_EN : Field := ⟨0x8004, 0, 1⟩
abbrev PWM.VCLAP_INT.MS : Field := ⟨0x8008, 0, 10⟩
abbrev PWM.VCLAP_OFS.NS : Field := ⟨0x800C, 0, 30⟩
abbrev PWM.PINSEL.CLAP_IN : Field := ⟨0x8010, 5, 1⟩
abbrev PWM.PINSEL.CLAP_OUT : Field := ⟨0x8010, 4, 1⟩
abbrev PWM.PINSEL.AUX : Field := ⟨0x8010, 0, 4⟩
abbrev PWM.OUT.CLAP_OUT : Field := ⟨0x8014, 20, 1⟩
abbrev PWM.OUT.AUX : Field := ⟨0x8014, 16, 4⟩
abbrev PWM.OUT.FD : Field := ⟨0x8014, 0, 16⟩
abbrev PWM.CU.CFG.PROT_HOLD (i : Nat) : Field := ⟨0x8100 + 0x40 * i, 14, 1⟩
abbrev PWM.CU.CFG.SRC (i : Nat) : Field := ⟨0x8100 + 0x40 * i, 12, 2⟩
abbrev PWM.CU.CFG.FOLLOW (i : Nat) : Field := ⟨0x8100 + 0x40 * i, 9, 1⟩
abbrev PWM.CU.CFG.GRID3 (i : Nat) : Field := ⟨0x8100 + 0x40 * i, 8, 1⟩
abbrev PWM.CU.CFG.COMP (i : Nat) : Field := ⟨0x8100 + 0x40 * i, 7, 1⟩
abbrev PWM.CU.CFG.CENTRE (i : Nat) : Field := ⟨0x8100 + 0x40 * i, 6, 1⟩
abbrev PWM.CU.CFG.FREE (i : Nat) : Field := ⟨0x8100 + 0x40 * i, 5, 1⟩
abbrev PWM.CU.CFG.RLD (i : Nat) : Field := ⟨0x8100 + 0x40 * i, 3, 2⟩
abbrev PWM.CU.CFG.PRESC (i : Nat) : Field := ⟨0x8100 + 0x40 * i, 1, 2⟩
abbrev PWM.CU.CFG.ENABLE (i : Nat) : Field := ⟨0x8100 + 0x40 * i, 0, 1⟩
abbrev PWM.CU.PRD.ACTIVE (i : Nat) : Field := ⟨0x8104 + 0x40 * i, 16, 16⟩
abbrev PWM.CU.PRD.SHADOW (i : Nat) : Field := ⟨0x8104 + 0x40 * i, 0, 16⟩
abbrev PWM.CU.CMPA.COUNT (i : Nat) : Field := ⟨0x8108 + 0x40 * i, 6, 16⟩
abbrev PWM.CU.CMPA.FINE (i : Nat) : Field := ⟨0x8108 + 0x40 * i, 0, 6⟩
abbrev PWM.CU.CMPB.COUNT (i : Nat) : Field := ⟨0x810C + 0x40 * i, 6, 16⟩
abbrev PWM.CU.CMPB.FINE (i : Nat) : Field := ⟨0x810C + 0x40 * i, 0, 6⟩
abbrev PWM.CU.CMPA_ACT.VALUE (i : Nat) : Field := ⟨0x8110 + 0x40 * i, 0, 22⟩
abbrev PWM.CU.CMPB_ACT.VALUE (i : Nat) : Field := ⟨0x8114 + 0x40 * i, 0, 22⟩
abbrev PWM.CU.COMMIT.SKEW (i : Nat) : Field := ⟨0x8118 + 0x40 * i, 8, 1⟩
abbrev PWM.CU.COMMIT.GO_P (i : Nat) : Field := ⟨0x8118 + 0x40 * i, 7, 1⟩
abbrev PWM.CU.COMMIT.CMPB_P (i : Nat) : Field := ⟨0x8118 + 0x40 * i, 6, 1⟩
abbrev PWM.CU.COMMIT.CMPA_P (i : Nat) : Field := ⟨0x8118 + 0x40 * i, 5, 1⟩
abbrev PWM.CU.COMMIT.PRD_P (i : Nat) : Field := ⟨0x8118 + 0x40 * i, 4, 1⟩
abbrev PWM.CU.COMMIT.GO (i : Nat) : Field := ⟨0x8118 + 0x40 * i, 0, 1⟩
abbrev PWM.CU.PHASE.SLEW (i : Nat) : Field := ⟨0x811C + 0x40 * i, 20, 4⟩
abbrev PWM.CU.PHASE.POS (i : Nat) : Field := ⟨0x811C + 0x40 * i, 0, 17⟩
abbrev PWM.CU.DT.ADAPT (i : Nat) : Field := ⟨0x8120 + 0x40 * i, 28, 1⟩
abbrev PWM.CU.DT.GUARD (i : Nat) : Field := ⟨0x8120 + 0x40 * i, 20, 8⟩
abbrev PWM.CU.DT.DT_MAX (i : Nat) : Field := ⟨0x8120 + 0x40 * i, 10, 10⟩
abbrev PWM.CU.DT.DT_MIN (i : Nat) : Field := ⟨0x8120 + 0x40 * i, 0, 10⟩
abbrev PWM.CU.MINP.FSN_FILT (i : Nat) : Field := ⟨0x8124 + 0x40 * i, 16, 3⟩
abbrev PWM.CU.MINP.MIN_PULSE (i : Nat) : Field := ⟨0x8124 + 0x40 * i, 0, 10⟩
abbrev PWM.CU.WICK.W (i : Nat) : Field := ⟨0x8128 + 0x40 * i, 16, 10⟩
abbrev PWM.CU.WICK.N (i : Nat) : Field := ⟨0x8128 + 0x40 * i, 8, 8⟩
abbrev PWM.CU.WICK.OUT (i : Nat) : Field := ⟨0x8128 + 0x40 * i, 1, 1⟩
abbrev PWM.CU.WICK.EN (i : Nat) : Field := ⟨0x8128 + 0x40 * i, 0, 1⟩
abbrev PWM.CU.CNT.DOWN (i : Nat) : Field := ⟨0x812C + 0x40 * i, 16, 1⟩
abbrev PWM.CU.CNT.COUNT (i : Nat) : Field := ⟨0x812C + 0x40 * i, 0, 16⟩
abbrev PWM.CU.EVT.WICK_CNT (i : Nat) : Field := ⟨0x8130 + 0x40 * i, 16, 16⟩
abbrev PWM.CU.EVT.DROP (i : Nat) : Field := ⟨0x8130 + 0x40 * i, 0, 16⟩
abbrev PWM.CU.STATUS.DT_MISS (i : Nat) : Field := ⟨0x8134 + 0x40 * i, 16, 16⟩
abbrev PWM.CU.STATUS.POS_WRAP (i : Nat) : Field := ⟨0x8134 + 0x40 * i, 5, 1⟩
abbrev PWM.CU.STATUS.RUNNING (i : Nat) : Field := ⟨0x8134 + 0x40 * i, 4, 1⟩
abbrev PWM.CU.STATUS.CLAP_ADJ (i : Nat) : Field := ⟨0x8134 + 0x40 * i, 3, 1⟩
abbrev PWM.CU.STATUS.DUTY_CONFLICT (i : Nat) : Field := ⟨0x8134 + 0x40 * i, 2, 1⟩
abbrev PWM.CU.STATUS.WICK_DROOP (i : Nat) : Field := ⟨0x8134 + 0x40 * i, 1, 1⟩
abbrev PWM.CU.STATUS.DT_FAULT (i : Nat) : Field := ⟨0x8134 + 0x40 * i, 0, 1⟩

/-! ### ISL (spec/07_gate_islands.md) -/

abbrev ISL.SUMMARY.LINK_UP : Field := ⟨0x9000, 16, 14⟩
abbrev ISL.SUMMARY.FAULT : Field := ⟨0x9000, 0, 14⟩
abbrev ISL.EVENT.UV_WARN : Field := ⟨0x9004, 16, 14⟩
abbrev ISL.EVENT.LINK_LOSS : Field := ⟨0x9004, 0, 14⟩
abbrev ISL.CFG.ROLE (i : Nat) : Field := ⟨0x9100 + 0x40 * i, 16, 2⟩
abbrev ISL.CFG.BOOST (i : Nat) : Field := ⟨0x9100 + 0x40 * i, 1, 1⟩
abbrev ISL.CFG.VCE_EN (i : Nat) : Field := ⟨0x9100 + 0x40 * i, 0, 1⟩
abbrev ISL.SENSE.SNS_EN (i : Nat) : Field := ⟨0x9104 + 0x40 * i, 24, 2⟩
abbrev ISL.SENSE.SC_THR (i : Nat) : Field := ⟨0x9104 + 0x40 * i, 16, 8⟩
abbrev ISL.SENSE.OC_THR (i : Nat) : Field := ⟨0x9104 + 0x40 * i, 8, 8⟩
abbrev ISL.SENSE.OC_FILT (i : Nat) : Field := ⟨0x9104 + 0x40 * i, 4, 4⟩
abbrev ISL.SENSE.BLANK (i : Nat) : Field := ⟨0x9104 + 0x40 * i, 0, 4⟩
abbrev ISL.TIMING.SOFT_T (i : Nat) : Field := ⟨0x9108 + 0x40 * i, 0, 7⟩
abbrev ISL.UVLO.WARN (i : Nat) : Field := ⟨0x910C + 0x40 * i, 16, 4⟩
abbrev ISL.UVLO.VN_TRIP (i : Nat) : Field := ⟨0x910C + 0x40 * i, 8, 8⟩
abbrev ISL.UVLO.VP_TRIP (i : Nat) : Field := ⟨0x910C + 0x40 * i, 0, 8⟩
abbrev ISL.VCE.VCE_FILT (i : Nat) : Field := ⟨0x9110 + 0x40 * i, 12, 3⟩
abbrev ISL.VCE.VCE_THR (i : Nat) : Field := ⟨0x9110 + 0x40 * i, 0, 8⟩
abbrev ISL.NTC.NTC_B (i : Nat) : Field := ⟨0x9114 + 0x40 * i, 19, 13⟩
abbrev ISL.NTC.NTC_NOM (i : Nat) : Field := ⟨0x9114 + 0x40 * i, 9, 10⟩
abbrev ISL.NTC.OT_THR (i : Nat) : Field := ⟨0x9114 + 0x40 * i, 0, 9⟩
abbrev ISL.STATUS.CFG_ERR (i : Nat) : Field := ⟨0x9118 + 0x40 * i, 18, 1⟩
abbrev ISL.STATUS.REFUSED (i : Nat) : Field := ⟨0x9118 + 0x40 * i, 17, 1⟩
abbrev ISL.STATUS.DOUBLE_FAIL (i : Nat) : Field := ⟨0x9118 + 0x40 * i, 16, 1⟩
abbrev ISL.STATUS.INNER_TIMEOUT (i : Nat) : Field := ⟨0x9118 + 0x40 * i, 15, 1⟩
abbrev ISL.STATUS.SELF_OFF (i : Nat) : Field := ⟨0x9118 + 0x40 * i, 14, 1⟩
abbrev ISL.STATUS.LINK_LOSS (i : Nat) : Field := ⟨0x9118 + 0x40 * i, 13, 1⟩
abbrev ISL.STATUS.OT (i : Nat) : Field := ⟨0x9118 + 0x40 * i, 12, 1⟩
abbrev ISL.STATUS.UV_WARN (i : Nat) : Field := ⟨0x9118 + 0x40 * i, 11, 1⟩
abbrev ISL.STATUS.UVLO (i : Nat) : Field := ⟨0x9118 + 0x40 * i, 10, 1⟩
abbrev ISL.STATUS.OC (i : Nat) : Field := ⟨0x9118 + 0x40 * i, 9, 1⟩
abbrev ISL.STATUS.SC (i : Nat) : Field := ⟨0x9118 + 0x40 * i, 8, 1⟩
abbrev ISL.STATUS.OC_NOW (i : Nat) : Field := ⟨0x9118 + 0x40 * i, 7, 1⟩
abbrev ISL.STATUS.OT_NOW (i : Nat) : Field := ⟨0x9118 + 0x40 * i, 6, 1⟩
abbrev ISL.STATUS.WARN_NOW (i : Nat) : Field := ⟨0x9118 + 0x40 * i, 5, 1⟩
abbrev ISL.STATUS.UVLO_NOW (i : Nat) : Field := ⟨0x9118 + 0x40 * i, 4, 1⟩
abbrev ISL.STATUS.SOFT_ACTIVE (i : Nat) : Field := ⟨0x9118 + 0x40 * i, 3, 1⟩
abbrev ISL.STATUS.FAULT_LATCH (i : Nat) : Field := ⟨0x9118 + 0x40 * i, 2, 1⟩
abbrev ISL.STATUS.ON (i : Nat) : Field := ⟨0x9118 + 0x40 * i, 1, 1⟩
abbrev ISL.STATUS.LINK_UP (i : Nat) : Field := ⟨0x9118 + 0x40 * i, 0, 1⟩
abbrev ISL.SUPPLY.VP (i : Nat) : Field := ⟨0x911C + 0x40 * i, 16, 16⟩
abbrev ISL.SUPPLY.VN (i : Nat) : Field := ⟨0x911C + 0x40 * i, 0, 16⟩
abbrev ISL.TEMP.VALUE (i : Nat) : Field := ⟨0x9120 + 0x40 * i, 0, 32⟩
abbrev ISL.LINKCNT.CRC_ERR (i : Nat) : Field := ⟨0x9124 + 0x40 * i, 16, 16⟩
abbrev ISL.LINKCNT.RESEND (i : Nat) : Field := ⟨0x9124 + 0x40 * i, 0, 16⟩
abbrev ISL.SCCNT.SC_CNT (i : Nat) : Field := ⟨0x9128 + 0x40 * i, 16, 16⟩
abbrev ISL.SCCNT.OC_CNT (i : Nat) : Field := ⟨0x9128 + 0x40 * i, 0, 16⟩
abbrev ISL.EDGES.ON_CNT (i : Nat) : Field := ⟨0x912C + 0x40 * i, 16, 16⟩
abbrev ISL.EDGES.OFF_CNT (i : Nat) : Field := ⟨0x912C + 0x40 * i, 0, 16⟩
abbrev ISL.KSNS.KSNS (i : Nat) : Field := ⟨0x9130 + 0x40 * i, 0, 24⟩

/-! ### OLP (spec/08_outer_loops.md) -/

abbrev OLP.P_CAND.VALUE (i : Nat) : Field := ⟨0xC000 + 0x4 * i, 0, 32⟩
abbrev OLP.P_CAP.VALUE : Field := ⟨0xC020, 0, 32⟩
abbrev OLP.I_LIM.VALUE : Field := ⟨0xC024, 0, 32⟩
abbrev OLP.Q_REF.VALUE : Field := ⟨0xC028, 0, 32⟩
abbrev OLP.Q_LIM.VALUE : Field := ⟨0xC02C, 0, 32⟩
abbrev OLP.Z.VALUE : Field := ⟨0xC030, 0, 32⟩
abbrev OLP.FC.VALUE : Field := ⟨0xC034, 0, 32⟩
abbrev OLP.FEED_VREF.VALUE (i : Nat) : Field := ⟨0xC040 + 0x4 * i, 0, 32⟩
abbrev OLP.FEED_PLIM.VALUE (i : Nat) : Field := ⟨0xC060 + 0x4 * i, 0, 32⟩
abbrev OLP.FLAGS.FEED_PL : Field := ⟨0xC080, 8, 8⟩
abbrev OLP.FLAGS.FC_ACTIVE : Field := ⟨0xC080, 7, 1⟩
abbrev OLP.FLAGS.THERMAL : Field := ⟨0xC080, 6, 1⟩
abbrev OLP.FLAGS.FW_ACTIVE : Field := ⟨0xC080, 5, 1⟩
abbrev OLP.FLAGS.V_LOCAL : Field := ⟨0xC080, 4, 1⟩
abbrev OLP.FLAGS.AT_ILIM : Field := ⟨0xC080, 3, 1⟩
abbrev OLP.FLAGS.Q_LIMITED : Field := ⟨0xC080, 2, 1⟩
abbrev OLP.FLAGS.DC_LIMITED : Field := ⟨0xC080, 1, 1⟩
abbrev OLP.FLAGS.SP_CLAMP : Field := ⟨0xC080, 0, 1⟩
abbrev OLP.SCRIPT_VAL.VALUE (i : Nat) : Field := ⟨0xC400 + 0x4 * i, 0, 32⟩
abbrev OLP.WIN.CHANGES : Field := ⟨0xC800, 16, 16⟩
abbrev OLP.WIN.P_WIN : Field := ⟨0xC800, 0, 3⟩

/-! ### FED (spec/09_feeds_and_tracking.md) -/

abbrev FED.CTRL.POS_BASE : Field := ⟨0xD000, 16, 16⟩
abbrev FED.CTRL.REINTERLEAVE : Field := ⟨0xD000, 8, 1⟩
abbrev FED.CTRL.SWEEP_EN : Field := ⟨0xD000, 1, 1⟩
abbrev FED.CTRL.RC_EN : Field := ⟨0xD000, 0, 1⟩
abbrev FED.STATUS.RUNNING : Field := ⟨0xD004, 16, 8⟩
abbrev FED.STATUS.SWEEP_FEED : Field := ⟨0xD004, 8, 4⟩
abbrev FED.STATUS.SCHED_UNSYNC : Field := ⟨0xD004, 2, 1⟩
abbrev FED.STATUS.SWEEP_SKIP : Field := ⟨0xD004, 1, 1⟩
abbrev FED.STATUS.CFG_ERR : Field := ⟨0xD004, 0, 1⟩
abbrev FED.SWEEP.GAIN_THR : Field := ⟨0xD008, 24, 8⟩
abbrev FED.SWEEP.SPAN_DN : Field := ⟨0xD008, 8, 8⟩
abbrev FED.SWEEP.SPAN_UP : Field := ⟨0xD008, 0, 8⟩
abbrev FED.SWEEP_SCHED.INT : Field := ⟨0xD00C, 16, 16⟩
abbrev FED.SWEEP_SCHED.SLOT : Field := ⟨0xD00C, 0, 16⟩
abbrev FED.CFG.VSRC (i : Nat) : Field := ⟨0xD100 + 0x40 * i, 16, 6⟩
abbrev FED.CFG.MODE (i : Nat) : Field := ⟨0xD100 + 0x40 * i, 8, 2⟩
abbrev FED.CFG.BIDIR (i : Nat) : Field := ⟨0xD100 + 0x40 * i, 1, 1⟩
abbrev FED.CFG.SWEEP_EN (i : Nat) : Field := ⟨0xD100 + 0x40 * i, 0, 1⟩
abbrev FED.START.V_START (i : Nat) : Field := ⟨0xD104 + 0x40 * i, 16, 16⟩
abbrev FED.START.T_START (i : Nat) : Field := ⟨0xD104 + 0x40 * i, 8, 8⟩
abbrev FED.START.K_OC (i : Nat) : Field := ⟨0xD104 + 0x40 * i, 0, 8⟩
abbrev FED.STOP.P_STOP (i : Nat) : Field := ⟨0xD108 + 0x40 * i, 16, 16⟩
abbrev FED.STOP.T_STOP (i : Nat) : Field := ⟨0xD108 + 0x40 * i, 8, 8⟩
abbrev FED.STOP.RETRY_MAX (i : Nat) : Field := ⟨0xD108 + 0x40 * i, 0, 4⟩
abbrev FED.RC.RC_WIN (i : Nat) : Field := ⟨0xD10C + 0x40 * i, 24, 8⟩
abbrev FED.RC.RC_DB (i : Nat) : Field := ⟨0xD10C + 0x40 * i, 16, 8⟩
abbrev FED.RC.RC_GAIN (i : Nat) : Field := ⟨0xD10C + 0x40 * i, 8, 8⟩
abbrev FED.RC.RC_RATE (i : Nat) : Field := ⟨0xD10C + 0x40 * i, 0, 8⟩
abbrev FED.LIM.V_MIN (i : Nat) : Field := ⟨0xD110 + 0x40 * i, 16, 16⟩
abbrev FED.LIM.BOOST_MARGIN (i : Nat) : Field := ⟨0xD110 + 0x40 * i, 8, 8⟩
abbrev FED.LIM.RC_VMIN (i : Nat) : Field := ⟨0xD110 + 0x40 * i, 0, 8⟩
abbrev FED.FIX.VFIX (i : Nat) : Field := ⟨0xD114 + 0x40 * i, 16, 16⟩
abbrev FED.FIX.FIX_RATE (i : Nat) : Field := ⟨0xD114 + 0x40 * i, 8, 8⟩
abbrev FED.FIX.FIX_WD (i : Nat) : Field := ⟨0xD114 + 0x40 * i, 0, 8⟩
abbrev FED.FIX_LIM.IDIS (i : Nat) : Field := ⟨0xD118 + 0x40 * i, 16, 16⟩
abbrev FED.FIX_LIM.ICHG (i : Nat) : Field := ⟨0xD118 + 0x40 * i, 0, 16⟩
abbrev FED.STATE.RETRIES (i : Nat) : Field := ⟨0xD11C + 0x40 * i, 24, 8⟩
abbrev FED.STATE.STOP_REQ (i : Nat) : Field := ⟨0xD11C + 0x40 * i, 19, 1⟩
abbrev FED.STATE.LIMITED (i : Nat) : Field := ⟨0xD11C + 0x40 * i, 18, 1⟩
abbrev FED.STATE.WEAK (i : Nat) : Field := ⟨0xD11C + 0x40 * i, 17, 1⟩
abbrev FED.STATE.SWEEPING (i : Nat) : Field := ⟨0xD11C + 0x40 * i, 16, 1⟩
abbrev FED.STATE.CLASS (i : Nat) : Field := ⟨0xD11C + 0x40 * i, 8, 3⟩
abbrev FED.STATE.STATE (i : Nat) : Field := ⟨0xD11C + 0x40 * i, 0, 3⟩
abbrev FED.VTRACK.VALUE (i : Nat) : Field := ⟨0xD120 + 0x40 * i, 0, 32⟩
abbrev FED.SLOPE.VALUE (i : Nat) : Field := ⟨0xD124 + 0x40 * i, 0, 32⟩
abbrev FED.PWR.VALUE (i : Nat) : Field := ⟨0xD128 + 0x40 * i, 0, 32⟩
abbrev FED.SWEEP_RES.V_G (i : Nat) : Field := ⟨0xD12C + 0x40 * i, 16, 16⟩
abbrev FED.SWEEP_RES.P_G (i : Nat) : Field := ⟨0xD12C + 0x40 * i, 0, 16⟩
abbrev FED.CNT.MOVES (i : Nat) : Field := ⟨0xD130 + 0x40 * i, 16, 16⟩
abbrev FED.CNT.SWEEPS (i : Nat) : Field := ⟨0xD130 + 0x40 * i, 0, 16⟩
abbrev FED.EVT.FAULTS (i : Nat) : Field := ⟨0xD134 + 0x40 * i, 16, 16⟩
abbrev FED.EVT.FIX_WD (i : Nat) : Field := ⟨0xD134 + 0x40 * i, 6, 1⟩
abbrev FED.EVT.SWEEP_ABORT (i : Nat) : Field := ⟨0xD134 + 0x40 * i, 5, 1⟩
abbrev FED.EVT.MEAS_LOST (i : Nat) : Field := ⟨0xD134 + 0x40 * i, 4, 1⟩
abbrev FED.EVT.REVERSE (i : Nat) : Field := ⟨0xD134 + 0x40 * i, 3, 1⟩
abbrev FED.EVT.OVERVOLT (i : Nat) : Field := ⟨0xD134 + 0x40 * i, 2, 1⟩
abbrev FED.EVT.WICK (i : Nat) : Field := ⟨0xD134 + 0x40 * i, 1, 1⟩
abbrev FED.EVT.SNUFFER (i : Nat) : Field := ⟨0xD134 + 0x40 * i, 0, 1⟩
abbrev FED.VREF.VALUE (i : Nat) : Field := ⟨0xD138 + 0x40 * i, 0, 32⟩
abbrev FED.PLIM.VALUE (i : Nat) : Field := ⟨0xD13C + 0x40 * i, 0, 32⟩

/-! ### FRT (spec/10_ride_through.md) -/

abbrev FRT.STATUS.EXIT_CAUSE : Field := ⟨0xE000, 20, 3⟩
abbrev FRT.STATUS.CFG_ERR : Field := ⟨0xE000, 18, 1⟩
abbrev FRT.STATUS.ENV_EXIT : Field := ⟨0xE000, 17, 1⟩
abbrev FRT.STATUS.ENTRY : Field := ⟨0xE000, 16, 1⟩
abbrev FRT.STATUS.CAUSE : Field := ⟨0xE000, 8, 4⟩
abbrev FRT.STATUS.FEED_RED : Field := ⟨0xE000, 5, 1⟩
abbrev FRT.STATUS.DUMP_ACT : Field := ⟨0xE000, 4, 1⟩
abbrev FRT.STATUS.ZV : Field := ⟨0xE000, 3, 1⟩
abbrev FRT.STATUS.JUMP_HOLD : Field := ⟨0xE000, 2, 1⟩
abbrev FRT.STATUS.STATE : Field := ⟨0xE000, 0, 2⟩
abbrev FRT.BAND.OV_THR : Field := ⟨0xE004, 16, 16⟩
abbrev FRT.BAND.UV_THR : Field := ⟨0xE004, 0, 16⟩
abbrev FRT.DET.V2_THR : Field := ⟨0xE008, 24, 8⟩
abbrev FRT.DET.EXIT_T : Field := ⟨0xE008, 16, 8⟩
abbrev FRT.DET.FILT : Field := ⟨0xE008, 8, 6⟩
abbrev FRT.DET.HYST : Field := ⟨0xE008, 0, 8⟩
abbrev FRT.INJ.K : Field := ⟨0xE00C, 24, 8⟩
abbrev FRT.INJ.K2 : Field := ⟨0xE00C, 16, 8⟩
abbrev FRT.INJ.DUMP_FRT : Field := ⟨0xE00C, 7, 1⟩
abbrev FRT.INJ.V_REF_SEL : Field := ⟨0xE00C, 6, 1⟩
abbrev FRT.INJ.NEG_EN : Field := ⟨0xE00C, 5, 1⟩
abbrev FRT.INJ.PRIO : Field := ⟨0xE00C, 4, 1⟩
abbrev FRT.INJ.P_MODE : Field := ⟨0xE00C, 2, 2⟩
abbrev FRT.INJ.ZV_MODE : Field := ⟨0xE00C, 1, 1⟩
abbrev FRT.ILIM_F.I2_MAX : Field := ⟨0xE010, 16, 16⟩
abbrev FRT.ILIM_F.IQ_MAX : Field := ⟨0xE010, 0, 16⟩
abbrev FRT.REC.REC_MARGIN : Field := ⟨0xE014, 16, 16⟩
abbrev FRT.REC.REC_RATE : Field := ⟨0xE014, 0, 16⟩
abbrev FRT.DUMP.V_ENG : Field := ⟨0xE018, 16, 16⟩
abbrev FRT.DUMP.V_REL : Field := ⟨0xE018, 0, 16⟩
abbrev FRT.FEED.V_ZERO : Field := ⟨0xE01C, 16, 16⟩
abbrev FRT.FEED.V_THR : Field := ⟨0xE01C, 0, 16⟩
abbrev FRT.ZV.ZV_MAX : Field := ⟨0xE020, 16, 16⟩
abbrev FRT.ZV.ZV_THR : Field := ⟨0xE020, 0, 16⟩
abbrev FRT.JUMP.JUMP_T : Field := ⟨0xE024, 16, 16⟩
abbrev FRT.JUMP.JUMP_MAX : Field := ⟨0xE024, 8, 8⟩
abbrev FRT.JUMP.JUMP_FLT : Field := ⟨0xE024, 0, 8⟩
abbrev FRT.REP.REP_WIN : Field := ⟨0xE028, 16, 16⟩
abbrev FRT.REP.REP_N : Field := ⟨0xE028, 0, 4⟩
abbrev FRT.ENV_CFG.OV_N : Field := ⟨0xE02C, 16, 5⟩
abbrev FRT.ENV_CFG.UV_N : Field := ⟨0xE02C, 8, 5⟩
abbrev FRT.ENV_CFG.ENV_FILT : Field := ⟨0xE02C, 4, 4⟩
abbrev FRT.ENV_CFG.EN : Field := ⟨0xE02C, 0, 1⟩
abbrev FRT.I1D.VALUE : Field := ⟨0xE030, 0, 32⟩
abbrev FRT.I1Q.VALUE : Field := ⟨0xE034, 0, 32⟩
abbrev FRT.I2D.VALUE : Field := ⟨0xE038, 0, 32⟩
abbrev FRT.I2Q.VALUE : Field := ⟨0xE03C, 0, 32⟩
abbrev FRT.V_PRE.VALUE : Field := ⟨0xE040, 0, 32⟩
abbrev FRT.REC_CAP.VALUE : Field := ⟨0xE044, 0, 32⟩
abbrev FRT.FEED_SCALE.VALUE : Field := ⟨0xE048, 0, 32⟩
abbrev FRT.T_EXC.TAI_NS : Field := ⟨0xE04C, 0, 64⟩
abbrev FRT.COUNT.ENTRIES : Field := ⟨0xE054, 16, 16⟩
abbrev FRT.COUNT.EXITS : Field := ⟨0xE054, 0, 16⟩
abbrev FRT.UV_PT.T_MS (i : Nat) : Field := ⟨0xE100 + 0x4 * i, 16, 16⟩
abbrev FRT.UV_PT.V (i : Nat) : Field := ⟨0xE100 + 0x4 * i, 0, 16⟩
abbrev FRT.OV_PT.T_MS (i : Nat) : Field := ⟨0xE140 + 0x4 * i, 16, 16⟩
abbrev FRT.OV_PT.V (i : Nat) : Field := ⟨0xE140 + 0x4 * i, 0, 16⟩

/-! ### ISD (spec/11_islanding.md) -/

abbrev ISD.STATUS.PASS_WIN : Field := ⟨0xF000, 16, 7⟩
abbrev ISD.STATUS.CFG_ERR : Field := ⟨0xF000, 12, 1⟩
abbrev ISD.STATUS.DISAGREE : Field := ⟨0xF000, 11, 1⟩
abbrev ISD.STATUS.DEC_ACT : Field := ⟨0xF000, 10, 1⟩
abbrev ISD.STATUS.DEC_PASS : Field := ⟨0xF000, 9, 1⟩
abbrev ISD.STATUS.DEC_TOPO : Field := ⟨0xF000, 8, 1⟩
abbrev ISD.STATUS.ISLAND : Field := ⟨0xF000, 5, 1⟩
abbrev ISD.STATUS.RECON_OK : Field := ⟨0xF000, 4, 1⟩
abbrev ISD.STATUS.PROBING : Field := ⟨0xF000, 3, 1⟩
abbrev ISD.STATUS.Z_VALID : Field := ⟨0xF000, 2, 1⟩
abbrev ISD.STATUS.TOPO_DEGRADED : Field := ⟨0xF000, 1, 1⟩
abbrev ISD.STATUS.TIED : Field := ⟨0xF000, 0, 1⟩
abbrev ISD.CTRL.PCC : Field := ⟨0xF004, 8, 6⟩
abbrev ISD.CTRL.ACT_EN : Field := ⟨0xF004, 2, 1⟩
abbrev ISD.CTRL.PASS_EN : Field := ⟨0xF004, 1, 1⟩
abbrev ISD.CTRL.TOPO_EN : Field := ⟨0xF004, 0, 1⟩
abbrev ISD.TOPO_CFG.TOPO_FILT : Field := ⟨0xF008, 16, 8⟩
abbrev ISD.TOPO_CFG.SUPV_HOLD : Field := ⟨0xF008, 0, 16⟩
abbrev ISD.P_FREQ.OF_THR : Field := ⟨0xF010, 16, 16⟩
abbrev ISD.P_FREQ.UF_THR : Field := ⟨0xF010, 0, 16⟩
abbrev ISD.P_VOLT.OV_THR : Field := ⟨0xF014, 16, 16⟩
abbrev ISD.P_VOLT.UV_THR : Field := ⟨0xF014, 0, 16⟩
abbrev ISD.P_MISC.ROCOF_THR : Field := ⟨0xF018, 24, 8⟩
abbrev ISD.P_MISC.VS_THR : Field := ⟨0xF018, 16, 8⟩
abbrev ISD.P_MISC.UNB_THR : Field := ⟨0xF018, 8, 8⟩
abbrev ISD.P_TIME.F_T : Field := ⟨0xF01C, 24, 8⟩
abbrev ISD.P_TIME.V_T : Field := ⟨0xF01C, 16, 8⟩
abbrev ISD.P_TIME.R_T : Field := ⟨0xF01C, 8, 8⟩
abbrev ISD.P_TIME.U_T : Field := ⟨0xF01C, 0, 8⟩
abbrev ISD.P_ACT.ACT : Field := ⟨0xF020, 0, 14⟩
abbrev ISD.PROBE.CODE : Field := ⟨0xF030, 24, 5⟩
abbrev ISD.PROBE.RATIO : Field := ⟨0xF030, 16, 7⟩
abbrev ISD.PROBE.LEVEL : Field := ⟨0xF030, 8, 8⟩
abbrev ISD.PROBE.EN : Field := ⟨0xF030, 0, 1⟩
abbrev ISD.ACT_CFG.Z_FILT : Field := ⟨0xF034, 16, 4⟩
abbrev ISD.ACT_CFG.Z_ISL : Field := ⟨0xF034, 0, 16⟩
abbrev ISD.Z_R.VALUE : Field := ⟨0xF038, 0, 32⟩
abbrev ISD.Z_X.VALUE : Field := ⟨0xF03C, 0, 32⟩
abbrev ISD.SCR.VALUE : Field := ⟨0xF040, 0, 32⟩
abbrev ISD.Z_ACT.VALUE : Field := ⟨0xF044, 0, 32⟩
abbrev ISD.RECON_F.HI : Field := ⟨0xF050, 16, 16⟩
abbrev ISD.RECON_F.LO : Field := ⟨0xF050, 0, 16⟩
abbrev ISD.RECON_V.HI : Field := ⟨0xF054, 16, 16⟩
abbrev ISD.RECON_V.LO : Field := ⟨0xF054, 0, 16⟩
abbrev ISD.RECON_T.LEFT : Field := ⟨0xF058, 16, 16⟩
abbrev ISD.RECON_T.DELAY : Field := ⟨0xF058, 0, 16⟩
abbrev ISD.COUNT.DECISIONS : Field := ⟨0xF05C, 16, 16⟩
abbrev ISD.COUNT.SUPV_LOSS : Field := ⟨0xF05C, 0, 16⟩
abbrev ISD.T_DEC.TAI_NS : Field := ⟨0xF060, 0, 64⟩
abbrev ISD.DEV.EN (i : Nat) : Field := ⟨0xF200 + 0x4 * i, 31, 1⟩
abbrev ISD.DEV.NODE_B (i : Nat) : Field := ⟨0xF200 + 0x4 * i, 24, 6⟩
abbrev ISD.DEV.NODE_A (i : Nat) : Field := ⟨0xF200 + 0x4 * i, 16, 6⟩
abbrev ISD.DEV.CTX (i : Nat) : Field := ⟨0xF200 + 0x4 * i, 8, 8⟩
abbrev ISD.DEV.MEMBER (i : Nat) : Field := ⟨0xF200 + 0x4 * i, 0, 8⟩
abbrev ISD.POS.WORD (i : Nat) : Field := ⟨0xF380 + 0x4 * i, 0, 32⟩
abbrev ISD.SUPV.WORD (i : Nat) : Field := ⟨0xF3A0 + 0x4 * i, 0, 32⟩
abbrev ISD.SRC.EN (i : Nat) : Field := ⟨0xF400 + 0x4 * i, 31, 1⟩
abbrev ISD.SRC.LIVE_EN (i : Nat) : Field := ⟨0xF400 + 0x4 * i, 30, 1⟩
abbrev ISD.SRC.NODE (i : Nat) : Field := ⟨0xF400 + 0x4 * i, 24, 6⟩
abbrev ISD.SRC.LIVE_Q (i : Nat) : Field := ⟨0xF400 + 0x4 * i, 16, 6⟩
abbrev ISD.SRC.LIVE_THR (i : Nat) : Field := ⟨0xF400 + 0x4 * i, 0, 10⟩

/-! ### CMP (spec/12_trip_network.md) -/

abbrev CMP.ALARM.CMP : Field := ⟨0xA000, 0, 24⟩
abbrev CMP.EVENT.CMP : Field := ⟨0xA004, 0, 24⟩
abbrev CMP.STATUS.COMP_UNRESOLVED : Field := ⟨0xA008, 31, 1⟩
abbrev CMP.STATUS.TEST_LATE : Field := ⟨0xA008, 30, 1⟩
abbrev CMP.STATUS.UNRES : Field := ⟨0xA008, 0, 24⟩
abbrev CMP.TEST.BUSY : Field := ⟨0xA00C, 31, 1⟩
abbrev CMP.TEST.FAIL : Field := ⟨0xA00C, 30, 1⟩
abbrev CMP.TEST.REFUSED : Field := ⟨0xA00C, 29, 1⟩
abbrev CMP.TEST.INT : Field := ⟨0xA00C, 16, 5⟩
abbrev CMP.TEST.GO : Field := ⟨0xA00C, 8, 1⟩
abbrev CMP.TEST.CH : Field := ⟨0xA00C, 0, 5⟩
abbrev CMP.TEST_FAIL.CMP : Field := ⟨0xA010, 0, 24⟩
abbrev CMP.CFG.PAIR (i : Nat) : Field := ⟨0xA100 + 0x10 * i, 16, 5⟩
abbrev CMP.CFG.HYST (i : Nat) : Field := ⟨0xA100 + 0x10 * i, 8, 6⟩
abbrev CMP.CFG.FILT (i : Nat) : Field := ⟨0xA100 + 0x10 * i, 4, 2⟩
abbrev CMP.CFG.MODE (i : Nat) : Field := ⟨0xA100 + 0x10 * i, 2, 2⟩
abbrev CMP.CFG.EN (i : Nat) : Field := ⟨0xA100 + 0x10 * i, 0, 1⟩
abbrev CMP.THR.HI (i : Nat) : Field := ⟨0xA104 + 0x10 * i, 16, 12⟩
abbrev CMP.THR.LO (i : Nat) : Field := ⟨0xA104 + 0x10 * i, 0, 12⟩
abbrev CMP.CNT.TESTS (i : Nat) : Field := ⟨0xA108 + 0x10 * i, 16, 16⟩
abbrev CMP.CNT.ALARMS (i : Nat) : Field := ⟨0xA108 + 0x10 * i, 0, 16⟩

/-! ### TRP (spec/12_trip_network.md) -/

abbrev TRP.TGT.LATCHED : Field := ⟨0xB000, 16, 11⟩
abbrev TRP.TGT.TRIPPED : Field := ⟨0xB000, 0, 11⟩
abbrev TRP.SRC_LO.SRC : Field := ⟨0xB004, 0, 32⟩
abbrev TRP.SRC_HI.SRC : Field := ⟨0xB008, 0, 8⟩
abbrev TRP.LATCH_LO.SRC : Field := ⟨0xB00C, 0, 32⟩
abbrev TRP.LATCH_HI.SRC : Field := ⟨0xB010, 0, 8⟩
abbrev TRP.FIRST.VALID : Field := ⟨0xB014, 31, 1⟩
abbrev TRP.FIRST.SRC : Field := ⟨0xB014, 0, 6⟩
abbrev TRP.FIRST_TIME.TAI_NS : Field := ⟨0xB018, 0, 64⟩
abbrev TRP.HARDOFF.BRK_T : Field := ⟨0xB020, 16, 6⟩
abbrev TRP.HARDOFF.INNER_DLY : Field := ⟨0xB020, 0, 6⟩
abbrev TRP.MAP.LATCH (i : Nat) : Field := ⟨0xB100 + 0x4 * i, 12, 1⟩
abbrev TRP.MAP.SOFT (i : Nat) : Field := ⟨0xB100 + 0x4 * i, 11, 1⟩
abbrev TRP.MAP.TGT (i : Nat) : Field := ⟨0xB100 + 0x4 * i, 0, 11⟩
abbrev TRP.DUMP_E.E_MAX : Field := ⟨0xB200, 16, 16⟩
abbrev TRP.DUMP_E.TAU : Field := ⟨0xB200, 0, 16⟩
abbrev TRP.DUMP_R.P_DIS : Field := ⟨0xB204, 16, 16⟩
abbrev TRP.DUMP_R.R_DUMP : Field := ⟨0xB204, 0, 16⟩
abbrev TRP.DIS.DIS_T : Field := ⟨0xB208, 16, 8⟩
abbrev TRP.DIS.C_HALF : Field := ⟨0xB208, 0, 16⟩
abbrev TRP.SC_LOCK.SC_WIN : Field := ⟨0xB20C, 16, 16⟩
abbrev TRP.SC_LOCK.SC_N : Field := ⟨0xB20C, 0, 4⟩
abbrev TRP.I2T_CFG.I2T_MAX : Field := ⟨0xB210, 16, 16⟩
abbrev TRP.I2T_CFG.I_SC : Field := ⟨0xB210, 0, 16⟩
abbrev TRP.FC.GOV_MASK : Field := ⟨0xB214, 16, 3⟩
abbrev TRP.FC.FC_LIM : Field := ⟨0xB214, 0, 16⟩
abbrev TRP.GOV_STAT.DIS_BLOCKED : Field := ⟨0xB218, 8, 1⟩
abbrev TRP.GOV_STAT.DIS_LATE : Field := ⟨0xB218, 7, 1⟩
abbrev TRP.GOV_STAT.DIS_DONE : Field := ⟨0xB218, 6, 1⟩
abbrev TRP.GOV_STAT.DIS_RUN : Field := ⟨0xB218, 5, 1⟩
abbrev TRP.GOV_STAT.LOCK_DUMP : Field := ⟨0xB218, 4, 1⟩
abbrev TRP.GOV_STAT.LOCK_GRID : Field := ⟨0xB218, 3, 1⟩
abbrev TRP.GOV_STAT.REFUSED : Field := ⟨0xB218, 2, 1⟩
abbrev TRP.GOV_STAT.GRANT_LO : Field := ⟨0xB218, 1, 1⟩
abbrev TRP.GOV_STAT.GRANT_UP : Field := ⟨0xB218, 0, 1⟩
abbrev TRP.E_UP.VALUE : Field := ⟨0xB21C, 0, 32⟩
abbrev TRP.E_LO.VALUE : Field := ⟨0xB220, 0, 32⟩
abbrev TRP.E_REM.VALUE : Field := ⟨0xB224, 0, 32⟩
abbrev TRP.I2T.WIN_CNT (i : Nat) : Field := ⟨0xB240 + 0x4 * i, 24, 8⟩
abbrev TRP.I2T.I2T (i : Nat) : Field := ⟨0xB240 + 0x4 * i, 0, 24⟩
abbrev TRP.PROF_ID.VALUE : Field := ⟨0xB280, 0, 32⟩
abbrev TRP.PROF_VER.VALUE : Field := ⟨0xB284, 0, 32⟩
abbrev TRP.PROF_STAT.CHECK : Field := ⟨0xB288, 8, 8⟩
abbrev TRP.PROF_STAT.CFG_ERR : Field := ⟨0xB288, 2, 1⟩
abbrev TRP.PROF_STAT.PROF_BAD : Field := ⟨0xB288, 1, 1⟩
abbrev TRP.PROF_STAT.SEALED : Field := ⟨0xB288, 0, 1⟩

/-! ### SYS (spec/13_operating_states.md) -/

abbrev SYS.STATE.REQ : Field := ⟨0x10, 8, 4⟩
abbrev SYS.STATE.PREV : Field := ⟨0x10, 4, 4⟩
abbrev SYS.STATE.CODE : Field := ⟨0x10, 0, 4⟩
abbrev SYS.SEQ.MATCH : Field := ⟨0x14, 24, 8⟩
abbrev SYS.SEQ.PCH_T : Field := ⟨0x14, 16, 8⟩
abbrev SYS.SEQ.DIS_HALT : Field := ⟨0x14, 13, 1⟩
abbrev SYS.SEQ.DIS_SB : Field := ⟨0x14, 12, 1⟩
abbrev SYS.SEQ.PCH_V : Field := ⟨0x14, 0, 10⟩
abbrev SYS.SEQ_T.STOP_T : Field := ⟨0x18, 16, 16⟩
abbrev SYS.SEQ_T.BRK_CT : Field := ⟨0x18, 8, 8⟩
abbrev SYS.SEQ_T.DCD_CT : Field := ⟨0x18, 0, 8⟩
abbrev SYS.HOLD.LEFT : Field := ⟨0x1C, 16, 8⟩
abbrev SYS.HOLD.ACTIVE : Field := ⟨0x1C, 8, 2⟩
abbrev SYS.HOLD.TIME : Field := ⟨0x1C, 0, 7⟩
abbrev SYS.PL_CFG.TRIP_WIN : Field := ⟨0x20, 16, 16⟩
abbrev SYS.PL_CFG.TRIP_N : Field := ⟨0x20, 0, 4⟩
abbrev SYS.CAUSE.HALT : Field := ⟨0x24, 8, 4⟩
abbrev SYS.CAUSE.PL : Field := ⟨0x24, 0, 6⟩
abbrev SYS.SEQ_STAT.GPIO_ERR : Field := ⟨0x28, 6, 1⟩
abbrev SYS.SEQ_STAT.REQ_REFUSED : Field := ⟨0x28, 5, 1⟩
abbrev SYS.SEQ_STAT.STOP_TIMEOUT : Field := ⟨0x28, 4, 1⟩
abbrev SYS.SEQ_STAT.MATCH_FAIL : Field := ⟨0x28, 3, 1⟩
abbrev SYS.SEQ_STAT.BRK_FAIL : Field := ⟨0x28, 2, 1⟩
abbrev SYS.SEQ_STAT.DCD_FAIL : Field := ⟨0x28, 1, 1⟩
abbrev SYS.SEQ_STAT.PCH_FAIL : Field := ⟨0x28, 0, 1⟩
abbrev SYS.AUXIO.PCH_AUX : Field := ⟨0x2C, 10, 1⟩
abbrev SYS.AUXIO.DCD_AUX : Field := ⟨0x2C, 9, 1⟩
abbrev SYS.AUXIO.BRK_AUX : Field := ⟨0x2C, 8, 1⟩
abbrev SYS.AUXIO.PCH_CLOSE : Field := ⟨0x2C, 3, 1⟩
abbrev SYS.AUXIO.DCD_OPEN : Field := ⟨0x2C, 2, 1⟩
abbrev SYS.AUXIO.BRK_OPEN : Field := ⟨0x2C, 1, 1⟩
abbrev SYS.AUXIO.BRK_CLOSE : Field := ⟨0x2C, 0, 1⟩
abbrev SYS.RAT_VLL.VLL : Field := ⟨0x30, 0, 20⟩
abbrev SYS.RAT_S.F60 : Field := ⟨0x34, 16, 1⟩
abbrev SYS.RAT_S.S : Field := ⟨0x34, 0, 16⟩
abbrev SYS.RAT_DC.VDC : Field := ⟨0x38, 0, 16⟩
abbrev SYS.RAT_PF.PF (i : Nat) : Field := ⟨0x40 + 0x4 * i, 0, 11⟩
abbrev SYS.GPIO_DIR.OE : Field := ⟨0x60, 0, 16⟩
abbrev SYS.GPIO_OUT.LEVEL : Field := ⟨0x64, 0, 16⟩
abbrev SYS.GPIO_IN.LEVEL : Field := ⟨0x68, 0, 16⟩
abbrev SYS.GPIO_PULL.PULL : Field := ⟨0x6C, 0, 32⟩
abbrev SYS.ID.PART : Field := ⟨0x0, 0, 32⟩
abbrev SYS.STEP.LETTER : Field := ⟨0x4, 8, 8⟩
abbrev SYS.STEP.DIGIT : Field := ⟨0x4, 0, 8⟩
abbrev SYS.SERIAL.SERIAL : Field := ⟨0x8, 0, 64⟩

/-! ### MTR (spec/14_metering_and_quality.md) -/

abbrev MTR.CTRL.WIRING : Field := ⟨0x10000, 1, 1⟩
abbrev MTR.CTRL.ENABLE : Field := ⟨0x10000, 0, 1⟩
abbrev MTR.SRC.VC : Field := ⟨0x10004, 24, 6⟩
abbrev MTR.SRC.VB : Field := ⟨0x10004, 16, 6⟩
abbrev MTR.SRC.VA : Field := ⟨0x10004, 8, 6⟩
abbrev MTR.SRC.LL : Field := ⟨0x10004, 0, 1⟩
abbrev MTR.SRC_I.IN : Field := ⟨0x10008, 24, 6⟩
abbrev MTR.SRC_I.IC : Field := ⟨0x10008, 16, 6⟩
abbrev MTR.SRC_I.IB : Field := ⟨0x10008, 8, 6⟩
abbrev MTR.SRC_I.IA : Field := ⟨0x10008, 0, 6⟩
abbrev MTR.LATCH_CFG.BLOCK_EN : Field := ⟨0x1000C, 16, 1⟩
abbrev MTR.LATCH_CFG.N : Field := ⟨0x1000C, 0, 16⟩
abbrev MTR.STATUS.SIGN_PEND : Field := ⟨0x10010, 11, 1⟩
abbrev MTR.STATUS.RESTART : Field := ⟨0x10010, 10, 1⟩
abbrev MTR.STATUS.Q_VALID : Field := ⟨0x10010, 9, 1⟩
abbrev MTR.STATUS.SEALED_SRC : Field := ⟨0x10010, 8, 1⟩
abbrev MTR.STATUS.STORE_FAIL : Field := ⟨0x10010, 7, 1⟩
abbrev MTR.STATUS.SIGN_FAIL : Field := ⟨0x10010, 6, 1⟩
abbrev MTR.STATUS.BLOCK_GAP : Field := ⟨0x10010, 5, 1⟩
abbrev MTR.STATUS.BACKLOG : Field := ⟨0x10010, 4, 1⟩
abbrev MTR.STATUS.DISTURBED : Field := ⟨0x10010, 3, 1⟩
abbrev MTR.STATUS.FREERUN : Field := ⟨0x10010, 2, 1⟩
abbrev MTR.STATUS.SUBST : Field := ⟨0x10010, 1, 1⟩
abbrev MTR.STATUS.CFG_ERR : Field := ⟨0x10010, 0, 1⟩
abbrev MTR.SNAP.SEQ : Field := ⟨0x10014, 16, 16⟩
abbrev MTR.SNAP.GO : Field := ⟨0x10014, 0, 1⟩
abbrev MTR.ACC.MWH (i : Nat) : Field := ⟨0x10040 + 8 * i, 0, 64⟩
abbrev MTR.LATCH.MWH (i : Nat) : Field := ⟨0x100C0 + 8 * i, 0, 64⟩
abbrev MTR.LATCH_TIME.TAI_NS : Field := ⟨0x10110, 0, 64⟩
abbrev MTR.LATCH_CNT.VALUE : Field := ⟨0x10118, 0, 32⟩
abbrev MTR.BLOCK.VALUE : Field := ⟨0x1011C, 0, 32⟩
abbrev MTR.SUBST_MS.VALUE : Field := ⟨0x10120, 0, 32⟩
abbrev MTR.WH32.VALUE (i : Nat) : Field := ⟨0x10140 + 0x4 * i, 0, 32⟩
abbrev MTR.WRAP.VALUE (i : Nat) : Field := ⟨0x10180 + 0x4 * i, 0, 32⟩
abbrev MTR.P.VALUE : Field := ⟨0x10200, 0, 32⟩
abbrev MTR.Q1.VALUE : Field := ⟨0x10204, 0, 32⟩
abbrev MTR.S.VALUE : Field := ⟨0x10208, 0, 32⟩
abbrev MTR.PF.VALUE : Field := ⟨0x1020C, 0, 32⟩
abbrev MTR.EP_CFG.K (i : Nat) : Field := ⟨0x11000 + 0x4 * i, 16, 16⟩
abbrev MTR.EP_CFG.PW (i : Nat) : Field := ⟨0x11000 + 0x4 * i, 0, 8⟩
abbrev MTR.EP_CTRL.EN : Field := ⟨0x11008, 0, 8⟩
abbrev MTR.EP_STAT.LOST (i : Nat) : Field := ⟨0x11010 + 0x4 * i, 16, 16⟩
abbrev MTR.EP_STAT.PENDING (i : Nat) : Field := ⟨0x11010 + 0x4 * i, 0, 5⟩
abbrev MTR.EP_RES.MWH (i : Nat) : Field := ⟨0x11040 + 0x4 * i, 0, 32⟩

/-! ### PQE (spec/14_metering_and_quality.md) -/

abbrev PQE.CTRL.NEU_EN : Field := ⟨0x12000, 2, 1⟩
abbrev PQE.CTRL.WIN : Field := ⟨0x12000, 1, 1⟩
abbrev PQE.CTRL.ENABLE : Field := ⟨0x12000, 0, 1⟩
abbrev PQE.STATUS.WIN_CNT : Field := ⟨0x12004, 16, 16⟩
abbrev PQE.STATUS.SEQ_EVT : Field := ⟨0x12004, 10, 1⟩
abbrev PQE.STATUS.NEU_EVT : Field := ⟨0x12004, 9, 1⟩
abbrev PQE.STATUS.CFG_ERR : Field := ⟨0x12004, 8, 1⟩
abbrev PQE.STATUS.FLAGGED : Field := ⟨0x12004, 3, 1⟩
abbrev PQE.STATUS.NEU_MISSING : Field := ⟨0x12004, 2, 1⟩
abbrev PQE.STATUS.PHSEQ : Field := ⟨0x12004, 0, 2⟩
abbrev PQE.NEU_CFG.NEU_I : Field := ⟨0x12008, 16, 16⟩
abbrev PQE.NEU_CFG.NEU_V : Field := ⟨0x12008, 0, 16⟩
abbrev PQE.WIN_TIME.TAI_NS : Field := ⟨0x1200C, 0, 64⟩
abbrev PQE.SPEC_SEL.CH : Field := ⟨0x12014, 0, 4⟩
abbrev PQE.CH.CFG.EN (i : Nat) : Field := ⟨0x12100 + 0x10 * i, 31, 1⟩
abbrev PQE.CH.CFG.FUSED (i : Nat) : Field := ⟨0x12100 + 0x10 * i, 30, 1⟩
abbrev PQE.CH.CFG.SRC (i : Nat) : Field := ⟨0x12100 + 0x10 * i, 0, 6⟩
abbrev PQE.CH.RMS.VALUE (i : Nat) : Field := ⟨0x12104 + 0x10 * i, 0, 32⟩
abbrev PQE.CH.THD.VALUE (i : Nat) : Field := ⟨0x12108 + 0x10 * i, 0, 32⟩
abbrev PQE.CH.STAT.HMAX (i : Nat) : Field := ⟨0x1210C + 0x10 * i, 24, 8⟩
abbrev PQE.CH.STAT.INVALID (i : Nat) : Field := ⟨0x1210C + 0x10 * i, 3, 1⟩
abbrev PQE.CH.STAT.FREERUN (i : Nat) : Field := ⟨0x1210C + 0x10 * i, 2, 1⟩
abbrev PQE.CH.STAT.DISTURBED (i : Nat) : Field := ⟨0x1210C + 0x10 * i, 1, 1⟩
abbrev PQE.CH.STAT.FLAGGED (i : Nat) : Field := ⟨0x1210C + 0x10 * i, 0, 1⟩
abbrev PQE.SUPRA.PEAK.BAND (i : Nat) : Field := ⟨0x12200 + 0x10 * i, 0, 10⟩
abbrev PQE.SUPRA.PEAK_VAL.VALUE (i : Nat) : Field := ⟨0x12204 + 0x10 * i, 0, 32⟩
abbrev PQE.SUPRA.TOTAL.VALUE (i : Nat) : Field := ⟨0x12208 + 0x10 * i, 0, 32⟩
abbrev PQE.HARM.VALUE (i : Nat) : Field := ⟨0x13000 + 0x4 * i, 0, 32⟩
abbrev PQE.IHARM.VALUE (i : Nat) : Field := ⟨0x13200 + 0x4 * i, 0, 32⟩

/-! ### NET (spec/15_process_bus.md) -/

abbrev NET.CTRL.MODE : Field := ⟨0x14000, 4, 2⟩
abbrev NET.CTRL.PB_1000X : Field := ⟨0x14000, 3, 1⟩
abbrev NET.CTRL.PA_1000X : Field := ⟨0x14000, 2, 1⟩
abbrev NET.CTRL.PB_EN : Field := ⟨0x14000, 1, 1⟩
abbrev NET.CTRL.PA_EN : Field := ⟨0x14000, 0, 1⟩
abbrev NET.STATUS.IMG_BAD : Field := ⟨0x14004, 7, 1⟩
abbrev NET.STATUS.CFG_ERR : Field := ⟨0x14004, 6, 1⟩
abbrev NET.STATUS.PORT_LOST : Field := ⟨0x14004, 5, 1⟩
abbrev NET.STATUS.RING_OPEN : Field := ⟨0x14004, 4, 1⟩
abbrev NET.STATUS.MGMT_LINK : Field := ⟨0x14004, 2, 1⟩
abbrev NET.STATUS.PB_LINK : Field := ⟨0x14004, 1, 1⟩
abbrev NET.STATUS.PA_LINK : Field := ⟨0x14004, 0, 1⟩
abbrev NET.MAC_LO.MAC : Field := ⟨0x14008, 0, 32⟩
abbrev NET.MAC_HI.MAC : Field := ⟨0x1400C, 0, 16⟩
abbrev NET.PORT.RX.COUNT (i : Nat) : Field := ⟨0x14100 + 0x20 * i, 0, 32⟩
abbrev NET.PORT.RXERR.COUNT (i : Nat) : Field := ⟨0x14104 + 0x20 * i, 0, 32⟩
abbrev NET.PORT.DUP.COUNT (i : Nat) : Field := ⟨0x14108 + 0x20 * i, 0, 32⟩
abbrev NET.PORT.FWD.COUNT (i : Nat) : Field := ⟨0x1410C + 0x20 * i, 0, 32⟩
abbrev NET.PORT.TX.COUNT (i : Nat) : Field := ⟨0x14110 + 0x20 * i, 0, 32⟩

/-! ### PTP (spec/15_process_bus.md) -/

abbrev PTP.CTRL.HOLD_T : Field := ⟨0x15000, 16, 6⟩
abbrev PTP.CTRL.DOMAIN : Field := ⟨0x15000, 8, 7⟩
abbrev PTP.CTRL.TC_EN : Field := ⟨0x15000, 1, 1⟩
abbrev PTP.CTRL.EN : Field := ⟨0x15000, 0, 1⟩
abbrev PTP.STATUS.CFG_ERR : Field := ⟨0x15004, 10, 1⟩
abbrev PTP.STATUS.STEP : Field := ⟨0x15004, 9, 1⟩
abbrev PTP.STATUS.GM_CHANGE : Field := ⟨0x15004, 8, 1⟩
abbrev PTP.STATUS.PORT : Field := ⟨0x15004, 4, 1⟩
abbrev PTP.STATUS.TRACEABLE : Field := ⟨0x15004, 3, 1⟩
abbrev PTP.STATUS.STATE : Field := ⟨0x15004, 0, 3⟩
abbrev PTP.TIME.TAI_NS : Field := ⟨0x15008, 0, 64⟩
abbrev PTP.OFFSET.NS : Field := ⟨0x15010, 0, 32⟩
abbrev PTP.PDELAY.NS (i : Nat) : Field := ⟨0x15014 + 0x4 * i, 0, 32⟩
abbrev PTP.GM_ID.IDENTITY : Field := ⟨0x1501C, 0, 64⟩
abbrev PTP.GM_Q.STEPS : Field := ⟨0x15024, 24, 8⟩
abbrev PTP.GM_Q.FREQ_TRACE : Field := ⟨0x15024, 17, 1⟩
abbrev PTP.GM_Q.TIME_TRACE : Field := ⟨0x15024, 16, 1⟩
abbrev PTP.GM_Q.ACCURACY : Field := ⟨0x15024, 8, 8⟩
abbrev PTP.GM_Q.CLASS : Field := ⟨0x15024, 0, 8⟩

/-! ### STR (spec/15_process_bus.md) -/

abbrev STR.USED.GO_PUB : Field := ⟨0x16000, 24, 5⟩
abbrev STR.USED.GO_SUB : Field := ⟨0x16000, 16, 8⟩
abbrev STR.USED.SV_PUB : Field := ⟨0x16000, 8, 4⟩
abbrev STR.USED.SV_SUB : Field := ⟨0x16000, 0, 7⟩
abbrev STR.EVENT.TIME_ERR : Field := ⟨0x16004, 8, 1⟩
abbrev STR.EVENT.BOTH_LOST : Field := ⟨0x16004, 7, 1⟩
abbrev STR.EVENT.SEL_REJECT : Field := ⟨0x16004, 6, 1⟩
abbrev STR.EVENT.SWITCH : Field := ⟨0x16004, 5, 1⟩
abbrev STR.EVENT.DISAGREE : Field := ⟨0x16004, 4, 1⟩
abbrev STR.EVENT.SEQ_ERR : Field := ⟨0x16004, 3, 1⟩
abbrev STR.EVENT.AUTH_FAIL : Field := ⟨0x16004, 2, 1⟩
abbrev STR.EVENT.LATE : Field := ⟨0x16004, 1, 1⟩
abbrev STR.EVENT.SUPV_LOSS : Field := ⟨0x16004, 0, 1⟩
abbrev STR.SUPV.WORD (i : Nat) : Field := ⟨0x16010 + 0x4 * i, 0, 32⟩
abbrev STR.Q.CFG.EN (i : Nat) : Field := ⟨0x17000 + 0x10 * i, 31, 1⟩
abbrev STR.Q.CFG.CTRL (i : Nat) : Field := ⟨0x17000 + 0x10 * i, 30, 1⟩
abbrev STR.Q.CFG.KIND (i : Nat) : Field := ⟨0x17000 + 0x10 * i, 28, 2⟩
abbrev STR.Q.CFG.XCK (i : Nat) : Field := ⟨0x17000 + 0x10 * i, 14, 14⟩
abbrev STR.Q.CFG.PRI (i : Nat) : Field := ⟨0x17000 + 0x10 * i, 0, 14⟩
abbrev STR.Q.THR.HYST (i : Nat) : Field := ⟨0x17004 + 0x10 * i, 16, 16⟩
abbrev STR.Q.THR.THR (i : Nat) : Field := ⟨0x17004 + 0x10 * i, 0, 16⟩
abbrev STR.Q.STAT.AGE_US (i : Nat) : Field := ⟨0x17008 + 0x10 * i, 16, 16⟩
abbrev STR.Q.STAT.DISAGREE (i : Nat) : Field := ⟨0x17008 + 0x10 * i, 3, 1⟩
abbrev STR.Q.STAT.XCK_VALID (i : Nat) : Field := ⟨0x17008 + 0x10 * i, 2, 1⟩
abbrev STR.Q.STAT.PRI_VALID (i : Nat) : Field := ⟨0x17008 + 0x10 * i, 1, 1⟩
abbrev STR.Q.STAT.IN_USE (i : Nat) : Field := ⟨0x17008 + 0x10 * i, 0, 1⟩
abbrev STR.Q.DIFF.VALUE (i : Nat) : Field := ⟨0x1700C + 0x10 * i, 0, 32⟩

/-! ### CLK (spec/16_clock_synthesizer.md) -/

abbrev CLK.CTRL.ALIGN_GO : Field := ⟨0x1000, 9, 1⟩
abbrev CLK.CTRL.REVERT : Field := ⟨0x1000, 8, 1⟩
abbrev CLK.CTRL.PFD_M : Field := ⟨0x1000, 4, 2⟩
abbrev CLK.CTRL.SRC : Field := ⟨0x1000, 0, 2⟩
abbrev CLK.STATUS.CFG_ERR : Field := ⟨0x1004, 22, 1⟩
abbrev CLK.STATUS.ALIGN_LOST : Field := ⟨0x1004, 21, 1⟩
abbrev CLK.STATUS.RANGE : Field := ⟨0x1004, 20, 1⟩
abbrev CLK.STATUS.HOLD_EXP : Field := ⟨0x1004, 19, 1⟩
abbrev CLK.STATUS.XTAL_LOST : Field := ⟨0x1004, 18, 1⟩
abbrev CLK.STATUS.REF_LOST : Field := ⟨0x1004, 17, 1⟩
abbrev CLK.STATUS.UNLOCK : Field := ⟨0x1004, 16, 1⟩
abbrev CLK.STATUS.PFD_EFF : Field := ⟨0x1004, 8, 2⟩
abbrev CLK.STATUS.RELOCK_PEND : Field := ⟨0x1004, 7, 1⟩
abbrev CLK.STATUS.INPUT : Field := ⟨0x1004, 5, 2⟩
abbrev CLK.STATUS.PTP_HOLD : Field := ⟨0x1004, 4, 1⟩
abbrev CLK.STATUS.HOLDOVER : Field := ⟨0x1004, 3, 1⟩
abbrev CLK.STATUS.ALIGN_TRACE : Field := ⟨0x1004, 2, 1⟩
abbrev CLK.STATUS.ALIGNED : Field := ⟨0x1004, 1, 1⟩
abbrev CLK.STATUS.LOCKED : Field := ⟨0x1004, 0, 1⟩
abbrev CLK.FOFS.PPS : Field := ⟨0x1008, 0, 32⟩
abbrev CLK.TRIM.PPS : Field := ⟨0x100C, 0, 32⟩
abbrev CLK.HOLD.WAIT : Field := ⟨0x1010, 16, 10⟩
abbrev CLK.HOLD.T : Field := ⟨0x1010, 0, 10⟩
abbrev CLK.ALIGN.OFS : Field := ⟨0x1014, 0, 13⟩
abbrev CLK.PHASE_ERR.PS : Field := ⟨0x1018, 0, 32⟩
abbrev CLK.COUNT.RELOCKS : Field := ⟨0x101C, 16, 16⟩
abbrev CLK.COUNT.HOLDOVERS : Field := ⟨0x101C, 0, 16⟩
abbrev CLK.CKO.DIV (i : Nat) : Field := ⟨0x1020 + 0x4 * i, 16, 16⟩
abbrev CLK.CKO.FMT (i : Nat) : Field := ⟨0x1020 + 0x4 * i, 1, 2⟩
abbrev CLK.CKO.EN (i : Nat) : Field := ⟨0x1020 + 0x4 * i, 0, 1⟩

/-! ### GAF (spec/17_gaffer_and_memory.md) -/

abbrev GAF.CTRL.COMPAT : Field := ⟨0x2000, 0, 1⟩
abbrev GAF.STATUS.EXT_ERR : Field := ⟨0x2004, 2, 1⟩
abbrev GAF.STATUS.LOCK_BREAK : Field := ⟨0x2004, 1, 1⟩
abbrev GAF.STATUS.CFG_ERR : Field := ⟨0x2004, 0, 1⟩
abbrev GAF.RANK_LO.RANK0 : Field := ⟨0x2008, 0, 4⟩
abbrev GAF.RANK_LO.RANK1 : Field := ⟨0x2008, 4, 4⟩
abbrev GAF.RANK_LO.RANK2 : Field := ⟨0x2008, 8, 4⟩
abbrev GAF.RANK_LO.RANK3 : Field := ⟨0x2008, 12, 4⟩
abbrev GAF.RANK_LO.RANK4 : Field := ⟨0x2008, 16, 4⟩
abbrev GAF.RANK_LO.RANK5 : Field := ⟨0x2008, 20, 4⟩
abbrev GAF.RANK_LO.RANK6 : Field := ⟨0x2008, 24, 4⟩
abbrev GAF.RANK_LO.RANK7 : Field := ⟨0x2008, 28, 4⟩
abbrev GAF.RANK_HI.RANK8 : Field := ⟨0x200C, 0, 4⟩
abbrev GAF.RANK_HI.RANK9 : Field := ⟨0x200C, 4, 4⟩
abbrev GAF.RANK_HI.RANK10 : Field := ⟨0x200C, 8, 4⟩
abbrev GAF.RANK_HI.RANK11 : Field := ⟨0x200C, 12, 4⟩
abbrev GAF.RANK_HI.RANK12 : Field := ⟨0x200C, 16, 4⟩
abbrev GAF.STARVE.REQ : Field := ⟨0x2010, 0, 13⟩
abbrev GAF.CUT.REQ : Field := ⟨0x2014, 0, 13⟩
abbrev GAF.OWNER.EP : Field := ⟨0x2018, 16, 4⟩
abbrev GAF.OWNER.DP : Field := ⟨0x2018, 8, 4⟩
abbrev GAF.OWNER.SB : Field := ⟨0x2018, 0, 4⟩
abbrev GAF.EXT_WIN.BASE : Field := ⟨0x201C, 16, 16⟩
abbrev GAF.EXT_WIN.SIZE : Field := ⟨0x201C, 0, 16⟩
abbrev GAF.REQ.STARVE_LIM (i : Nat) : Field := ⟨0x2040 + 0x4 * i, 16, 16⟩
abbrev GAF.REQ.HOLD (i : Nat) : Field := ⟨0x2040 + 0x4 * i, 0, 16⟩
abbrev GAF.WAIT.MAX (i : Nat) : Field := ⟨0x2080 + 0x4 * i, 0, 16⟩

/-! ### MEM (spec/17_gaffer_and_memory.md) -/

abbrev MEM.CTRL.DRAM_SCRUB : Field := ⟨0x1A000, 1, 1⟩
abbrev MEM.CTRL.SRAM_SCRUB : Field := ⟨0x1A000, 0, 1⟩
abbrev MEM.STATUS.CFG_ERR : Field := ⟨0x1A004, 10, 1⟩
abbrev MEM.STATUS.ARCHIVE_LATE : Field := ⟨0x1A004, 9, 1⟩
abbrev MEM.STATUS.WEAR_LOW : Field := ⟨0x1A004, 8, 1⟩
abbrev MEM.STATUS.SPARE_LOW : Field := ⟨0x1A004, 7, 1⟩
abbrev MEM.STATUS.EMMC_ABSENT : Field := ⟨0x1A004, 6, 1⟩
abbrev MEM.STATUS.SCRUB_LATE : Field := ⟨0x1A004, 5, 1⟩
abbrev MEM.STATUS.RETRAIN : Field := ⟨0x1A004, 4, 1⟩
abbrev MEM.STATUS.DRAM_UE : Field := ⟨0x1A004, 3, 1⟩
abbrev MEM.STATUS.DRAM_CE : Field := ⟨0x1A004, 2, 1⟩
abbrev MEM.STATUS.SRAM_UE : Field := ⟨0x1A004, 1, 1⟩
abbrev MEM.STATUS.SRAM_CE : Field := ⟨0x1A004, 0, 1⟩
abbrev MEM.SRAM_CNT.UE : Field := ⟨0x1A008, 16, 16⟩
abbrev MEM.SRAM_CNT.CE : Field := ⟨0x1A008, 0, 16⟩
abbrev MEM.DRAM_CNT.UE : Field := ⟨0x1A00C, 16, 16⟩
abbrev MEM.DRAM_CNT.CE : Field := ⟨0x1A00C, 0, 16⟩
abbrev MEM.SRAM_ERR.VALUE : Field := ⟨0x1A010, 0, 32⟩
abbrev MEM.DRAM_ERR.VALUE : Field := ⟨0x1A014, 0, 32⟩
abbrev MEM.DRAM_REREAD.VALUE : Field := ⟨0x1A018, 0, 32⟩
abbrev MEM.SCRUB.DRAM_PASS : Field := ⟨0x1A01C, 16, 16⟩
abbrev MEM.SCRUB.SRAM_PASS : Field := ⟨0x1A01C, 0, 16⟩
abbrev MEM.EMMC_CFG.PE_RATED : Field := ⟨0x1A020, 16, 16⟩
abbrev MEM.EMMC_CFG.WEAR_THR : Field := ⟨0x1A020, 0, 7⟩
abbrev MEM.EMMC_STAT.ENDUR : Field := ⟨0x1A024, 24, 8⟩
abbrev MEM.EMMC_STAT.CAP : Field := ⟨0x1A024, 16, 8⟩
abbrev MEM.EMMC_STAT.SPARE : Field := ⟨0x1A024, 0, 16⟩
abbrev MEM.EMMC_CNT.REMAP : Field := ⟨0x1A028, 16, 16⟩
abbrev MEM.EMMC_CNT.REWRITE : Field := ⟨0x1A028, 0, 16⟩

/-! ### REL (spec/18_reels_and_dailies.md) -/

abbrev REL.STATUS.ARMED : Field := ⟨0x1B000, 16, 16⟩
abbrev REL.STATUS.REC_LOST : Field := ⟨0x1B000, 2, 1⟩
abbrev REL.STATUS.DAILIES_LATE : Field := ⟨0x1B000, 1, 1⟩
abbrev REL.LOAD.VALUE : Field := ⟨0x1B004, 0, 32⟩
abbrev REL.REC.VALUE : Field := ⟨0x1B008, 0, 32⟩
abbrev REL.DLY.VALUE : Field := ⟨0x1B00C, 0, 32⟩
abbrev REL.CFG.REC (i : Nat) : Field := ⟨0x1B100 + 0x20 * i, 28, 1⟩
abbrev REL.CFG.OVERWRITE (i : Nat) : Field := ⟨0x1B100 + 0x20 * i, 27, 1⟩
abbrev REL.CFG.RETRIG (i : Nat) : Field := ⟨0x1B100 + 0x20 * i, 26, 1⟩
abbrev REL.CFG.CLK (i : Nat) : Field := ⟨0x1B100 + 0x20 * i, 25, 1⟩
abbrev REL.CFG.KIND (i : Nat) : Field := ⟨0x1B100 + 0x20 * i, 24, 1⟩
abbrev REL.CFG.SINGLE (i : Nat) : Field := ⟨0x1B100 + 0x20 * i, 21, 1⟩
abbrev REL.CFG.NODES (i : Nat) : Field := ⟨0x1B100 + 0x20 * i, 16, 5⟩
abbrev REL.CFG.DECIM (i : Nat) : Field := ⟨0x1B100 + 0x20 * i, 0, 16⟩
abbrev REL.AREA.BASE (i : Nat) : Field := ⟨0x1B104 + 0x20 * i, 16, 16⟩
abbrev REL.AREA.SIZE (i : Nat) : Field := ⟨0x1B104 + 0x20 * i, 0, 16⟩
abbrev REL.PRE.VALUE (i : Nat) : Field := ⟨0x1B108 + 0x20 * i, 0, 32⟩
abbrev REL.POST.VALUE (i : Nat) : Field := ⟨0x1B10C + 0x20 * i, 0, 32⟩
abbrev REL.LEVEL.VALUE (i : Nat) : Field := ⟨0x1B114 + 0x20 * i, 0, 32⟩
abbrev REL.HYST.VALUE (i : Nat) : Field := ⟨0x1B118 + 0x20 * i, 0, 32⟩
abbrev REL.TRIG.NODE (i : Nat) : Field := ⟨0x1B110 + 0x20 * i, 8, 5⟩
abbrev REL.TRIG.DIR (i : Nat) : Field := ⟨0x1B110 + 0x20 * i, 4, 1⟩
abbrev REL.TRIG.EN (i : Nat) : Field := ⟨0x1B110 + 0x20 * i, 0, 4⟩
abbrev REL.STATUS.RECORDS (i : Nat) : Field := ⟨0x1B11C + 0x20 * i, 16, 16⟩
abbrev REL.STATUS.CAUSE (i : Nat) : Field := ⟨0x1B11C + 0x20 * i, 12, 4⟩
abbrev REL.STATUS.DROP (i : Nat) : Field := ⟨0x1B11C + 0x20 * i, 7, 1⟩
abbrev REL.STATUS.FULL (i : Nat) : Field := ⟨0x1B11C + 0x20 * i, 6, 1⟩
abbrev REL.STATUS.PRE_SHORT (i : Nat) : Field := ⟨0x1B11C + 0x20 * i, 5, 1⟩
abbrev REL.STATUS.IGNORED (i : Nat) : Field := ⟨0x1B11C + 0x20 * i, 4, 1⟩
abbrev REL.STATUS.STATE (i : Nat) : Field := ⟨0x1B11C + 0x20 * i, 0, 3⟩

/-! ### HOST (spec/19_cues.md) -/

abbrev HOST.STATUS.KEYED : Field := ⟨0x1F000, 24, 1⟩
abbrev HOST.STATUS.OUT_CNT : Field := ⟨0x1F000, 16, 8⟩
abbrev HOST.STATUS.AUTH_ERR : Field := ⟨0x1F000, 5, 1⟩
abbrev HOST.STATUS.IN_OVF : Field := ⟨0x1F000, 4, 1⟩
abbrev HOST.STATUS.IN_FREE : Field := ⟨0x1F000, 0, 3⟩
abbrev HOST.CFG.IRQ_POL : Field := ⟨0x1F004, 2, 1⟩
abbrev HOST.CFG.IRQ1_EN : Field := ⟨0x1F004, 1, 1⟩
abbrev HOST.CFG.IRQ0_EN : Field := ⟨0x1F004, 0, 1⟩
abbrev HOST.QUEUE.BUSY_CNT : Field := ⟨0x1F008, 20, 12⟩
abbrev HOST.QUEUE.HIGH : Field := ⟨0x1F008, 10, 10⟩
abbrev HOST.QUEUE.USED : Field := ⟨0x1F008, 0, 10⟩
abbrev HOST.AUTH_CNT.AUTH_FAIL : Field := ⟨0x1F00C, 16, 16⟩
abbrev HOST.AUTH_CNT.CRC_FAIL : Field := ⟨0x1F00C, 0, 16⟩
abbrev HOST.ACC_ERR.COUNT : Field := ⟨0x1F010, 16, 16⟩
abbrev HOST.ACC_ERR.KEYED_W : Field := ⟨0x1F010, 3, 1⟩
abbrev HOST.ACC_ERR.LATE : Field := ⟨0x1F010, 2, 1⟩
abbrev HOST.ACC_ERR.RANGE : Field := ⟨0x1F010, 1, 1⟩
abbrev HOST.ACC_ERR.ALIGN : Field := ⟨0x1F010, 0, 1⟩

/-! ### SEC (spec/20_security_and_continuity.md) -/

abbrev SEC.STATUS.ANCHOR : Field := ⟨0x1C000, 5, 1⟩
abbrev SEC.STATUS.VBAT_LOST : Field := ⟨0x1C000, 4, 1⟩
abbrev SEC.STATUS.TAMPER : Field := ⟨0x1C000, 3, 1⟩
abbrev SEC.STATUS.IDENTITY : Field := ⟨0x1C000, 2, 1⟩
abbrev SEC.STATUS.LIFECYCLE : Field := ⟨0x1C000, 0, 2⟩
abbrev SEC.BOOT.FALLBACK : Field := ⟨0x1C004, 2, 1⟩
abbrev SEC.BOOT.PREF : Field := ⟨0x1C004, 1, 1⟩
abbrev SEC.BOOT.BANK : Field := ⟨0x1C004, 0, 1⟩
abbrev SEC.VIOL.CAUSE : Field := ⟨0x1C008, 0, 4⟩
abbrev SEC.CNT.VALUE (i : Nat) : Field := ⟨0x1C010 + 0x4 * i, 0, 32⟩
abbrev SEC.RTC.TAI_NS : Field := ⟨0x1C020, 0, 64⟩

/-! ### LOG (spec/20_security_and_continuity.md) -/

abbrev LOG.STATUS.SEAL_PEND : Field := ⟨0x1D000, 1, 1⟩
abbrev LOG.STATUS.LOST_NOW : Field := ⟨0x1D000, 0, 1⟩
abbrev LOG.NEXT.INDEX : Field := ⟨0x1D004, 0, 64⟩
abbrev LOG.SPILLED.INDEX : Field := ⟨0x1D00C, 0, 64⟩
abbrev LOG.SEALED.VALUE : Field := ⟨0x1D014, 0, 32⟩
abbrev LOG.LOST.VALUE : Field := ⟨0x1D018, 0, 32⟩

/-! ### FLT (spec/21_faults_and_availability.md) -/

abbrev FLT.STATUS.PENDING : Field := ⟨0x1E000, 16, 9⟩
abbrev FLT.STATUS.CHK_FAIL : Field := ⟨0x1E000, 8, 1⟩
abbrev FLT.STATUS.LOST_NOW : Field := ⟨0x1E000, 1, 1⟩
abbrev FLT.STATUS.IRQ0 : Field := ⟨0x1E000, 0, 1⟩
abbrev FLT.INDEX.ACK : Field := ⟨0x1E004, 16, 16⟩
abbrev FLT.INDEX.NEXT : Field := ⟨0x1E004, 0, 16⟩
abbrev FLT.LAST.DETAIL : Field := ⟨0x1E008, 16, 16⟩
abbrev FLT.LAST.REACTION : Field := ⟨0x1E008, 8, 3⟩
abbrev FLT.LAST.CLASS : Field := ⟨0x1E008, 0, 8⟩
abbrev FLT.LOST.COUNT : Field := ⟨0x1E00C, 0, 32⟩
abbrev FLT.AVAIL.OPEN : Field := ⟨0x1E010, 8, 1⟩
abbrev FLT.AVAIL.COND : Field := ⟨0x1E010, 0, 4⟩
abbrev FLT.OUTAGE.MS : Field := ⟨0x1E014, 0, 32⟩
abbrev FLT.OUTAGE_X.MS : Field := ⟨0x1E018, 0, 32⟩
abbrev FLT.OUTAGE_CNT.EXCLUDED : Field := ⟨0x1E01C, 16, 16⟩
abbrev FLT.OUTAGE_CNT.COUNTED : Field := ⟨0x1E01C, 0, 16⟩
abbrev FLT.CHK.PASSES : Field := ⟨0x1E020, 16, 16⟩
abbrev FLT.CHK.FAIL : Field := ⟨0x1E020, 0, 4⟩
abbrev FLT.CLASS_CNT.COUNT (i : Nat) : Field := ⟨0x1E100 + 0x4 * i, 0, 32⟩

end Reg

end Sys2Proof.Machine
end

