-- ==== Sys2Proof/Config.lean ====
section
/-!
DEFINITION. What one MLD-8820 fixes and the specification leaves open: factory values and free
values. Every constant here is opaque: nothing can evaluate it, so whatever is proved holds for
every value of it.
-/
namespace Sys2Proof.Config

/-- The device serial, a factory value (R425, SYS.SERIAL). -/
opaque serial : BitVec 64
/-- The device MAC address, a factory value (R425, NET.MAC_LO and NET.MAC_HI). -/
opaque mac : BitVec 48
/-- A fresh value the specification leaves open: the n-th one drawn since power-on. -/
opaque freeValue : Nat → BitVec 64

/-- Which of the binary32 values within one unit in the last place a SINCOS output takes (R43), by
its operand and whether it is the sine. Log entry 6. -/
opaque sincosPick : BitVec 32 → Bool → BitVec 2

/-- K[4096], the coefficient past the last that LIM with C = 4,095 would take as its upper limit: no check of R53
refuses it, and no memory holds it. Log entry 16. -/
opaque coefPast : BitVec 32

/-- Points of the stock script's volt-var curve (T[64] to T[464]) and of its thermal derating (T[1024] to T[1224]),
which the specification names and does not give (R183, R187). Log entry 62. -/
opaque stockTable : Nat → BitVec 32
/-- Version and rollback counter of the stock image (R52, R173). Log entry 62. -/
opaque stockHeader : Nat → BitVec 32
/-- What an installed set of policy tables, named by its digest, holds for a setpoint in place of the default
(R190): the specification does not give the tables' layout. Log entry 62. -/
opaque policySetpoint : BitVec 384 → Nat → Option (BitVec 32)
/-- Digest of the stock image (R52). Log entry 62. -/
opaque stockDigest : BitVec 384

/-- What the resampler's cubic adds to the cubic through its four samples, in 2^-60, by the samples, oldest first, and
the fraction of their middle interval in 2^-32 (spec/03_measurement_chain.md R70): the specification bounds the error and
does not give the coefficients. Log entry 8. -/
opaque farrowErr : Int → Int → Int → Int → Nat → Int

/-- What the discretization of an adaptive quadrature filter pair (R83) adds to the trapezoidal one in one sync sample,
in 2^-60 pu, in phase and in quadrature: by the outputs before it, the previous and the present input, and f_ar in
2^-32 µHz. The specification gives the transfer functions and leaves their discretization open. Log entry 9. -/
opaque sogiErr : Int → Int → Int → Int → Int → Int × Int

/-- What the discretization of the loop of R84 adds to f_ar in one sync sample beyond K_i × e × 10.24 µs, in 2^-32 µHz,
by the f_ar before it, the phase error in 2^-64 turns, and the step. Log entry 9. -/
opaque loopErr : Int → Int → Nat → Int

/-- MTR.PF of a cycle without apparent power, by the sum of its active power (R294 gives PF as p / s). Log entry 41. -/
opaque pfIdle : Int → BitVec 32
/-- THD of a spectrum without a fundamental, by the sum of the squares of its harmonics (R308 divides by G_1). Log entry
41. -/
opaque thdIdle : Nat → BitVec 32

/-- The zero-sequence rms after one sync sample, from the rms before it and v0 (R101). Log entry 9. -/
opaque zeroRms : Dy → Dy → Dy

/-- What the discretization of the 100 ms first-order filter of R218 adds in one sync sample to the step by 10.24 µs /
100 ms of the way to its input, by the filter's value and |V+|, in 2^-48 pu. Log entry 9. -/
opaque preErr : Int → Int → Int

/-- What is left of the n-th of one quantity's (α, β) samples of a chip, newest first, after the fundamental and its
harmonics have been removed (R243): in 2^-40 pu, by the samples and RATIO. The removal is left open. Log entry 10. -/
opaque chipResidue : List (Dy × Dy) → Nat → Nat → Int × Int

/-- AES-256-GMAC of R378: key, 12-byte IV, additional data. The algorithm stands outside the specification.
Log entry 11. -/
opaque gmac : List Byte → List Byte → List Byte → BitVec 128
/-- HKDF-SHA-384 of a slot key with a salt and an info text, 32 bytes (R406). Log entry 11. -/
opaque hkdf : List Byte → List Byte → List Byte → List Byte
/-- The TLS exporter value of a management connection, by its number, under a label: true "cue", false
"key wrap" (R378, R406). Log entry 11. -/
opaque tlsExporter : Nat → Bool → List Byte
/-- RFC 3394 unwrap under a key-encryption key (R406); none on failure. Log entry 11. -/
opaque unwrapKey : List Byte → List Byte → Option (List Byte)
/-- Whether a signature block verifies over the bytes before it, its chain ending at an anchor (R396, R397):
signer kind 0 vendor, 1 owner, 2 device; the anchor installed for the owner. Log entry 11. -/
opaque sigOk : Nat → BitVec 384 → List Byte → List Byte → Bool
/-- The device identity's signature over bytes, r then s (R396). Log entry 11. -/
opaque sign : List Byte → BitVec 768

/-- What the PTP servo asks for at a sync, by the offset from the master in ns and the frequency offset in force: the
frequency offset of the master, and the slewing offset that closes the phase, in ps/s (R337). The servo's law is left
open. Log entry 12. -/
opaque servo : Int → Int → Int × Int

/-- The COMTRADE file of a record (R371), from the record's image, the data model, the traceable
mark, and what is announced of UTC at the export. Its form is IEEE C37.111-2013's. Log entry 13. -/
opaque cffFile : List Byte → List Byte → List Nat → List Byte
/-- The 256-byte header of a record of a reel (R368), from what it holds: the specification gives no layout.
Log entry 13. -/
opaque reelHeader : List Nat → List Byte
/-- The bytes of a dailies digest (R374), from what it holds: the specification gives no layout. Log entry
13. -/
opaque digestImage : List Int → List Byte
/-- The bytes of a network image (R317), from its context blocks, fused set and settings, point records and
data model: the specification gives no layout. Log entry 13. -/
opaque netImage : List (List Byte) → List Nat → List (List Byte) → List Byte → List Byte
/-- The owner anchor that an ANCHOR package's body installs (R397), and whether the action of a SERVICE
package's body removes the metrology seal, else returns the lifecycle (R398): the specification gives neither
layout. Log entry 13. -/
opaque anchorOf : List Byte → BitVec 384
opaque serviceSeal : List Byte → Bool
/-- Leaves of a data model, none where the document is not valid SCL (R333). Log entry 13. -/
opaque sclLeaves : List Byte → Option Nat

end Sys2Proof.Config
end

