-- ==== Sys2Proof/Machine/RegMap.lean ====
section
/-!
DEFINITION. The register map: every word of the window with its array stride, reset word and the
bits of each access code (R12), as the register tables of spec/ and the Register Index
(spec/22_register_index.md, R424, R425) give them.
-/
namespace Sys2Proof.Machine

/-- One register of the map: base address, stride and count of its array (count 1 for a single
word), reset word, and the masks of its RW, W1C, WO, RWS, SEAL and CUE bits; every other bit is
RO or reserved (R12, R13). -/
structure RegRow where
  base   : Nat
  stride : Nat
  count  : Nat
  reset  : Nat
  mRw : Nat := 0
  mW1c : Nat := 0
  mWo : Nat := 0
  mRws : Nat := 0
  mSeal : Nat := 0
  mCue : Nat := 0
  mRo : Nat := 0
  deriving DecidableEq, Repr

/-- The registers of block SEQ (spec/02_frame_and_script.md). -/
def rowsSeq : List RegRow := [
  { base := 0x3000, stride := 0x4, count := 1, reset := 0xFA0, mRws := 0x7FFF },  -- SEQ.PERIOD
  { base := 0x3004, stride := 0x4, count := 1, reset := 0x0, mCue := 0x3F, mRo := 0x13F00 },  -- SEQ.MODE
  { base := 0x3008, stride := 0x4, count := 1, reset := 0x0, mW1c := 0x9F, mRo := 0x360 },  -- SEQ.STATUS
  { base := 0x300C, stride := 0x4, count := 1, reset := 0x0, mRo := 0xFFFFFFFF },  -- SEQ.FRAMECNT
  { base := 0x3010, stride := 0x4, count := 1, reset := 0x0, mRo := 0xFFFFFFFF },  -- SEQ.SLATE_TIME
  { base := 0x3014, stride := 0x4, count := 1, reset := 0x0, mRo := 0xFFFFFFFF },  -- SEQ.SLATE_TIME (high)
  { base := 0x3018, stride := 0x4, count := 1, reset := 0x0, mRo := 0xFFFFFFFF },  -- SEQ.SLATE_ANGLE
  { base := 0x301C, stride := 0x4, count := 1, reset := 0x0, mW1c := 0xFFFF0000, mRo := 0xFFFF },  -- SEQ.END_CYC
  { base := 0x3020, stride := 0x4, count := 1, reset := 0x0, mRo := 0xFFFFFFFF },  -- SEQ.LATE_CNT
  { base := 0x3024, stride := 0x4, count := 1, reset := 0x0, mRo := 0xFFFFFFFF },  -- SEQ.IMAGE_ID
  { base := 0x3028, stride := 0x4, count := 1, reset := 0x0, mRo := 0xFFFFFFFF }]  -- SEQ.IMAGE_VER

/-- The registers of block MOD (spec/03_measurement_chain.md). -/
def rowsMod : List RegRow := [
  { base := 0x4000, stride := 0x4, count := 1, reset := 0x1, mRw := 0x1, mRo := 0x100 },  -- MOD.CTRL
  { base := 0x4004, stride := 0x4, count := 1, reset := 0x3F00, mW1c := 0x1, mRo := 0x3F06 },  -- MOD.STATUS
  { base := 0x4008, stride := 0x4, count := 1, reset := 0x0, mRo := 0xFFFFFFFF },  -- MOD.INVALID_LO
  { base := 0x400C, stride := 0x4, count := 1, reset := 0x0, mRo := 0xFF },  -- MOD.INVALID_HI
  { base := 0x4010, stride := 0x4, count := 1, reset := 0x0, mRw := 0xBFBFBFBF },  -- MOD.SUPRA_SEL0
  { base := 0x4014, stride := 0x4, count := 1, reset := 0x0, mRw := 0xBFBFBFBF },  -- MOD.SUPRA_SEL1
  { base := 0x4018, stride := 0x4, count := 1, reset := 0x4, mRw := 0xF },  -- MOD.RSM_CTL
  { base := 0x401C, stride := 0x4, count := 1, reset := 0x1, mW1c := 0x4, mRo := 0xFFFF0003 },  -- MOD.RSM_STAT
  { base := 0x4020, stride := 0x4, count := 1, reset := 0x0, mRo := 0xFFFF01FF },  -- MOD.RSM_INDEX
  { base := 0x4024, stride := 0x4, count := 1, reset := 0xFF30, mRw := 0xFF71 },  -- MOD.HK_CTL
  { base := 0x4040, stride := 0x4, count := 8, reset := 0x0, mRo := 0xFFFFFFFF },  -- MOD.HK_VAL
  { base := 0x5000, stride := 0x40, count := 40, reset := 0x5054, mRw := 0x7FFF },  -- MOD.CH.CFG
  { base := 0x5004, stride := 0x40, count := 40, reset := 0x129800, mRw := 0xFFFFFF },  -- MOD.CH.MON_CFG
  { base := 0x5008, stride := 0x40, count := 40, reset := 0x0, mRo := 0x3FFF },  -- MOD.CH.FDELAY
  { base := 0x500C, stride := 0x40, count := 40, reset := 0x0, mRo := 0xFFFFFFFF },  -- MOD.CH.OFFSET
  { base := 0x5010, stride := 0x40, count := 40, reset := 0x3F800000, mRo := 0xFFFFFFFF },  -- MOD.CH.GAIN
  { base := 0x5014, stride := 0x40, count := 40, reset := 0x3F800000, mRo := 0xFFFFFFFF },  -- MOD.CH.NOM_GAIN
  { base := 0x5018, stride := 0x40, count := 40, reset := 0x0, mRo := 0xFFFFFFFF },  -- MOD.CH.DRIFT
  { base := 0x501C, stride := 0x40, count := 40, reset := 0x0, mW1c := 0x700, mRo := 0xF077 },  -- MOD.CH.STATUS
  { base := 0x5020, stride := 0x40, count := 40, reset := 0x0, mRo := 0xFFFFFFFF },  -- MOD.CH.CSAMPLE
  { base := 0x5024, stride := 0x40, count := 40, reset := 0x0, mRo := 0xFFFFFFFF },  -- MOD.CH.MSAMPLE
  { base := 0x5028, stride := 0x40, count := 40, reset := 0x0, mRo := 0xFFFFFFFF },  -- MOD.CH.EVCNT
  { base := 0x502C, stride := 0x40, count := 40, reset := 0x0, mRo := 0xFFFFFFFF },  -- MOD.CH.GD_CTL
  { base := 0x5030, stride := 0x40, count := 40, reset := 0x0, mRo := 0xFFFFFFFF }]  -- MOD.CH.GD_MTR

/-- The registers of block SYN (spec/04_grid_synchronizer.md). -/
def rowsSyn : List RegRow := [
  { base := 0x6000, stride := 0x4, count := 1, reset := 0x402, mRw := 0x7, mRws := 0x700 },  -- SYN.CTRL
  { base := 0x6004, stride := 0x4, count := 1, reset := 0x0, mRw := 0x33F3F3F },  -- SYN.SRC
  { base := 0x6008, stride := 0x4, count := 1, reset := 0x714064, mRw := 0xF3F3FF },  -- SYN.LOW
  { base := 0x600C, stride := 0x4, count := 1, reset := 0x1F4, mRw := 0x1FF },  -- SYN.HOLD
  { base := 0x6010, stride := 0x4, count := 1, reset := 0xF0828, mRw := 0x1FFFFF },  -- SYN.JUMP_CFG
  { base := 0x6014, stride := 0x4, count := 1, reset := 0x1014064, mRw := 0xF0FF3FF },  -- SYN.CHG
  { base := 0x6018, stride := 0x4, count := 1, reset := 0x32000000, mRw := 0x7F3F3F3F },  -- SYN.BORROW
  { base := 0x601C, stride := 0x4, count := 1, reset := 0x0, mRw := 0xFFFFFFFF },  -- SYN.BORROW_OFS
  { base := 0x6020, stride := 0x4, count := 1, reset := 0x8, mRw := 0xFF },  -- SYN.BORROW_TOL
  { base := 0x6024, stride := 0x4, count := 1, reset := 0x400, mW1c := 0x3F000, mRo := 0xC07FF },  -- SYN.STATUS
  { base := 0x6028, stride := 0x4, count := 1, reset := 0x0, mRo := 0xFFFFFFFF },  -- SYN.THETA
  { base := 0x602C, stride := 0x4, count := 1, reset := 0x0, mRo := 0xFFFFFFFF },  -- SYN.F_AR
  { base := 0x6030, stride := 0x4, count := 1, reset := 0x0, mRo := 0xFFFFFFFF },  -- SYN.F_PC
  { base := 0x6034, stride := 0x4, count := 1, reset := 0x0, mRo := 0xFFFFFFFF },  -- SYN.F_SEL
  { base := 0x6038, stride := 0x4, count := 1, reset := 0x0, mRo := 0xFFFFFFFF },  -- SYN.ROCOF
  { base := 0x603C, stride := 0x4, count := 1, reset := 0x0, mRo := 0xFFFFFFFF },  -- SYN.VPOS
  { base := 0x6040, stride := 0x4, count := 1, reset := 0x0, mRo := 0xFFFFFFFF },  -- SYN.VNEG
  { base := 0x6044, stride := 0x4, count := 1, reset := 0x0, mRo := 0xFFFFFFFF },  -- SYN.VZERO
  { base := 0x6048, stride := 0x4, count := 1, reset := 0x0, mRo := 0xFFFFFFFF },  -- SYN.JUMP
  { base := 0x604C, stride := 0x4, count := 1, reset := 0x0, mRo := 0xFFFFFFFF },  -- SYN.JUMP_TIME
  { base := 0x6050, stride := 0x4, count := 1, reset := 0x0, mRo := 0xFFFFFFFF },  -- SYN.JUMP_TIME (high)
  { base := 0x6054, stride := 0x4, count := 1, reset := 0x0, mRo := 0xFFFFFFFF },  -- SYN.BORROW_MEAS
  { base := 0x6058, stride := 0x4, count := 1, reset := 0x0, mRo := 0xFFFFFFFF },  -- SYN.COUNT
  { base := 0x605C, stride := 0x4, count := 1, reset := 0x1F4, mRo := 0x1FF }]  -- SYN.HOLD_LEFT

/-- The registers of block BND (spec/05_band_law.md). -/
def rowsBnd : List RegRow := [
  { base := 0x7000, stride := 0x4, count := 1, reset := 0x0, mW1c := 0x1F00, mRo := 0x7 },  -- BND.STATUS
  { base := 0x7004, stride := 0x4, count := 1, reset := 0x1E1401, mRw := 0xFFFF03 },  -- BND.GRID_CFG
  { base := 0x7008, stride := 0x4, count := 1, reset := 0x40666, mRw := 0xF0000, mSeal := 0xFFFF },  -- BND.FAULT_CFG
  { base := 0x700C, stride := 0x4, count := 1, reset := 0x44C044C, mSeal := 0xFFFF, mRo := 0xFFFF0000 },  -- BND.ILIM
  { base := 0x7010, stride := 0x4, count := 1, reset := 0x44C, mSeal := 0xFFFF },  -- BND.FEED_ILIM
  { base := 0x7014, stride := 0x4, count := 1, reset := 0x64, mSeal := 0xFFFF },  -- BND.SOFT
  { base := 0x7018, stride := 0x4, count := 1, reset := 0x0, mRo := 0xFFFFFFFF },  -- BND.THETA_R
  { base := 0x7100, stride := 0x40, count := 12, reset := 0x20000042, mRw := 0x7F3F3FF3 },  -- BND.CH.CFG
  { base := 0x7104, stride := 0x40, count := 12, reset := 0x634064, mRws := 0x1FF73FF },  -- BND.CH.ADAPT
  { base := 0x7108, stride := 0x40, count := 12, reset := 0x0, mRo := 0xFFFFFFFF },  -- BND.CH.H
  { base := 0x710C, stride := 0x40, count := 12, reset := 0xCCD0083, mRws := 0xFFFFFFFF },  -- BND.CH.H_LIM
  { base := 0x7110, stride := 0x40, count := 12, reset := 0x5000C8, mRw := 0x3FF03FF },  -- BND.CH.DWELL
  { base := 0x7114, stride := 0x40, count := 12, reset := 0x0, mRo := 0xFFFFFFFF },  -- BND.CH.REF
  { base := 0x7118, stride := 0x40, count := 12, reset := 0x0, mRo := 0xFFFFFFFF },  -- BND.CH.ERR
  { base := 0x711C, stride := 0x40, count := 12, reset := 0x3, mRo := 0x37F },  -- BND.CH.STATE
  { base := 0x7120, stride := 0x40, count := 12, reset := 0x0, mRo := 0xFFFFFFFF },  -- BND.CH.FSW
  { base := 0x7124, stride := 0x40, count := 12, reset := 0x0, mRo := 0xFFFFFFFF },  -- BND.CH.CNT
  { base := 0x7128, stride := 0x40, count := 12, reset := 0x0, mRo := 0xFFFFFFFF }]  -- BND.CH.EVT

/-- The registers of block PWM (spec/06_pulse_generation.md). -/
def rowsPwm : List RegRow := [
  { base := 0x8000, stride := 0x4, count := 1, reset := 0x1F00, mW1c := 0x17, mRo := 0x1F08 },  -- PWM.STATUS
  { base := 0x8004, stride := 0x4, count := 1, reset := 0x4000, mRw := 0xF37F },  -- PWM.CLAP
  { base := 0x8008, stride := 0x4, count := 1, reset := 0x1, mRw := 0x3FF },  -- PWM.VCLAP_INT
  { base := 0x800C, stride := 0x4, count := 1, reset := 0x0, mRw := 0x3FFFFFFF },  -- PWM.VCLAP_OFS
  { base := 0x8010, stride := 0x4, count := 1, reset := 0x0, mCue := 0x3F },  -- PWM.PINSEL
  { base := 0x8014, stride := 0x4, count := 1, reset := 0x0, mRo := 0x1FFFFF },  -- PWM.OUT
  { base := 0x8100, stride := 0x40, count := 12, reset := 0x2080, mRw := 0x3FF, mRo := 0x7000 },  -- PWM.CU.CFG
  { base := 0x8104, stride := 0x40, count := 12, reset := 0x4E204E20, mRws := 0xFFFF, mRo := 0xFFFF0000 },  -- PWM.CU.PRD
  { base := 0x8108, stride := 0x40, count := 12, reset := 0x0, mRws := 0x3FFFFF },  -- PWM.CU.CMPA
  { base := 0x810C, stride := 0x40, count := 12, reset := 0x0, mRws := 0x3FFFFF },  -- PWM.CU.CMPB
  { base := 0x8110, stride := 0x40, count := 12, reset := 0x0, mRo := 0x3FFFFF },  -- PWM.CU.CMPA_ACT
  { base := 0x8114, stride := 0x40, count := 12, reset := 0x0, mRo := 0x3FFFFF },  -- PWM.CU.CMPB_ACT
  { base := 0x8118, stride := 0x40, count := 12, reset := 0x0, mW1c := 0x100, mWo := 0x1, mRo := 0xF0 },  -- PWM.CU.COMMIT
  { base := 0x811C, stride := 0x40, count := 12, reset := 0x0, mRw := 0xF1FFFF },  -- PWM.CU.PHASE
  { base := 0x8120, stride := 0x40, count := 12, reset := 0x128780A0, mRw := 0x1FFFFFFF },  -- PWM.CU.DT
  { base := 0x8124, stride := 0x40, count := 12, reset := 0x20028, mRw := 0x703FF },  -- PWM.CU.MINP
  { base := 0x8128, stride := 0x40, count := 12, reset := 0x780802, mRw := 0x3FFFF03 },  -- PWM.CU.WICK
  { base := 0x812C, stride := 0x40, count := 12, reset := 0x0, mRo := 0x1FFFF },  -- PWM.CU.CNT
  { base := 0x8130, stride := 0x40, count := 12, reset := 0x0, mRo := 0xFFFFFFFF },  -- PWM.CU.EVT
  { base := 0x8134, stride := 0x40, count := 12, reset := 0x0, mW1c := 0x27, mRo := 0xFFFF0018 }]  -- PWM.CU.STATUS

/-- The registers of block ISL (spec/07_gate_islands.md). -/
def rowsIsl : List RegRow := [
  { base := 0x9000, stride := 0x4, count := 1, reset := 0x0, mRo := 0x3FFF3FFF },  -- ISL.SUMMARY
  { base := 0x9004, stride := 0x4, count := 1, reset := 0x0, mW1c := 0x3FFF3FFF },  -- ISL.EVENT
  { base := 0x9100, stride := 0x40, count := 14, reset := 0x1, mRw := 0x3, mRo := 0x30000 },  -- ISL.CFG
  { base := 0x9104, stride := 0x40, count := 14, reset := 0x1C89613, mSeal := 0x3FFFFFF },  -- ISL.SENSE
  { base := 0x9108, stride := 0x40, count := 14, reset := 0x5, mSeal := 0x7F },  -- ISL.TIMING
  { base := 0x910C, stride := 0x40, count := 14, reset := 0x5197D, mSeal := 0xFFFFF },  -- ISL.UVLO
  { base := 0x9110, stride := 0x40, count := 14, reset := 0x2064, mRw := 0x70FF },  -- ISL.VCE
  { base := 0x9114, stride := 0x40, count := 14, reset := 0x7B70647D, mSeal := 0xFFFFFFFF },  -- ISL.NTC
  { base := 0x9118, stride := 0x40, count := 14, reset := 0x0, mW1c := 0x7FF00, mRo := 0xFF },  -- ISL.STATUS
  { base := 0x911C, stride := 0x40, count := 14, reset := 0x0, mRo := 0xFFFFFFFF },  -- ISL.SUPPLY
  { base := 0x9120, stride := 0x40, count := 14, reset := 0x0, mRo := 0xFFFFFFFF },  -- ISL.TEMP
  { base := 0x9124, stride := 0x40, count := 14, reset := 0x0, mRo := 0xFFFFFFFF },  -- ISL.LINKCNT
  { base := 0x9128, stride := 0x40, count := 14, reset := 0x0, mRo := 0xFFFFFFFF },  -- ISL.SCCNT
  { base := 0x912C, stride := 0x40, count := 14, reset := 0x0, mRo := 0xFFFFFFFF },  -- ISL.EDGES
  { base := 0x9130, stride := 0x40, count := 14, reset := 0x0, mSeal := 0xFFFFFF }]  -- ISL.KSNS

/-- The registers of block OLP (spec/08_outer_loops.md). -/
def rowsOlp : List RegRow := [
  { base := 0xC000, stride := 0x4, count := 8, reset := 0x0, mRo := 0xFFFFFFFF },  -- OLP.P_CAND
  { base := 0xC020, stride := 0x4, count := 1, reset := 0x0, mRo := 0xFFFFFFFF },  -- OLP.P_CAP
  { base := 0xC024, stride := 0x4, count := 1, reset := 0x0, mRo := 0xFFFFFFFF },  -- OLP.I_LIM
  { base := 0xC028, stride := 0x4, count := 1, reset := 0x0, mRo := 0xFFFFFFFF },  -- OLP.Q_REF
  { base := 0xC02C, stride := 0x4, count := 1, reset := 0x0, mRo := 0xFFFFFFFF },  -- OLP.Q_LIM
  { base := 0xC030, stride := 0x4, count := 1, reset := 0x0, mRo := 0xFFFFFFFF },  -- OLP.Z
  { base := 0xC034, stride := 0x4, count := 1, reset := 0x0, mRo := 0xFFFFFFFF },  -- OLP.FC
  { base := 0xC040, stride := 0x4, count := 8, reset := 0x0, mRo := 0xFFFFFFFF },  -- OLP.FEED_VREF
  { base := 0xC060, stride := 0x4, count := 8, reset := 0x0, mRo := 0xFFFFFFFF },  -- OLP.FEED_PLIM
  { base := 0xC080, stride := 0x4, count := 1, reset := 0x0, mRo := 0xFFFF },  -- OLP.FLAGS
  { base := 0xC400, stride := 0x4, count := 256, reset := 0x0, mRo := 0xFFFFFFFF },  -- OLP.SCRIPT_VAL
  { base := 0xC800, stride := 0x4, count := 1, reset := 0x0, mRo := 0xFFFF0007 }]  -- OLP.WIN

/-- The registers of block FED (spec/09_feeds_and_tracking.md). -/
def rowsFed : List RegRow := [
  { base := 0xD000, stride := 0x4, count := 1, reset := 0x103, mRw := 0xFFFF0103 },  -- FED.CTRL
  { base := 0xD004, stride := 0x4, count := 1, reset := 0xF00, mW1c := 0x3, mRo := 0xFF0F04 },  -- FED.STATUS
  { base := 0xD008, stride := 0x4, count := 1, reset := 0x14001E05, mRw := 0xFF00FFFF },  -- FED.SWEEP
  { base := 0xD00C, stride := 0x4, count := 1, reset := 0x12C0000, mRw := 0xFFFFFFFF },  -- FED.SWEEP_SCHED
  { base := 0xD100, stride := 0x40, count := 8, reset := 0x1, mRw := 0x3F0301, mRo := 0x2 },  -- FED.CFG
  { base := 0xD104, stride := 0x40, count := 8, reset := 0x1F43C50, mRw := 0xFFFFFFFF },  -- FED.START
  { base := 0xD108, stride := 0x40, count := 8, reset := 0x327803, mRw := 0xFFFFFF0F },  -- FED.STOP
  { base := 0xD10C, stride := 0x40, count := 8, reset := 0xF0A3214, mRw := 0xFFFFFFFF },  -- FED.RC
  { base := 0xD110, stride := 0x40, count := 8, reset := 0x12C1405, mRw := 0xFFFFFFFF },  -- FED.LIM
  { base := 0xD114, stride := 0x40, count := 8, reset := 0xA64, mRws := 0xFFFFFFFF },  -- FED.FIX
  { base := 0xD118, stride := 0x40, count := 8, reset := 0x0, mRws := 0xFFFFFFFF },  -- FED.FIX_LIM
  { base := 0xD11C, stride := 0x40, count := 8, reset := 0x0, mRo := 0xFF0F0707 },  -- FED.STATE
  { base := 0xD120, stride := 0x40, count := 8, reset := 0x0, mRo := 0xFFFFFFFF },  -- FED.VTRACK
  { base := 0xD124, stride := 0x40, count := 8, reset := 0x0, mRo := 0xFFFFFFFF },  -- FED.SLOPE
  { base := 0xD128, stride := 0x40, count := 8, reset := 0x0, mRo := 0xFFFFFFFF },  -- FED.PWR
  { base := 0xD12C, stride := 0x40, count := 8, reset := 0x0, mRo := 0xFFFFFFFF },  -- FED.SWEEP_RES
  { base := 0xD130, stride := 0x40, count := 8, reset := 0x0, mRo := 0xFFFFFFFF },  -- FED.CNT
  { base := 0xD134, stride := 0x40, count := 8, reset := 0x0, mW1c := 0x7F, mRo := 0xFFFF0000 },  -- FED.EVT
  { base := 0xD138, stride := 0x40, count := 8, reset := 0x0, mRo := 0xFFFFFFFF },  -- FED.VREF
  { base := 0xD13C, stride := 0x40, count := 8, reset := 0x0, mRo := 0xFFFFFFFF }]  -- FED.PLIM

/-- The registers of block FRT (spec/10_ride_through.md). -/
def rowsFrt : List RegRow := [
  { base := 0xE000, stride := 0x4, count := 1, reset := 0x0, mW1c := 0x70000, mRo := 0x700F3F },  -- FRT.STATUS
  { base := 0xE004, stride := 0x4, count := 1, reset := 0x44C0384, mSeal := 0xFFFFFFFF },  -- FRT.BAND
  { base := 0xE008, stride := 0x4, count := 1, reset := 0xA0314, mSeal := 0xFFFF3FFF },  -- FRT.DET
  { base := 0xE00C, stride := 0x4, count := 1, reset := 0x141400A0, mRw := 0xFFFF00FE },  -- FRT.INJ
  { base := 0xE010, stride := 0x4, count := 1, reset := 0x19003E8, mRw := 0xFFFFFFFF },  -- FRT.ILIM_F
  { base := 0xE014, stride := 0x4, count := 1, reset := 0x320064, mRw := 0xFFFFFFFF },  -- FRT.REC
  { base := 0xE018, stride := 0x4, count := 1, reset := 0x20801F9, mRw := 0xFFFFFFFF },  -- FRT.DUMP
  { base := 0xE01C, stride := 0x4, count := 1, reset := 0x42403FC, mRw := 0xFFFFFFFF },  -- FRT.FEED
  { base := 0xE020, stride := 0x4, count := 1, reset := 0xFA0032, mSeal := 0xFFFFFFFF },  -- FRT.ZV
  { base := 0xE024, stride := 0x4, count := 1, reset := 0x143C14, mSeal := 0xFFFFFFFF },  -- FRT.JUMP
  { base := 0xE028, stride := 0x4, count := 1, reset := 0x3C0003, mSeal := 0xFFFF000F },  -- FRT.REP
  { base := 0xE02C, stride := 0x4, count := 1, reset := 0x60631, mSeal := 0x1F1FF1 },  -- FRT.ENV_CFG
  { base := 0xE030, stride := 0x4, count := 1, reset := 0x0, mRo := 0xFFFFFFFF },  -- FRT.I1D
  { base := 0xE034, stride := 0x4, count := 1, reset := 0x0, mRo := 0xFFFFFFFF },  -- FRT.I1Q
  { base := 0xE038, stride := 0x4, count := 1, reset := 0x0, mRo := 0xFFFFFFFF },  -- FRT.I2D
  { base := 0xE03C, stride := 0x4, count := 1, reset := 0x0, mRo := 0xFFFFFFFF },  -- FRT.I2Q
  { base := 0xE040, stride := 0x4, count := 1, reset := 0x0, mRo := 0xFFFFFFFF },  -- FRT.V_PRE
  { base := 0xE044, stride := 0x4, count := 1, reset := 0x18000, mRo := 0xFFFFFFFF },  -- FRT.REC_CAP
  { base := 0xE048, stride := 0x4, count := 1, reset := 0x10000, mRo := 0xFFFFFFFF },  -- FRT.FEED_SCALE
  { base := 0xE04C, stride := 0x4, count := 1, reset := 0x0, mRo := 0xFFFFFFFF },  -- FRT.T_EXC
  { base := 0xE050, stride := 0x4, count := 1, reset := 0x0, mRo := 0xFFFFFFFF },  -- FRT.T_EXC (high)
  { base := 0xE054, stride := 0x4, count := 1, reset := 0x0, mRo := 0xFFFFFFFF },  -- FRT.COUNT
  { base := 0xE100, stride := 0x4, count := 16, reset := 0x0, mSeal := 0xFFFFFFFF },  -- FRT.UV_PT
  { base := 0xE140, stride := 0x4, count := 16, reset := 0x0, mSeal := 0xFFFFFFFF }]  -- FRT.OV_PT

/-- The registers of block ISD (spec/11_islanding.md). -/
def rowsIsd : List RegRow := [
  { base := 0xF000, stride := 0x4, count := 1, reset := 0x0, mW1c := 0x7F1F00, mRo := 0x3F },  -- ISD.STATUS
  { base := 0xF004, stride := 0x4, count := 1, reset := 0x6, mSeal := 0x3F07 },  -- ISD.CTRL
  { base := 0xF008, stride := 0x4, count := 1, reset := 0x1401F4, mSeal := 0xFFFFFF },  -- ISD.TOPO_CFG
  { base := 0xF010, stride := 0x4, count := 1, reset := 0x141E128E, mSeal := 0xFFFFFFFF },  -- ISD.P_FREQ
  { base := 0xF014, stride := 0x4, count := 1, reset := 0x44C0384, mSeal := 0xFFFFFFFF },  -- ISD.P_VOLT
  { base := 0xF018, stride := 0x4, count := 1, reset := 0x280C1E00, mSeal := 0xFFFFFF00 },  -- ISD.P_MISC
  { base := 0xF01C, stride := 0x4, count := 1, reset := 0x60A0264, mSeal := 0xFFFFFFFF },  -- ISD.P_TIME
  { base := 0xF020, stride := 0x4, count := 1, reset := 0x16AA, mSeal := 0x3FFF },  -- ISD.P_ACT
  { base := 0xF030, stride := 0x4, count := 1, reset := 0x603200, mRw := 0xFF01, mSeal := 0x1F7F0000 },  -- ISD.PROBE
  { base := 0xF034, stride := 0x4, count := 1, reset := 0x10320, mSeal := 0xFFFFF },  -- ISD.ACT_CFG
  { base := 0xF038, stride := 0x4, count := 1, reset := 0x0, mRo := 0xFFFFFFFF },  -- ISD.Z_R
  { base := 0xF03C, stride := 0x4, count := 1, reset := 0x0, mRo := 0xFFFFFFFF },  -- ISD.Z_X
  { base := 0xF040, stride := 0x4, count := 1, reset := 0x0, mRo := 0xFFFFFFFF },  -- ISD.SCR
  { base := 0xF044, stride := 0x4, count := 1, reset := 0x0, mRo := 0xFFFFFFFF },  -- ISD.Z_ACT
  { base := 0xF050, stride := 0x4, count := 1, reset := 0x13921356, mSeal := 0xFFFFFFFF },  -- ISD.RECON_F
  { base := 0xF054, stride := 0x4, count := 1, reset := 0x41A0384, mSeal := 0xFFFFFFFF },  -- ISD.RECON_V
  { base := 0xF058, stride := 0x4, count := 1, reset := 0x12C012C, mSeal := 0xFFFF, mRo := 0xFFFF0000 },  -- ISD.RECON_T
  { base := 0xF05C, stride := 0x4, count := 1, reset := 0x0, mRo := 0xFFFFFFFF },  -- ISD.COUNT
  { base := 0xF060, stride := 0x4, count := 1, reset := 0x0, mRo := 0xFFFFFFFF },  -- ISD.T_DEC
  { base := 0xF064, stride := 0x4, count := 1, reset := 0x0, mRo := 0xFFFFFFFF },  -- ISD.T_DEC (high)
  { base := 0xF200, stride := 0x4, count := 96, reset := 0x0, mSeal := 0xBF3FFFFF },  -- ISD.DEV
  { base := 0xF380, stride := 0x4, count := 6, reset := 0x0, mRo := 0xFFFFFFFF },  -- ISD.POS
  { base := 0xF3A0, stride := 0x4, count := 3, reset := 0x0, mRo := 0xFFFFFFFF },  -- ISD.SUPV
  { base := 0xF400, stride := 0x4, count := 32, reset := 0x0, mSeal := 0xFF3F03FF }]  -- ISD.SRC

/-- The registers of block CMP (spec/12_trip_network.md). -/
def rowsCmp : List RegRow := [
  { base := 0xA000, stride := 0x4, count := 1, reset := 0xFFFFFF, mRo := 0xFFFFFF },  -- CMP.ALARM
  { base := 0xA004, stride := 0x4, count := 1, reset := 0x0, mW1c := 0xFFFFFF },  -- CMP.EVENT
  { base := 0xA008, stride := 0x4, count := 1, reset := 0x0, mW1c := 0x40000000, mRo := 0x80FFFFFF },  -- CMP.STATUS
  { base := 0xA00C, stride := 0x4, count := 1, reset := 0x180000, mRw := 0x1F001F, mW1c := 0x60000000, mWo := 0x100, mRo := 0x80000000 },  -- CMP.TEST
  { base := 0xA010, stride := 0x4, count := 1, reset := 0x0, mRo := 0xFFFFFF },  -- CMP.TEST_FAIL
  { base := 0xA100, stride := 0x10, count := 24, reset := 0x1F0A10, mSeal := 0x1F3F3D },  -- CMP.CFG
  { base := 0xA104, stride := 0x10, count := 24, reset := 0xFFF0000, mSeal := 0xFFF0FFF },  -- CMP.THR
  { base := 0xA108, stride := 0x10, count := 24, reset := 0x0, mRo := 0xFFFFFFFF }]  -- CMP.CNT

/-- The registers of block TRP (spec/12_trip_network.md). -/
def rowsTrp : List RegRow := [
  { base := 0xB000, stride := 0x4, count := 1, reset := 0x7FF07FF, mRo := 0x7FF07FF },  -- TRP.TGT
  { base := 0xB004, stride := 0x4, count := 1, reset := 0x0, mRo := 0xFFFFFFFF },  -- TRP.SRC_LO
  { base := 0xB008, stride := 0x4, count := 1, reset := 0x0, mRo := 0xFF },  -- TRP.SRC_HI
  { base := 0xB00C, stride := 0x4, count := 1, reset := 0x0, mW1c := 0xFFFFFFFF },  -- TRP.LATCH_LO
  { base := 0xB010, stride := 0x4, count := 1, reset := 0x0, mW1c := 0xFF },  -- TRP.LATCH_HI
  { base := 0xB014, stride := 0x4, count := 1, reset := 0x0, mW1c := 0x80000000, mRo := 0x3F },  -- TRP.FIRST
  { base := 0xB018, stride := 0x4, count := 1, reset := 0x0, mRo := 0xFFFFFFFF },  -- TRP.FIRST_TIME
  { base := 0xB01C, stride := 0x4, count := 1, reset := 0x0, mRo := 0xFFFFFFFF },  -- TRP.FIRST_TIME (high)
  { base := 0xB020, stride := 0x4, count := 1, reset := 0x140014, mSeal := 0x3F003F },  -- TRP.HARDOFF
  { base := 0xB100, stride := 0x4, count := 40, reset := 0x0, mSeal := 0x1FFF },  -- TRP.MAP
  { base := 0xB200, stride := 0x4, count := 1, reset := 0x5DC0064, mSeal := 0xFFFFFFFF },  -- TRP.DUMP_E
  { base := 0xB204, stride := 0x4, count := 1, reset := 0x6407D0, mSeal := 0xFFFFFFFF },  -- TRP.DUMP_R
  { base := 0xB208, stride := 0x4, count := 1, reset := 0xA0258, mSeal := 0xFFFFFF },  -- TRP.DIS
  { base := 0xB20C, stride := 0x4, count := 1, reset := 0x2580003, mSeal := 0xFFFF000F },  -- TRP.SC_LOCK
  { base := 0xB210, stride := 0x4, count := 1, reset := 0x280FA0, mSeal := 0xFFFFFFFF },  -- TRP.I2T_CFG
  { base := 0xB214, stride := 0x4, count := 1, reset := 0x1044C, mSeal := 0x7FFFF },  -- TRP.FC
  { base := 0xB218, stride := 0x4, count := 1, reset := 0x0, mW1c := 0xC4, mRo := 0x13B },  -- TRP.GOV_STAT
  { base := 0xB21C, stride := 0x4, count := 1, reset := 0x5DC0000, mRo := 0xFFFFFFFF },  -- TRP.E_UP
  { base := 0xB220, stride := 0x4, count := 1, reset := 0x5DC0000, mRo := 0xFFFFFFFF },  -- TRP.E_LO
  { base := 0xB224, stride := 0x4, count := 1, reset := 0x0, mRo := 0xFFFFFFFF },  -- TRP.E_REM
  { base := 0xB240, stride := 0x4, count := 14, reset := 0x0, mRo := 0xFFFFFFFF },  -- TRP.I2T
  { base := 0xB280, stride := 0x4, count := 1, reset := 0x0, mRo := 0xFFFFFFFF },  -- TRP.PROF_ID
  { base := 0xB284, stride := 0x4, count := 1, reset := 0x0, mRo := 0xFFFFFFFF },  -- TRP.PROF_VER
  { base := 0xB288, stride := 0x4, count := 1, reset := 0x0, mW1c := 0x4, mRo := 0xFF03 }]  -- TRP.PROF_STAT

/-- The registers of block SYS (spec/22_register_index.md). -/
def rowsSys : List RegRow := [
  { base := 0x10, stride := 0x4, count := 1, reset := 0xF01, mRo := 0xFFF },  -- SYS.STATE
  { base := 0x14, stride := 0x4, count := 1, reset := 0x690A0258, mRw := 0xFFFF33FF },  -- SYS.SEQ
  { base := 0x18, stride := 0x4, count := 1, reset := 0x7D00A14, mRw := 0xFFFFFFFF },  -- SYS.SEQ_T
  { base := 0x1C, stride := 0x4, count := 1, reset := 0x1E001E, mRw := 0x7F, mRo := 0xFF0300 },  -- SYS.HOLD
  { base := 0x20, stride := 0x4, count := 1, reset := 0x2580005, mRw := 0xFFFF000F },  -- SYS.PL_CFG
  { base := 0x24, stride := 0x4, count := 1, reset := 0x0, mRo := 0xF3F },  -- SYS.CAUSE
  { base := 0x28, stride := 0x4, count := 1, reset := 0x0, mW1c := 0x7F },  -- SYS.SEQ_STAT
  { base := 0x2C, stride := 0x4, count := 1, reset := 0x0, mRo := 0x70F },  -- SYS.AUXIO
  { base := 0x30, stride := 0x4, count := 1, reset := 0x0, mSeal := 0xFFFFF },  -- SYS.RAT_VLL
  { base := 0x34, stride := 0x4, count := 1, reset := 0x0, mSeal := 0x1FFFF },  -- SYS.RAT_S
  { base := 0x38, stride := 0x4, count := 1, reset := 0x0, mSeal := 0xFFFF },  -- SYS.RAT_DC
  { base := 0x40, stride := 0x4, count := 8, reset := 0x0, mSeal := 0x7FF },  -- SYS.RAT_PF
  { base := 0x60, stride := 0x4, count := 1, reset := 0x0, mRw := 0xFFFF },  -- SYS.GPIO_DIR
  { base := 0x64, stride := 0x4, count := 1, reset := 0x0, mRw := 0xFFFF },  -- SYS.GPIO_OUT
  { base := 0x68, stride := 0x4, count := 1, reset := 0x0, mRo := 0xFFFF },  -- SYS.GPIO_IN
  { base := 0x6C, stride := 0x4, count := 1, reset := 0x55555555, mRw := 0xFFFFFFFF },  -- SYS.GPIO_PULL
  { base := 0x0, stride := 0x4, count := 1, reset := 0x8820, mRo := 0xFFFFFFFF },  -- SYS.ID
  { base := 0x4, stride := 0x4, count := 1, reset := 0x4100, mRo := 0xFFFF },  -- SYS.STEP
  { base := 0x8, stride := 0x4, count := 1, reset := 0x0, mRo := 0xFFFFFFFF },  -- SYS.SERIAL
  { base := 0xC, stride := 0x4, count := 1, reset := 0x0, mRo := 0xFFFFFFFF }]  -- SYS.SERIAL (high)

/-- The registers of block MTR (spec/14_metering_and_quality.md). -/
def rowsMtr : List RegRow := [
  { base := 0x10000, stride := 0x4, count := 1, reset := 0x0, mRw := 0x3 },  -- MTR.CTRL
  { base := 0x10004, stride := 0x4, count := 1, reset := 0x0, mRw := 0x3F3F3F01 },  -- MTR.SRC
  { base := 0x10008, stride := 0x4, count := 1, reset := 0x3F000000, mRw := 0x3F3F3F3F },  -- MTR.SRC_I
  { base := 0x1000C, stride := 0x4, count := 1, reset := 0x10032, mRw := 0x1FFFF },  -- MTR.LATCH_CFG
  { base := 0x10010, stride := 0x4, count := 1, reset := 0x0, mW1c := 0x4FF, mRo := 0xB00 },  -- MTR.STATUS
  { base := 0x10014, stride := 0x4, count := 1, reset := 0x0, mWo := 0x1, mRo := 0xFFFF0000 },  -- MTR.SNAP
  { base := 0x10040, stride := 0x8, count := 10, reset := 0x0, mRo := 0xFFFFFFFF },  -- MTR.ACC
  { base := 0x10044, stride := 0x8, count := 10, reset := 0x0, mRo := 0xFFFFFFFF },  -- MTR.ACC (high)
  { base := 0x100C0, stride := 0x8, count := 10, reset := 0x0, mRo := 0xFFFFFFFF },  -- MTR.LATCH
  { base := 0x100C4, stride := 0x8, count := 10, reset := 0x0, mRo := 0xFFFFFFFF },  -- MTR.LATCH (high)
  { base := 0x10110, stride := 0x4, count := 1, reset := 0x0, mRo := 0xFFFFFFFF },  -- MTR.LATCH_TIME
  { base := 0x10114, stride := 0x4, count := 1, reset := 0x0, mRo := 0xFFFFFFFF },  -- MTR.LATCH_TIME (high)
  { base := 0x10118, stride := 0x4, count := 1, reset := 0x0, mRo := 0xFFFFFFFF },  -- MTR.LATCH_CNT
  { base := 0x1011C, stride := 0x4, count := 1, reset := 0x0, mRo := 0xFFFFFFFF },  -- MTR.BLOCK
  { base := 0x10120, stride := 0x4, count := 1, reset := 0x0, mRo := 0xFFFFFFFF },  -- MTR.SUBST_MS
  { base := 0x10140, stride := 0x4, count := 10, reset := 0x0, mRo := 0xFFFFFFFF },  -- MTR.WH32
  { base := 0x10180, stride := 0x4, count := 10, reset := 0x0, mRo := 0xFFFFFFFF },  -- MTR.WRAP
  { base := 0x10200, stride := 0x4, count := 1, reset := 0x0, mRo := 0xFFFFFFFF },  -- MTR.P
  { base := 0x10204, stride := 0x4, count := 1, reset := 0x0, mRo := 0xFFFFFFFF },  -- MTR.Q1
  { base := 0x10208, stride := 0x4, count := 1, reset := 0x0, mRo := 0xFFFFFFFF },  -- MTR.S
  { base := 0x1020C, stride := 0x4, count := 1, reset := 0x0, mRo := 0xFFFFFFFF },  -- MTR.PF
  { base := 0x11000, stride := 0x4, count := 2, reset := 0x3E80064, mRw := 0xFFFF00FF },  -- MTR.EP_CFG
  { base := 0x11008, stride := 0x4, count := 1, reset := 0x0, mRw := 0xFF },  -- MTR.EP_CTRL
  { base := 0x11010, stride := 0x4, count := 8, reset := 0x0, mRo := 0xFFFF001F },  -- MTR.EP_STAT
  { base := 0x11040, stride := 0x4, count := 8, reset := 0x0, mRo := 0xFFFFFFFF }]  -- MTR.EP_RES

/-- The registers of block PQE (spec/14_metering_and_quality.md). -/
def rowsPqe : List RegRow := [
  { base := 0x12000, stride := 0x4, count := 1, reset := 0x0, mRw := 0x7 },  -- PQE.CTRL
  { base := 0x12004, stride := 0x4, count := 1, reset := 0x0, mW1c := 0x700, mRo := 0xFFFF000F },  -- PQE.STATUS
  { base := 0x12008, stride := 0x4, count := 1, reset := 0xA0064, mRw := 0xFFFFFFFF },  -- PQE.NEU_CFG
  { base := 0x1200C, stride := 0x4, count := 1, reset := 0x0, mRo := 0xFFFFFFFF },  -- PQE.WIN_TIME
  { base := 0x12010, stride := 0x4, count := 1, reset := 0x0, mRo := 0xFFFFFFFF },  -- PQE.WIN_TIME (high)
  { base := 0x12014, stride := 0x4, count := 1, reset := 0x0, mRw := 0xF },  -- PQE.SPEC_SEL
  { base := 0x12100, stride := 0x10, count := 16, reset := 0x0, mRw := 0xC000003F },  -- PQE.CH.CFG
  { base := 0x12104, stride := 0x10, count := 16, reset := 0x0, mRo := 0xFFFFFFFF },  -- PQE.CH.RMS
  { base := 0x12108, stride := 0x10, count := 16, reset := 0x0, mRo := 0xFFFFFFFF },  -- PQE.CH.THD
  { base := 0x1210C, stride := 0x10, count := 16, reset := 0x0, mRo := 0xFF00000F },  -- PQE.CH.STAT
  { base := 0x12200, stride := 0x10, count := 8, reset := 0x0, mRo := 0x3FF },  -- PQE.SUPRA.PEAK
  { base := 0x12204, stride := 0x10, count := 8, reset := 0x0, mRo := 0xFFFFFFFF },  -- PQE.SUPRA.PEAK_VAL
  { base := 0x12208, stride := 0x10, count := 8, reset := 0x0, mRo := 0xFFFFFFFF },  -- PQE.SUPRA.TOTAL
  { base := 0x13000, stride := 0x4, count := 101, reset := 0x0, mRo := 0xFFFFFFFF },  -- PQE.HARM
  { base := 0x13200, stride := 0x4, count := 100, reset := 0x0, mRo := 0xFFFFFFFF }]  -- PQE.IHARM

/-- The registers of block NET (spec/15_process_bus.md). -/
def rowsNet : List RegRow := [
  { base := 0x14000, stride := 0x4, count := 1, reset := 0x0, mRw := 0x3F },  -- NET.CTRL
  { base := 0x14004, stride := 0x4, count := 1, reset := 0x0, mW1c := 0x60, mRo := 0x97 },  -- NET.STATUS
  { base := 0x14008, stride := 0x4, count := 1, reset := 0x0, mRo := 0xFFFFFFFF },  -- NET.MAC_LO
  { base := 0x1400C, stride := 0x4, count := 1, reset := 0x0, mRo := 0xFFFF },  -- NET.MAC_HI
  { base := 0x14100, stride := 0x20, count := 3, reset := 0x0, mRo := 0xFFFFFFFF },  -- NET.PORT.RX
  { base := 0x14104, stride := 0x20, count := 3, reset := 0x0, mRo := 0xFFFFFFFF },  -- NET.PORT.RXERR
  { base := 0x14108, stride := 0x20, count := 3, reset := 0x0, mRo := 0xFFFFFFFF },  -- NET.PORT.DUP
  { base := 0x1410C, stride := 0x20, count := 3, reset := 0x0, mRo := 0xFFFFFFFF },  -- NET.PORT.FWD
  { base := 0x14110, stride := 0x20, count := 3, reset := 0x0, mRo := 0xFFFFFFFF }]  -- NET.PORT.TX

/-- The registers of block PTP (spec/15_process_bus.md). -/
def rowsPtp : List RegRow := [
  { base := 0x15000, stride := 0x4, count := 1, reset := 0xA0002, mRw := 0x3F7F03 },  -- PTP.CTRL
  { base := 0x15004, stride := 0x4, count := 1, reset := 0x0, mW1c := 0x700, mRo := 0x1F },  -- PTP.STATUS
  { base := 0x15008, stride := 0x4, count := 1, reset := 0x0, mRo := 0xFFFFFFFF },  -- PTP.TIME
  { base := 0x1500C, stride := 0x4, count := 1, reset := 0x0, mRo := 0xFFFFFFFF },  -- PTP.TIME (high)
  { base := 0x15010, stride := 0x4, count := 1, reset := 0x0, mRo := 0xFFFFFFFF },  -- PTP.OFFSET
  { base := 0x15014, stride := 0x4, count := 2, reset := 0x0, mRo := 0xFFFFFFFF },  -- PTP.PDELAY
  { base := 0x1501C, stride := 0x4, count := 1, reset := 0x0, mRo := 0xFFFFFFFF },  -- PTP.GM_ID
  { base := 0x15020, stride := 0x4, count := 1, reset := 0x0, mRo := 0xFFFFFFFF },  -- PTP.GM_ID (high)
  { base := 0x15024, stride := 0x4, count := 1, reset := 0x0, mRo := 0xFF03FFFF }]  -- PTP.GM_Q

/-- The registers of block STR (spec/15_process_bus.md). -/
def rowsStr : List RegRow := [
  { base := 0x16000, stride := 0x4, count := 1, reset := 0x0, mRo := 0x1FFF0F7F },  -- STR.USED
  { base := 0x16004, stride := 0x4, count := 1, reset := 0x0, mW1c := 0x1FF },  -- STR.EVENT
  { base := 0x16010, stride := 0x4, count := 8, reset := 0x0, mRo := 0xFFFFFFFF },  -- STR.SUPV
  { base := 0x17000, stride := 0x10, count := 64, reset := 0x0, mRo := 0xFFFFFFFF },  -- STR.Q.CFG
  { base := 0x17004, stride := 0x10, count := 64, reset := 0x0, mRo := 0xFFFFFFFF },  -- STR.Q.THR
  { base := 0x17008, stride := 0x10, count := 64, reset := 0x0, mRo := 0xFFFF000F },  -- STR.Q.STAT
  { base := 0x1700C, stride := 0x10, count := 64, reset := 0x0, mRo := 0xFFFFFFFF }]  -- STR.Q.DIFF

/-- The registers of block CLK (spec/16_clock_synthesizer.md). -/
def rowsClk : List RegRow := [
  { base := 0x1000, stride := 0x4, count := 1, reset := 0x0, mRw := 0x133, mWo := 0x200 },  -- CLK.CTRL
  { base := 0x1004, stride := 0x4, count := 1, reset := 0x0, mW1c := 0x7F0000, mRo := 0x3FF },  -- CLK.STATUS
  { base := 0x1008, stride := 0x4, count := 1, reset := 0x0, mRo := 0xFFFFFFFF },  -- CLK.FOFS
  { base := 0x100C, stride := 0x4, count := 1, reset := 0x0, mRw := 0xFFFFFFFF },  -- CLK.TRIM
  { base := 0x1010, stride := 0x4, count := 1, reset := 0x64003C, mRw := 0x3FF03FF },  -- CLK.HOLD
  { base := 0x1014, stride := 0x4, count := 1, reset := 0x0, mRw := 0x1FFF },  -- CLK.ALIGN
  { base := 0x1018, stride := 0x4, count := 1, reset := 0x0, mRo := 0xFFFFFFFF },  -- CLK.PHASE_ERR
  { base := 0x101C, stride := 0x4, count := 1, reset := 0x0, mRo := 0xFFFFFFFF },  -- CLK.COUNT
  { base := 0x1020, stride := 0x4, count := 4, reset := 0xA00000, mRw := 0xFFFF0007 }]  -- CLK.CKO

/-- The registers of block GAF (spec/17_gaffer_and_memory.md). -/
def rowsGaf : List RegRow := [
  { base := 0x2000, stride := 0x4, count := 1, reset := 0x0, mRw := 0x1 },  -- GAF.CTRL
  { base := 0x2004, stride := 0x4, count := 1, reset := 0x0, mW1c := 0x7 },  -- GAF.STATUS
  { base := 0x2008, stride := 0x4, count := 1, reset := 0x76543210, mRw := 0xFFFFFF00, mRo := 0xFF },  -- GAF.RANK_LO
  { base := 0x200C, stride := 0x4, count := 1, reset := 0x6BA98, mRw := 0xFFFFF },  -- GAF.RANK_HI
  { base := 0x2010, stride := 0x4, count := 1, reset := 0x0, mW1c := 0x1FFF },  -- GAF.STARVE
  { base := 0x2014, stride := 0x4, count := 1, reset := 0x0, mW1c := 0x1FFF },  -- GAF.CUT
  { base := 0x2018, stride := 0x4, count := 1, reset := 0xF0F0F, mRo := 0xF0F0F },  -- GAF.OWNER
  { base := 0x201C, stride := 0x4, count := 1, reset := 0x0, mRw := 0xFFFFFFFF },  -- GAF.EXT_WIN
  { base := 0x2040, stride := 0x4, count := 13, reset := 0x0, mRw := 0xFFFFFFFF },  -- GAF.REQ
  { base := 0x2080, stride := 0x4, count := 13, reset := 0x0, mW1c := 0xFFFF }]  -- GAF.WAIT

/-- The registers of block MEM (spec/17_gaffer_and_memory.md). -/
def rowsMem : List RegRow := [
  { base := 0x1A000, stride := 0x4, count := 1, reset := 0x3, mRw := 0x3 },  -- MEM.CTRL
  { base := 0x1A004, stride := 0x4, count := 1, reset := 0x0, mW1c := 0x62F, mRo := 0x1D0 },  -- MEM.STATUS
  { base := 0x1A008, stride := 0x4, count := 1, reset := 0x0, mRo := 0xFFFFFFFF },  -- MEM.SRAM_CNT
  { base := 0x1A00C, stride := 0x4, count := 1, reset := 0x0, mRo := 0xFFFFFFFF },  -- MEM.DRAM_CNT
  { base := 0x1A010, stride := 0x4, count := 1, reset := 0x0, mRo := 0xFFFFFFFF },  -- MEM.SRAM_ERR
  { base := 0x1A014, stride := 0x4, count := 1, reset := 0x0, mRo := 0xFFFFFFFF },  -- MEM.DRAM_ERR
  { base := 0x1A018, stride := 0x4, count := 1, reset := 0x0, mRo := 0xFFFFFFFF },  -- MEM.DRAM_REREAD
  { base := 0x1A01C, stride := 0x4, count := 1, reset := 0x0, mRo := 0xFFFFFFFF },  -- MEM.SCRUB
  { base := 0x1A020, stride := 0x4, count := 1, reset := 0x1E000A, mRw := 0xFFFF007F },  -- MEM.EMMC_CFG
  { base := 0x1A024, stride := 0x4, count := 1, reset := 0x0, mRo := 0xFFFFFFFF },  -- MEM.EMMC_STAT
  { base := 0x1A028, stride := 0x4, count := 1, reset := 0x0, mRo := 0xFFFFFFFF }]  -- MEM.EMMC_CNT

/-- The registers of block REL (spec/18_reels_and_dailies.md). -/
def rowsRel : List RegRow := [
  { base := 0x1B000, stride := 0x4, count := 1, reset := 0x0, mW1c := 0x6, mRo := 0xFFFF0000 },  -- REL.STATUS
  { base := 0x1B004, stride := 0x4, count := 1, reset := 0x0, mRo := 0xFFFFFFFF },  -- REL.LOAD
  { base := 0x1B008, stride := 0x4, count := 1, reset := 0x0, mRo := 0xFFFFFFFF },  -- REL.REC
  { base := 0x1B00C, stride := 0x4, count := 1, reset := 0x0, mRo := 0xFFFFFFFF },  -- REL.DLY
  { base := 0x1B100, stride := 0x20, count := 16, reset := 0x1, mCue := 0x1F3FFFFF },  -- REL.CFG
  { base := 0x1B104, stride := 0x20, count := 16, reset := 0x0, mCue := 0xFFFFFFFF },  -- REL.AREA
  { base := 0x1B108, stride := 0x20, count := 16, reset := 0x0, mCue := 0xFFFFFFFF },  -- REL.PRE
  { base := 0x1B10C, stride := 0x20, count := 16, reset := 0x0, mCue := 0xFFFFFFFF },  -- REL.POST
  { base := 0x1B114, stride := 0x20, count := 16, reset := 0x0, mCue := 0xFFFFFFFF },  -- REL.LEVEL
  { base := 0x1B118, stride := 0x20, count := 16, reset := 0x0, mCue := 0xFFFFFFFF },  -- REL.HYST
  { base := 0x1B110, stride := 0x20, count := 16, reset := 0x0, mCue := 0x1F1F },  -- REL.TRIG
  { base := 0x1B11C, stride := 0x20, count := 16, reset := 0x0, mW1c := 0xB0, mRo := 0xFFFFF047 }]  -- REL.STATUS

/-- The registers of block HOST (spec/22_register_index.md). -/
def rowsHost : List RegRow := [
  { base := 0x1F000, stride := 0x4, count := 1, reset := 0x4, mW1c := 0x30, mRo := 0x1FF0007 },  -- HOST.STATUS
  { base := 0x1F004, stride := 0x4, count := 1, reset := 0x3, mRw := 0x7 },  -- HOST.CFG
  { base := 0x1F008, stride := 0x4, count := 1, reset := 0x0, mRo := 0xFFFFFFFF },  -- HOST.QUEUE
  { base := 0x1F00C, stride := 0x4, count := 1, reset := 0x0, mRo := 0xFFFFFFFF },  -- HOST.AUTH_CNT
  { base := 0x1F010, stride := 0x4, count := 1, reset := 0x0, mW1c := 0xF, mRo := 0xFFFF0000 }]  -- HOST.ACC_ERR

/-- The registers of block SEC (spec/20_security_and_continuity.md). -/
def rowsSec : List RegRow := [
  { base := 0x1C000, stride := 0x4, count := 1, reset := 0x0, mW1c := 0x10, mRo := 0x2F },  -- SEC.STATUS
  { base := 0x1C004, stride := 0x4, count := 1, reset := 0x0, mRo := 0x7 },  -- SEC.BOOT
  { base := 0x1C008, stride := 0x4, count := 1, reset := 0x0, mRo := 0xF },  -- SEC.VIOL
  { base := 0x1C010, stride := 0x4, count := 4, reset := 0x0, mRo := 0xFFFFFFFF },  -- SEC.CNT
  { base := 0x1C020, stride := 0x4, count := 1, reset := 0x0, mRo := 0xFFFFFFFF },  -- SEC.RTC
  { base := 0x1C024, stride := 0x4, count := 1, reset := 0x0, mRo := 0xFFFFFFFF }]  -- SEC.RTC (high)

/-- The registers of block LOG (spec/20_security_and_continuity.md). -/
def rowsLog : List RegRow := [
  { base := 0x1D000, stride := 0x4, count := 1, reset := 0x0, mW1c := 0x1, mRo := 0x2 },  -- LOG.STATUS
  { base := 0x1D004, stride := 0x4, count := 1, reset := 0x0, mRo := 0xFFFFFFFF },  -- LOG.NEXT
  { base := 0x1D008, stride := 0x4, count := 1, reset := 0x0, mRo := 0xFFFFFFFF },  -- LOG.NEXT (high)
  { base := 0x1D00C, stride := 0x4, count := 1, reset := 0x0, mRo := 0xFFFFFFFF },  -- LOG.SPILLED
  { base := 0x1D010, stride := 0x4, count := 1, reset := 0x0, mRo := 0xFFFFFFFF },  -- LOG.SPILLED (high)
  { base := 0x1D014, stride := 0x4, count := 1, reset := 0x0, mRo := 0xFFFFFFFF },  -- LOG.SEALED
  { base := 0x1D018, stride := 0x4, count := 1, reset := 0x0, mRo := 0xFFFFFFFF }]  -- LOG.LOST

/-- The registers of block FLT (spec/21_faults_and_availability.md). -/
def rowsFlt : List RegRow := [
  { base := 0x1E000, stride := 0x4, count := 1, reset := 0x0, mW1c := 0x102, mRo := 0x1FF0001 },  -- FLT.STATUS
  { base := 0x1E004, stride := 0x4, count := 1, reset := 0x0, mRo := 0xFFFFFFFF },  -- FLT.INDEX
  { base := 0x1E008, stride := 0x4, count := 1, reset := 0x0, mRo := 0xFFFF07FF },  -- FLT.LAST
  { base := 0x1E00C, stride := 0x4, count := 1, reset := 0x0, mRo := 0xFFFFFFFF },  -- FLT.LOST
  { base := 0x1E010, stride := 0x4, count := 1, reset := 0x0, mRo := 0x10F },  -- FLT.AVAIL
  { base := 0x1E014, stride := 0x4, count := 1, reset := 0x0, mW1c := 0xFFFFFFFF },  -- FLT.OUTAGE
  { base := 0x1E018, stride := 0x4, count := 1, reset := 0x0, mW1c := 0xFFFFFFFF },  -- FLT.OUTAGE_X
  { base := 0x1E01C, stride := 0x4, count := 1, reset := 0x0, mRo := 0xFFFFFFFF },  -- FLT.OUTAGE_CNT
  { base := 0x1E020, stride := 0x4, count := 1, reset := 0x0, mRo := 0xFFFF000F },  -- FLT.CHK
  { base := 0x1E100, stride := 0x4, count := 64, reset := 0x0, mRo := 0xFFFFFFFF }]  -- FLT.CLASS_CNT

/-- The registers of one 4 KiB page of the window (the block map of spec/22_register_index.md). -/
def pageRows : Nat → List RegRow
  | 3 => rowsSeq
  | 4 => rowsMod
  | 5 => rowsMod
  | 6 => rowsSyn
  | 7 => rowsBnd
  | 8 => rowsPwm
  | 9 => rowsIsl
  | 12 => rowsOlp
  | 13 => rowsFed
  | 14 => rowsFrt
  | 15 => rowsIsd
  | 10 => rowsCmp
  | 11 => rowsTrp
  | 0 => rowsSys
  | 16 => rowsMtr
  | 17 => rowsMtr
  | 18 => rowsPqe
  | 19 => rowsPqe
  | 20 => rowsNet
  | 21 => rowsPtp
  | 22 => rowsStr
  | 23 => rowsStr
  | 1 => rowsClk
  | 2 => rowsGaf
  | 26 => rowsMem
  | 27 => rowsRel
  | 31 => rowsHost
  | 28 => rowsSec
  | 29 => rowsLog
  | 30 => rowsFlt
  | _ => []

/-- Whether a row lists the word at an address. -/
def RegRow.hit (r : RegRow) (a : Nat) : Bool :=
  decide (r.base ≤ a) && decide ((a - r.base) % r.stride = 0) && decide ((a - r.base) / r.stride < r.count)

/-- The index of the array element at an address. -/
def RegRow.index (r : RegRow) (a : Nat) : Nat := (a - r.base) / r.stride

/-- The row of an address; none where no register is listed (R424). -/
def rowOf (a : Nat) : Option RegRow := (pageRows (a / 4096)).find? (·.hit a)

/-- Reset words of GAF.REQ by requester (R348). -/
def gafReqReset (i : Nat) : Nat :=
  if i = 0 then 0x8 else if i = 1 then 0x10 else if i ≤ 3 then 0x100040 else if i = 4 then 0x400100
  else if i ≤ 6 then 0x1000200 else if i = 7 then 0x100 else if i ≤ 11 then 0x1000400 else 0x1000040

/-- The role code of an island: outer 0, inner 1, dump 2 (R150). -/
def islandRole (n : Nat) : Nat :=
  if 12 ≤ n then 2 else if n % 4 = 0 || n % 4 = 3 then 0 else 1

/-- The default undervoltage envelope points 0 to 5 (R224): time in ms and voltage in 1/1,000 pu. -/
def uvReset : Nat → Nat
  | 1 => 0x00FA0000 | 2 => 0x00FA0096 | 3 => 0x05DC0352 | 4 => 0x0BB80352 | 5 => 0x0BB80384
  | _ => 0

/-- The default overvoltage envelope points 0 to 5 (R224). -/
def ovReset : Nat → Nat
  | 0 => 0x00000514 | 1 => 0x00640514 | 2 => 0x006404E2 | 3 => 0x03E804E2 | 4 => 0x03E8047E
  | 5 => 0xEA60044C | _ => 0

/-- The reset word of an address (R425); the words of the register tables that vary over an
array, and the two factory values, stand in their own definitions. -/
def resetWord (a : Nat) : Word :=
  if a = 0x8 then Config.serial.extractLsb' 0 32
  else if a = 0xC then Config.serial.extractLsb' 32 32
  else if a = 0x14008 then Config.mac.extractLsb' 0 32
  else if a = 0x1400C then (Config.mac.extractLsb' 32 16).setWidth 32
  else match rowOf a with
    | none => 0
    | some r =>
      let i := r.index a
      BitVec.ofNat 32 (
        if r.base = 0x2040 then gafReqReset i
        else if r.base = 0x9100 then islandRole i * 0x10000 + 1
        else if r.base = 0x502C then (if i ≤ 15 then 0x0B40 else 0x7080)
        else if r.base = 0x5030 then (if i ≤ 15 then 0x1FF00 else 0x4F600)
        else if r.base = 0xE100 then uvReset i
        else if r.base = 0xE140 then ovReset i
        else r.reset)

end Sys2Proof.Machine
end

