-- ==== Sys2Proof/Machine/SMap.lean ====
section
/-!
DEFINITION. Sparse stores in one canonical form: the keys strictly rise, and no listed value
equals what an unlisted key reads as. Every addressed store of the model (register words,
state memory, coefficients, tables, DRAM bytes) is one of these, so equal contents are equal data.
-/
namespace Sys2Proof.Machine

/-- A sparse store: the keys that differ from the default, in rising order. -/
abbrev SMap (α : Type) := List (Nat × α)

/-- Reads a key; an unlisted key reads as `d` says. -/
def mapGet {α : Type} (d : Nat → α) : SMap α → Nat → α
  | [], a => d a
  | (k, v) :: m, a => if a = k then v else mapGet d m a

/-- Removes a key, so that it reads as the default again. -/
def mapDel {α : Type} (m : SMap α) (a : Nat) : SMap α := m.filter (fun e => decide (e.1 ≠ a))

/-- Lists a value under a key, in the place of the key's entry or before the first higher key. -/
def mapIns {α : Type} : SMap α → Nat → α → SMap α
  | [], a, v => [(a, v)]
  | (k, w) :: m, a, v =>
    if a = k then (a, v) :: m else if a < k then (a, v) :: (k, w) :: m else (k, w) :: mapIns m a v

/-- Writes a key, keeping the canonical form: a value the default already reads as is not listed. -/
def mapPut {α : Type} [DecidableEq α] (d : Nat → α) (m : SMap α) (a : Nat) (v : α) : SMap α :=
  if v = d a then mapDel m a else mapIns m a v

/-- The keys of a store rise strictly above `lo`, and no entry is the default. -/
def mapWfAbove {α : Type} [DecidableEq α] (d : Nat → α) : Nat → SMap α → Bool
  | _, [] => true
  | lo, (k, v) :: m => decide (lo ≤ k) && decide (v ≠ d k) && mapWfAbove d (k + 1) m

/-- The canonical form. -/
def mapWf {α : Type} [DecidableEq α] (d : Nat → α) (m : SMap α) : Bool := mapWfAbove d 0 m

/-- Writes consecutive keys from `a` on. -/
def mapPutList {α : Type} [DecidableEq α] (d : Nat → α) (m : SMap α) (a : Nat) : List α → SMap α
  | [] => m
  | v :: vs => mapPutList d (mapPut d m a v) (a + 1) vs

/-- Reads `n` consecutive keys from `a` on. -/
def mapGetList {α : Type} (d : Nat → α) (m : SMap α) (a : Nat) : Nat → List α
  | 0 => []
  | n + 1 => mapGet d m a :: mapGetList d m (a + 1) n

/-- Removes the keys of a half-open range, so that they read as the default again. -/
def mapClearRange {α : Type} (m : SMap α) (lo hi : Nat) : SMap α :=
  m.filter (fun e => decide (e.1 < lo) || decide (hi ≤ e.1))

/-! ### A fixed number of like units -/

/-- Replaces the element of a list at an index; a list without that index is unchanged. -/
def updAt {α : Type} (l : List α) (i : Nat) (f : α → α) : List α :=
  match l, i with
  | [], _ => []
  | x :: xs, 0 => f x :: xs
  | x :: xs, n + 1 => x :: updAt xs n f

theorem length_updAt {α : Type} (l : List α) (i : Nat) (f : α → α) : (updAt l i f).length = l.length := by
  induction l generalizing i with
  | nil => rfl
  | cons x xs ih => cases i with
    | zero => rfl
    | succ n => simp [updAt, ih]

/-- A fixed number of like units: islands, feeds, channels, reels. -/
structure Units (α : Type) (n : Nat) where
  list : List α
  len  : list.length = n
  deriving DecidableEq, Repr

/-- As many units alike. -/
def Units.fill {α : Type} (n : Nat) (a : α) : Units α n := ⟨List.replicate n a, List.length_replicate⟩

/-- A unit; past the last, the value given. -/
def Units.get {α : Type} {n : Nat} (u : Units α n) (i : Nat) (d : α) : α := u.list.getD i d

/-- Changes a unit; past the last, nothing. -/
def Units.upd {α : Type} {n : Nat} (u : Units α n) (i : Nat) (f : α → α) : Units α n :=
  ⟨updAt u.list i f, (length_updAt _ _ _).trans u.len⟩

/-- Changes every unit. -/
def Units.map {α β : Type} {n : Nat} (u : Units α n) (f : α → β) : Units β n :=
  ⟨u.list.map f, (List.length_map f).trans u.len⟩

end Sys2Proof.Machine
end

