-- ==== Sys2Proof/Machine/State.lean ====
section
/-!
DEFINITION. The state of one MLD-8820 as plain data: the register window, the memories, and for
each block what its chapter of spec/ says it keeps. A register's one home is `regs` (and `eff` for
the value in effect of a field of access RWS); everything else here has no register.
-/
namespace Sys2Proof.Machine

/-- What stops the machine. Safe: the hardware never presents such operands, so a claim about a
step that ends here says nothing false. -/
inductive Fault where
  /-- Raised by the meaning of LOAD (`execLoad`) on a latency outside the 1 to 14 cycles of R45, which no access
  of the machine has. Safe. -/
  | illFormed
  deriving DecidableEq, Repr

/-- What the model refuses. -/
inductive Refusal where
  /-- Raised by the dispatch of a command with no meaning yet. Safe. -/
  | notModelled (mnemonic : String)
  deriving DecidableEq, Repr

/-- The instants a duration of the manual is measured from: one timer each, running or not. -/
inductive TimerKey where
  | directorEval | holdover | pulse32 | pulse33 | brkPulse | innerDelay
  | pchHold | pchEntry | dcdClose | brkClose | stopEntry | stopLow | brkOpen | gridWait
  | clockLoss | discharge | dcdOpenWait | resetQueued | releaseGrid | profileApplied
  | feedStart (k : Nat) | feedLow (k : Nat) | feedRetry (k : Nat) | feedFix (k : Nat) | feedRun (k : Nat)
  | frtJumpHold | realign | supvHold (dev : Nat) | recon | topo
  | cmpTest (n : Nat) | cmpLast (n : Nat) | traceHold
  | svSup (ctx : Nat) | gooseSup (ctx : Nat) | gooseRetx (ctx : Nat)
  | clkHold | drTrain | scrubS | scrubD | mgmtIdle (conn : Nat)
  | bgLine (n : Nat) | bgChan (n : Nat) | bgWear | bgSpill | bgDigest (k : Nat) | checker
  deriving DecidableEq, Repr

/-- Where a write that waits for a tick lands (R30). -/
inductive PendSpace where
  /-- An RWS register word; `addr` is its address. -/
  | reg
  /-- A setpoint shadow; `addr` is its state word (R40). -/
  | setpoint
  /-- A tunable coefficient of the active bank (R56). -/
  | coef
  /-- A word of the table memory of the active bank (R389). -/
  | table
  /-- A register word that a cue of the director writes (R24). -/
  | direct
  deriving DecidableEq, Repr

/-- A write that completed in SCLK cycle `cycle` and takes effect at the first tick of a later
cycle (R30). -/
structure PendWrite where
  space : PendSpace
  addr  : Nat
  val   : Word
  cycle : Nat
  /-- Bits a director's write names, and its opcode (R24). -/
  mask  : Word := 0xFFFFFFFF
  op    : Nat := 0
  deriving DecidableEq, Repr

/-! ### Frames, scenes and the sequencer (spec/02_frame_and_script.md) -/

/-- One scene-table entry (R52). -/
structure SceneEntry where
  first : Nat := 0
  len   : Nat := 0
  flags : Nat := 0
  worst : Nat := 0
  deriving DecidableEq, Repr

/-- One bank of the script memories with the header values of the image in it (R39, R52). -/
structure Bank where
  /-- The bank holds a load that completed with OK (R54). -/
  valid    : Bool := false
  id       : Word := 0
  version  : Word := 0
  rollback : Word := 0
  pMin     : Nat := 2000
  worst    : Nat := 0
  /-- Scenes for STOPPING, PILOT_LIGHT and HALT. -/
  forced   : List Nat := []
  scenes   : List SceneEntry := []
  shots    : SMap (BitVec 64) := []
  k        : SMap Word := []
  tunable  : List Byte := []
  init     : SMap Word := []
  carry    : List Byte := []
  table    : SMap Word := []
  res      : List Nat := []
  digest   : BitVec 384 := 0
  deriving DecidableEq, Repr

/-- How the frame in progress stands (R31, R46). -/
inductive FramePhase where
  /-- No frame has started: before the first tick, or no scene to run (R282). -/
  | none
  /-- Shots are issuing. -/
  | running
  /-- END has retired before the tick. -/
  | ended
  /-- The frame ended under R46; nothing it staged commits. -/
  | killed
  deriving DecidableEq, Repr

/-- The sequencer. -/
structure Seq where
  bank0 : Bank := {}
  bank1 : Bank := {}
  /-- State memory S (R39), binary32 patterns; unlisted words are 0. -/
  st : SMap Word := []
  /-- Setpoint shadows by state word, Q15.16 (R40). -/
  setp : SMap Word := []
  /-- Values staged by PUB shots of this frame, latest first (R47). -/
  pub : List (Nat × Word) := []
  /-- Values staged by STORE shots of this frame, latest first (R47). -/
  sto : List (Nat × Word) := []
  /-- Committed output ports, Q15.16 (R47, R105). -/
  ports : SMap Word := []
  phase : FramePhase := .none
  /-- SCLK cycle of the last tick. -/
  tickCycle : Nat := 0
  /-- A tick has occurred since BOOT (R37). -/
  ticked : Bool := false
  /-- The frame period in force (R36). -/
  period : Nat := 4000
  /-- Issue cycle of the last shot, from the tick; 1 before the first (R45). -/
  lastIssue : Nat := 1
  /-- Shots of the running scene that have issued in this frame (R45, R49). -/
  issued : Nat := 0
  /-- State words whose result is still in flight: word, cycle it is free (R45). -/
  busy : List (Nat × Nat) := []
  /-- The latest cycle at which an earlier result is written (R45). -/
  lastReady : Nat := 0
  /-- The frame in progress ended late, or as an overrun (R31, R46). -/
  late : Bool := false
  overran : Bool := false
  /-- The frame that ended at the last tick was late, or overran (R364). -/
  wasLate : Bool := false
  wasOverran : Bool := false
  /-- Consecutive frames with a datapath mismatch (R46). -/
  mismatchRun : Nat := 0
  /-- The scene named by the pending swap (R55). -/
  swapScene : Nat := 0
  /-- SCLK cycle in which the pending swap's cue completed (R55, R30). -/
  swapAt : Nat := 0
  /-- The last scene selection: its SCLK cycle, and the scene that a tick of that cycle still runs (R30, R49). -/
  sceneNew : Option (Nat × Nat) := none
  deriving DecidableEq, Repr

/-! ### Band law (spec/05_band_law.md) -/

/-- A ramp: value and target in 2^-80 pu, rate in 2^-16 pu/s (R106). -/
structure Ramp where
  val  : Int := 0
  tgt  : Int := 0
  rate : Nat := 0
  deriving DecidableEq, Repr

/-- A level change of a leg: an armed edge, or one whose report is awaited (R113 to R116). -/
structure Edge where
  /-- The call was up (R110). -/
  up    : Bool
  old   : Nat
  new   : Nat
  /-- Scheduled instant t_e. -/
  te    : Time
  /-- End of the sample interval that holds t_e (R114). -/
  till  : Time
  /-- The last edge that stood before this one. -/
  last  : Option Time := none
  withdrawn : Bool := false
  /-- The level its withdrawal reverts to, where a late report changed it since (R115). -/
  back  : Option Nat := none
  deriving DecidableEq, Repr

/-- The return sequence of a leg (R120). -/
inductive RetPhase where
  | off
  /-- Flat band until the carrier zero. -/
  | waiting
  /-- The ramp of k and h, from an instant over a duration. -/
  | ramp (start dur : Nat)
  deriving DecidableEq, Repr

/-- One decision leg: band channels 0 to 10, 11 the upper and 12 the lower half of the dump. -/
structure BandLeg where
  /-- Error of the last sample in 2^-20 pu, where it was valid. -/
  prevErr  : Option Int := none
  /-- Reference of the last sample after limiting, 2^-20 pu. -/
  ref      : Int := 0
  /-- Band h of NORMAL posture in 2^-48 pu (R118, R119). -/
  h        : Nat := 0
  /-- The leg decides in flat shape (R119). -/
  flat     : Bool := false
  ret      : RetPhase := .off
  armed    : Option Edge := none
  /-- Edges armed whose execution report is awaited, newest first, at most 8 (R115, R116). -/
  edges    : List Edge := []
  /-- Scheduled time of the last edge that stands, for the dwell (R112). -/
  lastEdge : Option Time := none
  /-- The leg was released by the start sequence (R279), at this time. -/
  released : Bool := false
  releasedAt : Time := 0
  /-- Soft ramp in progress (R124). -/
  soft     : Bool := false
  /-- Executed level changes and SCLK cycles of each frame, newest first; whether it counts (R118). -/
  frames   : List (Nat × Nat × Bool) := []
  nowCnt   : Nat := 0
  /-- The frame in progress is discarded from the window (R118). -/
  spoiled  : Bool := false
  /-- Dump half: the state its last edge intends. -/
  on       : Bool := false
  /-- Three-level feed: the output that served the last entry to level 1 is B (R130). -/
  servedB  : Bool := false
  /-- Consecutive ticks with h at a clamp and f_meas more than 5 % off the target (R118). -/
  offTarget : Nat := 0
  deriving DecidableEq, Repr

/-- The band law beyond its registers. -/
structure Band where
  legs : Units BandLeg 13 := .fill 13 {}
  /-- Ramps: I1D, I1Q, I2D, I2Q, ZS, then feeds 0 to 7 (R105, R106). -/
  ramps : Units Ramp 13 := .fill 13 {}
  /-- θ_r − θ in 2^-64 turns, and when it was last advanced (R121). -/
  delta  : Int := 0
  deltaT : Time := 0
  /-- The posture the ride-through detector last decided (R119). -/
  fault : Bool := false
  /-- References of the ride-through detector while they are in force, 2^-80 pu: I1D, I1Q, I2D, I2Q
  (R107). -/
  frt : Option (Int × Int × Int × Int) := none
  /-- The first SCLK cycle in which the decision pipeline accepts a channel again (R104). -/
  nextSlot : Nat := 0
  deriving DecidableEq, Repr

/-! ### Carriers, compares and edge placement (spec/06_pulse_generation.md) -/

/-- A dead-time release under way (R137). -/
structure Release where
  te    : Time
  /-- The incoming output or island. -/
  out   : Nat
  /-- The observed transition. -/
  tr    : Option Time := none
  deriving DecidableEq, Repr

/-- One carrier unit beyond its registers. -/
structure CarrierUnit where
  /-- An instant at which the counter stood at position 0, going up (R127). -/
  org : Int := 0
  /-- Shadows written since their last transfer: PRD, CMPA, CMPB (R132). -/
  newPrd : Bool := false
  newA   : Bool := false
  newB   : Bool := false
  /-- A commit waits for the reload point, the SCLK cycle it landed in, and that of the latest one (R132, R133). -/
  commit : Bool := false
  commitAt : Nat := 0
  commitLast : Nat := 0
  /-- SCLK cycle of the last transfer in paired mode (R132). -/
  moved : Option Nat := none
  /-- Shadow writes of the latest cycle: item, SCLK cycle, value before, whether it was new (R133). -/
  wr : List (Nat × Nat × Nat × Bool) := []
  /-- Cycle of the last reload point. -/
  reload : Nat := 0
  /-- Instants the outputs A and B last opened, and the outputs' intended states (R136). -/
  openA : Time := 0
  openB : Time := 0
  wantA : Bool := false
  wantB : Bool := false
  rel : Option Release := none
  /-- Consecutive misses (R137). -/
  missRun : Nat := 0
  /-- Valley-to-valley periods with H on throughout, whether it stayed on in this one (R139). -/
  fullOn : Nat := 0
  stayed : Bool := true
  /-- A notch is requested at the next valley by a low WKS (R140); the valley the running notch began
  at, and whether a low WKS had asked for it. -/
  wantNotch : Bool := false
  lowNotch  : Bool := false
  notch     : Option Time := none
  /-- Clap error not yet corrected, in counts, positive to advance (R143); the corrections of the running half period
  and the instant they began. `org` is the origin they lead to. -/
  slew : Int := 0
  slewing : Int := 0
  slewFrom : Time := 0
  /-- Outputs whose present opening edge is suppressed (R136): leg of CU0 (0 elsewhere), output. -/
  dropped : List (Nat × Nat) := []
  /-- FSN pad level (R137). -/
  fsn : Bool := false
  deriving DecidableEq, Repr

/-- The clapper beyond its registers (R142 to R145). -/
structure Clapper where
  /-- The last clap. -/
  last : Time := 0
  /-- The last rising edge of CLAP_OUT. -/
  out : Option Time := none
  deriving DecidableEq, Repr

/-! ### Gate islands and the Pyngeo link (spec/07_gate_islands.md) -/

/-- Frame types from the primary (R158). -/
inductive Down where
  | ping (time : Nat)
  | edgeArm (on imm : Bool) (at' : Time)
  | cancel (at' : Time)
  | stateOff | outerConfirm | clear
  | cfg (item value : Nat)
  deriving DecidableEq, Repr

/-- Frame types from an island (R158). -/
inductive Up where
  | idle (seq : Nat)
  | edgeDone (res : Nat) (at' : Time)
  | vceTime (rise : Bool) (at' : Time)
  | fault (bits : Nat)
  | softDone (at' : Time)
  | meas (kind : Nat) (val : Nat)
  | nak (seq : Nat)
  deriving DecidableEq, Repr

/-- A queued frame: its sequence number, whether the first copy has gone (R159) or, for a CFG or PING, its one
transmission (R162), and the commit it may not precede (R26). -/
structure Queued (α : Type) where
  frame : α
  seq   : Nat := 0
  sent  : Bool := false
  ready : Time := 0
  deriving DecidableEq, Repr

/-- A CFG or PING sent once and not yet confirmed (R162). -/
structure Echo where
  seq    : Nat
  /-- End of the frame. -/
  done   : Time
  frame  : Down
  resent : Bool := false
  deriving DecidableEq, Repr

/-- One island, its link, and the primary's record of both. -/
structure Island where
  /-- Primary queue of this link, oldest first; the next SEQ (R159). -/
  txq   : List (Queued Down) := []
  txSeq : Nat := 0
  /-- The 32 bits on the wire in each direction (R157). -/
  wire  : Option Word := none
  upq   : List (Queued Up) := []
  upSeq : Nat := 0
  upWire : Option Word := none
  /-- TYPE and SEQ of the last critical frames acted on at each end, newest first, for repeats (R159). -/
  downSeen : List (Nat × Nat) := []
  upSeen   : Option (Nat × Nat) := none
  /-- SEQ of the last good primary frame, for IDLE (R158). -/
  goodSeq  : Nat := 0
  /-- CFG and PING frames awaiting their echo (R162). -/
  echoes : List Echo := []
  /-- End of the last good frame at the island and at the primary (R163). -/
  goodDown : Time := 0
  goodUp   : Time := 0
  /-- Slot of the last frame failing its CRC, and failures in consecutive slots, at the island and
  at the primary (R162). -/
  badDown : Nat := 0
  runDown : Nat := 0
  badUp   : Nat := 0
  runUp   : Nat := 0
  /-- The primary sends nothing more but one STATE OFF (R163). -/
  muted : Bool := false
  offAllowed : Bool := false
  /-- The link is to train: at boot, or commanded by a trip-reset cue (R163). -/
  training : Bool := true
  /-- Primary: the link has trained and is not lost, and the CFG items of its training that no echo has confirmed
  (R164). -/
  joined  : Bool := false
  cfgTodo : List Nat := []
  /-- Primary: the last VCE_TIME and SOFT_DONE times reported (R158). -/
  vceAt  : Option (Bool × Time) := none
  softAt : Option Time := none
  /-- Island side: switch on; armed edge (on, immediate, instant); release of R137. -/
  on    : Bool := false
  armed : Option (Bool × Bool × Time) := none
  rel   : Option Release := none
  /-- Fault latch (R166) and hold until CLEAR (R164). -/
  latched : Bool := false
  /-- The primary holds source 28 for this island until CLEAR (R257). -/
  scLatch : Bool := false
  held    : Bool := true
  /-- The link trained and its CFG items have arrived (R164). -/
  trained : Bool := false
  cfgDone : Bool := false
  /-- Island side: the settings received by CFG frame, by item (R158), and the items of this training. -/
  cfg : List (Nat × Byte) := []
  got : List Nat := []
  /-- Island side: it self-offed and keeps reporting LINK_LOST (R163). -/
  lost : Bool := false
  /-- Island side: the last MEAS of temperature, VP and VN (R170). -/
  measAt : Nat × Nat × Nat := (0, 0, 0)
  /-- Island side: it follows a link that has trained, so that its heartbeat runs (R163). -/
  linked  : Bool := false
  /-- Start of the running soft-off (R156). -/
  soft : Option Time := none
  /-- Present levels (R446). -/
  oc : Bool := false
  sc : Bool := false
  uvlo : Bool := false
  warn : Bool := false
  ot : Bool := false
  /-- Both supplies have been above their rising trip thresholds since (R153). -/
  goodSince : Option Time := none
  /-- End of OC blanking, and an OC whose filter expired in it (R165). -/
  blankEnd : Time := 0
  ocWait : Bool := false
  /-- SC detected on an inner island, awaiting OUTER_CONFIRM since (R166). -/
  scWait : Option Time := none
  /-- Primary: the last report showed the turn-off complete and no ON was sent since (R166). -/
  offDone : Bool := false
  /-- Primary: an inner SC report awaits the leg's outer turn-offs (R166). -/
  wantConfirm : Bool := false
  /-- Times of the last 16 SC events with their I2T contribution in 1/256 pu² µs (R264). -/
  scTimes : List (Time × Nat) := []
  /-- The primary wants STATE OFF at the inner delay (R260). -/
  offLater : Bool := false
  deriving DecidableEq, Repr

/-! ### Comparators, snuffer and energy governor (spec/12_trip_network.md) -/

/-- The trip network beyond its registers. -/
structure Trip where
  /-- Targets held by the forced latches of sources 31, 34, 35 and 36 (R259). -/
  forced31 : Nat := 0
  forced34 : Nat := 0
  forced35 : Nat := 0
  forced36 : Nat := 0
  /-- Targets in a soft ramp that has not reached OFF (R259). -/
  ramping : Nat := 0
  /-- FCLK clock of the assertion recorded in TRP.FIRST (R259). -/
  firstClk : Nat := 0
  /-- Raw comparator outputs (R251): bit n of CMPn, before the majority filter. -/
  raw : Nat := 0
  /-- Comparators still in their power-up alarm (R253). -/
  boot : Nat := 0
  /-- Self-test: comparator, step 1 to 4, filter output before step 1 (R255). -/
  test : Option (Nat × Nat × Bool) := none
  /-- Comparators masked by a test or a failed test (R255). -/
  masked : Nat := 0
  /-- XTRIP pads low (R257). -/
  xtrip : Nat := 0
  /-- Times of grid-target entries into the tripped state (R283). -/
  gridTrips : List Time := []
  /-- Resistor energies in 2^-64 kJ (R263). -/
  eUp : Nat := 1500 * 2 ^ 64
  eLo : Nat := 1500 * 2 ^ 64
  /-- Last valid half voltages in 2^-20 pu (R267). -/
  vUp : Int := 0
  vLo : Int := 0
  vUpOk : Bool := false
  vLoOk : Bool := false
  /-- Discharge waits for the disconnect (R266). -/
  disWait : Bool := false
  /-- Compares of CU9 while the governor holds it, in 1/64 count (R128, R266). -/
  govA : Nat := 0
  govB : Nat := 0
  /-- The governor has released CU9, which returns to its declared source at the next valley (R128). -/
  govTail : Bool := false
  /-- A trip-reset cue waits for link training (R262): source mask, sessions and token. -/
  resetMask : Option (BitVec 40) := none
  deriving DecidableEq, Repr

/-! ### Operating states (spec/13_operating_states.md) -/

/-- Why STOPPING was entered (R276). -/
inductive StopCause where
  | none | islanding | blocked | holdover | request | brkFail
  deriving DecidableEq, Repr

/-- The operating states beyond their registers. -/
structure Sys where
  /-- Forced entries detected and waiting for the tick: bits of SYS.CAUSE (R276). -/
  wantHalt  : Nat := 0
  wantPilot : Nat := 0
  /-- A forced stop waits for the tick. -/
  wantStop  : StopCause := .none
  /-- Feeds in START or RUN at the director's last policy cycle (R213). -/
  dirFeeds : Nat := 0
  /-- TGT_FREQ of CU0 to CU8 for which the director last set PRD (R129). -/
  dirTgt : List Nat := List.replicate 9 100
  /-- Cycle in which the pending request's cue completed, its deferred cue (R274). -/
  reqCycle : Nat := 0
  stopCause : StopCause := .none
  /-- Hold-over expired during STOPPING (R284). -/
  holdExpired : Bool := false
  /-- Precharge has reached step 3 (R278); V_DC ≥ PCH_V held. -/
  pchClosed : Bool := false
  /-- DCD_AUX read closed after step 2; precharge failed, and STANDBY follows at the tick (R278). -/
  dcdOk : Bool := false
  pchFail : Bool := false
  /-- ENERGIZE: the grid legs were released, and since when without a trip (R280). -/
  releasedAt : Option Time := none
  tripSince  : Bool := false
  /-- STOPPING: the grid group was switched off; BRK_AUX read open (R281). -/
  gridOff : Bool := false
  stopDone : Bool := false
  /-- Hold-over: limit it started with, in s (R447); the pairs absent. -/
  holdLimit : Nat := 30
  /-- The running hold-over has expired. -/
  holdOut : Bool := false
  /-- Director: consecutive missed cycles; pair images running. -/
  dirCycle : Bool := false
  pairRunning : Nat := 3
  /-- Bank and update under way: pair being updated (R288). -/
  updating : Option Nat := none
  /-- VMAIN or VIO is below its brown-out level (R276). -/
  dark : Bool := false
  vana : Bool := true
  vioc : Bool := true
  /-- Violations a reset cue cleared, to be logged at boot (R407). -/
  cleared : Nat := 0
  /-- VIOC was sensed at 1.8 V at reset release (R441). -/
  vioc18 : Bool := false
  deriving DecidableEq, Repr

/-! ### Faults and the continuity log (spec/20, spec/21) -/

/-- One fault collector entry (R418). -/
structure FaultEntry where
  time   : BitVec 64
  index  : Nat
  cls    : Nat
  react  : Nat
  times  : Nat
  acked  : Bool
  detail : Nat
  /-- SCLK cycle of the detection, for the order of R419. -/
  cycle  : Nat
  deriving DecidableEq, Repr

/-- One continuity log entry (R408). -/
structure LogEntry where
  time   : BitVec 64
  origin : Byte
  flags  : Byte
  opcode : BitVec 16
  target : Word
  old    : Word
  new    : Word
  chain  : BitVec 64
  deriving DecidableEq, Repr

/-- The continuity log beyond its registers. -/
structure LogState where
  /-- Held entries, oldest first, at most 4,096 (R409). -/
  ring : List LogEntry := []
  /-- Head hash H of the newest entry (R408). -/
  head : BitVec 384 := 0
  /-- Entries written to the archive area with their indices, oldest first (R409). -/
  archive : List (Nat × LogEntry) := []
  /-- Head hash of the last spilled entry (R411), and the count of spilled entries. -/
  spillHead : BitVec 384 := 0
  spillAny  : Bool := false
  /-- Head hashes and signatures of the sealed groups (R409): group, head hash, signature. -/
  seals : List (Nat × BitVec 384 × BitVec 768) := []
  /-- The head hash of the group awaiting its signature. -/
  sealWait : List (Nat × BitVec 384) := []
  deriving DecidableEq, Repr

/-- The two time bases: PTP time and the RTC of the VBAT domain (R7, R412), each as the value last
set and the instant it was set at. -/
structure TimeBase where
  tai   : Nat := 0
  taiAt : Time := 0
  rtc   : Nat := 0
  rtcAt : Time := 0
  deriving DecidableEq, Repr

/-! ### Measurement chain (spec/03_measurement_chain.md) -/

/-- A control sample as its users take it: binary32 for the slate, 2^-20 pu fixed point for the band
law (R62), its mark, and the SCLK cycle it became valid in (R30). -/
structure CSample where
  val   : BitVec 32 := 0
  fix   : Int := 0
  q     : Word := 0
  ok    : Bool := false
  cycle : Nat := 0
  deriving DecidableEq, Repr

/-- A metering sample: time valid, corrected value and raw value as exact dyadics, mark. -/
structure MSample where
  at'  : Time
  val  : Dy
  raw  : Dy
  ok   : Bool
  deriving DecidableEq, Repr

/-- Which average a calibration cue runs (R72). -/
inductive CalKind where
  | zero | dc | ac
  deriving DecidableEq, Repr

/-- A zero or span average in progress (R72, R73). -/
structure CalRun where
  kind  : CalKind
  x     : BitVec 32
  /-- Samples averaged. -/
  count : Nat := 0
  /-- Sum of raw samples, or of their squares for AC. -/
  sum   : Dy := ⟨0, 0⟩
  /-- Failure detail of R73. -/
  fail  : Option Nat := none
  deriving DecidableEq, Repr

/-- Control samples of one sync window (R82): its index, their sum in 2^-20 pu, count, sum of the times
they became valid, and whether all are valid. -/
structure SyncWin where
  idx  : Nat := 0
  sum  : Int := 0
  n    : Nat := 0
  sumT : Nat := 0
  ok   : Bool := true
  deriving DecidableEq, Repr

/-- A decimator channel beyond its registers. -/
structure Chan where
  cur  : CSample := {}
  prev : CSample := {}
  /-- Start of settling of the control and metering paths (R61, R63, R79). -/
  since  : Time := 0
  /-- Start of settling of the supraharmonic path (R65). -/
  sinceS : Time := 0
  /-- Bits of the channel's stream, newest at bit 0 (R60). -/
  bits : Nat := 0
  /-- Bits since the last metering and supraharmonic windows (R60). -/
  newM : Nat := 0
  newS : Nat := 0
  /-- A monitor's condition stands or was absent for less than 4,096 bit clocks (R79). -/
  lost : Bool := false
  /-- Since when no condition of a monitor that invalidates stands. -/
  lostAt : Time := 0
  /-- The last measured bit rate is in error (R59). -/
  rateBad : Bool := false
  /-- Spare-to-channel gain ratio (R77). -/
  ratio : Dy := ⟨1, 0⟩
  /-- Consecutive control samples above the threshold and below its hysteresis (R78). -/
  ovrUp : Nat := 0
  ovrDn : Nat := 0
  /-- Sync windows of the channel (R82): the window in progress and the one before. -/
  win   : SyncWin := {}
  winPrev : SyncWin := {}
  /-- Latest metering samples, newest first, at most 200. -/
  meter : List MSample := []
  supra : Dy := ⟨0, 0⟩
  /-- Supraharmonic samples of the DFT in progress in 2^-40 pu, newest first; whether all were valid. -/
  supWin : List Int := []
  supOk : Bool := true
  cal   : Option CalRun := none
  /-- Latest resampled output (R71): value, raw value, mark. -/
  out   : Dy := ⟨0, 0⟩
  outRaw : Dy := ⟨0, 0⟩
  outOk : Bool := false
  deriving DecidableEq, Repr

/-- The housekeeping multiplexer and its filter (R80): the input, whether its next output is the first, the sum of
its outputs with the shift it began with, the rising half of the filter's window, and the last output's instant. -/
structure Hk where
  input : Nat := 0
  fresh : Bool := true
  count : Nat := 0
  sum   : Int := 0
  shift : Nat := 0
  up    : Int := 0
  at'   : Time := 0
  deriving DecidableEq, Repr

/-- The resampler beyond its registers (R66 to R68). -/
structure Rsm where
  /-- Instant of the last output, and its part of a fine edge step in 2^-32. -/
  tk  : Time := 0
  frac : Nat := 0
  /-- Slewing: forward or back. -/
  dir : Option Bool := none
  /-- Marks of the cycle in progress. -/
  disturbed : Bool := false
  freerun   : Bool := true
  deriving DecidableEq, Repr

/-- A background visit under way (R77): its channel, whether the spare stands in for it, the metering samples of its
stage, and their sums: channel times spare, spare squared, channel squared, and the grounded modulator. -/
structure BgRun where
  ch    : Nat
  sub   : Bool := false
  count : Nat := 0
  sxy   : Dy := ⟨0, 0⟩
  syy   : Dy := ⟨0, 0⟩
  sxx   : Dy := ⟨0, 0⟩
  sz    : Dy := ⟨0, 0⟩
  deriving DecidableEq, Repr

/-- The measurement chain. -/
structure Meas where
  ch  : Units Chan 40 := .fill 40 {}
  hk  : Hk := {}
  rsm : Rsm := {}
  /-- The background visit under way (R77). -/
  bg  : Option BgRun := none
  /-- The channel that the pass comes to next. -/
  bgNext : Nat := 0
  /-- Bits of the calibration path, newest at bit 0; the spare's drift, and the average that measures it. -/
  calBits  : Nat := 0
  spDrift : Dy := ⟨0, 0⟩
  spSum   : Dy := ⟨0, 0⟩
  spCount : Nat := 0
  deriving DecidableEq, Repr

/-! ### Grid synchronizer (spec/04_grid_synchronizer.md) -/

/-- One angle tracker: the local loop or the borrow tracker (R83 to R85, R90). -/
structure Tracker where
  /-- Outputs of the quadrature filter pairs, and their last inputs. -/
  al : Dy := ⟨0, 0⟩
  qal : Dy := ⟨0, 0⟩
  be : Dy := ⟨0, 0⟩
  qbe : Dy := ⟨0, 0⟩
  alIn : Dy := ⟨0, 0⟩
  beIn : Dy := ⟨0, 0⟩
  /-- f_ar in 2^-32 µHz. -/
  f : Int := 0
  /-- Phase error of the last sample in 2^-64 turns. -/
  e : Int := 0
  /-- Phase accumulator of 48 bits at an SCLK cycle, and its increment per cycle (R99). -/
  acc : Nat := 0
  accAt : Nat := 0
  inc : Int := 0
  /-- Arc, in 2^-32 turns, over which |e| has stayed below 2° (R87). -/
  lockArc : Nat := 0
  deriving DecidableEq, Repr

/-- The synchronizer beyond its registers. -/
structure Sync where
  loc : Tracker := {}
  rem : Tracker := {}
  /-- Index of the last window processed (R82). -/
  lastWin : Option Nat := none
  /-- Representative time of the last sync sample, ns TAI. -/
  rep : Nat := 0
  /-- Zero-sequence rms (R101). -/
  vz : Dy := ⟨0, 0⟩
  /-- Whether the last sample was valid. -/
  valid : Bool := false
  /-- Consecutive samples below and at or above the low-voltage levels (R87, R88). -/
  lowRun : Nat := 0
  highRun : Nat := 0
  /-- Consecutive samples with f_ar at a clamp. -/
  clampRun : Nat := 0
  /-- Accumulated hold time in sync samples (R89). -/
  holdN : Nat := 0
  /-- Phase-jump counter, e_j of its first and last counted samples, time of the first (R93, R94). -/
  jumpN : Nat := 0
  jumpFirst : Int := 0
  jumpNow : Int := 0
  jumpAt : Nat := 0
  /-- The negative-sequence vector, doubled, last separated before the counter runs, and the sync samples since
  (R93). -/
  neg : Dy × Dy := (⟨0, 0⟩, ⟨0, 0⟩)
  negAge : Nat := 0
  /-- v_d+, v_q+ and the angle of V− relative to θ in 2^-64 turns, as the last sample gave them (R84, R101). -/
  vd : Dy := ⟨0, 0⟩
  vq : Dy := ⟨0, 0⟩
  negTurn : Int := 0
  /-- Inputs of the last sample, for the re-seed of R94. -/
  alpha : Dy := ⟨0, 0⟩
  beta : Dy := ⟨0, 0⟩
  /-- A jump found now belongs to a recovery (R92). -/
  recovering : Bool := false
  /-- Consecutive samples with |e| < 1° (R94). -/
  realignRun : Nat := 0
  /-- Time of the last reported jump. -/
  lastJump : Option Time := none
  /-- (f_ar, 48-bit angle) of the latest samples, newest first, at most 33 (R88). -/
  back : List (Int × Nat) := []
  /-- f_ar of the latest samples, newest first, at most 513 (R97). -/
  fs : List Int := []
  /-- Consecutive samples with |r_fast| above THR. -/
  rateRun : Nat := 0
  /-- Advances through zero not yet taken by a wrap: instants in ns (R95). -/
  wraps : List Nat := []
  /-- (f_sel µHz, t_w) of the latest wraps, newest first, at most 17 (R98). -/
  wrapHist : List (Nat × Nat) := []
  /-- The grid cycle in progress is clean so far; consecutive clean cycles completed (R96, R97). -/
  clean : Bool := false
  cleanRun : Nat := 0
  /-- Representative time of the remote tracker's last sample, ns TAI (R90). -/
  remRep : Nat := 0
  /-- Borrow quantities' remote |V+| filter (R90): samples at or above, below. -/
  okRun : Nat := 0
  badRun : Nat := 0
  magOk : Bool := false
  remValid : Bool := false
  /-- θ_local − θ_remote of the last second: time, U32 (R91). -/
  diffs : List (Time × Nat) := []
  /-- Since when the difference has been beyond the tolerance, or within it (R91). -/
  beyond : Option Time := none
  within : Option Time := none
  /-- Slate words 0x00A9 to 0x00BF before the last processed sample, and its cycle (R101). -/
  before : List (BitVec 32) := []
  cycle : Nat := 0
  /-- f_ar in µHz, ANGLE_VALID and θ before that sample. -/
  head : Nat × Bool × Nat := (0, false, 0)
  /-- f_s and ANGLE_VALID latched with the slate (R100). -/
  slateF : Nat := 0
  slateOk : Bool := false
  /-- Last answer of the extrapolator: angle and valid mark. -/
  answer : Option (BitVec 32 × Bool) := none
  deriving DecidableEq, Repr

/-! ### Fault ride-through (spec/10_ride_through.md) -/

/-- The ride-through detector beyond its registers. Currents, voltages and caps in 2^-48 pu. -/
structure Frt where
  /-- Consecutive sync samples outside the band, the time of the first, its conditions (R216). -/
  outRun : Nat := 0
  outAt  : Nat := 0
  outCause : Nat := 0
  /-- Since when every sample has been inside the band with hysteresis (R217). -/
  inSince : Option Time := none
  /-- Consecutive samples beyond the envelopes (R224). -/
  uvRun : Nat := 0
  ovRun : Nat := 0
  /-- First sample of the ZV condition (R221). -/
  zvAt : Option Time := none
  /-- Window index of the last envelope exit (R225). -/
  exitWin : Option Nat := none
  i1dPre : Int := 0
  i1qPre : Int := 0
  /-- |V+| through the filter of R218, and its value and P_pre at the last entry. -/
  vFilt : Int := 0
  /-- The filter's value before each of the last 80 sync samples it took, by their representative times. -/
  vHist : List (Nat × Int) := []
  vPre : Int := 0
  pPre : Int := 0
  idPrev : Int := 0
  /-- Times of the last 16 entries (R226). -/
  entries : List Time := []
  /-- t_exc, ns TAI. -/
  tExc : Nat := 0
  /-- Ticks since the return decision (R229). -/
  ticks : Nat := 0
  cap : Int := 3 * 2 ^ 47
  /-- f of R228 in 2^-32 as last computed from V_DC, and the return decision it rises from. -/
  f : Int := 2 ^ 32
  fAt : Time := 0
  deriving DecidableEq, Repr

/-! ### Feeds (spec/09_feeds_and_tracking.md) -/

/-- A sweep or relocation in progress (R206 to R208): its legs, in 2^-48 pu. -/
inductive Sweep where
  | none
  /-- The window opened; the sweep starts at the next tick. -/
  | armed
  /-- On the path v_op, v_hi, v_lo, v_op since `run` SCLK cycles. -/
  | path (run : Nat) (vOp pOp vHi vLo : Int)
  /-- Return to v_op after an abort, at twice the sweep rate. -/
  | back (dest rate : Int)
  /-- Relocation to v_g at four times the rate. -/
  | reloc (dest rate : Int)
  deriving DecidableEq, Repr

/-- A feed beyond its registers. -/
structure Feed where
  /-- v_track in 2^-48 pu. -/
  vTrack : Int := 0
  /-- v_k at entry to START, 2^-20 pu. -/
  vStart : Int := 0
  /-- Entry to WAIT; the stop before it was on low power (R199). -/
  waitAt : Time := 0
  afterLow : Bool := false
  /-- VFIX was written since entry to WAIT. -/
  fixNew : Bool := false
  /-- Cause of the last fault: bit of FED.EVT (R201). -/
  cause : Nat := 0
  /-- Consecutive samples beyond the overvoltage and reverse thresholds (R201). -/
  ovRun : Nat := 0
  revRun : Nat := 0
  /-- Since when |i_k| has been below 0.01 pu. -/
  gone : Option Time := .none
  /-- Current samples awaiting their voltage: value and representative time (R203). -/
  wait : List (Int × Int) := []
  /-- The carrier period in progress: N, Σv, Σp, Σvp, Σv², levels executed at its start. -/
  perN : Nat := 0
  perV : Int := 0
  perP : Int := 0
  perVP : Int := 0
  perVV : Int := 0
  perExec : Nat := 0
  /-- The period in progress did not begin at a valley and joins no window; the last valley. -/
  perSkip : Bool := true
  perAt : Time := 0
  /-- The window in progress: periods, N, Σv, Σp, S_vp, S_vv, start, every period switched and no sweep. -/
  winPer : Nat := 0
  winN : Nat := 0
  winV : Int := 0
  winP : Int := 0
  winVP : Int := 0
  winVV : Int := 0
  winAt : Time := 0
  winOk : Bool := true
  /-- Valid windows that wait for the tick: g and duration (R205). -/
  ready : List (Int × Nat) := []
  /-- g in 2^-32, mean power of the last window in 2^-40 pu. -/
  g : Int := 0
  p : Int := 0
  sweep : Sweep := .none
  /-- GAIN_THR of the running sweep (R215). -/
  gain : Nat := 0
  /-- Sweep bins: sum and count of the down pass and of the up pass (R208). -/
  bins : List (Int × Nat × Int × Nat) := []
  deriving DecidableEq, Repr

/-! ### Islanding (spec/11_islanding.md) -/

/-- A resampled sample set of the demodulator: positive-sequence inputs, voltage and current (α, β). -/
structure ChipSample where
  /-- θ_p, U32 turns. -/
  th : Nat
  va : Dy
  vb : Dy
  ia : Dy
  ib : Dy
  deriving DecidableEq, Repr

/-- The phasors of one clean chip and its chip value (R243). -/
structure Chip where
  vRe : Dy
  vIm : Dy
  iRe : Dy
  iIm : Dy
  minus : Bool
  deriving DecidableEq, Repr

/-- The islanding evaluator beyond its registers. -/
structure Isd where
  /-- Devices whose hold after a supervision loss has run out (R236), sources live (R238). -/
  holdOut : Nat := 0
  live : Nat := 0
  /-- Passive windows: since when each condition holds; those picked up and not yet dropped (R239). -/
  since : Units (Option Time) 7 := .fill 7 none
  picked : Nat := 0
  /-- Sync window of the last decision (R234). -/
  decWin : Option Nat := none
  /-- Probe: LEVEL applied, chip value −1, phase accumulator in 2^-64 turns and its instant (R241). -/
  level : Nat := 50
  minus : Bool := false
  ph : Nat := 0
  phAt : Time := 0
  /-- The chip in progress has been clean so far; its samples, newest first; the chip is open. -/
  clean : Bool := false
  samples : List ChipSample := []
  /-- Consecutive clean chips and the latest 31 of them, newest first (R243). -/
  cleanRun : Nat := 0
  chips : List Chip := []
  /-- Number of the chip in progress (R242). -/
  chip : Option Nat := none
  /-- An update of Z is due 1 ms after this boundary (R244). -/
  boundary : Option Time := none
  /-- Consecutive updates above Z_ISL (R245). -/
  zRun : Nat := 0
  deriving DecidableEq, Repr

/-! ### Cue processor (spec/19_cues.md) -/

/-- The transports of a session (R375, R376, R381). -/
inductive CuePath where
  | host | mgmt | director | mms | test
  deriving DecidableEq, Repr

/-- An open fragment assembly of a session (R384). -/
structure Frag where
  op    : Nat
  total : Nat
  data  : List Byte
  lastAt : Time
  /-- More than 10 s passed without a fragment: the data is discarded (R384). -/
  dead : Bool := false
  deriving DecidableEq, Repr

/-- A session. -/
structure Sess where
  id    : Nat
  path  : CuePath
  /-- Management connection that holds it. -/
  conn  : Option Nat := none
  /-- Host key slot it was opened with. -/
  slot  : Option Nat := none
  /-- The client certificate of a management session. -/
  cert  : Nat := 0
  /-- Role bits: 0 OPERATOR, 1 ENGINEER, 2 SECURITY_ADMIN. -/
  roles : Nat := 0
  /-- Its key (R378), empty where it has none. -/
  key   : List Byte := []
  /-- Sequence and CRC of the last 64 cues, newest first (R383). -/
  seen  : List (Nat × Nat) := []
  /-- Extended sequence toward the device and from it: last sequence and wraps (R378). -/
  lastIn : Nat := 0
  wrapIn : Nat := 0
  lastOut : Nat := 0
  wrapOut : Nat := 0
  frag  : Option Frag := none
  /-- When it was closed (R393). -/
  closed : Option Time := none
  deriving DecidableEq, Repr

/-- An entry of the reply queue (R393). -/
structure Entry where
  session : Nat
  seq     : Nat
  crc     : Nat
  op      : Nat
  /-- Origin tag, and whether the cue was authenticated (R379). -/
  tag     : Nat
  auth    : Bool
  status  : Nat
  detail  : Nat
  data    : List Byte
  /-- The final result is still to come. -/
  pending : Bool
  /-- When the final reply was delivered. -/
  delivered : Option Time := none
  /-- Later cues of the session accepted since. -/
  later   : Nat := 0
  deriving DecidableEq, Repr

/-- A reply message that waits for its transport. -/
structure OutMsg where
  session : Nat
  seq     : Nat
  /-- It is the final reply of its cue. -/
  final   : Bool
  bytes   : List Byte
  deriving DecidableEq, Repr

/-- What completes a deferred cue (R393). -/
inductive DeferKind where
  | state | swap | update | cal (ch : Nat) | trip
  deriving DecidableEq, Repr

/-- A management-port connection (R376). -/
structure Conn where
  cert : Nat
  roles : Nat
  /-- Number of the connection since power-on, which names its TLS exporter values. -/
  serial : Nat
  session : Option Nat := none
  /-- No cue has come yet (R376). -/
  first : Bool := true
  deriving DecidableEq, Repr

/-- On whose behalf a change is logged (R408). -/
structure Actor where
  origin : Nat := 6
  role   : Nat := 0
  op     : Nat := 0
  /-- An entry of this cue was written already. -/
  cont   : Bool := false
  deriving DecidableEq, Repr

/-- A key of a slot or context (R406): its id, 32 bytes, and the time it is refused after. -/
structure Key where
  id    : Nat
  bytes : List Byte
  till  : Nat
  deriving DecidableEq, Repr

/-- Current and next key of a host slot or a context, and the roles of a host slot (R392, R406). -/
structure KeySlot where
  cur  : Option Key := none
  next : Option Key := none
  roles : Nat := 0
  deriving DecidableEq, Repr

/-- An accepted cue that waits for its execution: the entry it will get, whether it holds a slot of the
host's inbound buffer (R375), and the management connection it came on. -/
structure Inbound where
  /-- The cue, its fragments assembled. -/
  cue   : Cue
  entry : Entry
  host  : Bool
  conn  : Option Nat := none
  deriving DecidableEq, Repr

/-- The cue processor beyond its registers. -/
structure CueState where
  /-- Session 0 of the host port and session 1 of the director stand from the start (R381). -/
  sessions : List Sess := [{ id := 0, path := .host, roles := 7 }, { id := 1, path := .director, roles := 2 }]
  nextSession : Nat := 2
  /-- Accepted cues waiting for their execution, oldest first (R375, R383). -/
  inbox : List Inbound := []
  /-- The management connection whose session open is being executed: its reply goes there. -/
  openOn : Option Nat := none
  /-- The reply queue, oldest first, at most 256 (R393). -/
  entries : List Entry := []
  /-- Messages owed to host sessions, oldest first (R375). -/
  out : List OutMsg := []
  /-- Bytes of the last REPLY_OUT transaction, and of the last register read (R426). -/
  hostTx : List Byte := []
  /-- Messages written to management connections at the last write, oldest first. -/
  mgmtTx : List (Nat × List Byte) := []
  conns : Units (Option Conn) 4 := .fill 4 none
  connCount : Nat := 0
  /-- Deferred cues: what completes them, session, sequence. -/
  deferred : List (DeferKind × Nat × Nat) := []
  actor : Actor := {}
  slots : Units KeySlot 8 := .fill 8 {}
  /-- Reset cue executed: whether by SECURITY_ADMIN, its session and sequence (R287). -/
  resetBy : Option (Bool × Nat × Nat) := none
  deriving DecidableEq, Repr

/-! ### Process bus (spec/15_process_bus.md) -/

/-- A sample of a source of the fusion stage (R319, R326): time in ns TAI, value in pu, whether valid, and
the SCLK cycle it was aligned in. -/
structure Samp where
  t   : Nat
  v   : Dy
  ok  : Bool
  cyc : Nat
  deriving DecidableEq, Repr

/-- A member of an SV subscription: scale, delay in ns, and its samples, newest first (R318, R319). -/
structure SvMember where
  scale : BitVec 32 := 0
  delay : Int := 0
  samples : List Samp := []
  /-- smpCnt of the last sample. -/
  last : Option Nat := none
  deriving DecidableEq, Repr

/-- A stream context (R317, R391). -/
structure Ctx where
  idx  : Nat
  /-- 1 SV subscription, 2 SV publication, 3 GOOSE subscription, 4 GOOSE publication. -/
  kind : Nat
  /-- The context block as written. -/
  block : List Byte
  accepted  : Nat := 0
  discarded : Nat := 0
  losses    : Nat := 0
  authFails : Nat := 0
  seqErrs   : Nat := 0
  sv : List SvMember := []
  /-- GOOSE subscription: last stNum, time allowed to live in ms, applied values. -/
  stNum : Nat := 0
  ttl   : Nat := 0
  items : List (BitVec 64 × BitVec 16) := []
  /-- Publications: sample counter of the next ASDU; state and sequence number, interval in ms, values and
  quality as last sent. -/
  smpCnt : Nat := 0
  sqNum  : Nat := 0
  every  : Nat := 0
  sent   : List (Dy × Nat) := []
  /-- SV publication: sample instant of the last ASDU sent in ns TAI, smpSynch of its frame, and the
  members of its ASDUs: smpCnt, value in pu, good quality. -/
  lastAt : Option Nat := none
  synch  : Nat := 0
  lastTx : List (Nat × Dy × Bool) := []
  /-- Id of the key whose tag the last published frame carries (R325). -/
  txKey : Option Nat := none
  /-- A GOOSE message with the test flag or the simulation bit keeps supervision lost until then (R322). -/
  testTill : Option Time := none
  /-- Changes of a fused quantity away from a source of this context (R334). -/
  changes : Nat := 0
  deriving DecidableEq, Repr

/-- A fused quantity beyond its registers (R326 to R328). -/
structure FuseQ where
  /-- Σ d² of the cycle in progress in 2^-64 pu², its samples, and whether every sample was valid. -/
  sq  : Nat := 0
  n   : Nat := 0
  ok  : Bool := true
  /-- Times of comparisons that wait for the other source's next sample, oldest first (R326). -/
  due : List Nat := []
  /-- Runs of cycles above and below the thresholds. -/
  runUp  : Nat := 0
  under : Nat := 0
  /-- A source selection waits for the tick, and the SCLK cycle of its cue. -/
  sel : Option (Bool × Nat) := none
  /-- Last valid value and its time. -/
  val : BitVec 32 := 0
  at' : Nat := 0
  deriving DecidableEq, Repr

/-- A point of the point table (R330): its 32-byte record, last reported value and quality. -/
structure Point where
  record : List Byte
  val : Dy := ⟨0, 0⟩
  q   : Nat := 0
  time : Nat := 0
  deriving DecidableEq, Repr

/-- A master heard on a port (R315, R316): grandmaster, PTP.GM_Q word, priority1, variance and priority2,
its last announce and its announce interval. -/
structure Master where
  gm : BitVec 64
  q  : BitVec 32
  prio : BitVec 32
  last : Time
  every : Nat
  deriving DecidableEq, Repr

/-- A report of a changed point (R331): its attribute handle, value, quality and TAI time; the TimeAccuracy of that time,
and whether it is without ClockNotSynchronized (R316). -/
structure Report where
  handle  : Nat
  val     : Dy
  quality : Nat
  time    : Nat
  accuracy : Nat
  synced   : Bool
  deriving DecidableEq, Repr

/-- The process bus, the fusion stage and the data model. -/
structure Bus where
  ctxs : List Ctx := []
  /-- Contexts, fused set and tables written by cue and waiting for the tick (R317), each with the SCLK cycle of
  its cue (R30): index and block, none to free it; quantity, CFG and THR; point records; SCL document. -/
  pendCtx : List (Nat × Nat × Option (List Byte)) := []
  pendQ   : List (Nat × Nat × Word × Word) := []
  pendPts : Option (Nat × List (List Byte)) := none
  pendModel : Option (Nat × List Byte) := none
  keys : List (Nat × KeySlot) := []
  /-- Control samples of the channels fused quantities name, newest first (R326). -/
  hist : List (Nat × List Samp) := []
  q    : Units FuseQ 64 := .fill 64 {}
  points : List Point := []
  /-- First record the next tick scans (R35). -/
  scanAt : Nat := 0
  model  : List Byte := []
  /-- Frames received within 400 ms: source, redundancy sequence, time (R314). -/
  seen : List (BitVec 48 × BitVec 16 × Time) := []
  /-- When the own supervision frames last returned on each port (R314). -/
  back : List (Option Time) := [none, none]
  /-- The last frame forwarded: to port, inverted FCS, correction added in ns (R314, R315). -/
  fwd : Option (Nat × Bool × Nat) := none
  /-- PTP: consecutive syncs within 250 ns and beyond 1 µs; the announce state per port: master identity,
  quality word, and whether announces arrive. -/
  goodRun : Nat := 0
  badRun  : Nat := 0
  masters : Units (Option Master) 2 := .fill 2 none
  /-- The next sync comes from a new master, whose time is stepped to (R316). -/
  fresh : Bool := false
  /-- When the last supervision frame was sent (R314). -/
  supAt : Option Time := none
  /-- Losses of traceable time (R334). -/
  traceLosses : Nat := 0
  /-- Reports of changed points, newest first (R331), and that an older one was discarded (R332). -/
  reports : List Report := []
  bufOvfl : Bool := false
  /-- Messages of publications: context, stNum, sqNum; newest first, at most 64. -/
  gooseTx : List (Nat × Nat × Nat) := []
  deriving DecidableEq, Repr

/-! ### Clock synthesizer (spec/16_clock_synthesizer.md) -/

/-- The clock synthesizer beyond its registers. -/
structure Clk where
  /-- Values of CLK.FOFS after the last 16 corrections, newest first (R338). -/
  fofs : List Int := []
  /-- Instant of the last lock; an alignment is due after it, or was asked for (R343). -/
  lockAt : Time := 0
  wantAlign : Bool := false
  wantRe : Bool := false
  /-- SCLK, FCLK and MCLK have stopped (R342); the CKO outputs are gated low (R344). -/
  stopped : Bool := false
  gated : Bool := true
  /-- The input lost last was REFIN (R341). -/
  lostRef : Bool := false
  /-- REFIN runs at 10 MHz (R336, R340). -/
  ten : Bool := false
  /-- The reference sample strobe: an MCLK window of every on-module modulator started here (R343). -/
  strobe : Time := 0
  /-- The last alignment: its SCLK cycle, and ALIGN_TRACE and the strobe before it (R343). -/
  aligned : Option (Nat × Bool × Time) := none
  deriving DecidableEq, Repr

/-! ### Metering and power quality (spec/14_metering_and_quality.md) -/

/-- One interval of power-quality results of a channel (R308, R309): start in ns TAI, groups G_0 to G_100 and
IG_0 to IG_99 in Q15.16, flag. -/
structure PqRes where
  start : Nat := 0
  g  : List Word := []
  ig : List Word := []
  rms : Word := 0
  flagged : Bool := false
  deriving DecidableEq, Repr

/-- Squares gathered for an aggregate: intervals, sums of squared groups in 2^-80 pu², start, flag. -/
structure PqSum where
  n : Nat := 0
  g : List Nat := []
  ig : List Nat := []
  rms : Nat := 0
  start : Nat := 0
  flagged : Bool := false
  deriving DecidableEq, Repr

/-- A power-quality channel of a window: samples in 2^-40 pu, newest first, and the marks they held. -/
structure PqSet where
  en : Bool := false
  smp : List Int := []
  invalid : Bool := false
  disturbed : Bool := false
  freerun : Bool := false
  deriving DecidableEq, Repr

/-- A power-quality window: start in ns TAI, grid cycles, whether the ride-through detector left NORMAL in
it, its channels. -/
structure PqWin where
  start : Nat := 0
  cycles : Nat := 0
  frt : Bool := false
  ch : List PqSet := []
  deriving DecidableEq, Repr

/-- A power-quality channel across windows: the last results of the four intervals (window, 150/180 cycles,
10 min, 2 h), the sums of the latter three, the last value of its source. -/
structure PqCh where
  res : List PqRes := List.replicate 4 {}
  sums : List PqSum := List.replicate 3 {}
  last : Int := 0
  deriving DecidableEq, Repr

/-- A supraharmonic slot (R310): squares of the 740 bands summed over the DFTs of the window, their count, the
spectrum of the last window in Q15.16. -/
structure SupSlot where
  sum : List Nat := []
  n   : Nat := 0
  spec : List Word := []
  deriving DecidableEq, Repr

/-- An open settlement block (R301): opening time and values, flags, substituted ns, grid cycles. -/
structure OpenBlock where
  time : Nat
  vals : List Nat
  flags : Nat
  subst : Nat := 0
  cycles : Nat := 0
  deriving DecidableEq, Repr

/-- The metering and PQ engines beyond their registers. -/
structure Mtr where
  /-- t_k of the last output, ns TAI. -/
  tPrev : Option Nat := none
  /-- The last 512 samples, newest first: v_a, v_b, v_c, i_a, i_b, i_c, i_n in 2^-40 pu (R294). -/
  win : List (List Int) := []
  /-- The ten accumulators in 2^-32 mWh (R296). -/
  acc : List Nat := List.replicate 10 0
  /-- Residues of EP0 to EP7 in 2^-32 mWh (R298). -/
  res : Units Nat 8 := .fill 8 0
  /-- Pulse outputs: level and since when (R299). -/
  pulse : Units (Option (Bool × Time)) 8 := .fill 8 none
  /-- Sums of the cycle in progress: p, q and s times ns in 2^-80 pu, and ns. -/
  sumP : Int := 0
  sumQ : Int := 0
  sumS : Int := 0
  sumT : Nat := 0
  /-- Consecutive cycles with and without the conditions of PHSEQ 1 and 2 (R305). -/
  okA : Nat := 0
  okB : Nat := 0
  noA : Nat := 0
  noB : Nat := 0
  /-- Consecutive cycles toward NEU_MISSING and away from it (R306). -/
  neuOn  : Nat := 0
  neuOff : Nat := 0
  /-- Index wraps since the last latch (R300). -/
  wraps : Nat := 0
  /-- The SCLK cycle of the last snapshot (R296). -/
  snapAt : Option Nat := none
  /-- A signing failed: the oldest block waits for the next latch (R302). -/
  signWait : Bool := false
  /-- The journal of the archive: time and values of the last journaled latch (R300, R303). -/
  journal : Option (Nat × List Nat) := none
  /-- The open block, the next sequence number, the digest of the previous block (R301). -/
  block : Option OpenBlock := none
  /-- No block has opened since boot (R303). -/
  fresh : Bool := true
  nextSeq : Nat := 1
  prevHash : BitVec 384 := 0
  /-- Blocks awaiting signature, signed blocks awaiting the store, stored blocks; oldest first (R302). -/
  unsigned : List (List Byte) := []
  signed : List (List Byte) := []
  stored : List (List Byte) := []
  /-- The PQ window in progress, windows that ended and await their results, oldest first. -/
  pq : Option PqWin := none
  ended : List PqWin := []
  pqCh : Units PqCh 16 := .fill 16 {}
  sup : Units SupSlot 8 := .fill 8 {}
  deriving DecidableEq, Repr

/-! ### Gaffer and memories (spec/17_gaffer_and_memory.md) -/

/-- The owner of the external scene port: requester, SCLK cycles its ownership started and ends at, LOCK
(R350, R353, R354). -/
structure EpOwner where
  req    : Nat
  since  : Nat
  till   : Nat
  locked : Bool
  deriving DecidableEq, Repr

/-- The answer on the external scene port: requester, error response, data read (R349). -/
structure ExtAnswer where
  req  : Nat
  err  : Bool
  data : Word
  deriving DecidableEq, Repr

/-- The gaffer, DRAM and the archive device beyond their registers. -/
structure Mem where
  /-- DRAM bytes by address (R358); an unlisted byte reads 0. -/
  dram : SMap Byte := []
  /-- Poisoned blocks of 64 bytes, each with the words rewritten since (R358). -/
  poisoned : List (Nat × Nat) := []
  /-- Rotating pointers of the arbiters SB, DP, EP, one per rank (R350). -/
  ptr : List (List Nat) := List.replicate 3 (List.replicate 12 0)
  own : Option EpOwner := none
  /-- Owners of SB and DP by their last decision, with the SCLK cycle they own from (R350, R353). -/
  busOwn : List (Option (Nat × Nat)) := List.replicate 2 none
  /-- Background has lost the last decision of SB, DP in the reserved part of a frame in which it was raised (R352). -/
  bgTurn : List Bool := List.replicate 2 false
  /-- The point-table scan missed its period: the flag SCAN_LATE (R33), which no register shows. -/
  scanLate : Bool := false
  /-- Requesters of EP raised without a grant, and the SCLK cycle they rose in (R355). -/
  raised : List (Nat × Nat) := []
  /-- The last answer given. -/
  ext : Option ExtAnswer := none
  /-- Archive device: capacity in GiB, spare blocks free and in all (R360, R361). -/
  cap   : Nat := 0
  spare : Nat := 0
  pool  : Nat := 0
  deriving DecidableEq, Repr

/-! ### Reels, records and dailies (spec/18_reels_and_dailies.md) -/

/-- A stored row: number, instant, flags, values (R364). -/
structure Row where
  no    : Nat
  at'   : Time
  flags : Nat
  vals  : List Word
  deriving DecidableEq, Repr

/-- A record of a reel (R368): its number within the reel, what its header holds, its rows and events,
oldest first; the time of the last read of one being read (R391); whether its export is under way. -/
structure Record where
  reel  : Nat
  taps  : List Nat
  cfg   : Word
  trigTime : Nat
  trigRow  : Nat
  cause : Nat
  short : Bool
  period : Nat
  rows  : List Row
  events : List (List Byte)
  reading : Option Time := none
  exporting : Bool := false
  deriving DecidableEq, Repr

/-- A reel beyond its registers. -/
structure Reel where
  taps : List Nat := []
  /-- Configured since reset (R367). -/
  conf : Bool := false
  /-- Rows counted since arming, rows taken in the pre window. -/
  rowNo : Nat := 0
  /-- Rows held for the pre window, or of the record in progress, newest first. -/
  rows : List Row := []
  /-- Event entries with their instants, newest first (R365). -/
  events : List (Time × List Byte) := []
  /-- Last valid value of each node (R364). -/
  last : List Word := []
  /-- The level condition is armed (R369). -/
  lvl : Bool := false
  /-- A trigger of kind FAULT waits for the next row; the SCLK cycle of a reel-trigger cue that waits for a later one
  (R369). -/
  fault : Bool := false
  cueReq : Option Nat := none
  /-- The last row instant: that of its strobe with CLK 0, its frame with CLK 1 (R364). -/
  rowRef : Option Nat := none
  /-- The values of the nodes before this SCLK cycle changed them, and the cycle (R364). -/
  held : Option (Nat × List (Word × Bool)) := none
  /-- Rows were dropped since the last stored row (R366). -/
  gap : Bool := false
  /-- Mismatches counted at the last row (R364). -/
  mism : Nat := 0
  /-- The record in progress: trigger time, trigger row, rows before it, post rows left, whether it is
  complete. -/
  trigTime : Nat := 0
  trigRow  : Nat := 0
  short    : Bool := false
  left     : Nat := 0
  ended    : Bool := false
  /-- A disarm waits for the record's end (R369). -/
  disarm : Bool := false
  /-- The reel stopped for the sake of a record being read or exported (R370). -/
  waits : Bool := false
  /-- Records in the area, oldest first. -/
  records : List Record := []
  deriving DecidableEq, Repr

/-- What a digest holds of one point (R373): count of valid samples, of invalid ones, minimum, maximum and
sum of the valid. -/
structure PointSum where
  n   : Nat := 0
  bad : Nat := 0
  lo  : Dy := ⟨0, 0⟩
  hi  : Dy := ⟨0, 0⟩
  sum : Dy := ⟨0, 0⟩
  deriving DecidableEq, Repr

/-- A dailies digest: start in ns TAI, whether a part is missing, its points, its fixed content. -/
structure Digest where
  start : Nat := 0
  gap   : Bool := false
  parts : Nat := 0
  points : List PointSum := []
  fixed  : List Nat := []
  deriving DecidableEq, Repr

/-- Reels, exported records and dailies. -/
structure Hist where
  reels : Units Reel 16 := .fill 16 {}
  /-- Records that wait for their export, oldest first (R372). -/
  exports : List Record := []
  /-- Exported records: number, trigger time, file (R371). -/
  files : List (Nat × Nat × List Byte) := []
  /-- Points of the dailies by record index (R373). -/
  sel : List Nat := []
  /-- Their values and qualities as latched by the last tick (R373). -/
  latch : List (Dy × Nat) := []
  /-- Millisecond of TAI last sampled. -/
  lastMs : Option Nat := none
  /-- Digests in progress of 1 s, 1 min and 1 day. -/
  cur : Units Digest 3 := .fill 3 {}
  /-- Periods of TAI that the last digests of 1 s, 1 min and 1 day ended: the number of the period after them. -/
  ended : Units Nat 3 := .fill 3 0
  /-- Finished digests of the three periods, newest first (R374). -/
  secs : List Digest := []
  mins : List Digest := []
  days : List Digest := []
  deriving DecidableEq, Repr

/-! ### What outlives power (spec/20_security_and_continuity.md) -/

/-- A firmware image of a NOR bank: digest, version, rollback counter (R399). -/
structure FwImage where
  digest   : BitVec 384 := 0
  version  : Nat := 0
  rollback : Nat := 0
  deriving DecidableEq, Repr

/-- A calibration set (R72): version, for each channel OFFSET, GAIN, NOM_GAIN, FDELAY and METER, and its signature
block. -/
structure CalSet where
  version : Nat
  chans : List (Word × Word × Word × Word × Bool)
  sig : List Byte := []
  deriving DecidableEq, Repr

/-- The network image (R317): context blocks, fused set, point table, data model, NET and PTP settings. -/
structure NetImage where
  ctxs : List (List Byte)
  q    : List (Word × Word)
  points : List (List Byte)
  model  : List Byte
  regs   : List (Nat × Word)
  deriving DecidableEq, Repr

/-- How far an update has come (R288): loaded, hold-over runs, done, rolled back. -/
inductive UpdStage where
  | none | loaded | running | done | rolledBack
  deriving DecidableEq, Repr

/-- An update package that verified (R398). -/
structure Package where
  kind : Nat
  target : Nat
  version : Nat
  rollback : Nat
  body : List Byte
  digest : BitVec 384
  deriving DecidableEq, Repr

/-- The security core's store, NOR, and the VBAT domain. -/
structure Nvm where
  /-- Banks A and B of NOR: stage one, security core, pair A, pair B. -/
  bankA : List FwImage := List.replicate 4 {}
  bankB : List FwImage := List.replicate 4 {}
  pref : Nat := 0
  /-- Counters: firmware, script, profile, calibration (R400). -/
  cnt : List Nat := [0, 0, 0, 0]
  lifecycle : Nat := 0
  identity : Bool := false
  /-- Owner anchor (R397). -/
  anchor : Option (BitVec 384) := none
  /-- Device certificate, intermediate, vendor root (R401). -/
  certs : List (List Byte) := [[], [], []]
  cal : Option CalSet := none
  metro : Bool := false
  /-- The profile held in NOR, its seal flag, and the one applied at this boot (R271). -/
  profile : Option (List Byte) := none
  sealFlag : Bool := false
  applied : Option (List Byte) := none
  policy : BitVec 384 := 0
  /-- The network image (R317). -/
  image : Option NetImage := none
  /-- The update package and its progress (R288, R398). -/
  pkg : Option Package := none
  stage : UpdStage := .none
  /-- The images that run: those of the bank that booted, but for a pair updated since (R288). -/
  runs : List FwImage := List.replicate 4 {}
  /-- VBAT domain: log counter, tamper latch, whether power was lost since the last boot (R411, R412). -/
  logCnt : Nat := 0
  tamper : Bool := false
  vbatLost : Bool := false
  /-- Last record number (R371). -/
  recLast : Nat := 0
  /-- The last spilled index plus 1, of the archive (R411). -/
  spilled : Nat := 0
  deriving DecidableEq, Repr

/-! ### Availability (spec/21_faults_and_availability.md) -/

/-- The outage account beyond its registers (R422, R423). -/
structure Avail where
  /-- The function was available at the last tick, and when that tick was. -/
  was  : Bool := false
  last : Time := 0
  /-- Counted time of the open outage; every condition has held since it opened. -/
  acc  : Nat := 0
  clean : Bool := true
  /-- A STANDBY or HALT request from an origin other than the director is in force. -/
  told : Bool := false
  /-- An update has run outside R288 since the other conditions were last met. -/
  outside : Bool := false
  deriving DecidableEq, Repr


/-- The machine. -/
structure State where
  /-- Commands waiting, first in, first out. -/
  pending : List Instr := []
  /-- The instant reached, from power-on (R16). -/
  now : Time := 0
  /-- The register window (R10): words that differ from their reset word. -/
  regs : SMap Word := []
  /-- RWS words in effect (R12, R30): words that differ from their reset word. -/
  eff : SMap Word := []
  /-- Writes waiting for a tick (R30). -/
  pend : List PendWrite := []
  /-- High-word read snapshots and last-written low words of R11, by path and address (R429). -/
  snap : SMap (Option Word) := []
  lowW : SMap Word := []
  /-- Running timers and their start instants. -/
  timers : List (TimerKey × Time) := []
  /-- Free values drawn so far. MODEL'S OWN FIELD, log entry 1. -/
  free : Nat := 0
  /-- Bits that events have set in an SCLK cycle: the cycle, and address and bits of each (R14). -/
  hot : Nat × List (Nat × Word) := (0, [])
  seq  : Seq := {}
  band : Band := {}
  cu   : Units CarrierUnit 12 := .fill 12 {}
  clap : Clapper := {}
  isl  : Units Island 14 := .fill 14 {}
  trip : Trip := {}
  sys  : Sys := {}
  faults : List FaultEntry := []
  log  : LogState := {}
  time : TimeBase := {}
  meas : Meas := {}
  sync : Sync := {}
  frt : Frt := {}
  feeds : Units Feed 8 := .fill 8 {}
  isd : Isd := {}
  cue : CueState := {}
  bus : Bus := {}
  clk : Clk := {}
  mtr : Mtr := {}
  mem : Mem := {}
  hist : Hist := {}
  nvm : Nvm := {}
  avail : Avail := {}
  deriving DecidableEq, Repr

/-- The machine held in power-on reset (R425): every register at its reset word, no memory
listed, no command waiting. Values the specification does not give are named in log entry 2. -/
def State.reset : State := {}

end Sys2Proof.Machine
end

