-- ==== Sys2Proof/Machine/Ops.lean ====
section
/-!
DEFINITION. The named operations over the registers, the clock, the timers and the free values.
-/
namespace Sys2Proof.Machine
open Reg

/-- Bit `i` of a natural. -/
def bit (x i : Nat) : Bool := x.testBit i

/-- A natural with bit `i` set or cleared. -/
def setBit (x i : Nat) (b : Bool) : Nat :=
  if b then x ||| 2 ^ i else if x.testBit i then x - 2 ^ i else x

/-- A Bool as 0 or 1. -/
def b2n (b : Bool) : Nat := if b then 1 else 0

/-! ### Words and fields -/

/-- The mask of a field within its word. -/
def Field.mask (f : Field) : Word := BitVec.ofNat 32 (2 ^ f.width - 1) <<< f.lo

/-- The value of a field within a word. -/
def getField (w : Word) (f : Field) : Nat := (w.toNat >>> f.lo) % 2 ^ f.width

/-- A word with one field replaced; the other bits stand. -/
def putField (w : Word) (f : Field) (v : Nat) : Word :=
  (w &&& ~~~ f.mask) ||| ((BitVec.ofNat 32 v <<< f.lo) &&& f.mask)

/-- The word of the register window at an address (R10, R424). -/
def State.word (s : State) (a : Nat) : Word := mapGet resetWord s.regs a

/-- The state with one word of the window replaced. -/
def State.setWord (s : State) (a : Nat) (w : Word) : State :=
  { s with regs := mapPut resetWord s.regs a w }

/-- The present value of a field. -/
def State.rd (s : State) (f : Field) : Nat := getField (s.word f.addr) f

/-- Whether a one-bit field is 1. -/
def State.on (s : State) (f : Field) : Bool := decide (s.rd f ≠ 0)

/-- The state with a field replaced. -/
def State.wr (s : State) (f : Field) (v : Nat) : State :=
  s.setWord f.addr (putField (s.word f.addr) f v)

/-- The state with a one-bit field set to a Bool. -/
def State.wrB (s : State) (f : Field) (b : Bool) : State := s.wr f (b2n b)

/-- An event sets bits of a word in this SCLK cycle (R14). -/
def State.mark (s : State) (a : Nat) (m : Word) : State :=
  let c := s.now / sclk
  { s with hot := (c, (a, m) :: if s.hot.1 = c then s.hot.2 else []) }

/-- The bits of a word that events have set in this SCLK cycle. -/
def State.hotBits (s : State) (a : Nat) : Word :=
  if s.hot.1 = s.now / sclk then (s.hot.2.filter (fun e => decide (e.1 = a))).foldl (fun m e => m ||| e.2) 0 else 0

/-- An event sets a one-bit field. -/
def State.set (s : State) (f : Field) : State := (s.wr f 1).mark f.addr f.mask

/-- A counter field one higher, modulo its width. -/
def State.inc (s : State) (f : Field) : State := s.wr f (s.rd f + 1)

/-- A counter field `n` higher, modulo its width. -/
def State.addTo (s : State) (f : Field) (n : Nat) : State := s.wr f (s.rd f + n)

/-- A counter field one higher, saturating. -/
def State.sat (s : State) (f : Field) : State := s.wr f (satInc (2 ^ f.width - 1) (s.rd f))

/-- A counter field `n` higher, saturating. -/
def State.satAdd (s : State) (f : Field) (n : Nat) : State :=
  s.wr f (min (2 ^ f.width - 1) (s.rd f + n))

/-- A 32-bit field as a signed value. -/
def State.rdI (s : State) (f : Field) : Int := (BitVec.ofNat f.width (s.rd f)).toInt

/-- Stores an integer in a field, two's complement. -/
def State.wrI (s : State) (f : Field) (v : Int) : State :=
  s.wr f (BitVec.ofInt f.width v).toNat

/-- The value in effect of an RWS field (R12, R30). -/
def State.rdE (s : State) (f : Field) : Nat := getField (mapGet resetWord s.eff f.addr) f

/-- A 64-bit register, low word at the lower address (R11). -/
def State.rd64 (s : State) (f : Field) : Nat :=
  (s.word f.addr).toNat + (s.word (f.addr + 4)).toNat * 2 ^ 32

/-- Stores a 64-bit register. -/
def State.wr64 (s : State) (f : Field) (v : Nat) : State :=
  (s.setWord f.addr (BitVec.ofNat 32 v)).setWord (f.addr + 4) (BitVec.ofNat 32 (v / 2 ^ 32))

/-- Bit `i` of a field. -/
def State.bitOf (s : State) (f : Field) (i : Nat) : Bool := (s.rd f).testBit i

/-- The state with bit `i` of a field set or cleared. -/
def State.wrBit (s : State) (f : Field) (i : Nat) (b : Bool) : State :=
  s.wr f (setBit (s.rd f) i b)

/-- An event sets bit `i` of a field. -/
def State.setAt (s : State) (f : Field) (i : Nat) : State :=
  (s.wrBit f i true).mark f.addr (1 <<< (f.lo + i))

/-! ### Clock and timers -/

/-- The state at a later instant; an instant already past changes nothing. -/
def State.at' (s : State) (t : Time) : State := { s with now := max s.now t }

/-- One idle step (log 3): nothing was commanded, and one period of SCLK passes. -/
def State.idle (s : State) : State := { s with now := s.now + sclk }

/-- A state made from another by a command that the queue, the clock and DRAM do not follow: these three are
the first state's. -/
def State.keep (s n : State) : State :=
  { n with now := s.now, pending := s.pending, mem := { n.mem with dram := s.mem.dram } }

/-- What a command of an instant leaves of the machine: everything but the queue, the clock and DRAM is what
its effect makes it; the clock is the instant, and the queue and DRAM stand. -/
def State.doing (s : State) (f : State → State) : Host.Outcome State Fault Refusal := .next (s.keep (f s))

/-- A command at an instant `t`: the clock moves on to it, then its effect. -/
def State.during (s : State) (t : Time) (f : State → State) : Host.Outcome State Fault Refusal := (s.at' t).doing f

/-- A command at an instant `t` whose effect may reach DRAM. -/
def State.duringMem (s : State) (t : Time) (f : State → State) : Host.Outcome State Fault Refusal :=
  let n := f (s.at' t)
  .next { n with now := max s.now t, pending := s.pending }

/-- The SCLK cycle reached. -/
def State.cycle (s : State) : Nat := s.now / sclk

/-- Starts a timer now; a running one restarts. -/
def State.start (s : State) (k : TimerKey) : State :=
  { s with timers := (k, s.now) :: s.timers.filter (fun e => decide (e.1 ≠ k)) }

/-- Starts several timers. -/
def State.startAll (s : State) (ks : List TimerKey) : State := ks.foldl State.start s

/-- Starts a timer unless it runs. -/
def State.startIf (s : State) (k : TimerKey) : State :=
  if s.timers.any (fun e => decide (e.1 = k)) then s else s.start k

/-- Stops a timer. -/
def State.stop (s : State) (k : TimerKey) : State :=
  { s with timers := s.timers.filter (fun e => decide (e.1 ≠ k)) }

/-- When a running timer started. -/
def State.startedAt (s : State) (k : TimerKey) : Option Time :=
  (s.timers.find? (fun e => decide (e.1 = k))).map (·.2)

/-- A timer runs. -/
def State.running (s : State) (k : TimerKey) : Bool := (s.startedAt k).isSome

/-- A timer has run for at least a duration. -/
def State.due (s : State) (k : TimerKey) (d : Nat) : Bool :=
  match s.startedAt k with
  | none => false
  | some t => decide (t + d ≤ s.now)

/-- PTP time now, U64 ns TAI (R7): the time last set, advanced on the local clock. -/
def State.tai (s : State) : Nat :=
  (s.time.tai + (s.now - s.time.taiAt) * 5 / 128) % 2 ^ 64

/-- SEC.RTC now, U64 ns TAI (R412). -/
def State.rtc (s : State) : Nat :=
  (s.time.rtc + (s.now - s.time.rtcAt) * 5 / 128) % 2 ^ 64

/-- PTP.STATUS.STATE is SLAVE, so entries carry PTP time (R418). -/
def State.ptpSlave (s : State) : Bool := decide (s.rd PTP.STATUS.STATE = 3)

/-- The time an entry carries: PTP time, or RTC time while the port is not a slave (R418). -/
def State.stamp (s : State) : Nat := if s.ptpSlave then s.tai else s.rtc

/-- Draws a fresh free value. -/
def State.draw (s : State) : BitVec 64 × State :=
  (Config.freeValue s.free, { s with free := s.free + 1 })

/-! ### Records of the blocks -/

/-- Changes the sequencer's record. -/
def State.modSeq (s : State) (f : Seq → Seq) : State := { s with seq := f s.seq }
/-- Changes the trip network's record. -/
def State.modTrip (s : State) (f : Trip → Trip) : State := { s with trip := f s.trip }
/-- Changes the operating-state record. -/
def State.modSys (s : State) (f : Sys → Sys) : State := { s with sys := f s.sys }

/-- A band leg: 0 to 10 by channel, 11 and 12 the dump halves. -/
def State.leg (s : State) (n : Nat) : BandLeg := s.band.legs.get n {}
/-- Changes a band leg. -/
def State.modLeg (s : State) (n : Nat) (f : BandLeg → BandLeg) : State :=
  { s with band := { s.band with legs := s.band.legs.upd n f } }
/-- A carrier unit. -/
def State.unit (s : State) (n : Nat) : CarrierUnit := s.cu.get n {}
/-- Changes a carrier unit. -/
def State.modUnit (s : State) (n : Nat) (f : CarrierUnit → CarrierUnit) : State :=
  { s with cu := s.cu.upd n f }
/-- An island. -/
def State.island (s : State) (n : Nat) : Island := s.isl.get n {}
/-- Changes an island. -/
def State.modIsland (s : State) (n : Nat) (f : Island → Island) : State :=
  { s with isl := s.isl.upd n f }

/-- A reel. -/
def State.reel (s : State) (r : Nat) : Reel := s.hist.reels.get r {}
/-- Changes a reel. -/
def State.modReel (s : State) (r : Nat) (f : Reel → Reel) : State :=
  { s with hist := { s.hist with reels := s.hist.reels.upd r f } }

/-- Applies a change for every index of a list, in order. -/
def State.each (s : State) (l : List Nat) (f : State → Nat → State) : State := l.foldl f s

/-- The state code (R273). -/
def State.code (s : State) : Nat := s.rd SYS.STATE.CODE

/-- Armed reels: filling, waiting or in the post rows (R370). -/
def State.reelArmed (s : State) (r : Nat) : Bool :=
  decide (2 ≤ s.rd (REL.STATUS.STATE r)) && decide (s.rd (REL.STATUS.STATE r) ≤ 4)

/-- An event of a band channel, or of the frame under channel 0xFF, goes to every armed event reel that
selects it (R365). -/
def State.reelEvent (s : State) (te : Time) (ch kind lvl : Nat) : State :=
  let q := (((s.time.tai : Int) * 256 + ((te : Int) - s.time.taiAt) * 10).emod (2 ^ 72)).toNat
  let b := leBytes 8 (q / 256) ++ leBytes 1 q ++ leBytes 1 ch ++ leBytes 1 kind ++ leBytes 1 lvl
    ++ leBytes 4 (s.rd SEQ.FRAMECNT.COUNT)
  s.each (List.range 16) (fun s r =>
    if s.reelArmed r && s.on (REL.CFG.KIND r)
        && (decide (ch = 255) || (s.reel r).taps.any (fun w => decide (w % 16 = ch))) then
      s.modReel r (fun x => { x with events := (te, b) :: x.events })
    else s)

/-- A fault trigger reaches the armed reels (R369). -/
def State.reelFault (s : State) : State :=
  s.each (List.range 16) (fun s r => if s.reelArmed r then s.modReel r (fun x => { x with fault := true }) else s)

/-- The state codes of R273 by name. -/
abbrev stDARK : Nat := 0
abbrev stBOOT : Nat := 1
abbrev stCOMMISSION : Nat := 2
abbrev stSEALED : Nat := 3
abbrev stSTANDBY : Nat := 4
abbrev stPRECHARGE : Nat := 5
abbrev stSYNC : Nat := 6
abbrev stENERGIZE : Nat := 7
abbrev stRUN : Nat := 8
abbrev stSTOPPING : Nat := 9
abbrev stPILOT : Nat := 10
abbrev stHALT : Nat := 11

/-- Rated frequency f_r in Hz (R3). -/
def State.ratedHz (s : State) : Nat := if s.on SYS.RAT_S.F60 then 60 else 50

/-- PRECHARGE, SYNC, ENERGIZE, RUN or STOPPING. -/
def State.live5 (s : State) : Bool := decide (5 ≤ s.code) && decide (s.code ≤ 9)

end Sys2Proof.Machine
end

