-- ==== Sys2Proof/Machine/Record.lean ====
section
/-!
DEFINITION. The two records every block writes: the fault collector
(spec/21_faults_and_availability.md, R413 to R423) and the continuity log
(spec/20_security_and_continuity.md, R408 to R411).
-/
namespace Sys2Proof.Machine
open Reg

/-- Reaction codes of R414. -/
abbrev rcCount : Nat := 0
abbrev rcReport : Nat := 1
abbrev rcTrip : Nat := 2
abbrev rcSTOPPING : Nat := 3
abbrev rcPILOT : Nat := 4
abbrev rcHALT : Nat := 5
abbrev rcRESTART : Nat := 6
abbrev rcHOLDOVER : Nat := 7

/-- "No detail applies" (R418). -/
abbrev noDetail : Nat := 0xFFFF

/-- The classes whose handling is "masked" (R413). -/
def maskedClass (c : Nat) : Bool :=
  c = 0x01 || c = 0x03 || c = 0x0D || c = 0x0F || c = 0x17 || c = 0x26

/-- Column D of R413: device-caused classes; for 0x09 and 0x0A only a fault on CH00 to CH15. -/
def deviceCaused (c detail : Nat) : Bool :=
  if c = 0x09 || c = 0x0A then decide (detail ≤ 15)
  else c ≤ 0x08 || (0x0D ≤ c && c ≤ 0x10) || (0x14 ≤ c && c ≤ 0x16) || (0x1A ≤ c && c ≤ 0x1C)
    || c = 0x20 || c = 0x21 || c = 0x26 || c = 0x29

/-- The order of entries detected in one SCLK cycle (R419). -/
def FaultEntry.before (a b : FaultEntry) : Bool :=
  decide (a.cls < b.cls) || (decide (a.cls = b.cls) && decide (a.detail < b.detail))

/-- Puts a new entry behind the held ones, ahead of later-ordered entries of its own cycle. The
list is newest first. -/
def insertFault (e : FaultEntry) : List FaultEntry → List FaultEntry
  | [] => [e]
  | f :: fs =>
    if f.cycle = e.cycle && e.before f && !f.acked then
      { f with index := e.index } :: insertFault { e with index := f.index } fs
    else e :: f :: fs

/-- Drops the last element that satisfies a predicate; the list is newest first, so this is the
oldest such entry. -/
def dropOldest (p : FaultEntry → Bool) (l : List FaultEntry) : List FaultEntry :=
  (l.reverse.eraseP p).reverse

/-- Refreshes FLT.STATUS.PENDING, IRQ0 and FLT.INDEX.ACK from the held entries (R420). Entries are
held newest first. With nothing unacknowledged, ACK shows the index of the next entry. -/
def State.refreshFaults (s : State) : State :=
  let un := s.faults.filter (fun e => !e.acked)
  let s := (s.wr FLT.STATUS.PENDING un.length).wrB FLT.STATUS.IRQ0 (!un.isEmpty)
  s.wr FLT.INDEX.ACK (match un.getLast? with | some e => e.index | none => s.rd FLT.INDEX.NEXT)

/-- A new entry of the ring (R418 to R420). -/
def State.newFault (s : State) (cls detail react : Nat) : State :=
  let s := if s.faults.length < 256 then s
    else if s.faults.any (·.acked) then { s with faults := dropOldest (·.acked) s.faults }
    else { ((s.sat FLT.LOST.COUNT).set FLT.STATUS.LOST_NOW) with faults := s.faults.dropLast }
  let e : FaultEntry :=
    { time := BitVec.ofNat 64 s.stamp, index := s.rd FLT.INDEX.NEXT, cls := cls, react := react,
      times := 1, acked := false, detail := detail, cycle := s.cycle }
  let s := { s with faults := insertFault e s.faults }
  let s := s.inc FLT.INDEX.NEXT
  let s := ((s.wr FLT.LAST.DETAIL detail).wr FLT.LAST.REACTION react).wr FLT.LAST.CLASS cls
  s.refreshFaults

/-- A detection of class `cls` reaches the fault collector (R414, R419): the class count rises;
a Count makes no entry; a detection that matches an unacknowledged entry in class, detail and
reaction raises its repeat count; any other makes an entry. Reading of R414 and R419 together in
log entry 7. -/
def State.detect (s : State) (cls detail react : Nat) : State :=
  let s := s.sat (FLT.CLASS_CNT.COUNT cls)
  if react = rcCount then s
  else
    let hit (e : FaultEntry) : Bool :=
      !e.acked && e.cls = cls && e.detail = detail && e.react = react
    if s.faults.any hit then
      let bump (e : FaultEntry) := if hit e then { e with times := satInc 255 e.times } else e
      { s with faults := s.faults.map bump }
    else s.newFault cls detail react

/-- The reaction of a detection whose source asserts (R414): a trip where TRP.MAP routes the source to a target. -/
def State.tripReact (s : State) (n : Nat) : Nat := if s.rd (TRP.MAP.TGT n) = 0 then rcReport else rcTrip

/-! ### Continuity log -/

/-- Origin classes (R381). -/
abbrev orBOOT : Nat := 1
abbrev orHOST : Nat := 2
abbrev orMGMT : Nat := 3
abbrev orMMS : Nat := 4
abbrev orDIRECTOR : Nat := 5
abbrev orPROTECTION : Nat := 6
abbrev orTEST : Nat := 7

/-- Event codes (R408). -/
abbrev evREGWRITE : Nat := 0xF001
abbrev evSEAL : Nat := 0xF002
abbrev evSTATE : Nat := 0xF010
abbrev evFORCED : Nat := 0xF011
abbrev evBOOT : Nat := 0xF020
abbrev evRESUME : Nat := 0xF021
abbrev evVIOL : Nat := 0xF030

/-- Targets: space in bits 31:28, address or object number below (R408). -/
def tgReg (a : Nat) : Nat := a
def tgWord (a : Nat) : Nat := 0x10000000 + a
def tgObj (a : Nat) : Nat := 0x20000000 + a
def tgState (c : Nat) : Nat := 0x30000000 + c

/-- Bytes 0 to 23 of an entry (R408). -/
def LogEntry.bytes (e : LogEntry) : List Byte :=
  leBytes 8 e.time.toNat ++ [e.origin, e.flags] ++ leBytes 2 e.opcode.toNat ++ le32 e.target
    ++ le32 e.old ++ le32 e.new

/-- The chain hash of entry `i` (R408). -/
def chainHash (head : BitVec 384) (e : LogEntry) (i : Nat) : BitVec 384 :=
  sha384 (shaBytes head ++ e.bytes ++ leBytes 8 i)

/-- Index of the oldest entry not yet spilled (R409, R411). -/
def State.firstUnspilled (s : State) : Nat :=
  if s.log.spillAny then s.rd64 LOG.SPILLED.INDEX + 1 else 0

/-- An entry joins the ring of 4,096; overwriting an unspilled entry counts it lost (R410). -/
def State.pushLog (s : State) (e : LogEntry) : State :=
  let i := s.rd64 LOG.NEXT.INDEX
  let h := chainHash s.log.head e i
  let e := { e with chain := BitVec.ofNat 64 (shaPrefix h 8) }
  let full := decide (4096 ≤ s.log.ring.length)
  let lost := full && decide (s.firstUnspilled + 4096 ≤ i)
  let ring := if full then s.log.ring.drop 1 else s.log.ring
  let s := { s with log := { s.log with ring := ring ++ [e], head := h } }
  let s := s.wr64 LOG.NEXT.INDEX (i + 1)
  let s := if i % 256 = 255 then
      { (s.set LOG.STATUS.SEAL_PEND) with
        log := { s.log with sealWait := s.log.sealWait ++ [(i / 256, h)] } }
    else s
  if lost then ((s.sat LOG.LOST.VALUE).set LOG.STATUS.LOST_NOW).detect 0x24 noDetail rcReport else s

/-- Writes one log entry (R408): origin, acting role, refused, continuation, opcode or event code,
target, old and new value. -/
def State.logIt (s : State) (origin role : Nat) (refused cont : Bool) (opcode target old new : Nat) :
    State :=
  s.pushLog
    { time := BitVec.ofNat 64 s.stamp, origin := BitVec.ofNat 8 origin,
      flags := BitVec.ofNat 8 (role + 8 * b2n (!s.ptpSlave) + 16 * b2n refused + 32 * b2n cont),
      opcode := BitVec.ofNat 16 opcode, target := BitVec.ofNat 32 target,
      old := BitVec.ofNat 32 old, new := BitVec.ofNat 32 new, chain := 0 }

/-- A device-made log entry: an action of L1 or L2 (R381, origin PROTECTION). -/
def State.logEvent (s : State) (opcode target old new : Nat) : State :=
  s.logIt orPROTECTION 0 false false opcode target old new

end Sys2Proof.Machine
end

