-- ==== Sys2Proof/Machine/Trip.lean ====
section
/-!
DEFINITION. The trip network (spec/12_trip_network.md, R257 to R262) and the frames the primary
queues on the Pyngeo links for it (spec/07_gate_islands.md, R159, R160).
-/
namespace Sys2Proof.Machine
open Reg

/-! ### Primary side of the links -/

/-- A queued frame is an EDGE_ARM or a CANCEL (R159). -/
def Down.isEdge : Down → Bool
  | .edgeArm .. => true
  | .cancel .. => true
  | _ => false

/-- The instant of an EDGE_ARM. -/
def Down.armAt : Down → Option Time
  | .edgeArm _ _ t => some t
  | _ => none

/-- Adds a frame to a link's queue with its SEQ (R157); it goes out in no slot that starts before `ready`. -/
def Island.enqueue (i : Island) (f : Down) (ready : Time := 0) : Island :=
  { i with txq := i.txq ++ [{ frame := f, seq := i.txSeq, ready := ready }], txSeq := (i.txSeq + 1) % 8 }

/-- Queues a frame on a link under R159: a STATE OFF drops every queued EDGE_ARM and CANCEL, their
unsent repeats included; a CANCEL whose EDGE_ARM has not gone removes it without any frame, and one
whose EDGE_ARM repeat has not started replaces that repeat. A muted link takes one STATE OFF and
nothing else (R163). -/
def Island.send (i : Island) (f : Down) (ready : Time := 0) : Island :=
  if i.muted then
    if f = .stateOff && i.offAllowed then { i with offAllowed := false }.enqueue f else i
  else match f with
    | .stateOff => { i with txq := i.txq.filter (fun q => !q.frame.isEdge) }.enqueue f
    | .cancel t =>
      if i.txq.any (fun q => q.frame.armAt = some t && !q.sent) then
        { i with txq := i.txq.filter (fun q => !(q.frame.armAt = some t && !q.sent)) }
      else
        { i with txq := i.txq.filter (fun q => !(decide (q.frame.armAt = some t))) }.enqueue f ready
    | _ => i.enqueue f ready

/-- Queues a frame on island `n`'s link; an edge or its cancellation not before its decision commits (R26). -/
def State.sendDown (s : State) (n : Nat) (f : Down) (ready : Time := 0) : State :=
  s.modIsland n (fun i => i.send f ready)

/-- The islands of the grid group by role (R150). -/
abbrev outerIslands : List Nat := [0, 3, 4, 7, 8, 11]
abbrev innerIslands : List Nat := [1, 2, 5, 6, 9, 10]
abbrev dumpIslands : List Nat := [12, 13]

/-- The group hard-off sequence (R260): STATE OFF to the outer islands at once, and to the inner
islands at the inner delay, which a further hard-off neither restarts nor shortens. Queued EDGE_ARM and CANCEL frames
are discarded on both at once (R124). -/
def State.groupOff (s : State) : State :=
  let s := s.each outerIslands (fun s n => s.sendDown n .stateOff)
  (s.each innerIslands (fun s n => s.modIsland n (fun i =>
    { i with offLater := true, txq := i.txq.filter (fun q => !q.frame.isEdge) }))).startIf .innerDelay

/-- STATE OFF to both dump islands together (R258). -/
def State.dumpOff (s : State) : State :=
  (s.each dumpIslands (fun s n => s.sendDown n .stateOff)).modUnit 9 (fun u => { u with wantA := false, wantB := false })

/-! ### Band channels of a target -/

/-- Band channels of a target: grid 0 to 2, FEEDk 3 + k, dump 11 and 12 (its halves). -/
def targetLegs (g : Nat) : List Nat :=
  if g = 0 then [0, 1, 2] else if g ≤ 8 then [g + 2] else if g = 9 then [11, 12] else []

/-- The register channel of a leg: both halves of the dump show in channel 11. -/
def legChannel (n : Nat) : Nat := min n 11

/-- RETURNING shows any leg in its return sequence (R120). -/
def State.showReturning (s : State) : State :=
  s.wrB BND.STATUS.RETURNING ((List.range 11).any (fun l => decide ((s.leg l).ret ≠ .off)))

/-- A leg goes OFF with its armed edge dropped and awaits release (R124); its return sequence ends with it. Island
edges whose instant has passed await their report (R116). -/
def State.legOff (s : State) (n : Nat) : State :=
  let s := (s.modLeg n (fun l =>
    { l with armed := none, released := false, soft := false, ret := .off, on := false
             flat := l.flat && s.band.fault
             edges := if 3 ≤ n ∧ n ≤ 10 then [] else l.edges.filter (fun e => decide (e.te ≤ s.now)) })).showReturning
  let c := legChannel n
  let s := (s.wr (BND.CH.STATE.LEVEL c) 3).wr (BND.CH.STATE.ARMED c) 0
  if c = 11 then s.wr (BND.CH.STATE.DUMP_SW 11) 0 else s

/-- FDkA and FDkB low at the pad, ahead of the edge placer, any notch, any pending release and any pending edge
(R147). -/
def State.feedLow (s : State) (k : Nat) : State :=
  let o := s.rd PWM.OUT.FD
  let s := s.wr PWM.OUT.FD (setBit (setBit o (2 * k) false) (2 * k + 1) false)
  let s := (s.modLeg (k + 3) (fun l => { l with edges := [], armed := none })).wr (BND.CH.STATE.ARMED (k + 3)) 0
  s.modUnit (k + 1) (fun u => { u with rel := none, notch := none, wantA := false, wantB := false })

/-- Discharge stops and CU9 is released, to return to its source at the next valley (R128, R258, R266). -/
def State.stopDischarge (s : State) : State :=
  let held := s.on (PWM.CU.CFG.PROT_HOLD 9)
  let s := (((s.wr TRP.GOV_STAT.DIS_RUN 0).wr (PWM.CU.CFG.PROT_HOLD 9) 0).stop .dcdOpenWait).stop .discharge
  s.modTrip (fun t => { t with disWait := false, govA := 0, govB := 0, govTail := held || t.govTail })

/-- Hard-off of one target (R258, R124). -/
def State.hardOff (s : State) (g : Nat) : State :=
  let s := s.each (targetLegs g) (fun s n => (s.legOff n).set (BND.CH.STATE.TRIPPED (legChannel n)))
  let s := s.modTrip (fun t => { t with ramping := setBit t.ramping g false })
  if g = 0 then s.groupOff
  else if g ≤ 8 then s.feedLow (g - 1)
  else if g = 9 then s.dumpOff.stopDischarge
  else ((s.set SYS.AUXIO.BRK_OPEN).wr SYS.AUXIO.BRK_CLOSE 0).start .brkPulse

/-- The grid ramps take the ride-through detector's references where these are in force (R124, R229). -/
def State.rampsTakeFrt (s : State) : State :=
  match s.band.frt with
  | none => s
  | some (d, q, d2, q2) =>
    let put (i : Nat) (v : Int) (rs : Units Ramp 13) : Units Ramp 13 := rs.upd i (fun r => { r with val := v })
    { s with band := { s.band with ramps := put 0 d (put 1 q (put 2 d2 (put 3 q2 s.band.ramps))) } }

/-- A soft ramp of the grid group or a feed begins at the references in force, unless a hard-off already holds
the target (R124, R259). -/
def State.softOff (s : State) (g : Nat) : State :=
  if (targetLegs g).any (fun n => s.on (BND.CH.STATE.TRIPPED (legChannel n))) then s
  else
    let s := if decide (g = 0) && !(s.leg 0).soft then s.rampsTakeFrt else s
    let s := s.each (targetLegs g) (fun s n => s.modLeg n (fun l => { l with soft := true }))
    s.modTrip (fun t => { t with ramping := setBit t.ramping g true })

/-- One action on every target of a mask: hard-off, or a soft ramp where the target has one
(R258). -/
def State.actOn (s : State) (mask : Nat) (soft : Bool) : State :=
  s.each ((List.range 11).filter (fun g => mask.testBit g))
    (fun s g => if soft && g ≤ 8 then s.softOff g else s.hardOff g)

/-! ### Sources, latches and targets -/

/-- Source bit (R257). -/
def State.srcOn (s : State) (n : Nat) : Bool :=
  if n < 32 then s.bitOf TRP.SRC_LO.SRC n else s.bitOf TRP.SRC_HI.SRC (n - 32)

/-- Latch bit (R258). -/
def State.latchOn (s : State) (n : Nat) : Bool :=
  if n < 32 then s.bitOf TRP.LATCH_LO.SRC n else s.bitOf TRP.LATCH_HI.SRC (n - 32)

/-- Sets or clears a source bit. -/
def State.putSrc (s : State) (n : Nat) (b : Bool) : State :=
  if n < 32 then s.wrBit TRP.SRC_LO.SRC n b else s.wrBit TRP.SRC_HI.SRC (n - 32) b

/-- Sets or clears a latch bit. -/
def State.putLatch (s : State) (n : Nat) (b : Bool) : State :=
  let f := if n < 32 then TRP.LATCH_LO.SRC else TRP.LATCH_HI.SRC
  if b then s.setAt f (n % 32) else s.wrBit f (n % 32) false

/-- Targets a forced latch of a source holds (R259). -/
def State.forcedOf (s : State) (src : Nat) : Nat :=
  if src = 31 then s.trip.forced31 else if src = 34 then s.trip.forced34
  else if src = 35 then s.trip.forced35 else if src = 36 then s.trip.forced36 else 0

/-- Changes the targets a forced latch holds. -/
def State.putForced (s : State) (src mask : Nat) : State :=
  s.modTrip (fun t =>
    if src = 31 then { t with forced31 := mask } else if src = 34 then { t with forced34 := mask }
    else if src = 35 then { t with forced35 := mask }
    else if src = 36 then { t with forced36 := mask } else t)

/-- Targets held by the operating state (R259): every target until boot code has run (reset word of
TRP.TGT), grid and feeds in PILOT_LIGHT, every target in HALT except the dump with DIS_HALT. -/
def State.stateHold (s : State) : Nat :=
  if s.code ≤ stBOOT then 0x7FF
  else if s.code = stPILOT then 0x1FF
  else if s.code = stHALT then (if s.on SYS.SEQ.DIS_HALT then 0x5FF else 0x7FF)
  else 0

/-- Targets held by a latch bit or a forced latch. -/
def State.latchHold (s : State) : Nat :=
  ((List.range 40).filter s.latchOn).foldl (fun m n => m ||| s.rd (TRP.MAP.TGT n))
    (s.trip.forced31 ||| s.trip.forced34 ||| s.trip.forced35 ||| s.trip.forced36)

/-- Targets held by an asserted source. -/
def State.srcHold (s : State) : Nat :=
  ((List.range 40).filter s.srcOn).foldl (fun m n => m ||| s.rd (TRP.MAP.TGT n)) 0

/-- Every tripped target (R259). -/
def State.tripped (s : State) : Nat :=
  s.srcHold ||| s.latchHold ||| s.stateHold ||| s.trip.ramping

/-- The number of grid-target trips within TRIP_WIN (R283). -/
def State.tripCount (s : State) : Nat :=
  (s.trip.gridTrips.filter
    (fun t => decide (s.now < t + s.rd SYS.PL_CFG.TRIP_WIN * sec + 1))).length

/-- Refreshes TRP.TGT after a change of sources, latches or state. A target that becomes untripped
frees its channels to be released again (R259); an entry of the grid target into the tripped state
counts toward the pilot-light cause TRIPS (R283), and any new trip of the grid, dump or breaker
target is remembered for R280. -/
def State.refreshTrips (s : State) : State :=
  let old := s.rd TRP.TGT.TRIPPED
  let new := s.tripped
  let freed := (List.range 11).filter (fun g => !new.testBit g && (old.testBit g
    || (targetLegs g).any (fun n => s.on (BND.CH.STATE.TRIPPED (legChannel n)))))
  let rose (g : Nat) : Bool := new.testBit g && !old.testBit g
  let s := (s.wr TRP.TGT.TRIPPED new).wr TRP.TGT.LATCHED
    (if s.code ≤ stBOOT then 0x7FF else s.latchHold)
  let s := s.each freed (fun s g =>
    s.each (targetLegs g) (fun s n => s.wr (BND.CH.STATE.TRIPPED (legChannel n)) 0))
  let s := if new.testBit 0 || new.testBit 9 || new.testBit 10 then
      s.modSys (fun y => { y with tripSince := true }) else s
  let s := if (List.range 11).any rose then s.reelFault else s
  if rose 0 then
    let s := s.modTrip (fun t => { t with gridTrips := s.now :: t.gridTrips.take 15 })
    if s.rd SYS.PL_CFG.TRIP_N < s.tripCount then
      s.modSys (fun y => { y with wantPilot := setBit y.wantPilot 2 true }) else s
  else s

/-- Records the first source of a trip (R259). `before` is whether no target was tripped. -/
def State.recordFirst (s : State) (before : Bool) (src : Nat) : State :=
  let clk := s.now / fclk
  if before || (decide (s.trip.firstClk = clk + 1) && decide (src < s.rd TRP.FIRST.SRC)) then
    let s := if s.on TRP.FIRST.VALID then s else s.reelFault
    (((s.set TRP.FIRST.VALID).wr TRP.FIRST.SRC src).wr64 TRP.FIRST_TIME.TAI_NS s.tai).modTrip
      (fun t => { t with firstClk := clk + 1 })
  else s

/-- A source asserts (R257 to R259): its bit, its latch where TRP.MAP says so, the record of the
first source, and the action on its targets. A source already asserted changes nothing. -/
def State.assertSrc (s : State) (src : Nat) : State :=
  if s.srcOn src then s
  else
    let before := decide (s.rd TRP.TGT.TRIPPED = 0)
    let mask := s.rd (TRP.MAP.TGT src)
    let s := s.putSrc src true
    let s := if s.on (TRP.MAP.LATCH src) then s.putLatch src true else s
    let s := if mask = 0 then s else s.recordFirst before src
    (s.actOn mask (s.on (TRP.MAP.SOFT src))).refreshTrips

/-- A source deasserts; its latch stands. -/
def State.dropSrc (s : State) (src : Nat) : State := (s.putSrc src false).refreshTrips

/-- A source follows a level. -/
def State.putSource (s : State) (src : Nat) (b : Bool) : State :=
  if b then s.assertSrc src else if s.srcOn src then s.dropSrc src else s

/-- A forced trip (R259): latched at the bit of its source, hard-off on its targets whatever
TRP.MAP routes. -/
def State.forceTrip (s : State) (src mask : Nat) : State :=
  let before := decide (s.rd TRP.TGT.TRIPPED = 0)
  let s := (s.putLatch src true).putForced src (s.forcedOf src ||| mask)
  let s := s.recordFirst before src
  (s.actOn mask false).refreshTrips

/-- A source asserted for 1 µs from an event (R257, sources 32 and 33). -/
def State.pulseSrc (s : State) (src : Nat) : State :=
  (s.assertSrc src).start (if src = 32 then .pulse32 else .pulse33)

/-- The forced trip of an island's group: the grid group, or the dump (R259). -/
def islandGroup (n : Nat) : Nat := if 12 ≤ n then 0x200 else 0x001

/-- The island whose turn-off is a level change of a grid leg from one level to another (R130). -/
def outgoing (leg lo hi : Nat) : Nat :=
  4 * leg + (if lo = 2 then 0 else if lo = 0 then 3 else if hi = 2 then 2 else 1)

end Sys2Proof.Machine
end

