-- ==== Sys2Proof/Machine/Carrier.lean ====
section
/-!
DEFINITION. Carrier counters (spec/06_pulse_generation.md R127 to R129) and the start of a dead-time
release (R137).
-/
namespace Sys2Proof.Machine
open Reg

/-- CU9 runs with the governor's PRESC 4 and PRD 50,000: while the governor holds it, and after the release
to the next valley (R128, R266). -/
def State.govHolds (s : State) (n : Nat) : Bool :=
  decide (n = 9) && (s.on (PWM.CU.CFG.PROT_HOLD 9) || s.trip.govTail)

/-- One prescaled count in fine edge steps: PRESC 1, 2 or 4 SCLK cycles (R127). -/
def State.countLen (s : State) (n : Nat) : Nat :=
  if s.govHolds n then 4 * sclk else sclk * 2 ^ s.rd (PWM.CU.CFG.PRESC n)

/-- PRD in force. -/
def State.prd (s : State) (n : Nat) : Nat :=
  if s.govHolds n then 50000 else s.rd (PWM.CU.PRD.ACTIVE n)

/-- Half a carrier period in fine edge steps. -/
def State.halfPeriod (s : State) (n : Nat) : Nat := s.prd n * s.countLen n

/-- What the corrections of the running half period have still to add to the phase at an instant (R143), for counts of
`c` steps: an advance takes two counts in each of its steps; a pause is one count moving, one count standing. -/
def CarrierUnit.slewRest (u : CarrierUnit) (c : Nat) (t : Time) : Int :=
  let x := t - u.slewFrom
  let all := u.slewing.natAbs * c
  if 0 < u.slewing then ((all - min x all : Nat) : Int)
  else if u.slewing < 0 then -((all - min all (x / (2 * c) * c + (x % (2 * c) - c)) : Nat) : Int)
  else 0

/-- Course of a carrier: fine edge steps since its origin, whole periods included. -/
def State.progress (s : State) (n : Nat) (t : Time) : Int :=
  (t : Int) - (s.unit n).org - (s.unit n).slewRest (s.countLen n) t

/-- Phase of a carrier at an instant in fine edge steps since its valley, lagging by `lag` steps. -/
def State.phaseOf (s : State) (n lag : Nat) (t : Time) : Nat :=
  let p := 2 * s.halfPeriod n
  if p = 0 then 0 else ((s.progress n t - lag).emod p).toNat

/-- The carrier's distance from the valley in fine edge steps: x(t) in steps. -/
def State.ramp (s : State) (n lag : Nat) (t : Time) : Nat :=
  let u := s.phaseOf n lag t
  if u ≤ s.halfPeriod n then u else 2 * s.halfPeriod n - u

/-- Position p in counts (R127). -/
def State.position (s : State) (n : Nat) (t : Time) : Nat := s.phaseOf n 0 t / s.countLen n

/-- The lag of a grid leg's own carrier with GRID3 (R129): round(2·PRD/3) or round(4·PRD/3) counts. -/
def State.gridLag (s : State) (leg : Nat) : Nat :=
  if s.on (PWM.CU.CFG.GRID3 0) then
    (rneDiv ((2 * leg * s.prd 0 : Nat) : Int) 3).toNat * s.countLen 0
  else 0

/-- The carrier unit of a band leg, and the lag of its carrier (R103, R129). -/
def State.legCarrier (s : State) (l : Nat) : Nat × Nat :=
  if l ≤ 2 then (0, s.gridLag l) else if l ≤ 10 then (l - 2, 0) else (9, 0)

/-- The unit serves the band law (CFG.SRC 0). -/
def State.bandMode (s : State) (n : Nat) : Bool := decide (s.rd (PWM.CU.CFG.SRC n) = 0)

/-- Instants at which a slew bends a carrier (R143): the end of an advance, each start and end of a pause. -/
def State.bends (s : State) (n : Nat) : List Time :=
  let u := s.unit n
  let c := s.countLen n
  if 0 < u.slewing then [u.slewFrom + u.slewing.natAbs * c]
  else (List.range (2 * u.slewing.natAbs)).map (fun j => u.slewFrom + (j + 1) * c)

/-- Vertices within one piece of a steady course. -/
def State.pieceVertices (s : State) (n lag : Nat) (a b : Time) : List Time :=
  let h : Int := s.halfPeriod n
  let p0 := s.progress n a - lag
  let p1 := s.progress n b - lag
  if h ≤ 0 ∨ p1 ≤ p0 then []
  else
    let k0 := p0.ediv h + 1
    (List.range ((p1 - 1).ediv h + 1 - k0).toNat).map (fun i => a + (((k0 + i) * h - p0) * (b - a : Nat) / (p1 - p0)).toNat)

/-- The points strictly inside an interval between which a carrier is linear: its valleys and peaks (R113) and the bends
of a slew. -/
def State.vertices (s : State) (n lag : Nat) (a b : Time) : List Time :=
  let cs := (s.bends n).filter (fun t => decide (a < t ∧ t < b))
  ((a :: cs).zip (cs ++ [b])).flatMap (fun p =>
    s.pieceVertices n lag p.1 p.2 ++ (if p.2 < b then [p.2] else []))

end Sys2Proof.Machine
end

