-- ==== Sys2Proof/Machine/Float.lean ====
section
/-!
DEFINITION. The binary32 arithmetic of the control datapath (spec/02_frame_and_script.md R43):
exact results rounded once to nearest even, subnormals flushed, overflow saturated.
-/
namespace Sys2Proof.Machine

/-- A binary32 pattern. -/
abbrev F32 := BitVec 32

/-- The largest finite binary32 value, 3.402823 × 10^38 (R43). -/
def f32Max (neg : Bool) : F32 := if neg then 0xFF7FFFFF else 0x7F7FFFFF

/-- A signed zero. -/
def f32Zero (neg : Bool) : F32 := if neg then 0x80000000 else 0

/-- Sign bit of a pattern. -/
def f32Neg (x : F32) : Bool := x.getLsbD 31

/-- The exact value of a pattern; subnormals read as zero (R43). Patterns of infinities and NaN,
which never arise (R43), read as the largest magnitude. -/
def f32Val (x : F32) : Dy :=
  let ex := (x.extractLsb' 23 8).toNat
  let fr := (x.extractLsb' 0 23).toNat
  if ex = 0 then ⟨0, 0⟩
  else
    let m : Int := if ex = 255 then 2 ^ 24 - 1 else (fr : Int) + 2 ^ 23
    ⟨if f32Neg x then -m else m, ((if ex = 255 then 254 else ex) : Int) - 150⟩

/-- Rounds the magnitude `m × 2^e` once to binary32 (R43). The exponent is unbounded while rounding;
a rounded result below the smallest normal is flushed to zero, one above the largest finite value
saturates. -/
def f32Round (neg : Bool) (m : Nat) (e : Int) : F32 :=
  if m = 0 then f32Zero neg
  else
    let l := Nat.log2 m
    let q := if l ≤ 23 then m * 2 ^ (23 - l) else (rneDiv m (2 ^ (l - 23))).toNat
    let (q, x) := if q = 2 ^ 24 then (2 ^ 23, (l : Int) + e + 1) else (q, (l : Int) + e)
    if x < -126 then f32Zero neg
    else if 127 < x then f32Max neg
    else (if neg then 0x80000000#32 else 0) |||
      BitVec.ofNat 32 (((x + 127).toNat) * 2 ^ 23 + (q - 2 ^ 23))

/-- Rounds a dyadic number; `nz` is the sign an exact zero takes. -/
def f32OfDy (nz : Bool) (d : Dy) : F32 :=
  if d.m = 0 then f32Zero nz else f32Round (decide (d.m < 0)) d.m.natAbs d.e

/-- Rounds the exact quotient `n / d`, `d` positive. -/
def f32OfRat (nz : Bool) (n : Int) (d : Nat) : F32 :=
  if n = 0 then f32Zero nz
  else
    let k := Nat.log2 d + 40
    let t := n.natAbs * 2 ^ k
    let q := t / d
    f32Round (decide (n < 0)) (2 * q + (if q * d = t then 0 else 1)) (-(k : Int) - 1)

/-- Rounds the square root of the exact quotient `n / d × 4^e`. -/
def f32OfSqrt (neg : Bool) (n d : Nat) (e : Int) : F32 :=
  if n = 0 then f32Zero neg
  else
    let k := Nat.log2 d + 40
    let t := n * 4 ^ k
    let q := isqrt (t / d)
    f32Round neg (2 * q + (if q * q * d = t then 0 else 1)) (e - k - 1)

/-- Dyadic numbers at one exponent. -/
def dyAlign (a b : Dy) : Int × Int × Int :=
  let e := min a.e b.e
  (a.m * 2 ^ (a.e - e).toNat, b.m * 2 ^ (b.e - e).toNat, e)

/-- Exact sum. -/
def dyAdd (a b : Dy) : Dy :=
  if a.m = 0 then b else if b.m = 0 then a
  else let (x, y, e) := dyAlign a b; ⟨x + y, e⟩

/-- Exact negation. -/
def dyNeg (a : Dy) : Dy := ⟨-a.m, a.e⟩

/-- Exact product. -/
def dyMul (a b : Dy) : Dy := ⟨a.m * b.m, a.e + b.e⟩

/-- Exact order. -/
def dyLt (a b : Dy) : Bool := let (x, y, _) := dyAlign a b; decide (x < y)

/-- A dyadic number as numerator and power-of-two denominator. -/
def dyRat (a : Dy) : Int × Nat :=
  if 0 ≤ a.e then (a.m * 2 ^ a.e.toNat, 1) else (a.m, 2 ^ (-a.e).toNat)

/-- a + b. -/
def f32Add (a b : F32) : F32 := f32OfDy (f32Neg a && f32Neg b) (dyAdd (f32Val a) (f32Val b))
/-- The pattern with its sign flipped. -/
def f32Flip (a : F32) : F32 := a ^^^ 0x80000000
/-- a − b. -/
def f32Sub (a b : F32) : F32 := f32Add a (f32Flip b)
/-- a × b. -/
def f32Mul (a b : F32) : F32 :=
  f32OfDy (f32Neg a != f32Neg b) (dyMul (f32Val a) (f32Val b))
/-- a × k + b, rounded once. -/
def f32Fma (a k b : F32) : F32 :=
  f32OfDy ((f32Neg a != f32Neg k) && f32Neg b) (dyAdd (dyMul (f32Val a) (f32Val k)) (f32Val b))
/-- Order of two patterns. -/
def f32Lt (a b : F32) : Bool := dyLt (f32Val a) (f32Val b)
/-- min(a, b), an operand (R43). -/
def f32Min (a b : F32) : F32 := if f32Lt b a then b else a
/-- max(a, b), an operand (R43). -/
def f32Max2 (a b : F32) : F32 := if f32Lt a b then b else a
/-- min(max(x, lo), hi), and lo where lo > hi (R44). -/
def f32Lim (x lo hi : F32) : F32 := if f32Lt hi lo then lo else f32Min (f32Max2 x lo) hi
/-- |a|. -/
def f32Abs (a : F32) : F32 := a &&& 0x7FFFFFFF
/-- The sign of a − b, that of an exact zero included. -/
def f32DiffNeg (a b : F32) : Bool :=
  let d := dyAdd (f32Val a) (dyNeg (f32Val b))
  if d.m = 0 then f32Neg a && !f32Neg b else decide (d.m < 0)
/-- d + k × (a − d), rounded once. -/
def f32Lpf (d k a : F32) : F32 :=
  f32OfDy (f32Neg d && (f32Neg k != f32DiffNeg a d))
    (dyAdd (f32Val d) (dyMul (f32Val k) (dyAdd (f32Val a) (dyNeg (f32Val d)))))
/-- k × (a − b), rounded once. -/
def f32Dif (k a b : F32) : F32 :=
  f32OfDy (f32Neg k != f32DiffNeg a b) (dyMul (f32Val k) (dyAdd (f32Val a) (dyNeg (f32Val b))))

/-- √a for a ≥ 0, exactly rounded; a zero keeps its sign, and a < 0 gives 0.0 (R44). -/
def f32Sqrt (a : F32) : F32 :=
  let v := f32Val a
  if v.m = 0 then f32Zero (f32Neg a)
  else if v.m < 0 then 0
  else
    let m := v.m.toNat
    if v.e % 2 = 0 then f32OfSqrt false m 1 (v.e / 2)
    else f32OfSqrt false (2 * m) 1 ((v.e - 1) / 2)

/-- 1 / a for a ≠ 0, exactly rounded. -/
def f32Recip (a : F32) : F32 :=
  let (n, d) := dyRat (f32Val a)
  if n = 0 then f32Max false
  else f32OfRat false (if n < 0 then -(d : Int) else d) n.natAbs

/-- The exact value of `(b − c) / √3` rounded once: the root of `(b − c)² / 3` with its sign. -/
def f32OverRoot3 (b c : F32) : F32 :=
  let d := dyAdd (f32Val b) (dyNeg (f32Val c))
  if d.m = 0 then f32Zero (f32Neg b && !f32Neg c)
  else f32OfSqrt (decide (d.m < 0)) (d.m.natAbs * d.m.natAbs) 3 d.e

/-- A dyadic number times the rational `p / q`, rounded once; `nz` is the sign an exact zero takes. -/
def f32Scale (nz : Bool) (d : Dy) (p : Int) (q : Nat) : F32 :=
  let (n, k) := dyRat d
  f32OfRat nz (n * p) (k * q)

/-- x × c + y × n, rounded once. -/
def f32Cross (x c y n : F32) : F32 :=
  f32OfDy ((f32Neg x != f32Neg c) && (f32Neg y != f32Neg n))
    (dyAdd (dyMul (f32Val x) (f32Val c)) (dyMul (f32Val y) (f32Val n)))

/-- Round half to even of a pattern to an integer after scaling by `2^s` (R8). -/
def f32ToInt (x : F32) (s : Nat) : Int :=
  let v := f32Val x
  let e := v.e + s
  if 0 ≤ e then v.m * 2 ^ e.toNat else rneDiv v.m (2 ^ (-e).toNat)

/-- A pattern in Q15.16, rounded and saturated (R8, R47). -/
def f32ToQ (x : F32) : Word := satWord (f32ToInt x 16)

/-- A Q15.16 word as binary32 (R40). -/
def f32OfQ (w : Word) : F32 := f32OfDy false ⟨w.toInt, -16⟩

/-- An integer as binary32. -/
def f32OfInt (x : Int) : F32 := f32OfDy false ⟨x, 0⟩

/-- The greatest integer not above a pattern's value. -/
def f32Floor (x : F32) : Int :=
  let v := f32Val x
  if 0 ≤ v.e then v.m * 2 ^ v.e.toNat else v.m / (2 ^ (-v.e).toNat : Nat)

/-- The pattern one unit in the last place away from zero, or toward it. -/
def f32Next (away : Bool) (x : F32) : F32 :=
  if x &&& 0x7FFFFFFF = 0 then (if away then x ||| 0x00800000 else x)
  else if away then x + 1 else if (x &&& 0x7FFFFFFF) = 0x00800000 then x &&& 0x80000000 else x - 1

/-- A result that R43 bounds to one unit in the last place and no further: the value below or above
the exact one, as the free value of the configuration picks. `n` has 256 fractional bits. FREE
VALUE, log entry 6. -/
def f32WithinUlp (pick : Nat) (n : Int) : F32 :=
  if n = 0 then (if pick % 2 = 0 then 0 else if pick % 4 = 1 then 0x00800000 else 0x80800000)
  else
    let r := f32Round (decide (n < 0)) n.natAbs (-256)
    if pick % 2 = 0 then r
    else
      let v := f32Val r
      let back : Int := v.m * 2 ^ (v.e + 256).toNat
      f32Next (if back.natAbs = n.natAbs then decide (pick % 4 = 3) else decide (back.natAbs < n.natAbs)) r

/-- The turn fraction of a pattern taken modulo 1.0, with 256 fractional bits. -/
def f32Turn (a : F32) : Nat :=
  let v := f32Val a
  ((v.m * 2 ^ (v.e + 256).toNat) % 2 ^ 256).toNat

end Sys2Proof.Machine
end

