-- ==== Sys2Proof/Machine/MeasChain.lean ====
section
/-!
DEFINITION. The measurement chain up to a sample's own value (spec/03_measurement_chain.md R57 to R65,
R72 to R80): settling, correction, monitors, supraharmonic slots, background calibration and
housekeeping.
-/
namespace Sys2Proof.Machine
open Reg

/-- A channel's record. -/
def State.chan (s : State) (n : Nat) : Chan := s.meas.ch.get n {}
/-- Changes a channel's record. -/
def State.modChan (s : State) (n : Nat) (f : Chan → Chan) : State :=
  { s with meas := { s.meas with ch := s.meas.ch.upd n f } }
/-- Changes the measurement record. -/
def State.modMeas (s : State) (f : Meas → Meas) : State := { s with meas := f s.meas }

/-- A channel on the module (R57). -/
def onModule (n : Nat) : Bool := decide (n < 16)

/-! ### Periods and delays (R60, R61) -/

/-- A count of bit periods in fine edge steps, times the divisor of `bitDiv` (R57, R59). -/
def bitDiv (s : State) (n : Nat) : Nat := if onModule n then 1 else s.rd (MOD.CH.CFG.BSFREQ n)
/-- Numerator of the bit period: 5 ns on the module, 1 µs / BSFREQ on a bitstream input. -/
def bitNum (n : Nat) : Nat := if onModule n then mclk else us

/-- Control OSR and order (R60). -/
def ctlOsr (s : State) (n : Nat) : Nat := 4 * 2 ^ s.rd (MOD.CH.CFG.COSR n)
def ctlOrder (s : State) (n : Nat) : Nat := s.rd (MOD.CH.CFG.CORD n) + 1
/-- Metering OSR (R60, R64). -/
def mtrOsr (s : State) (n : Nat) : Nat := if onModule n then 512 else 32 * 2 ^ s.rd (MOD.CH.CFG.MOSR n)

/-- A path has run for `bits` bit periods since an instant. -/
def elapsedBits (s : State) (n : Nat) (since : Time) (bits : Nat) : Bool :=
  decide (since * bitDiv s n + bits * bitNum n ≤ s.now * bitDiv s n)

/-- Group delay `order × (osr − 1) / 2` bit periods in fine edge steps (R60), half to even where the bit period is no
whole number of steps (log entry 22). -/
def groupDelay (s : State) (n order osr : Nat) : Nat :=
  (rneDiv ((order * (osr - 1) * bitNum n : Nat) : Int) (2 * bitDiv s n)).toNat

/-- The delay registers follow the configuration (R61). -/
def State.refreshDelays (s : State) (n : Nat) : State :=
  (s.wr (MOD.CH.GD_CTL.DELAY n) (groupDelay s n (ctlOrder s n) (ctlOsr s n))).wr
    (MOD.CH.GD_MTR.DELAY n) (groupDelay s n 4 (mtrOsr s n))

/-! ### Validity (R63, R79) -/

/-- A slot holds the channel: EN and CHAN of the eight slots (R65). -/
def slotEn (s : State) (j : Nat) : Bool :=
  ((if j < 4 then s.word 0x4010 else s.word 0x4014).toNat).testBit (8 * (j % 4) + 7)
/-- The channel of a slot. -/
def slotChan (s : State) (j : Nat) : Nat :=
  (if j < 4 then s.word 0x4010 else s.word 0x4014).toNat / 2 ^ (8 * (j % 4)) % 64
/-- The slot that holds a channel. -/
def slotOf (s : State) (n : Nat) : Option Nat :=
  (List.range 8).find? (fun j => slotEn s j && decide (slotChan s j = n))

/-- MOD.INVALID shows an enabled channel with an invalid path. -/
def State.refreshInvalid (s : State) (n : Nat) : State :=
  let bad := s.on (MOD.CH.CFG.ENABLE n) &&
    (!s.on (MOD.CH.STATUS.VALID_C n) || !s.on (MOD.CH.STATUS.VALID_M n)
      || ((slotOf s n).isSome && !s.on (MOD.CH.STATUS.VALID_S n)))
  if n < 32 then s.wrBit MOD.INVALID_LO.CH n bad else s.wrBit MOD.INVALID_HI.CH (n - 32) bad

/-- Every path of a channel is invalid from now on. -/
def State.pathsInvalid (s : State) (n : Nat) : State :=
  (((s.wr (MOD.CH.STATUS.VALID_C n) 0).wr (MOD.CH.STATUS.VALID_M n) 0).wr
    (MOD.CH.STATUS.VALID_S n) 0).refreshInvalid n

/-- A running average takes a failure detail (R73). -/
def State.calFail (s : State) (n d : Nat) : State :=
  s.modChan n (fun c => { c with cal := c.cal.map (fun r => { r with fail := r.fail.or (some d) }) })

/-- A channel is enabled, disabled or reconfigured: its paths are invalid and settle anew, its resampled output is
invalid, and an average on it fails (R63, R71, R73). -/
def State.chanRestart (s : State) (n : Nat) : State :=
  (((s.refreshDelays n).modChan n (fun c =>
    { c with since := s.now, sinceS := s.now, ovrUp := 0, ovrDn := 0, newM := 0, newS := 0, outOk := false })).pathsInvalid
      n).calFail n 1

/-- A running background visit is abandoned; the pass goes on behind its channel (R77). -/
def State.bgAbandon (s : State) : State :=
  match s.meas.bg with
  | none => s
  | some b => ((s.wr (MOD.CH.STATUS.SPARE b.ch) 0).wr MOD.STATUS.SPARE_CH 0x3F).modMeas
      (fun m => { m with bg := none, bgNext := (b.ch + 1) % 16, spSum := ⟨0, 0⟩, spCount := 0 })

/-- A background visit of the channel is under way (R77). -/
def State.visited (s : State) (n : Nat) : Bool := s.meas.bg.any (fun b => decide (b.ch = n))

/-- A monitor fires on a channel (R77): the visit of that channel is abandoned. -/
def State.bgMonitor (s : State) (n : Nat) : State := if s.visited n then s.bgAbandon else s

/-- A monitor that invalidates fires (R78, R79). -/
def State.monitorLoss (s : State) (n : Nat) (cls : Nat) : State :=
  let s := (s.sat (MOD.CH.EVCNT.LOSS_CNT n)).modChan n (fun c => { c with lost := true, lostAt := s.now })
  (((s.pathsInvalid n).calFail n 1).bgMonitor n).detect cls n rcReport

/-- No condition of a monitor that invalidates stands any more on a channel: the 4,096 bit clocks of R79 begin. -/
def State.monitorOver (s : State) (n : Nat) : State :=
  if s.on (MOD.CH.STATUS.STUCK_NOW n) || s.on (MOD.CH.STATUS.NOCLK_NOW n) then s
  else s.modChan n (fun c => { c with lostAt := s.now })

/-- A measured bit rate in kHz is in error (R59): more than ±2 % from BSFREQ, or outside 5 to 25 MHz. -/
def rateError (s : State) (n rate : Nat) : Bool :=
  let f := 1000 * s.rd (MOD.CH.CFG.BSFREQ n)
  decide (rate < 5000) || decide (25000 < rate) || decide (f < 50 * (f - rate)) || decide (f < 50 * (rate - f))

/-- CHANNEL_RECOVER (R79): the monitor conditions have stayed absent for 4,096 bit clocks, and each path
starts its settling time. -/
def execChannelRecover (t : Time) (n : Fin 40) (s : State) : Host.Outcome State Fault Refusal :=
  s.during t (fun s =>
    let c := s.chan n
    if c.lost && !s.on (MOD.CH.STATUS.STUCK_NOW n) && !s.on (MOD.CH.STATUS.NOCLK_NOW n)
        && elapsedBits s n c.lostAt 4096 then
      s.modChan n (fun c => { c with lost := false, since := s.now, sinceS := s.now })
    else s)

/-- The three decimation paths of a channel. -/
def pathSettle (s : State) (n path : Nat) : Bool :=
  let c := s.chan n
  if path = 0 then elapsedBits s n c.since (ctlOrder s n * ctlOsr s n)
  else if path = 1 then elapsedBits s n c.since (4 * mtrOsr s n)
  else (slotOf s n).isSome && elapsedBits s n (max c.since c.sinceS) 192

/-- PATH_SETTLED (R61, R63): path 0 control, 1 metering, 2 supraharmonic, becomes valid once its settling
time has passed. -/
def execPathSettled (t : Time) (n : Fin 40) (path : Fin 3) (s : State) : Host.Outcome State Fault Refusal :=
  s.during t (fun s =>
    if s.on (MOD.CH.CFG.ENABLE n) && !(s.chan n).lost && pathSettle s n path then
      (s.set (if path = 0 then MOD.CH.STATUS.VALID_C n else if path = 1 then MOD.CH.STATUS.VALID_M n
        else MOD.CH.STATUS.VALID_S n)).refreshInvalid n
    else s)

/-! ### Filters (R60) -/

/-- Running sums of `m` neighbours: from the sum before the first, the entries that join and those that leave. -/
def boxRun : Nat → List Nat → List Nat → List Nat
  | acc, x :: xs, y :: ys => (acc + x - y) :: boxRun (acc + x - y) xs ys
  | _, _, _ => []

/-- Convolution with `m` ones. -/
def boxSum (m : Nat) (l : List Nat) : List Nat :=
  boxRun 0 (l ++ List.replicate (m - 1) 0) (List.replicate m 0 ++ l)

/-- The weights of a sincN filter of oversampling ratio `m`: N boxes of `m` ones convolved (R60). -/
def sincTaps (m : Nat) : Nat → List Nat
  | 0 => [1]
  | n + 1 => boxSum m (sincTaps m n)

/-- Weighted sum of bits, newest at bit 0, on an accumulator. -/
def tapSum : List Nat → Nat → Nat → Nat
  | [], _, acc => acc
  | w :: l, b, acc => tapSum l (b / 2) (acc + if b % 2 = 1 then w else 0)

/-- Bit density of a window through a sincN filter: unity gain at DC, from −1 to +1 (R60). -/
def sincOf (n m bits : Nat) : Dy :=
  ⟨2 * (tapSum (sincTaps m n) bits 0 : Nat) - (m ^ n : Nat), -(n * Nat.log2 m : Nat)⟩

/-- A raw value in 2^-40 FS within a channel's range: ±1.25 FS on the module, ±1.0 FS on a bitstream input (R58,
R59). -/
def rawClamp (n : Nat) (d : Dy) : Dy :=
  let lim : Int := if onModule n then 5 * 2 ^ 38 else 2 ^ 40
  let e := d.e + 40
  ⟨clampInt (-lim) lim (if 0 ≤ e then d.m * 2 ^ e.toNat else rneDiv d.m (2 ^ (-e).toNat)), -40⟩

/-- The raw value of a bit stream on a path (R58 to R60): a modulator's density ±1 is ±1.25 FS, a bitstream's ±1.0. -/
def rawOf (n order osr bits : Nat) : Dy :=
  let d := sincOf order osr bits
  rawClamp n (if onModule n then ⟨5 * d.m, d.e - 2⟩ else d)

/-- The raw value of a channel's path, `late` bits before the newest (R60); while the spare stands in, corrected by
the ratio and the spare's drift (R77). -/
def State.pathRaw (s : State) (n order osr late : Nat) : Dy :=
  let r := rawOf n order osr ((s.chan n).bits / 2 ^ late)
  if s.on (MOD.CH.STATUS.SPARE n) then rawClamp n (dyMul (s.chan n).ratio (dyAdd r (dyNeg s.meas.spDrift))) else r

/-- The control path's raw value (R60). -/
def State.ctlRaw (s : State) (n : Nat) : Dy := s.pathRaw n (ctlOrder s n) (ctlOsr s n) 0

/-- Bits of a control window from its operand (R59). On the module: the low bits of `r`, newest at bit 0. On a
bitstream input: for each bit the level at the rising and at the falling edge of its clock, or of the first and second
half of its Manchester cell. -/
def bitsOf (s : State) (n : Nat) (r : BitVec 64) : Nat :=
  let m := ctlOsr s n
  if onModule n then r.toNat % 2 ^ m
  else
    let half := if s.rd (MOD.CH.CFG.BSMODE n) = 0 then 1 else 0
    (List.range m).foldl (fun a j => 2 * a + b2n (r.getLsbD (2 * (m - 1 - j) + half))) 0

/-- Bits kept of a stream. -/
abbrev bitsKept : Nat := 2 ^ 4096

/-- The background calibration path takes the bits of this channel: of its visit, or between visits (R77). -/
def State.calPath (s : State) (n : Nat) : Bool :=
  match s.meas.bg with
  | some b => decide (b.ch = n)
  | none => decide (n = s.meas.bgNext)

/-- The bits of a control window join the channel's stream and, on the module, bits 63 to 32 of the operand the
calibration path's. A transition ends a stuck condition, and a complete window a missing clock (R60, R77 to R79). -/
def State.takeBits (s : State) (n : Nat) (r : BitVec 64) : State :=
  let m := ctlOsr s n
  let b := bitsOf s n r
  let all := ((s.chan n).bits * 2 ^ m + b) % bitsKept
  let s := s.modChan n (fun c => { c with bits := all, newM := c.newM + m, newS := c.newS + m })
  let s := if onModule n && s.calPath n then
      s.modMeas (fun x => { x with calBits := (x.calBits * 2 ^ m + r.toNat / 2 ^ 32 % 2 ^ m) % bitsKept })
    else s
  let w := all % 2 ^ (m + 1)
  let moved := decide (w ≠ 0) && decide (w ≠ 2 ^ (m + 1) - 1)
  let clocked := !(s.chan n).rateBad && (s.sys.vana || !onModule n)
  let a := moved && s.on (MOD.CH.STATUS.STUCK_NOW n)
  let b := clocked && s.on (MOD.CH.STATUS.NOCLK_NOW n)
  let s := if a then s.wr (MOD.CH.STATUS.STUCK_NOW n) 0 else s
  let s := if b then s.wr (MOD.CH.STATUS.NOCLK_NOW n) 0 else s
  if a || b then s.monitorOver n else s

/-- The stream shows no transition over the 256 bit clocks up to the newest control window (R78). -/
def State.still (s : State) (n : Nat) : Bool :=
  let k := 257 - ctlOsr s n
  let w := (s.chan n).bits % 2 ^ k
  decide (w = 0) || decide (w = 2 ^ k - 1)

/-! ### Samples -/

/-- A coefficient register in effect (R74). -/
def State.coefE (s : State) (f : Field) : Dy := f32Val (BitVec.ofNat 32 (s.rdE f))

/-- v = (r − OFFSET − DRIFT) × GAIN, exact (R62). -/
def State.corrected (s : State) (n : Nat) (r : Dy) : Dy :=
  dyMul (dyAdd r (dyNeg (dyAdd (s.coefE (MOD.CH.OFFSET.VALUE n)) (f32Val (s.word (MOD.CH.DRIFT.VALUE n).addr)))))
    (s.coefE (MOD.CH.GAIN.VALUE n))

/-- A dyadic number in units of 2^-k, rounded half to even (R8). -/
def dyFix (d : Dy) (k : Nat) : Int :=
  let e := d.e + k
  if 0 ≤ e then d.m * 2 ^ e.toNat else rneDiv d.m (2 ^ (-e).toNat)

/-- A dyadic number in Q15.16, rounded and saturated (R8). -/
def dyQ (d : Dy) : Word := satWord (dyFix d 16)

/-- The overrange counters take a control sample (R78). A raw value held at ±1.25 FS is not above a threshold of
1.25 FS (log entry 22). -/
def State.overCount (s : State) (n : Nat) (r : Dy) : State :=
  let thr := s.rd (MOD.CH.MON_CFG.OVR_THR n) * 2 ^ 29
  let low := thr - s.rd (MOD.CH.MON_CFG.OVR_HYST n) * 2 ^ 29
  let a := r.m.natAbs
  s.modChan n (fun c =>
    { c with ovrUp := if thr < a then satInc 16 c.ovrUp else 0,
             ovrDn := if a < low then satInc 16 c.ovrDn else 0 })

/-- A control sample's value and mark (R62, R79): an invalid one holds the last valid value. The fixed-point value
is rounded half to even (log entry 22). -/
def State.takeControl (s : State) (n : Nat) (x : Dy) : State :=
  let s := s.overCount n x
  let ok := s.on (MOD.CH.STATUS.VALID_C n)
  let v := s.corrected n x
  let c : CSample :=
    if ok then { val := f32OfDy false v, fix := clampInt (-8 * 2 ^ 20) (8 * 2 ^ 20 - 1) (dyFix v 20),
                 q := dyQ v, ok := true, cycle := s.cycle }
    else { (s.chan n).cur with ok := false, cycle := s.cycle }
  s.modChan n (fun h => { h with prev := h.cur, cur := c })

/-- MOD.CH.CSAMPLE shows the latest valid control sample (R62). -/
def State.showControl (s : State) (n : Nat) : State := s.wr (MOD.CH.CSAMPLE.VALUE n) (s.chan n).cur.q.toNat

/-- Adds a metering sample to a running zero or DC average (R72). -/
def CalRun.take (c : CalRun) (raw : Dy) (ok : Bool) : CalRun :=
  if c.kind = .ac then c
  else if !ok then { c with fail := c.fail.or (some 1) }
  else if c.count < 65536 then { c with count := c.count + 1, sum := dyAdd c.sum raw }
  else c

/-- The background visit takes a metering sample (R77): in its first stage the channel's own raw value against the
spare's, in its second the grounded modulator's. Between visits the calibration path measures the spare's drift over
4,096 of them. -/
def State.bgTake (s : State) (n : Nat) (x : Dy) : State :=
  if !onModule n || !s.calPath n then s
  else
    let y := rawOf n 4 512 (s.meas.calBits / 2 ^ (s.chan n).newM)
    match s.meas.bg with
    | some b =>
      if 4096 ≤ b.count then s
      else
        let z := dyAdd y (dyNeg s.meas.spDrift)
        let b := if b.sub then { b with count := b.count + 1, sz := dyAdd b.sz y }
          else { b with count := b.count + 1, sxy := dyAdd b.sxy (dyMul x z), syy := dyAdd b.syy (dyMul z z),
                        sxx := dyAdd b.sxx (dyMul x x) }
        s.modMeas (fun m => { m with bg := some b })
    | none =>
      let sum := dyAdd s.meas.spSum y
      if s.meas.spCount + 1 < 4096 then s.modMeas (fun m => { m with spSum := sum, spCount := m.spCount + 1 })
      else s.modMeas (fun m => { m with spDrift := ⟨sum.m, sum.e - 12⟩, spSum := ⟨0, 0⟩, spCount := 0 })

/-- A metering or supraharmonic filter's output: its exact value and a rounding `r` in 2^-40 FS, below 2^-17 FS, for
the word length that the spec leaves open beside the 16 effective bits of R61. -/
def rounded (n : Nat) (x : Dy) (r : BitVec 24) : Dy := rawClamp n (dyAdd x ⟨r.toInt, -40⟩)

/-- METERING_SAMPLE_VALID (R60, R62): with a window's bits complete, the sinc4 filter's corrected sample joins the
resampler's history, and the raw sample a running average and a background visit. -/
def execMeteringSampleValid (t : Time) (n : Fin 40) (r : BitVec 24) (s : State) : Host.Outcome State Fault Refusal :=
  s.during t (fun s =>
    let osr := mtrOsr s n
    if !s.on (MOD.CH.CFG.ENABLE n) || decide ((s.chan n).newM < osr) then s
    else
      let late := (s.chan n).newM % osr
      let x := rounded n (s.pathRaw n 4 osr late) r
      let ok := s.on (MOD.CH.STATUS.VALID_M n)
      let m : MSample := { at' := s.now, val := s.corrected n x, raw := x, ok := ok }
      (s.modChan n (fun c =>
        { c with newM := late, meter := (m :: c.meter).take 200, cal := c.cal.map (·.take x ok) })).bgTake n x)

/-- SUPRA_SAMPLE_VALID (R60, R310): with a window's 64 bits complete; an invalid sample holds the last valid value;
every sample joins the DFT in progress. -/
def execSupraSampleValid (t : Time) (n : Fin 16) (r : BitVec 24) (s : State) : Host.Outcome State Fault Refusal :=
  s.during t (fun s =>
    if (slotOf s n).isSome && decide (64 ≤ (s.chan n).newS) then
      let late := (s.chan n).newS % 64
      let ok := s.on (MOD.CH.STATUS.VALID_S n)
      let v := if ok then s.corrected n (rounded n (s.pathRaw n 3 64 late) r) else (s.chan n).supra
      s.modChan n (fun c =>
        { c with newS := late, supra := v, supWin := (dyFix v 40 :: c.supWin).take 15625, supOk := c.supOk && ok })
    else s)

/-- OVERRANGE (R78): the filter count of control samples has expired, and the monitor sets or clears; the
channel stays valid. -/
def execOverrange (t : Time) (n : Fin 40) (s : State) : Host.Outcome State Fault Refusal :=
  s.during t (fun s =>
    let need := s.rd (MOD.CH.MON_CFG.OVR_FILT n) + 1
    let c := s.chan n
    if !s.on (MOD.CH.CFG.ENABLE n) then s
    else if !s.on (MOD.CH.STATUS.OVR_NOW n) && decide (need ≤ c.ovrUp) then
      ((((s.set (MOD.CH.STATUS.OVR_NOW n)).set (MOD.CH.STATUS.OVR n)).sat
        (MOD.CH.EVCNT.OVR_CNT n)).calFail n 2).bgMonitor n
    else if s.on (MOD.CH.STATUS.OVR_NOW n) && decide (need ≤ c.ovrDn) then
      s.wr (MOD.CH.STATUS.OVR_NOW n) 0
    else s)

/-! ### Supraharmonic slots (R65) -/

/-- The eight slots as (enabled, channel) with one register word replaced. -/
def slotsWith (s : State) (hi : Bool) (v : Word) : List (Bool × Nat) :=
  let part (w : Word) : List (Bool × Nat) :=
    (List.range 4).map (fun j => (w.toNat.testBit (8 * j + 7), w.toNat / 2 ^ (8 * j) % 64))
  part (if hi then s.word 0x4010 else v) ++ part (if hi then v else s.word 0x4014)

/-- No channel above CH15, in a disabled slot either, and no channel in two enabled slots; a disabled slot may name
any (R65; log entry 22). -/
def slotsLegal (v : Word) (l : List (Bool × Nat)) : Bool :=
  let en := (l.filter (·.1)).map (·.2)
  (List.range 4).all (fun j => decide (v.toNat / 2 ^ (8 * j) % 64 < 16)) && decide en.Nodup

/-- A write of MOD.SUPRA_SEL0 or SEL1: taken at once with the written slots invalid for 960 ns, or not
taken with CFG_ERR (R65). -/
def State.writeSupra (s : State) (hi : Bool) (v : Word) : State :=
  if !slotsLegal v (slotsWith s hi v) then s.set MOD.STATUS.CFG_ERR
  else
    let s := s.setWord (if hi then 0x4014 else 0x4010) (v &&& 0xBFBFBFBF)
    let named (n : Nat) : Bool := (List.range 4).any (fun j =>
      v.toNat.testBit (8 * j + 7) && decide (v.toNat / 2 ^ (8 * j) % 64 = n))
    s.each (List.range 16) (fun s n =>
      let held := (slotOf s n).isSome
      let s := s.wrB (MOD.CH.STATUS.SUPRA n) held
      let s := if named n then (s.wr (MOD.CH.STATUS.VALID_S n) 0).modChan n
            (fun c => { c with sinceS := s.now })
          else if held then s else s.wr (MOD.CH.STATUS.VALID_S n) 0
      s.refreshInvalid n)

/-- SUPRA_SLOT_WRITE (R65). -/
def execSupraSlotWrite (t : Time) (hi : Bool) (v : Word) (s : State) : Host.Outcome State Fault Refusal :=
  s.during t (fun s => s.writeSupra hi v)

/-! ### Background calibration and housekeeping (R77, R80) -/

/-- The channel that the pass visits next (R77): the first one from its place on that is enabled, valid to its
monitors and under no zero or span. -/
def State.bgDue (s : State) : Option Nat :=
  ((List.range 16).map (fun j => (s.meas.bgNext + j) % 16)).find? (fun n =>
    s.on (MOD.CH.CFG.ENABLE n) && !(s.chan n).lost && (s.chan n).cal.isNone)

/-- The gain ratio after a visit's first stage (R77): by least squares where the input's rms exceeds 0.05 FS, else the
last one. -/
def BgRun.ratioOf (b : BgRun) (old : Dy) : Dy :=
  let p := dyRat b.sxy
  let q := dyRat b.syy
  -- Σ x² / 4,096 against 0.05²
  if q.1 ≤ 0 || !dyLt ⟨4096, 0⟩ (dyMul ⟨400, 0⟩ b.sxx) then old
  else ⟨rneDiv (p.1 * q.2 * 2 ^ 40) (p.2 * q.1.natAbs), -40⟩

/-- BG_CAL_VISIT (R77): the spare connects in parallel with the pass's next channel; after 4,096 metering samples it
takes its place; after 4,096 more the channel returns, with the mean of its grounded modulator as DRIFT. A monitor on
the spare ends the visit. -/
def execBgCalVisit (t : Time) (n : Fin 16) (stage : BgStage) (s : State) : Host.Outcome State Fault Refusal :=
  s.during t (fun s =>
    match stage, s.meas.bg with
    | .connect, none =>
      if s.on MOD.CTRL.BG_CAL_EN && decide (s.bgDue = some n.val) then
        s.modMeas (fun m => { m with bg := some { ch := n }, bgNext := n, spSum := ⟨0, 0⟩, spCount := 0 })
      else s
    | .substitute, some b =>
      if b.ch = n.val ∧ b.sub = false ∧ 4096 ≤ b.count then
        ((((s.set (MOD.CH.STATUS.SPARE n)).wr MOD.STATUS.SPARE_CH n).modChan n
          (fun c => { c with ratio := b.ratioOf c.ratio }))).modMeas (fun m => { m with
            bg := some { ch := n, sub := true } })
      else s
    | .handBack, some b =>
      if b.ch = n.val ∧ b.sub = true ∧ 4096 ≤ b.count then
        ((s.wr (MOD.CH.DRIFT.VALUE n) (f32OfDy false ⟨b.sz.m, b.sz.e - 12⟩).toNat).bgAbandon).start (.bgChan n)
      else s
    | .spareMonitor, some _ => s.bgAbandon
    | _, _ => s)

/-- The next enabled input after `k` (R80). -/
def hkNext (en k : Nat) : Nat :=
  ((List.range 8).map (fun j => (k + 1 + j) % 8)).find? (fun j => en.testBit j) |>.getD k

/-- Conversion period of the housekeeping filter (R80): 31,250 or 26,042 bits of MCLK / 128. -/
def State.hkPeriod (s : State) : Nat := (if s.on MOD.HK_CTL.NOTCH then 26042 else 31250) * (128 * mclk)

/-- HK_OUTPUT (R80): a conversion period ends. The output is the falling half of the sinc2 window after the rising
half of the period before. The first output after a switch is discarded; the sum of 2^(AVG+1) is shifted right by AVG + 1. An input
no longer enabled gives way to the next. -/
def execHkOutput (t : Time) (ramps : HkRamps) (s : State) : Host.Outcome State Fault Refusal :=
  s.during t (fun s =>
    let h := s.meas.hk
    let en := s.rd MOD.HK_CTL.EN
    let put (s : State) (h : Hk) : State := s.modMeas (fun m => { m with hk := h })
    if s.now < h.at' + s.hkPeriod then s
    else
      let out := h.up + ramps.dn.toInt
      let h := { h with at' := s.now, up := ramps.up.toInt }
      if !en.testBit h.input then
        put s (if en = 0 then h else { h with input := hkNext en h.input, fresh := true, count := 0, sum := 0 })
      else if h.fresh then put s { h with fresh := false, count := 0, sum := 0, shift := s.rd MOD.HK_CTL.AVG + 1 }
      else
        let h := { h with count := h.count + 1, sum := h.sum + out }
        if h.count < 2 ^ h.shift then put s h
        else
          put (s.setWord (MOD.HK_VAL.VALUE h.input).addr (satWord (h.sum / (2 ^ h.shift : Nat))))
            { h with input := hkNext en h.input, fresh := true, count := 0, sum := 0 })

end Sys2Proof.Machine
end

