-- ==== Sys2Proof/Machine/Sync.lean ====
section
/-!
DEFINITION. The grid synchronizer's shared operations (spec/04_grid_synchronizer.md): windows, the angle
accumulator, sequence separation, the loop, frequency estimates and extrapolation.
-/
namespace Sys2Proof.Machine
open Reg

/-- Changes the synchronizer's record. -/
def State.modSync (s : State) (f : Sync → Sync) : State := { s with sync := f s.sync }

/-- State codes of SYN.STATUS.STATE (R87). -/
abbrev syOFF : Nat := 0
abbrev syACQUIRE : Nat := 1
abbrev syLOCKED : Nat := 2
abbrev syHOLD : Nat := 3
abbrev syBORROW : Nat := 4
abbrev syLOST : Nat := 5

/-- One hertz in 2^-32 µHz. -/
abbrev hz32 : Int := 1000000 * 2 ^ 32

/-- A frequency of the loop in µHz (R8). -/
def uHz (f : Int) : Nat := (rneDiv f (2 ^ 32)).toNat

/-- Degrees in 2^-64 turns. -/
def deg (num den : Nat) : Nat := num * 2 ^ 64 / (360 * den)

/-! ### Windows (R82) -/

/-- Index of the 10.24 µs window an instant of TAI lies in: the windows are aligned to every TAI second
that is a multiple of 4. -/
def winIndex (tai : Nat) : Nat := tai / 10240

/-- A control sample joins its channel's window. -/
def State.windowTake (s : State) (n : Nat) : State :=
  let w := winIndex s.tai
  s.modChan n (fun c =>
    let (cw, pw) := if c.win.idx = w then (c.win, c.winPrev)
      else (({ idx := w } : SyncWin), c.win)
    { c with
      win := { cw with sum := cw.sum + c.cur.fix, n := cw.n + 1, sumT := cw.sumT + s.tai,
                       ok := cw.ok && c.cur.ok }
      winPrev := pw })

/-- A channel's closed window of an index. -/
def State.closedWin (s : State) (n w : Nat) : SyncWin :=
  let c := s.chan n
  if c.win.idx = w then c.win else if c.winPrev.idx = w then c.winPrev else { ok := false }

/-- The mean of a window in pu and its mark. -/
def SyncWin.mean (w : SyncWin) : Dy × Bool :=
  if w.n = 0 then (⟨0, 0⟩, false) else (⟨rneDiv (w.sum * 2 ^ 40) w.n, -60⟩, w.ok)

/-- Representative time of a local window: mean valid time less the group delay and the 5 ns of R60. -/
def State.winTime (s : State) (n : Nat) (w : SyncWin) : Nat :=
  if w.n = 0 then s.tai
  else w.sumT / w.n - 5 - s.rd (MOD.CH.GD_CTL.DELAY n) * 5 / 128

/-! ### The accumulator (R95, R99) -/

/-- The 48-bit angle of a tracker at an SCLK cycle. -/
def Tracker.angle (k : Tracker) (c : Nat) : Nat :=
  ((k.acc : Int) + k.inc * ((c : Int) - k.accAt)).emod (2 ^ 48) |>.toNat

/-- The 48-bit angle a tracker had some ns before an SCLK cycle, on its present increment (R82). -/
def Tracker.angleBack (k : Tracker) (c ns : Nat) : Nat :=
  ((k.acc : Int) + k.inc * ((c : Int) - k.accAt) - rneDiv (k.inc * (2 * ns : Nat)) 5).emod (2 ^ 48) |>.toNat

/-- The live angle SYN.THETA (R99): the upper 32 bits. -/
def State.theta (s : State) : Nat := s.sync.loc.angle s.cycle / 2 ^ 16

/-- Increment per SCLK cycle of a frequency in 2^-32 µHz: f × 2^48 × 2.5 ns (R99). -/
def incOf (f : Int) : Int := rneDiv (f * 2 ^ 16 * 25) (10 ^ 16)

/-- Instants, in ns, at which the accumulator passes through zero between two cycles (R95): at most the
number of whole turns advanced. -/
def Tracker.zeros (k : Tracker) (c : Nat) : List Nat :=
  let adv := (k.acc : Int) + k.inc * ((c : Int) - k.accAt)
  if c ≤ k.accAt ∨ k.inc ≤ 0 then []
  else (List.range (adv / 2 ^ 48).toNat).map (fun j =>
    (rneDiv ((((j + 1) * 2 ^ 48 - k.acc : Nat) : Int) * 5 + (k.accAt * 5 : Nat) * k.inc)
      (2 * k.inc.toNat)).toNat)

/-- The tracker with its accumulator brought to a cycle. -/
def Tracker.upTo (k : Tracker) (c : Nat) : Tracker :=
  if c ≤ k.accAt then k else { k with acc := k.angle c, accAt := c }

/-- The local angle brought to a cycle, its passages through zero kept for the wraps. -/
def State.advanceTheta (s : State) (c : Nat) : State :=
  s.modSync (fun y => { y with wraps := y.wraps ++ y.loc.zeros c, loc := y.loc.upTo c })

/-- The local angle stepped by a signed angle in 2^-64 turns (R92, R94). -/
def State.stepTheta (s : State) (d : Int) : State :=
  s.modSync (fun y => { y with
    loc := { y.loc with acc := ((y.loc.acc : Int) + rneDiv d (2 ^ 16)).emod (2 ^ 48) |>.toNat } })

/-- SYN.THETA and SYN.F_AR follow the tracker (R99). -/
def State.showAngle (s : State) : State :=
  let off := decide (s.rd SYN.STATUS.STATE = syOFF)
  let s := (s.wr SYN.THETA.VALUE s.theta).wr SYN.F_AR.VALUE (if off then 0 else uHz s.sync.loc.f)
  s.wr SYN.F_SEL.VALUE (if off then 0
    else if s.on SYN.STATUS.FSEL then s.rd SYN.F_AR.VALUE else s.rd SYN.F_PC.VALUE)

/-! ### Sequence separation and loop (R83, R84) -/

/-- v+ and v− as exact (α, β) pairs, doubled (R83). -/
def Tracker.pos2 (k : Tracker) : Dy × Dy := (dyAdd k.al (dyNeg k.qbe), dyAdd k.qal k.be)
def Tracker.neg2 (k : Tracker) : Dy × Dy := (dyAdd k.al k.qbe, dyAdd (dyNeg k.qal) k.be)

/-- Square of the magnitude of half a doubled vector. -/
def magSq (v : Dy × Dy) : Dy :=
  dyMul ⟨1, -2⟩ (dyAdd (dyMul v.1 v.1) (dyMul v.2 v.2))

/-- |V+|² and |V−|². -/
def Tracker.posSq (k : Tracker) : Dy := magSq k.pos2
def Tracker.negSq (k : Tracker) : Dy := magSq k.neg2

/-- Angle of a vector in 2^-64 turns. -/
def dyAngle (v : Dy × Dy) : Int := let (x, y, _) := dyAlign v.1 v.2; atan2T y x

/-- A difference of angles in 2^-64 turns, brought into one half turn either way. -/
def wrapTurn (x : Int) : Int := (BitVec.ofInt 64 x).toInt

/-- The square root of a dyadic number in units of 2^-k, rounded. -/
def dySqrtFix (d : Dy) (k : Nat) : Int :=
  if d.m ≤ 0 then 0
  else
    let e := d.e + 2 * k + 2
    let n := if 0 ≤ e then d.m.toNat * 2 ^ e.toNat else d.m.toNat / 2 ^ (-e).toNat
    let q := isqrt n
    rneDiv (2 * q + (if 0 ≤ e ∧ q * q = n then 0 else 1) : Nat) 4

/-- The square root of a dyadic number as binary32. -/
def dySqrtF32 (d : Dy) : F32 :=
  if d.m ≤ 0 then 0
  else if d.e % 2 = 0 then f32OfSqrt false d.m.toNat 1 (d.e / 2)
  else f32OfSqrt false (2 * d.m.toNat) 1 ((d.e - 1) / 2)

/-- A magnitude, given as a square, reaches `n / d` pu. -/
def atLeast (sq : Dy) (n d : Nat) : Bool :=
  !dyLt (dyMul sq ⟨d * d, 0⟩) ⟨n * n, 0⟩

/-- Natural frequency in Hz by step (R85). -/
def stepHz : Nat → Nat
  | 0 => 2 | 1 => 5 | 2 => 10 | 3 => 15 | 4 => 20 | 5 => 30 | 6 => 40 | _ => 60

/-- K_p × e as a frequency in 2^-32 µHz: 2 × 0.707 × 2π f_n × e turns. -/
def loopP (step : Nat) (e : Int) : Int :=
  rneDiv (e * (1414 * 1000 * stepHz step * twoPi256 : Nat)) (2 ^ 288)

/-- K_i × e × 10.24 µs as a frequency in 2^-32 µHz: (2π f_n)² × e turns × 10.24 µHz. -/
def loopI (step : Nat) (e : Int) : Int :=
  rneDiv (e * (1024 * stepHz step * stepHz step * twoPi256 * twoPi256 : Nat)) (100 * 2 ^ 544)

/-- k = √2 of the quadrature filters, with 64 fractional bits (R83). -/
def sogiK : Nat := isqrt (2 * 4 ^ 64)

/-- ω × T / 2 of a frequency in 2^-32 µHz over one sync sample of 10.24 µs, with 64 fractional bits. -/
def sogiW (f : Int) : Int := rneDiv (f * (twoPi256 * 1024 : Nat)) (2 * 10 ^ 14 * 2 ^ 224)

/-- One sync sample of a quadrature filter pair (R83), in 2^-60 pu: x′ has transfer kωs/(s² + kωs + ω²) and qx has
kω²/(s² + kωs + ω²), that is dx′/dt = ω (k (u − x′) − qx) and dqx/dt = ω x′, taken by the trapezoidal rule, each
with the discretization's own error within 2^-16 of what goes in. -/
def sogi (x q u0 u f : Int) : Int × Int :=
  let one : Int := 2 ^ 64
  let a := sogiW f
  let ak := rneDiv (a * sogiK) (2 ^ 64)
  let a2 := rneDiv (a * a) (2 ^ 64)
  let y := rneDiv (x * (one - ak - a2) + ak * (u + u0) - 2 * a * q) (one + ak + a2).natAbs
  let r := q + rneDiv (a * (x + y)) (2 ^ 64)
  let lim : Int := ((x.natAbs + q.natAbs + u0.natAbs + u.natAbs) / 2 ^ 16 : Nat)
  let e := Config.sogiErr x q u0 u f
  (y + clampInt (-lim) lim e.1, r + clampInt (-lim) lim e.2)

/-- The quadrature filters take one sample (R83). -/
def Tracker.filter (k : Tracker) (al be : Dy) : Tracker :=
  let one (x q u0 u : Dy) : Dy × Dy :=
    let y := sogi (dyFix x 60) (dyFix q 60) (dyFix u0 60) (dyFix u 60) k.f
    (⟨y.1, -60⟩, ⟨y.2, -60⟩)
  let a := one k.al k.qal k.alIn al
  let b := one k.be k.qbe k.beIn be
  { k with al := a.1, qal := a.2, be := b.1, qbe := b.2, alIn := al, beIn := be }

/-- The phase error of a sample whose representative time lies `ns` before a cycle (R82, R84). -/
def Tracker.phaseErr (k : Tracker) (c ns : Nat) : Int :=
  wrapTurn (dyAngle k.pos2 - (k.angleBack c ns : Int) * 2 ^ 16)

/-- A doubled vector turned back by a 48-bit angle, and halved (R6, R84). -/
def turnBack (v : Dy × Dy) (a : Nat) : Dy × Dy :=
  let c : Dy := ⟨cosU32 (a / 2 ^ 16), -65⟩
  let q : Dy := ⟨sinU32 (a / 2 ^ 16), -65⟩
  (dyAdd (dyMul v.1 c) (dyMul v.2 q), dyAdd (dyNeg (dyMul v.1 q)) (dyMul v.2 c))

/-- The clamps of f_ar, 40 and 72 Hz. -/
abbrev fLow : Int := 40 * hz32
abbrev fHigh : Int := 72 * hz32

/-- The loop takes an error at a cycle (R84): with e = 0 it holds its frequency; else the integrator moves by K_i × e ×
10.24 µs, give or take half of it for the discretization, within its clamps, and the accumulator's advance into the
next cycle is the first with the new increment. -/
def Tracker.loop (k : Tracker) (step : Nat) (e : Int) (c : Nat) : Tracker :=
  let k := k.upTo c
  if e = 0 then { k with inc := incOf k.f }
  else
    let di := loopI step e
    let lim : Int := (di.natAbs / 2 : Nat)
    let f := clampInt fLow fHigh (k.f + di + clampInt (-lim) lim (Config.loopErr k.f e step))
    { k with f := f, inc := incOf (f + loopP step e) }

/-- The arc over which |e| stayed below 2° grows by one sample's advance (R87). -/
def Tracker.lockTake (k : Tracker) (ok : Bool) : Tracker :=
  if ok && decide (k.e.natAbs < deg 2 1) then
    { k with lockArc := min (2 ^ 65) (k.lockArc + (k.f * 1024 / 10 ^ 14).toNat) }
  else { k with lockArc := 0 }

/-- |e| < 2° over one whole grid cycle and f_ar within 40.5 to 71.5 Hz (R87). The arc is in 2^-32 turns of
f_ar in 2^-32 Hz. -/
def Tracker.lockDone (k : Tracker) : Bool :=
  decide (2 ^ 32 ≤ k.lockArc) && decide (81 * hz32 ≤ 2 * k.f) && decide (2 * k.f ≤ 143 * hz32)

/-! ### f_sel (R97) -/

/-- f_sel changes to f_ar. -/
def State.selFast (s : State) : State :=
  s.set SYN.STATUS.FSEL |>.modSync (fun y => { y with clean := false, cleanRun := 0 })

/-- r_fast numerator: f_ar now less f_ar 512 samples ago, where both exist. -/
def Sync.rate (y : Sync) : Option Int :=
  match y.fs.head?, y.fs[512]? with
  | some a, some b => some (a - b)
  | _, _ => none

/-- |r_fast| in 2^-32 µHz over 5.24288 ms exceeds a threshold in 0.01 Hz/s. -/
def rateAbove (d : Int) (thr : Nat) : Bool := decide (thr * 524288 * 2 ^ 32 < d.natAbs * 10000)

/-! ### Jumps (R92 to R94) -/

/-- A reported step of θ: its angle in 2^-64 turns, its source, the representative time (R92, R94). -/
def State.reportJump (s : State) (src : Nat) (d : Int) (t : Nat) : State :=
  let s := (s.wrI SYN.JUMP.ANGLE (rneDiv d (2 ^ 32))).wr64 SYN.JUMP_TIME.TAI_NS t
  let s := ((s.wr SYN.STATUS.JUMP_SRC src).set SYN.STATUS.JUMP).sat SYN.COUNT.JUMPS
  (s.modSync (fun y => { y with lastJump := some s.now })).selFast

/-- The negative-sequence vector last separated, extrapolated at −ω over `m` sync samples and removed from the
measured vector; the angle of the rest against a 48-bit θ (R93). -/
def jumpErr (neg : Dy × Dy) (f : Int) (m : Nat) (al be : Dy) (theta : Nat) : Int :=
  let arc := rneDiv (f * (m * 1024 : Nat) * 2 ^ 16) (10 ^ 14)          -- turns in 2^-48
  let n := turnBack neg (arc.emod (2 ^ 48)).toNat
  wrapTurn (dyAngle (dyAdd al (dyNeg n.1), dyAdd be (dyNeg n.2)) - (theta : Int) * 2 ^ 16)

/-! ### Extrapolation (R100) -/

/-- θ at a TAI instant from the last slate; none beyond 25 ms. -/
def State.thetaAt (s : State) (t : Nat) : Option (Nat × Bool) :=
  let ts := s.rd64 SEQ.SLATE_TIME.TAI_NS
  let d : Int := (t : Int) - ts
  if 25000000 < d.natAbs then none
  else
    let adv := rneDiv ((s.sync.slateF : Int) * d * 2 ^ 32) (10 ^ 15)
    some ((((s.rd SEQ.SLATE_ANGLE.THETA : Nat) : Int) + adv).emod (2 ^ 32) |>.toNat, s.sync.slateOk)

/-- EXTRAPOLATION_QUERY (R100): the answer to a consumer's query, with its valid mark. -/
def execExtrapolationQuery (t : Time) (tq : BitVec 64) (s : State) : Host.Outcome State Fault Refusal :=
  s.during t (fun s =>
    s.modSync (fun y => { y with answer := some (match s.thetaAt tq.toNat with
    | some (a, ok) => (BitVec.ofNat 32 a, ok)
    | none => (0, false)) }))

/-! ### Slate words (R101) -/

/-- Binary32 of an angle in 2^-64 turns. -/
def f32Turns (x : Int) : F32 := f32OfDy false ⟨x, -64⟩

/-- The 23 words 0x00A9 to 0x00BF as they stand. -/
def State.syncWords (s : State) : List F32 :=
  let k := s.sync.loc
  let off := decide (s.rd SYN.STATUS.STATE = syOFF)
  let th := s.theta
  let hz (f : Nat) : F32 := f32OfRat false f 1000000
  [ dySqrtF32 k.posSq, dySqrtF32 k.negSq, f32OfDy false s.sync.vz,
    f32Turns s.sync.negTurn, f32OfDy false s.sync.vd, f32OfDy false s.sync.vq,
    f32OfDy false ⟨cosU32 th, -64⟩, f32OfDy false ⟨sinU32 th, -64⟩,
    (if off then 0 else f32OfRat false k.f (1000000 * 2 ^ 32)),
    hz (s.rd SYN.F_PC.VALUE), hz (s.rd SYN.F_SEL.VALUE), f32OfQ (s.word SYN.ROCOF.VALUE.addr),
    f32OfInt (s.rd SYN.STATUS.STATE), f32OfInt (s.rd SYN.STATUS.ANGLE_VALID),
    f32OfInt (s.rd SYN.STATUS.FSEL), f32OfRat false (s.rd SYN.HOLD_LEFT.MS) 1000,
    f32Turns (s.rdI SYN.JUMP.ANGLE * 2 ^ 32),
    (match s.sync.lastJump with
      | none => f32OfInt (34 * 10 ^ 37)
      | some t => f32OfRat false ((s.now - t : Nat) : Int) sec),
    dySqrtF32 s.sync.rem.posSq,
    f32Turns (angleDiff (s.rd SYN.BORROW_MEAS.DIFF) (s.rd SYN.BORROW_OFS.OFFSET) * 2 ^ 32),
    0, 0, 0 ]

/-- The words a tick latches: a sample processed in the tick's own cycle counts for the next (R101). -/
def State.slateSync (s : State) : List F32 :=
  if s.sync.cycle = s.cycle ∧ s.sync.before ≠ [] then s.sync.before else s.syncWords

/-- Before the first sample processed in a cycle, the words of the slate are kept. -/
def State.keepWords (s : State) : State :=
  if s.sync.cycle = s.cycle ∧ s.sync.before ≠ [] then s
  else
    let w := s.syncWords
    let h := (uHz s.sync.loc.f, s.on SYN.STATUS.ANGLE_VALID, s.theta)
    s.modSync (fun y => { y with before := w, head := h, cycle := s.cycle })

/-- f_s, ANGLE_VALID and θ_s as a tick latches them, by the same rule (R38, R100, R101). -/
def State.slateAngle (s : State) : Nat × Bool × Nat :=
  if s.sync.cycle = s.cycle ∧ s.sync.before ≠ [] then s.sync.head
  else (uHz s.sync.loc.f, s.on SYN.STATUS.ANGLE_VALID, s.theta)

/-! ### Events of the loop -/

/-- Angle validity follows the state (R87). -/
def State.syncTo (s : State) (code : Nat) : State :=
  (s.wr SYN.STATUS.STATE code).wrB SYN.STATUS.ANGLE_VALID
    (decide (code = syLOCKED) || decide (code = syHOLD) || decide (code = syBORROW))

/-- SYNC_LOCK (R87): |e| stayed below 2° over a whole grid cycle in ACQUIRE. -/
def execSyncLock (t : Time) (s : State) : Host.Outcome State Fault Refusal :=
  s.during t (fun s =>
    if s.rd SYN.STATUS.STATE = syACQUIRE ∧ s.sync.loc.lockDone ∧ s.on SYN.CTRL.ENABLE then
      (s.syncTo syLOCKED).modSync (fun y =>
        { y with lowRun := 0, clampRun := 0, jumpN := 0, clean := false, cleanRun := 0 })
    else s)

/-- BORROW_MISMATCH (R91): the offset error has stayed beyond, or within, the tolerance for one second. -/
def execBorrowMismatch (t : Time) (s : State) : Host.Outcome State Fault Refusal :=
  s.during t (fun s =>
    let long (o : Option Time) : Bool := match o with | some t0 => decide (t0 + sec ≤ s.now) | none => false
    if long s.sync.beyond then s.set SYN.STATUS.BORROW_MISMATCH
    else if long s.sync.within then s.wr SYN.STATUS.BORROW_MISMATCH 0 else s)

/-- REALIGN_CLEAR (R94): |e| stayed below 1° for 16 sync samples. -/
def execRealignClear (t : Time) (s : State) : Host.Outcome State Fault Refusal :=
  s.during t (fun s =>
    if s.on SYN.STATUS.REALIGN && decide (16 ≤ s.sync.realignRun) then
      (s.wr SYN.STATUS.REALIGN 0).stop .realign
    else s)

/-- REALIGN_FAIL (R94): REALIGN still set 1 ms after detection. -/
def execRealignFail (t : Time) (s : State) : Host.Outcome State Fault Refusal :=
  s.during t (fun s =>
    if s.on SYN.STATUS.REALIGN && s.due .realign ms then
      ((s.stop .realign).set SYN.STATUS.REALIGN_FAIL).detect 0x18 noDetail rcReport
    else s)

/-- FSEL_RATE_CHANGE (R97): |r_fast| above THR for 4 consecutive sync samples. -/
def execFselRateChange (t : Time) (s : State) : Host.Outcome State Fault Refusal :=
  s.during t (fun s => if 4 ≤ s.sync.rateRun ∧ s.rd SYN.STATUS.STATE ≠ syOFF then s.selFast.showAngle else s)

end Sys2Proof.Machine
end

