-- ==== Sys2Proof/Machine/Probe.lean ====
section
/-!
DEFINITION. The islanding probe as the band law injects it (spec/11_islanding.md R241, R242).
-/
namespace Sys2Proof.Machine
open Reg

/-- Changes the islanding evaluator's record. -/
def State.modIsd (s : State) (f : Isd → Isd) : State := { s with isd := f s.isd }

/-- The conditions under which the probe runs (R241). -/
def State.probeMay (s : State) : Bool :=
  s.on ISD.PROBE.EN && decide (s.code = stRUN) && !s.band.fault && !s.on BND.STATUS.POSTURE
    && s.on PTP.STATUS.TRACEABLE

/-- The probe stops, and the chip is unclean, at any departure from its conditions (R241, R243). -/
def State.probeCheck (s : State) : State :=
  if s.on ISD.STATUS.PROBING && !s.probeMay then
    (s.wr ISD.STATUS.PROBING 0).modIsd (fun i => { i with clean := false })
  else s

/-- θ_p now, in 2^-64 turns: it advances at RATIO / 64 × f_ar (R241). -/
def State.probePhase (s : State) : Nat :=
  (s.isd.ph + s.sync.loc.f.toNat * s.rd ISD.PROBE.RATIO * (s.now - s.isd.phAt) * 2 ^ 32
    / (64 * 1000000 * sec)) % 2 ^ 64

/-- The probe accumulator brought to now. -/
def State.probeAdvance (s : State) : State :=
  let p := s.probePhase
  s.modIsd (fun i => { i with ph := p, phAt := s.now })

/-- The probe current (α, β) in units of 2^-144 pu and its magnitude in 2^-80 pu (R241). -/
def State.probeTerm (s : State) : Int × Int × Nat :=
  if s.on ISD.STATUS.PROBING && s.probeMay then
    let a : Nat := s.isd.level * 2 ^ 80 / 10000
    let th := s.probePhase / 2 ^ 32
    let x : Int := if s.isd.minus then -a else a
    (x * cosU32 th, x * sinU32 th, a)
  else (0, 0, 0)

end Sys2Proof.Machine
end

