-- ==== Sys2Proof/Machine/Band.lean ====
section
/-!
DEFINITION. The band law (spec/05_band_law.md): references, error and bias, prediction, scheduling and
withdrawal, postures, adaptation.
-/
namespace Sys2Proof.Machine
open Reg

/-! ### References (R105 to R108, R121) -/

/-- Sample period of a decimator channel's control path in fine edge steps, as a fraction (R60). -/
def State.tsOf (s : State) (ch : Nat) : Nat × Nat := (ctlOsr s ch * bitNum ch, bitDiv s ch)

/-- A committed output port, Q15.16 (R47). -/
def State.port (s : State) (a : Nat) : Int := (mapGet (fun _ => (0 : Word)) s.seq.ports a).toInt

/-- Per-sample step of a ramp in 2^-80 pu: rate (2^-16 pu/s) × T_s (R106). -/
def rampStep (rate : Nat) (ts : Nat × Nat) : Int :=
  rneDiv ((rate * 2 ^ 64 * ts.1 : Nat) : Int) (ts.2 * sec)

/-- A ramp moves one sample toward its target and stops on it (R106). -/
def Ramp.move (r : Ramp) (tgt : Int) (step : Int) : Ramp :=
  { r with val := if r.val < tgt then min tgt (r.val + step) else max tgt (r.val - step) }

/-- The ramps a band channel advances: grid channels 0, 1 and 2 hold I1, I2 and ZS (R105). -/
def rampsOf (l : Nat) : List Nat :=
  if l = 0 then [0, 1] else if l = 1 then [2, 3] else if l = 2 then [4] else if l ≤ 10 then [l + 2] else []

/-- One control sample's ramp movement; a soft ramp goes toward 0 at BND.SOFT.RATE (R106, R124), and in a
forced stop of a feed the lower magnitude of it and the script's ramp wins (R200). -/
def State.rampLeg (s : State) (l ch : Nat) : State :=
  let ts := s.tsOf ch
  let soft := (s.leg l).soft
  let both := decide (3 ≤ l) && decide (s.sys.stopCause ≠ .none) && decide (s.sys.stopCause ≠ .request)
  let move (r : Ramp) : Ramp :=
    let own := r.move r.tgt (rampStep r.rate ts)
    let off := r.move 0 (rampStep (s.rd BND.SOFT.RATE * 65536) ts)
    if soft then (if both && decide (own.val.natAbs < off.val.natAbs) then own else off) else own
  { s with band := { s.band with
      ramps := (rampsOf l).foldl (fun rs i => rs.upd i move) s.band.ramps } }

/-- A ramp's value. -/
def State.rampVal (s : State) (i : Nat) : Int := (s.band.ramps.get i {}).val

/-- θ_r − θ after its slew toward 0 at ANG_SLEW (R121). -/
def State.slewNow (s : State) : Int :=
  let room := (s.rd BND.GRID_CFG.ANG_SLEW * 2 ^ 64 * (s.now - s.band.deltaT) / (360 * ms) : Nat)
  let d := wrapTurn s.band.delta
  if d.natAbs ≤ room then 0 else if 0 < d then d - room else d + room

/-- θ_r in U32 turns. -/
def State.thetaR (s : State) : Nat :=
  ((s.theta : Int) + rneDiv s.slewNow (2 ^ 32)).emod (2 ^ 32) |>.toNat

/-- The reference angle follows θ, or its slew (R121). -/
def State.slewTheta (s : State) : State :=
  let d := s.slewNow
  { s with band := { s.band with delta := d, deltaT := s.now } }.wr BND.THETA_R.ANGLE s.thetaR

/-- θ steps and θ_r does not: the difference is slewed away (R121). -/
def State.stepAngle (s : State) (d : Int) : State :=
  let s := s.slewTheta
  let s := s.stepTheta d
  let s := { s with band := { s.band with delta := wrapTurn (s.band.delta - d), deltaT := s.now } }
  if s.band.delta = 0 then s else s.set BND.STATUS.ANG_SLEWING

/-- THETA_R_SLEW_DONE (R121): θ_r equals θ. -/
def execThetaRSlewDone (t : Time) (s : State) : Host.Outcome State Fault Refusal :=
  s.during t (fun s =>
    let s := s.slewTheta
    if s.band.delta = 0 then s.wr BND.STATUS.ANG_SLEWING 0 else s)

/-- ILIM_eff of the grid in 1/65,536,000 pu: the least of the port, the profile and the governor
(R108). -/
def State.gridLimit (s : State) : Int :=
  min (s.port 0x022 * 1000)
    (min (s.rd BND.ILIM.PROF * 65536 : Nat) (s.rd BND.ILIM.GOV * 65536 : Nat))

/-- The sequence references in force: the ride-through detector's, or the ramped ports (R107); in a soft ramp
the ramps, which go toward 0 (R124). -/
def State.seqRefs (s : State) : Int × Int × Int × Int :=
  let own := (s.rampVal 0, s.rampVal 1, s.rampVal 2, s.rampVal 3)
  if (s.leg 0).soft then own else s.band.frt.getD own

/-- √3/2 with 64 fractional bits. -/
def halfRoot3 : Int := isqrt (3 * 4 ^ 63)

/-- A grid phase reference in 2^-20 pu, and whether R108 limited it. -/
def State.gridRef (s : State) (l : Nat) : Int × Bool :=
  let (d1, q1, d2, q2) := s.seqRefs
  let z := s.rampVal 4
  let th := s.thetaR
  let c := cosU32 th; let n := sinU32 th
  -- IPARK of (I1D, −I1Q) at θ_r plus IPARK of (I2D, −I2Q) at −θ_r, units 2^-144
  -- with the probe current of R241, a positive-sequence term
  let (pa, pb, pm) := s.probeTerm
  let al := d1 * c + q1 * n + (d2 * c - q2 * n) + pa
  let be := d1 * n - q1 * c - (d2 * n + q2 * c) + pb
  let lim := s.gridLimit
  let mag : Int := (isqrt (d1 * d1 + q1 * q1).toNat + isqrt (d2 * d2 + q2 * q2).toNat + pm : Nat)
  if lim ≤ 0 then (0, true)
  else
    let outside := decide (lim * 2 ^ 80 < mag * 65536000)
    let (num, den) : Int × Nat := if outside then (lim * 2 ^ 80, (mag * 65536000).toNat) else (1, 1)
    -- phase combination, units 2^-208
    let x := if l = 0 then al * 2 ^ 64 else if l = 1 then be * halfRoot3 - al * 2 ^ 63
      else - be * halfRoot3 - al * 2 ^ 63
    (rneDiv (x * num + z * 2 ^ 128 * den) (den * 2 ^ 188), outside)

/-- The feed block's own clamp of a reference in 1/1,000 pu, low and high (R195, R211): never below 0, but
to −ICHG with both directions in fixed-voltage mode, and to IDIS in that mode. -/
def State.feedClamp (s : State) (l : Nat) (x : Int) : Int :=
  let k := l - 3
  let x := if s.rd (FED.CFG.MODE k) = 2 then
      min x (rneDiv ((s.rdE (FED.FIX_LIM.IDIS k) * 2 ^ 20 : Nat) : Int) 1000) else x
  if s.rd (FED.CFG.MODE k) = 2 && s.on (FED.CFG.BIDIR k) then
    max x (-(rneDiv ((s.rdE (FED.FIX_LIM.ICHG k) * 2 ^ 20 : Nat) : Int) 1000))
  else max x 0

/-- f of R228 in 2^-32: from V_DC in FAULT posture, and rising from its last value at REC_RATE after the
return decision. -/
def State.feedScale (s : State) : Int :=
  if s.band.fault then
    let v := (s.trip.vUp + s.trip.vLo) * 1000
    let z : Int := (s.rd FRT.FEED.V_ZERO * 2 ^ 20 : Nat)
    let t : Int := (s.rd FRT.FEED.V_THR * 2 ^ 20 : Nat)
    if z ≤ t then s.frt.f else clampInt 0 (2 ^ 32) (rneDiv ((z - v) * 2 ^ 32) (z - t).toNat)
  else
    let rise : Int := (s.rd FRT.REC.REC_RATE * 2 ^ 32 * (s.now - s.frt.fAt) / (100 * sec) : Nat)
    min (2 ^ 32) (s.frt.f + rise)

/-- FRT.FEED_SCALE and FEED_RED follow f at a decision of a feed (R228). -/
def State.showScale (s : State) : State :=
  let f := s.feedScale
  let s := if s.band.fault then { s with frt := { s.frt with f := f, fAt := s.now } } else s
  (s.setWord FRT.FEED_SCALE.VALUE.addr (satWord (rneDiv f 65536))).wrB FRT.STATUS.FEED_RED
    (decide (f < 2 ^ 32))

/-- A feed reference in 2^-20 pu clamped to its limits, and whether R108 limited it. -/
def State.feedRef (s : State) (l : Nat) : Int × Bool :=
  let p := s.port (0x010 * l + 2)
  let lim := min (p * 1000) (s.rd BND.FEED_ILIM.PROF * 65536 : Nat)     -- 1/65,536,000 pu
  let v := s.rampVal (l + 2)
  if p ≤ 0 then (0, true)
  else
    let hi := rneDiv (lim * 2 ^ 20) 65536000
    let x := rneDiv v (2 ^ 60)
    (rneDiv (s.feedClamp l (clampInt (-hi) hi x) * s.feedScale) (2 ^ 32),
     decide (lim * 2 ^ 80 < v.natAbs * 65536000))

/-- 24-bit saturation in 2^-20 pu (R62). -/
def sat24 (x : Int) : Int := clampInt (-8 * 2 ^ 20) (8 * 2 ^ 20 - 1) x

/-! ### Shape (R109, R112, R119, R120) -/

/-- The leg that holds the h of a leg: the grid legs share that of leg 0 (R103). -/
def hLeg (l : Nat) : Nat := if l ≤ 2 then 0 else l

/-- h and k of a leg in 2^-48 pu (R109, R119, R120). -/
def State.shape (s : State) (l : Nat) : Nat × Nat :=
  let hF : Nat := s.rd BND.FAULT_CFG.H_FAULT * 2 ^ 32
  let h : Nat := (s.leg (hLeg l)).h
  let kr := s.rd (BND.CH.CFG.KRATIO (hLeg l))
  match (s.leg l).ret with
  | .ramp start dur =>
    let el := min dur (s.now - start)
    let d := Nat.max 1 dur
    ((hF + rneDiv (((h : Int) - hF) * el) d).toNat, (rneDiv ((kr * h * el : Nat) : Int) (16 * d)).toNat)
  | .waiting => (hF, 0)
  | .off => if (s.leg l).flat then (hF, 0) else (h, (rneDiv ((kr * h : Nat) : Int) 16).toNat)

/-- Effective dwell in fine edge steps (R112). -/
def State.dwell (s : State) (l : Nat) : Nat :=
  let c := legChannel l
  let d := if (s.leg l).flat && decide (l ≤ 10) then s.rd (BND.CH.DWELL.FAULT_DWELL c)
    else s.rd (BND.CH.DWELL.MIN_DWELL c)
  sclk * max d (s.rd (PWM.CU.DT.DT_MAX (s.legCarrier l).1) + 16)

/-! ### Prediction (R113) -/

/-- What a decision predicts from: sample time and period, error and its change in 2^-20 pu (or any unit
with thresholds in the same one), k, carrier unit and lag. -/
structure Predict where
  tn : Time
  ts : Nat × Nat
  e  : Int
  de : Int
  k  : Nat
  cu : Nat
  lag : Nat
  deriving DecidableEq, Repr

/-- Scale of `Predict.at'`: b in 2^-48 pu times this. -/
def Predict.scale (p : Predict) (s : State) : Nat := p.ts.1 * Nat.max 1 (s.halfPeriod p.cu)

/-- b(t) at a fine edge step, in 2^-48 pu times `scale` (R109, R113). -/
def Predict.at' (p : Predict) (s : State) (t : Time) : Int :=
  let h := Nat.max 1 (s.halfPeriod p.cu)
  let line := (h : Int) * 2 ^ 28 * (p.e * p.ts.1 + p.de * ((t - p.tn : Nat) : Int) * p.ts.2)
  line + (p.ts.1 : Int) * p.k * (2 * (s.ramp p.cu p.lag t : Int) - h)

/-- A crossing within one linear piece: up or down, its instant rounded down and up. -/
def pieceCross (a : Time) (ba : Int) (b : Time) (bb hi lo : Int) (up dn : Bool) :
    Option (Bool × Time × Time) :=
  let w : Int := (b - a : Nat)
  if up && decide (ba < hi) && decide (hi ≤ bb) then
    some (true, a + ((hi - ba) * w / (bb - ba)).toNat, a + ceilDiv ((hi - ba) * w).toNat (bb - ba).toNat)
  else if dn && decide (lo < ba) && decide (bb ≤ lo) then
    some (false, a + ((ba - lo) * w / (ba - bb)).toNat, a + ceilDiv ((ba - lo) * w).toNat (ba - bb).toNat)
  else none

/-- The first crossing along consecutive points. -/
def firstCross (hi lo : Int) (up dn : Bool) : List (Time × Int) → Option (Bool × Time × Time)
  | (a, ba) :: (b, bb) :: rest =>
    (pieceCross a ba b bb hi lo up dn).or (firstCross hi lo up dn ((b, bb) :: rest))
  | _ => none

/-- The first predicted crossing of the allowed calls within the horizon (R113). -/
def Predict.cross (p : Predict) (s : State) (hor : Nat) (hi lo : Int) (up dn : Bool) :
    Option (Bool × Time × Time) :=
  let te := p.tn + ceilDiv (hor * p.ts.1) p.ts.2
  let ts := p.tn :: ((if p.k = 0 then [] else s.vertices p.cu p.lag p.tn te) ++ [te])
  firstCross hi lo up dn (ts.map (fun t => (t, p.at' s t)))

/-! ### Levels (R110, R111) -/

/-- Angle of a phase against θ: θ, θ − 1/3, θ + 1/3 turn. -/
def State.phaseAngle (s : State) (l : Nat) : Nat :=
  (s.theta + (if l = 1 then 2 * 2 ^ 32 / 3 else if l = 2 then 2 ^ 32 / 3 else 0)) % 2 ^ 32

/-- Whether the sign lock lets a step from O go up, or down (R110, R111). -/
def State.lockAllows (s : State) (l : Nat) (up : Bool) : Bool :=
  let active := if s.on BND.STATUS.POSTURE then s.on BND.GRID_CFG.SL_FAULT
    else s.on BND.GRID_CFG.SIGN_LOCK
  let a := s.phaseAngle l
  let zcw := s.rd BND.GRID_CFG.ZCW * 2 ^ 32 / 1440
  let near (c : Nat) : Bool := decide ((angleDiff a c).natAbs ≤ zcw)
  let window := near (2 ^ 30) || near (3 * 2 ^ 30)
  let pos := decide (a < 2 ^ 30) || decide (3 * 2 ^ 30 < a)
  let neg := decide (2 ^ 30 < a) && decide (a < 3 * 2 ^ 30)
  !active || window || (if up then pos else neg)

/-- A feed channel is three-level (R103). -/
def State.threeLevel (s : State) (l : Nat) : Bool :=
  decide (l ≤ 2) || s.on (BND.CH.CFG.LEVELS l)

/-- The level a call leads to, if it is a step (R110). -/
def State.nextLevel (s : State) (l cur : Nat) (up : Bool) : Option Nat :=
  if cur = 3 then none
  else if l ≤ 2 then
    if cur = 1 then (if s.lockAllows l up then some (if up then 2 else 0) else none)
    else if cur = 2 then (if up then none else some 1)
    else (if up then some 1 else none)
  else if l ≤ 10 then
    if s.threeLevel l then (if up then (if cur < 2 then some (cur + 1) else none)
      else if 0 < cur then some (cur - 1) else none)
    else (if up then (if cur = 0 then some 2 else none) else if cur = 2 then some 0 else none)
  else (if up then (if cur = 0 then some 2 else none) else if cur = 2 then some 0 else none)

/-- The level a leg decides on: the register's, or a dump half's own state. -/
def State.legLevel (s : State) (l : Nat) : Nat :=
  if l ≤ 10 then s.rd (BND.CH.STATE.LEVEL l)
  else if (s.leg l).released then (if (s.leg l).on then 2 else 0) else 3

/-- Stores the level of a leg. -/
def State.putLevel (s : State) (l v : Nat) : State :=
  if l ≤ 10 then s.wr (BND.CH.STATE.LEVEL l) v
  else s.modLeg l (fun b => { b with on := decide (v = 2) })

/-- The register's ARMED bit follows the legs of the channel. -/
def State.showArmed (s : State) (l : Nat) : State :=
  if l ≤ 10 then s.wrB (BND.CH.STATE.ARMED l) (s.leg l).armed.isSome
  else s.wrB (BND.CH.STATE.ARMED 11) ((s.leg 11).armed.isSome || (s.leg 12).armed.isSome)

/-! ### Arming and withdrawal (R113, R114) -/

/-- The island that turns on in a level change of a grid leg (R130). -/
def incoming (leg old new : Nat) : Nat :=
  4 * leg + (if new = 2 then 0 else if new = 0 then 3 else if old = 2 then 2 else 1)

/-- The link lead in fine edge steps: 120 ns to an island, 20 ns at a feed output (R113). -/
def leadOf (l : Nat) : Nat := if 3 ≤ l ∧ l ≤ 10 then 8 * sclk else 48 * sclk

/-- Latest commit of a withdrawal before t_e: 120 ns or 10 ns (R114). -/
def withdrawLead (l : Nat) : Nat := if 3 ≤ l ∧ l ≤ 10 then 4 * sclk else 48 * sclk

/-- The frames of an armed edge (R130, R137): OFF to the outgoing island, ON to the incoming one, which
releases it by dead time; a dump switch alone. -/
def State.sendEdge (s : State) (l : Nat) (e : Edge) (ready : Time := 0) : State :=
  if l ≤ 2 then
    (s.sendDown (outgoing l e.old e.new) (.edgeArm false false e.te) ready).sendDown
      (incoming l e.old e.new) (.edgeArm true false e.te) ready
  else if l ≤ 10 then s
  else s.sendDown (l + 1) (.edgeArm (decide (e.new = 2)) true e.te) ready

/-- Both frames of a withdrawn edge are cancelled (R114, R137), at the islands it was armed at. -/
def State.sendCancel (s : State) (l : Nat) (e : Edge) (ready : Time := 0) : State :=
  if l ≤ 2 then
    (s.sendDown (outgoing l e.old e.new) (.cancel e.te) ready).sendDown
      (incoming l e.old e.new) (.cancel e.te) ready
  else if l ≤ 10 then s
  else s.sendDown (l + 1) (.cancel e.te) ready

/-- Arms an edge (R113) by a decision that commits at `tc` (R26). -/
def State.armEdge (s : State) (l : Nat) (e : Edge) (tc : Time := 0) : State :=
  let s := s.modLeg l (fun b =>
    { b with armed := some e, edges := (e :: b.edges).take 8, lastEdge := some e.te })
  (((s.putLevel l e.new).showArmed l).sendEdge l e tc).reelEvent e.te (legChannel l) 0 e.new

/-- Withdraws the armed edge by a decision that commits at `tc` (R114): the level reverts, to one reported since (R115),
and the last standing edge is the one before. -/
def State.withdraw (s : State) (l : Nat) (e : Edge) (tc : Time := 0) : State :=
  let s := s.modLeg l (fun b =>
    { b with armed := none, lastEdge := e.last,
             edges := b.edges.map (fun x => if x.te = e.te then { x with withdrawn := true } else x) })
  let s := (s.putLevel l (e.back.getD e.old)).showArmed l
  ((s.inc (BND.CH.CNT.WITHDRAWN (legChannel l))).sendCancel l e tc).reelEvent e.te (legChannel l) 1 e.new

/-- An edge whose instant has passed is armed no longer. -/
def State.settleEdge (s : State) (l : Nat) : State :=
  match (s.leg l).armed with
  | some e => if e.te ≤ s.now then (s.modLeg l (fun b => { b with armed := none })).showArmed l else s
  | none => s

/-- Withdrawal test of the armed edge at a commit time (R114): no crossing for its call within the
horizon, or one at or after the end of its interval; a crossing already passed is earlier. -/
def State.tryWithdraw (s : State) (l : Nat) (e : Edge) (p : Predict) (hor : Nat) (hi lo : Int)
    (tc : Time) : State :=
  let b0 := p.at' s p.tn
  let keep := if e.up then decide (hi ≤ b0) else decide (b0 ≤ lo)
  let gone := match p.cross s hor hi lo e.up (!e.up) with
    | some (_, tx, _) => decide (e.till ≤ tx)
    | none => true
  if !keep && gone && decide (tc + withdrawLead l ≤ e.te) then s.withdraw l e tc else s

/-- One decision of R113 for a leg, given its prediction and thresholds. -/
def State.decide1 (s : State) (l : Nat) (p : Predict) (hi lo : Int) (tc : Time) : State :=
  let s := s.settleEdge l
  let hor := s.rd (BND.CH.CFG.HORIZON (legChannel l))
  match (s.leg l).armed with
  | some e => s.tryWithdraw l e p hor hi lo tc
  | none =>
    let cur := s.legLevel l
    let up := (s.nextLevel l cur true).isSome
    let dn := (s.nextLevel l cur false).isSome
    let b0 := p.at' s p.tn
    let found : Option (Bool × Time) :=
      match p.cross s hor hi lo up dn with
      | some (c, _, tx) => some (c, tx)
      | none => if hi ≤ b0 then some (true, tc) else if b0 ≤ lo then some (false, tc) else none
    match found with
    | none => s
    | some (c, tx) =>
      match s.nextLevel l cur c with
      | none => s
      | some v =>
        let last := (s.leg l).lastEdge
        let free := match last with | some t => t + s.dwell l | none => 0
        let te := max tx (max (tc + leadOf l) free)
        let j := (te - p.tn) * p.ts.2 / p.ts.1
        let till := p.tn + ceilDiv ((j + 1) * p.ts.1) p.ts.2
        s.armEdge l ⟨c, cur, v, te, till, last, false, none⟩ tc

/-! ### Integrity (R122, R123) -/

/-- The units disagree (R122): nothing leaves, source 32 asserts for 1 µs. -/
def State.bandMismatch (s : State) (c : Nat) : State :=
  (((s.set BND.STATUS.MISMATCH).sat (BND.CH.EVT.MISMATCH_CNT c)).pulseSrc 32).detect 0x06 c (s.tripReact 32)

/-- A leg blocks (R123): its armed edge is withdrawn where R114 still allows it, and it goes OFF. -/
def State.blockLeg (s : State) (tc : Time) (l : Nat) : State :=
  let s := match (s.leg l).armed with
    | some e => if tc + withdrawLead l ≤ e.te then s.withdraw l e tc else s
    | none => s
  (s.legOff l).set (BND.CH.STATE.BLOCKED (legChannel l))

/-- A band channel's measurement became invalid (R123). -/
def State.blockChannel (s : State) (c : Nat) (tc : Time) : State :=
  let s := s.each (if c ≤ 2 then [0, 1, 2] else if c ≤ 10 then [c] else [11, 12])
    (fun s l => s.blockLeg tc l)
  let s := if c ≤ 2 then s.groupOff else if c ≤ 10 then s.feedLow (c - 3) else s.dumpOff
  let s := (s.set BND.STATUS.MEAS_LOST).detect 0x1F c
    (if s.code = stENERGIZE ∨ s.code = stRUN then rcSTOPPING else rcReport)
  s.modSys (fun y => { y with wantStop := if y.wantStop = .none then .blocked else y.wantStop })

/-! ### Decisions -/

/-- Commit time of a decision on a sample valid now (R104): 4 SCLK cycles after it enters the pipeline, which accepts one
band channel per cycle; a decision waits for the first cycle not taken. -/
def State.commit (s : State) : Time × State :=
  let c := max s.cycle s.band.nextSlot
  (s.now + (4 + (c - s.cycle)) * sclk, { s with band := { s.band with nextSlot := c + 1 } })

/-- The first decision after a FAULT entry takes the flat band, and abandons a return (R119, R120). -/
def State.takePosture (s : State) (l : Nat) : State :=
  if s.band.fault && (!(s.leg l).flat || decide ((s.leg l).ret ≠ .off)) then
    ((s.modLeg l (fun b => { b with flat := true, ret := .off, spoiled := true })).set
      BND.STATUS.POSTURE).showReturning
  else s

/-- The decision of a current channel on its newest sample (R109, R113, R119, R122, R123). -/
def State.bandCurrent (s : State) (l ch : Nat) (mismatch : Bool) : State :=
  let (tc, s) := s.commit
  let x := (s.chan ch).cur
  let s := (s.rampLeg l ch).slewTheta
  if !x.ok then
    if (s.leg l).released || (s.chan ch).prev.ok then
      (s.modLeg l (fun b => { b with prevErr := none })).blockChannel l tc
    else s.modLeg l (fun b => { b with prevErr := none })
  else
    let s := s.takePosture l
    let s := if l ≤ 2 then s else s.showScale
    let (ref, lim) := if l ≤ 2 then s.gridRef l else s.feedRef l
    let s := s.wrB (BND.CH.STATE.AT_LIMIT (if l ≤ 2 then 0 else l)) lim
    let e := sat24 (ref - x.fix)
    let (h, k) := s.shape l
    let (cu, lag) := s.legCarrier l
    let p : Predict := { tn := s.now, ts := s.tsOf ch, e := e, cu := cu, lag := lag, k := k,
                         de := e - (s.leg l).prevErr.getD e }
    let sc := p.scale s
    let s := s.modLeg l (fun b => { b with prevErr := some e, ref := ref })
    let s := s.setWord (BND.CH.REF.VALUE l).addr (satWord (rneDiv ref 16))
    let s := s.setWord (BND.CH.ERR.VALUE l).addr (satWord (rneDiv (p.at' s s.now) (sc * 2 ^ 32)))
    let s := s.setWord (BND.CH.H.VALUE l).addr (satWord (rneDiv h (2 ^ 32)))
    if mismatch then s.bandMismatch l
    else if (s.leg l).released then s.decide1 l p ((h * sc : Nat) : Int) (-((h * sc : Nat) : Int)) tc
    else s

/-- V_ENG and the clamped V_REL in 2^-20/1000 pu (R126): the ports', or the detector's during its takeover
(R227). -/
def State.dumpLevels (s : State) : Int × Int :=
  let act := s.on FRT.STATUS.DUMP_ACT
  let eng : Int := if act then (s.rd FRT.DUMP.V_ENG * 2 ^ 20 : Nat) else s.port 0x0B0 * 16 * 1000
  let rel : Int := if act then (s.rd FRT.DUMP.V_REL * 2 ^ 20 : Nat) else s.port 0x0B1 * 16 * 1000
  (eng, min rel (eng - 5 * 2 ^ 20))

/-- Dump action is allowed for a half (R126, R263). -/
def State.dumpGrant (s : State) (up : Bool) : Bool :=
  (s.on FRT.STATUS.DUMP_ACT || decide (2 ^ 15 ≤ s.port 0x0B2)) && s.on (if up then TRP.GOV_STAT.GRANT_UP else TRP.GOV_STAT.GRANT_LO)

/-- The decision of a dump half on its newest sample (R126): crossings of V_ENG and V_REL with k = 0;
with no grant, a switch that is on turns off. -/
def State.bandDump (s : State) (l ch : Nat) (mismatch : Bool) : State :=
  let (tc, s) := s.commit
  let x := (s.chan ch).cur
  if !x.ok then
    if (s.leg l).released || (s.chan ch).prev.ok then
      (s.modLeg l (fun b => { b with prevErr := none })).blockChannel 11 tc
    else s.modLeg l (fun b => { b with prevErr := none })
  else
    let (eng, rel) := s.dumpLevels
    let p : Predict := { tn := s.now, ts := s.tsOf ch, e := x.fix, cu := 9, lag := 0, k := 0,
                         de := x.fix - (s.leg l).prevErr.getD x.fix }
    let s := s.modLeg l (fun b => { b with prevErr := some x.fix })
    let s := if l = 11 then
        (s.setWord (BND.CH.REF.VALUE 11).addr (satWord (rneDiv eng 16000))).setWord
          (BND.CH.ERR.VALUE 11).addr (satWord (rneDiv (eng - x.fix * 1000) 16000))
      else s
    let sc : Int := (p.scale s : Int) * 2 ^ 28
    -- thresholds of b in 2^-48 pu × scale: on at V_ENG, off at V_REL
    let hi := -(-(eng * sc) / 1000)
    let lo := rel * sc / 1000
    if mismatch then s.bandMismatch 11
    else if !(s.leg l).released then s
    else if !s.dumpGrant (decide (l = 11)) then
      let s := s.settleEdge l
      match (s.leg l).armed with
      | some e =>
        if e.new = 2 ∧ tc + withdrawLead l ≤ e.te then s.withdraw l e tc else s
      | none =>
        if (s.leg l).on then
          let free := match (s.leg l).lastEdge with | some t => t + s.dwell l | none => 0
          let te := max (tc + leadOf l) free
          s.armEdge l ⟨false, 2, 0, te, te + 1, (s.leg l).lastEdge, false, none⟩ tc
        else s
    else
      -- an armed edge is judged by the threshold of its own call (R114)
      let was := match ((s.settleEdge l).leg l).armed with | some e => decide (e.old = 2) | none => (s.leg l).on
      s.decide1 l p (if was then 2 ^ 200 else hi) (if was then lo else -(2 ^ 200)) tc

/-! ### Return, soft ramp, release (R118, R120, R124, R130) -/

/-- The detector returned to NORMAL (R120): every leg in flat shape waits for its carrier zero. -/
def State.startReturn (s : State) : State :=
  let s := s.each (List.range 11) (fun s l =>
    if (s.leg l).flat then s.modLeg l (fun b => { b with ret := .waiting, spoiled := true }) else s)
  ({ s with band := { s.band with fault := false } }.wr BND.STATUS.POSTURE 0).showReturning

/-- RETURN_RAMP_START (R120): the first carrier zero of the leg after the return. -/
def execReturnRampStart (t : Time) (l : Fin 11) (s : State) : Host.Outcome State Fault Refusal :=
  s.during t (fun s =>
    let (cu, lag) := s.legCarrier l
    let half := s.halfPeriod cu
    if (s.leg l).ret = .waiting ∧ s.phaseOf cu lag s.now % Nat.max 1 half = half / 2 then
      let dur := s.rd BND.FAULT_CFG.RET_CYC * 2 * half
      s.modLeg l (fun b => { b with flat := false, ret := .ramp s.now dur })
    else s)

/-- RETURN_RAMP_END (R120). -/
def execReturnRampEnd (t : Time) (l : Fin 11) (s : State) : Host.Outcome State Fault Refusal :=
  s.during t (fun s =>
    match (s.leg l).ret with
    | .ramp start dur =>
      if start + dur ≤ s.now then (s.modLeg l (fun b => { b with ret := .off })).showReturning else s
    | _ => s)

/-- Every reference of a soft-ramped target lies below h; a leg that does not switch has none left. -/
def State.softDone (s : State) (g : Nat) : Bool :=
  (targetLegs g).all (fun l => !(s.leg l).released
    || decide ((s.leg l).ref.natAbs * 2 ^ 28 < (s.shape l).1))

/-- The measurement of a leg is valid (R79). -/
def State.measured (s : State) (l : Nat) : Bool :=
  let ch := if l = 12 then s.rd (BND.CH.CFG.SRC_B 11) else s.rd (BND.CH.CFG.SRC (legChannel l))
  (s.chan ch).cur.ok && s.on (MOD.CH.STATUS.VALID_C ch)

/-- The legs that block together (R123). -/
def legGroup (l : Nat) : List Nat := if l ≤ 2 then [0, 1, 2] else if l ≤ 10 then [l] else [11, 12]

/-- A leg stays BLOCKED while the measurement of its group is invalid (R123). -/
def State.staysBlocked (s : State) (l : Nat) : Bool :=
  (legGroup l).any (fun m => s.on (BND.CH.STATE.BLOCKED (legChannel m)) && !s.measured m)

/-- A band channel is released (R279, R118, R130), unless its measurement still blocks it (R123): a grid leg goes from
OFF to O with T2 and T3 on together; a feed to off or O by its placer; the dump to both off. It starts in the shape of the
present posture with h at H_MAX. -/
def State.releaseLeg (s : State) (l : Nat) : State :=
  if s.staysBlocked l then s
  else
    let te := s.now + leadOf l
    let h0 : Nat := if l ≤ 10 then s.rdE (BND.CH.H_LIM.H_MAX (hLeg l)) * 2 ^ 32 else 0
    let s := (s.modLeg l (fun b =>
      { b with released := true, releasedAt := s.now, armed := none, soft := false, h := h0, ret := .off,
               flat := b.flat && s.band.fault, lastEdge := none, on := false, frames := [], nowCnt := 0,
               spoiled := true, offTarget := 0 })).showReturning
    let s := (s.wr (BND.CH.STATE.BLOCKED (legChannel l)) 0).wr (BND.CH.STATE.TRIPPED (legChannel l)) 0
    let s := if l ≤ 10 then s.set (BND.CH.STATE.H_CLAMP l) else s
    if l ≤ 2 then
      let e : Edge := ⟨false, 3, 1, te, te + 1, none, false, none⟩
      let s := (s.modLeg l (fun b => { b with lastEdge := some te, edges := (e :: b.edges).take 8 })).wr
        (BND.CH.STATE.LEVEL l) 1
      ((s.sendDown (4 * l + 1) (.edgeArm true true te)).sendDown (4 * l + 2) (.edgeArm true true te)).reelEvent te l 0 1
    else if l ≤ 10 then
      let v := if s.threeLevel l then 1 else 0
      s.armEdge l ⟨false, 3, v, te, te + 1, none, false, none⟩
    else s.wr (BND.CH.STATE.LEVEL 11) 0

/-! ### Adaptation at the tick (R118) -/

/-- The frame's counts join the window of a leg. -/
def State.closeFrame (s : State) (l : Nat) (cycles : Nat) : State :=
  s.modLeg l (fun b =>
    { b with frames := ((b.nowCnt, cycles, b.released && !b.spoiled) :: b.frames).take 256,
             nowCnt := 0, spoiled := false })

/-- Adaptation of h for a group: the grid legs together, or one feed (R118). ADAPT_LIMIT comes once h has sat at a clamp,
with f_meas off by more than 5 %, for as many ticks as a window has frames. -/
def State.adapt (s : State) (legs : List Nat) : State :=
  let l := legs.headD 0
  let n := s.rdE (BND.CH.ADAPT.WIN l) + 1
  let wins := legs.map (fun i => (s.leg i).frames.take n)
  let full := wins.all (fun w => decide (w.length = n) && w.all (fun f => f.2.2))
  if !full || s.on BND.STATUS.POSTURE || s.band.fault || s.on BND.STATUS.RETURNING
      || decide (s.rdE (BND.CH.ADAPT.FREEZE l) ≠ 0) then s.modLeg l (fun b => { b with offTarget := 0 })
  else
    let cnt := wins.foldl (fun a w => a + w.foldl (fun x f => x + f.1) 0) 0
    let cyc := (wins.headD []).foldl (fun x f => x + f.2.1) 0
    let den := Nat.max 1 (5 * legs.length * cyc)               -- f_meas = cnt × 10^9 / den
    let tgt := s.rdE (BND.CH.ADAPT.TGT_FREQ l) * 100
    let g := 2 ^ (s.rdE (BND.CH.ADAPT.GSHIFT l) + 4)
    let h : Nat := (s.leg l).h
    let diff : Int := (cnt * 10 ^ 9 : Nat) - (tgt * den : Nat)
    let lo : Nat := s.rdE (BND.CH.H_LIM.H_MIN l) * 2 ^ 32
    let hi : Nat := s.rdE (BND.CH.H_LIM.H_MAX l) * 2 ^ 32
    let h' := (clampInt lo hi ((h : Int) + rneDiv ((h : Int) * diff) (Nat.max 1 (tgt * den * g)))).toNat
    let clamped := decide (h' = lo) || decide (h' = hi)
    let far := clamped && decide (tgt * den < diff.natAbs * 20)
    let s := s.modLeg l (fun b => { b with h := h', offTarget := if far then satInc n b.offTarget else 0 })
    let f := (rneDiv ((cnt * 10 ^ 9 : Nat) : Int) den).toNat
    let s := s.each legs (fun s i =>
      ((s.wr (BND.CH.FSW.HZ i) f).wrB (BND.CH.STATE.H_CLAMP i) clamped).setWord (BND.CH.H.VALUE i).addr
        (satWord (rneDiv h' (2 ^ 32))))
    if n ≤ (s.leg l).offTarget then s.set BND.STATUS.ADAPT_LIMIT else s

/-- The band law's part of a tick: windows close and every group adapts (R118). -/
def State.bandTick (s : State) (cycles : Nat) : State :=
  let s := s.each (List.range 11) (fun s l => s.closeFrame l cycles)
  ([0, 1, 2] :: (List.range 8).map (fun k => [k + 3])).foldl State.adapt s

/-- The ramps take the committed targets and rates (R106). -/
def State.rampTick (s : State) : State :=
  let load (i tgt rate : Nat) (rs : Units Ramp 13) : Units Ramp 13 :=
    rs.upd i (fun r => { r with tgt := s.port tgt * 2 ^ 64, rate := (s.port rate).natAbs })
  let rs := load 0 0x000 0x002 (load 1 0x001 0x003 (load 2 0x010 0x012 (load 3 0x011 0x012
    (load 4 0x020 0x021 s.band.ramps))))
  let rs := (List.range 8).foldl (fun rs k => load (k + 5) (0x010 * (k + 3)) (0x010 * (k + 3) + 1) rs) rs
  { s with band := { s.band with ramps := rs } }

end Sys2Proof.Machine
end

