-- ==== Sys2Proof/Machine/CueCore.lean ====
section
/-!
DEFINITION. What every cue shares (spec/19_cues.md, R377 to R393): the opcode table's states and roles,
replies and their queue, deferred completion, and the log entries a cue leaves (R408).
-/
namespace Sys2Proof

/-- Little-endian value of `n` payload bytes at an offset (R377). -/
def Cue.u (c : Cue) (off n : Nat) : Nat := Machine.leAt c.payload off n

/-- The authenticated flag (R377). -/
def Cue.auth (c : Cue) : Bool := c.flags.getLsbD 2

/-- The origin tag as one word (R377). -/
def Cue.tag (c : Cue) : Nat := c.cls.toNat * 2 ^ 24 + c.sender.toNat

end Sys2Proof

namespace Sys2Proof.Machine
open Reg

/-- Changes the cue processor's record. -/
def State.modCue (s : State) (f : CueState → CueState) : State := { s with cue := f s.cue }

/-! ### Status codes (R386) -/

abbrev csOK : Nat := 0x0000
abbrev csPENDING : Nat := 0x0001
abbrev csOPCODE : Nat := 0x0100
abbrev csLENGTH : Nat := 0x0101
abbrev csCRC : Nat := 0x0102
abbrev csSEQUENCE : Nat := 0x0103
abbrev csPAYLOAD : Nat := 0x0104
abbrev csFRAGMENT : Nat := 0x0105
abbrev csORIGIN : Nat := 0x0200
abbrev csSEALED : Nat := 0x0201
abbrev csROLE : Nat := 0x0202
abbrev csAUTH : Nat := 0x0203
abbrev csSTATE : Nat := 0x0300
abbrev csRESOURCE : Nat := 0x0301
abbrev csCHECK : Nat := 0x0302
abbrev csBUSY : Nat := 0x0400
abbrev csFAILED : Nat := 0x0500

/-! ### The opcode table (R387 to R392) -/

/-- State sets as bits of the state codes (R387). -/
abbrev ssANY : Nat := 0xFFC
abbrev ssLIVE : Nat := 0x3FC
abbrev ssCFG : Nat := 0x01C
abbrev ssCOM : Nat := 0x004

/-- One opcode: the roles that admit it (bits O, E, S; 0 none needed), its states, and its fragment
limit in bytes, 0 where it takes none. -/
structure OpSpec where
  roles  : Nat
  states : Nat
  frag   : Nat := 0
  deriving DecidableEq, Repr

/-- O admits OPERATOR, ENGINEER and SECURITY_ADMIN; E ENGINEER; S SECURITY_ADMIN (R382). -/
abbrev roO : Nat := 7
abbrev roE : Nat := 2
abbrev roS : Nat := 4

/-- The opcodes of R388 to R392. -/
def opSpec (op : Nat) : Option OpSpec :=
  if op = 0x0001 ∨ op = 0x0002 then some ⟨0, ssANY, 0⟩
  else if op = 0x0003 then some ⟨roO, ssANY, 0⟩
  else if op = 0x0010 then some ⟨roO, ssANY, 0⟩
  else if op = 0x0011 then some ⟨roE, ssLIVE, 0⟩
  else if op = 0x0012 then some ⟨roE, 0xC1C, 0⟩
  else if op = 0x0013 then some ⟨roE, 0x7FC, 0⟩
  else if op = 0x0014 then some ⟨roE, ssANY, 0⟩
  else if op = 0x0015 then some ⟨roE, 0x010, 0⟩
  else if op = 0x0016 then some ⟨roO, ssLIVE, 0⟩
  else if op = 0x0017 then some ⟨roE, ssCFG, 0⟩
  else if op = 0x0018 ∨ op = 0x0019 ∨ op = 0x0100 then some ⟨roO, ssANY, 0⟩
  else if op = 0x0101 ∨ op = 0x0102 then some ⟨roE, ssANY, 0⟩
  else if op = 0x0200 then some ⟨roE, ssLIVE, 1048576⟩
  else if op = 0x0201 then some ⟨roE, ssLIVE, 0⟩
  else if op = 0x0202 then some ⟨roE, ssLIVE, 16388⟩
  else if op = 0x0203 then some ⟨roE, ssLIVE, 262144⟩
  else if op = 0x0204 then some ⟨roO, ssANY, 0⟩
  else if op = 0x0300 then some ⟨roO, ssLIVE, 0⟩
  else if op = 0x0301 then some ⟨roO, ssANY, 0⟩
  else if op = 0x0302 then some ⟨roO, ssLIVE, 0⟩
  else if 0x0400 ≤ op ∧ op ≤ 0x0402 then some ⟨roO, ssANY, 0⟩
  else if 0x0410 ≤ op ∧ op ≤ 0x0413 then some ⟨roE, ssCOM, 0⟩
  else if op = 0x0414 then some ⟨roS, ssCOM, 0⟩
  else if op = 0x0500 then some ⟨roO, ssANY, 0⟩
  else if op = 0x0501 then some ⟨roE, ssCOM, 65536⟩
  else if op = 0x0502 then some ⟨roS, ssCFG, 0⟩
  else if op = 0x0610 ∨ op = 0x0611 then some ⟨roE, ssCFG, 0⟩
  else if op = 0x0612 then some ⟨roO, ssANY, 0⟩
  else if op = 0x0620 then some ⟨roE, ssCFG, 0⟩
  else if op = 0x0621 then some ⟨roE, ssLIVE, 0⟩
  else if op = 0x0630 then some ⟨roE, ssCFG, 4194308⟩
  else if op = 0x0631 then some ⟨roE, ssCFG, 16777216⟩
  else if op = 0x0640 then some ⟨roE, ssCFG, 0⟩
  else if op = 0x0700 ∨ op = 0x0701 ∨ op = 0x0702 then some ⟨roE, ssLIVE, 0⟩
  else if op = 0x0703 then some ⟨roE, ssANY, 0⟩
  else if op = 0x0704 then some ⟨roO, ssLIVE, 0⟩
  else if op = 0x0705 ∨ op = 0x0710 ∨ op = 0x0711 then some ⟨roO, ssANY, 0⟩
  else if op = 0x0712 then some ⟨roE, ssANY, 0⟩
  else if op = 0x0720 then some ⟨roO, ssANY, 0⟩
  else if op = 0x0730 then some ⟨roE, ssANY, 0⟩
  else if op = 0x0731 then some ⟨roO, ssANY, 0⟩
  else if op = 0x0800 ∨ op = 0x0801 then some ⟨roO, ssANY, 0⟩
  else if op = 0x0810 ∨ op = 0x0811 then some ⟨roS, ssLIVE, 0⟩
  else if op = 0x0812 then some ⟨roS, ssCFG, 0⟩
  else if op = 0x0820 then some ⟨roS, ssANY, 0⟩
  else if 0x0900 ≤ op ∧ op ≤ 0x0902 then some ⟨roO, ssANY, 0⟩
  else if op = 0x0A00 then some ⟨roE, 0x51C, 33554432⟩
  else if op = 0x0A01 then some ⟨roE, 0x51C, 0⟩
  else if op = 0x0A02 then some ⟨roO, ssANY, 0⟩
  else none

/-- The cues accepted in PILOT_LIGHT (R283). -/
def pilotOps : List Nat :=
  [0x0001, 0x0002, 0x0003, 0x0012, 0x0013, 0x0014, 0x0018, 0x0019, 0x0100, 0x0204, 0x0301, 0x0400,
   0x0401, 0x0402, 0x0500, 0x0612, 0x0703, 0x0704, 0x0705, 0x0710, 0x0711, 0x0712, 0x0720, 0x0730,
   0x0731, 0x0800, 0x0801, 0x0900, 0x0901, 0x0902, 0x0A00, 0x0A01, 0x0A02]

/-- The state check of R380: none, or the status and detail of the refusal (R386, R387). -/
def State.stateRefuses (s : State) (op : Nat) (sp : OpSpec) : Option (Nat × Nat) :=
  let c := s.code
  if c = stPILOT then (if pilotOps.contains op then none else some (csSTATE, c * 256))
  else if op = 0x0501 ∧ c ≠ stCOMMISSION then some (csSEALED, 0)
  else if sp.states.testBit c then none
  else some (csSTATE, c * 256)

/-! ### Sessions and roles (R381, R382) -/

/-- The session of a number. -/
def State.sess (s : State) (id : Nat) : Option Sess := s.cue.sessions.find? (fun x => decide (x.id = id))

/-- Changes a session. -/
def State.modSess (s : State) (id : Nat) (f : Sess → Sess) : State :=
  s.modCue (fun q => { q with sessions := q.sessions.map (fun x => if x.id = id then f x else x) })

/-- Role bits of a session (R381): a host session without a key slot has OPERATOR alone while a host slot
has roles, and all three before; one with a slot has its slot's. -/
def State.rolesOf (s : State) (id : Nat) : Nat :=
  match s.sess id with
  | none => 0
  | some x =>
    if x.closed.isSome then 0
    else match x.path, x.slot with
      | .host, none => if s.on HOST.STATUS.KEYED then 1 else 7
      | .host, some k => (s.cue.slots.get k {}).roles
      | .director, _ => 2
      | .test, _ => 2
      | _, _ => x.roles

/-- The lifecycle leaves the debug port open to cues of TEST_PORT (R404). -/
def State.testPortOpen (s : State) : Bool := decide (s.rd SEC.STATUS.LIFECYCLE = 1)

/-- The origin check (R381): the class and its restrictions. -/
def State.originAllows (s : State) (cls op : Nat) : Bool :=
  if cls = 2 ∨ cls = 3 then true
  else if cls = 4 then decide (op = 0x0101 ∨ op = 0x0300)
  else if cls = 5 then !(decide (op / 256 = 5 ∨ op / 256 = 8 ∨ op / 256 = 10))
  else if cls = 7 then s.testPortOpen
  else false

/-- Roles acting for a cue: those of its session; ENGINEER for the director and the test port; an MMS
client's by its certificate, held with its session (R381). -/
def State.cueRoles (s : State) (c : Cue) : Nat :=
  if c.cls = 5 ∨ c.cls = 7 then 2 else s.rolesOf c.session.toNat

/-- The role an entry names (R408): the lowest the table admits, 1 O, 2 E, 3 S. -/
def actingRole (admits roles : Nat) : Nat :=
  let m := if admits = 0 then roles else admits &&& roles
  if m.testBit 0 then 1 else if m.testBit 1 then 2 else if m.testBit 2 then 3 else 0

/-! ### Log entries of an actor (R408) -/

/-- Logs a change on behalf of the present actor; further entries of one cue continue the first. -/
def State.logChange (s : State) (op target old new : Nat) : State :=
  let a := s.cue.actor
  (s.logIt a.origin a.role false a.cont op target old new).modCue
    (fun q => { q with actor := { q.actor with cont := true } })

/-- Logs a change under the cue's own opcode. -/
def State.logCue (s : State) (target old new : Nat) : State := s.logChange s.cue.actor.op target old new

/-- Logs the change of an object: the first 4 bytes of the SHA-384 of old and new (R408). -/
def State.logObj (s : State) (obj : Nat) (old new : List Byte) : State :=
  s.logCue (tgObj obj) (shaPrefix (sha384 old) 4) (shaPrefix (sha384 new) 4)

/-! ### Replies (R379, R393) -/

/-- Times a sequence has wrapped, seen from a sequence number (R378): from the last one and its wraps, numbers
within half the range are the same turn. -/
def extWrap (wrap last seq : Nat) : Nat :=
  if seq + 32768 < last then wrap + 1 else if last + 32768 < seq then wrap - 1 else wrap

/-- The 12-byte IV of a tag (R378): session, direction, extended sequence. -/
def tagIv (session dir wrap seq : Nat) : List Byte :=
  leBytes 4 session ++ leBytes 1 dir ++ [0] ++ leBytes 6 (wrap * 65536 + seq)

/-- The bytes of a reply (R377, R379). -/
def State.replyBytes (s : State) (e : Entry) (status detail : Nat) (data : List Byte) : List Byte :=
  let body := leBytes 2 status ++ leBytes 2 detail ++ data
  let pre := [1, if e.auth then 5 else 1] ++ leBytes 2 e.op ++ leBytes 2 e.seq ++ leBytes 2 body.length
    ++ leBytes 4 e.tag ++ leBytes 4 e.session ++ body
  let m := pre ++ le32 (crc32 pre)
  if e.auth then
    match s.sess e.session with
    | some x =>
      m ++ leBytes 16 (Config.gmac x.key (tagIv e.session 1 (extWrap x.wrapOut x.lastOut e.seq) e.seq) m).toNat
    | none => m
  else m

/-- HOST.QUEUE and HOST.STATUS follow the queue (R393). -/
def State.refreshQueue (s : State) : State :=
  let n := s.cue.entries.length
  let s := (s.wr HOST.QUEUE.USED n).wr HOST.QUEUE.HIGH (Nat.max n (s.rd HOST.QUEUE.HIGH))
  let s := s.wr HOST.STATUS.OUT_CNT (min 255 s.cue.out.length)
  s.wr HOST.STATUS.IN_FREE (4 - (s.cue.inbox.filter (fun x => x.host)).length)

/-- The levels of the interrupt pins (R375, R420): IRQ0 while the fault collector holds an unacknowledged entry, IRQ1
while a reply waits for the host, each where enabled, in the polarity of HOST.CFG. -/
def State.irqPins (s : State) : Bool × Bool :=
  let low := s.on HOST.CFG.IRQ_POL
  ( (s.on HOST.CFG.IRQ0_EN && s.on FLT.STATUS.IRQ0) != low,
    (s.on HOST.CFG.IRQ1_EN && decide (s.rd HOST.STATUS.OUT_CNT ≠ 0)) != low )

/-- Sends a reply on its session's transport: host replies wait for REPLY_OUT, those of an open management
connection are written to it, those of the director and the MMS server reach them at once. -/
def State.send (s : State) (e : Entry) (status detail : Nat) (data : List Byte) (final : Bool) : State :=
  let m := s.replyBytes e status detail data
  let gone (s : State) : State :=
    if final then s.modCue (fun q => { q with entries := q.entries.map (fun x =>
      if x.session = e.session ∧ x.seq = e.seq ∧ x.crc = e.crc then { x with delivered := some s.now } else x) })
    else s
  -- a final reply waits while pair A does not run, the director's while pair B does not (R288, R394)
  let held := final && (!bit s.sys.pairRunning 0 || (decide (e.session = 1) && !bit s.sys.pairRunning 1))
  if held then s
  else match s.cue.openOn with
  | some k => gone (s.modCue (fun q => { q with mgmtTx := q.mgmtTx ++ [(k, m)] }))
  | none =>
  let s := s.modSess e.session (fun x =>
    let w := extWrap x.wrapOut x.lastOut e.seq
    if x.wrapOut * 65536 + x.lastOut < w * 65536 + e.seq then { x with wrapOut := w, lastOut := e.seq } else x)
  match s.sess e.session with
  | some x =>
    if x.path = .host then
      s.modCue (fun q => { q with out := q.out ++ [{ session := e.session, seq := e.seq, final := final, bytes := m }] })
    else if x.path = .mgmt then
      match x.conn with
      | some k => gone (s.modCue (fun q => { q with mgmtTx := q.mgmtTx ++ [(k, m)] }))
      | none => s
    else gone s
  | none => s.modCue (fun q => { q with out := q.out ++ [{ session := e.session, seq := e.seq, final := final, bytes := m }] })

/-- Room for a new entry: delivered entries are reclaimed first (R393). -/
def State.reclaim (s : State) : State :=
  if s.cue.entries.length < 256 then s
  else s.modCue (fun q => { q with entries := q.entries.eraseP (fun x => x.delivered.isSome) })

/-- Retention (R393): delivered entries leave after 64 later cues of their session or 60 s. -/
def State.prune (s : State) : State :=
  s.modCue (fun q => { q with entries := q.entries.filter (fun x =>
    match x.delivered with
    | none => true
    | some t => decide (x.later < 64) && decide (s.now ≤ t + 60 * sec)) })

/-- The entry a cue gets. -/
def entryOf (c : Cue) (op status detail : Nat) (data : List Byte) (pending : Bool) : Entry :=
  { session := c.session.toNat, seq := c.seq.toNat, crc := c.crc.toNat, op := op, tag := c.tag,
    auth := c.auth, status := status, detail := detail, data := data, pending := pending }

/-- Stores an entry; a queue full of undelivered entries takes none. -/
def State.store (s : State) (e : Entry) : State :=
  let s := s.reclaim
  if s.cue.entries.length < 256 then
    s.modCue (fun q => { q with entries := q.entries ++ [e] })
  else s

/-- The final or immediate reply of a cue is stored and sent. -/
def State.answer (s : State) (c : Cue) (op status detail : Nat) (data : List Byte) : State :=
  let e := entryOf c op status detail data false
  ((s.store e).send e status detail data true).refreshQueue

/-- A reply that is not stored: the failures found before the sequence is looked at (R380). -/
def State.answerOnly (s : State) (c : Cue) (op status detail : Nat) : State :=
  (s.send (entryOf c op status detail [] false) status detail [] false).refreshQueue

/-- A register word that a cue sets, logged where it changes. -/
def State.cueReg (s : State) (a : Nat) (w : Word) : State :=
  let o := s.word a
  if o = w then s else (s.setWord a w).logCue (tgReg a) o.toNat w.toNat

/-! Object numbers of log targets (R408). The specification gives the object space and leaves its numbers
open: these are the model's. -/
abbrev obProfile : Nat := 1
abbrev obSealFlag : Nat := 2
abbrev obScript : Nat := 3
abbrev obCalSet : Nat := 4
abbrev obSwap : Nat := 5
abbrev obPoints : Nat := 6
abbrev obModel : Nat := 7
abbrev obImage : Nat := 8
abbrev obRecord : Nat := 9
abbrev obDailies : Nat := 10
abbrev obLifecycle : Nat := 11
abbrev obPackage : Nat := 12
abbrev obTamper : Nat := 13
abbrev obViolation : Nat := 14
abbrev obFeedClear : Nat := 15
abbrev obBoot : Nat := 19
abbrev obFirmware (pair : Nat) : Nat := 16 + pair
abbrev obTaps (r : Nat) : Nat := 0x20 + r
abbrev obContext (i : Nat) : Nat := 0x100 + i
abbrev obFused (q : Nat) : Nat := 0x200 + q
abbrev obSlotRoles (k : Nat) : Nat := 0x240 + k
abbrev obKey (target : Nat) : Nat := 0x1000 + target
abbrev obTable (w : Nat) : Nat := 0x100000 + w
abbrev obCoef (k : Nat) : Nat := 0x10000 + k

/-- A refused cue leaves a log entry: status in bits 31:16 and detail in bits 15:0 (R408). -/
def State.logRefused (s : State) (c : Cue) (op status detail : Nat) : State :=
  s.logIt c.cls.toNat (actingRole 0 (s.cueRoles c)) true false op (tgObj 0) 0
    (status * 65536 + detail % 65536)

/-- A refusal: stored, answered and logged. -/
def State.refuseCue (s : State) (c : Cue) (op status detail : Nat) (data : List Byte) : State :=
  (s.answer c op status detail data).logRefused c op status detail

/-- The final result of a deferred cue (R393). -/
def State.finishCue (s : State) (k : DeferKind) (status detail : Nat) (data : List Byte) : State :=
  match s.cue.deferred.find? (fun x => decide (x.1 = k)) with
  | none => s
  | some (_, sess, seq) =>
    let s := s.modCue (fun q => { q with deferred := q.deferred.filter (fun x => decide (x.1 ≠ k)) })
    match s.cue.entries.find? (fun e => decide (e.session = sess ∧ e.seq = seq) && e.pending) with
    | none => s
    | some e =>
      let e' : Entry := { e with status := status, detail := detail, data := data, pending := false }
      let s := s.modCue (fun q => { q with entries := q.entries.map (fun x => if x = e then e' else x) })
      let s := (s.send e' status detail data true).refreshQueue
      if status = csOK then s
      else s.logIt (e.tag / 2 ^ 24) (actingRole 0 (s.rolesOf sess)) true false e.op (tgObj 0) 0
        (status * 65536 + detail % 65536)

/-- The status bits a deferred kind is busy with: a pending request of that kind. -/
def State.busyWith (s : State) (k : DeferKind) : Bool := s.cue.deferred.any (fun x => decide (x.1 = k))

/-! ### Execution (R380) -/

/-- How a cue's own rules end. -/
inductive Ans where
  | ok (data : List Byte)
  /-- A refusal with its status, detail and reply data. -/
  | fail (status detail : Nat) (data : List Byte := [])
  /-- ACCEPTED_PENDING; the kind completes it. -/
  | pend (k : DeferKind)
  deriving DecidableEq, Repr

/-- Offset of the first field a payload length cuts, or the offset past the last field (R386). -/
def badLen (len : Nat) : Nat → List Nat → Option Nat
  | off, [] => if len = off then none else some off
  | off, n :: ns => if off + n ≤ len then badLen len (off + n) ns else some off

/-- Payload check of a cue whose fields have fixed sizes. -/
def fieldsOf (c : Cue) (ns : List Nat) : Option Nat := badLen c.payload.length 0 ns

/-- The first bad offset of a list of checks: the length, then each failed condition with its offset. -/
def firstBad (len : Option Nat) (cs : List (Bool × Nat)) : Option Nat :=
  len.or ((cs.find? (fun x => !x.1)).map (·.2))

/-- The accepted cue that waits in the inbound buffer is this one. -/
def Inbound.holds (x : Inbound) (c : Cue) : Bool :=
  decide (x.entry.session = c.session.toNat ∧ x.entry.seq = c.seq.toNat ∧ x.entry.crc = c.crc.toNat)

/-- An earlier cue of its session still waits before this one, which is not started then (R383). -/
def State.cueWaits (s : State) (c : Cue) : Bool :=
  s.cue.inbox.any (·.holds c)
    && (s.cue.inbox.takeWhile (fun x => !x.holds c)).any (fun x => decide (x.entry.session = c.session.toNat))

/-- A cue leaves the inbound buffer, its session counts it as accepted. -/
def State.takeCue (s : State) (c : Cue) : State :=
  let s := s.modCue (fun q => { q with
    inbox := q.inbox.eraseP (·.holds c)
    entries := q.entries.map (fun e =>
      if e.session = c.session.toNat then { e with later := e.later + 1 } else e) })
  let s := if s.cue.openOn.isSome then s
    else s.modSess c.session.toNat (fun x =>
      if x.seen.any (fun y => decide (y.1 = c.seq.toNat)) then x
      else { x with seen := ((c.seq.toNat, c.crc.toNat) :: x.seen).take 64 })
  s.prune.refreshQueue

/-- Executes a cue of an opcode (R380 from the origin's restrictions on): role, state, payload, reply
queue, then the cue's own rules. Its effect commits in one step; a refusal changes nothing else (R385). A cue whose
session has an earlier one waiting is not started (R383). -/
def State.runCue (s : State) (op : Nat) (c : Cue) (bad : Option Nat) (body : State → State × Ans) :
    State :=
  if s.bitOf SYS.HOLD.ACTIVE 0 then (s.answerOnly c op csBUSY 3).logRefused c op csBUSY 3
  else if s.cueWaits c then s
  else
  let s := s.takeCue c
  let roles := s.cueRoles c
  match opSpec op with
  | none => s.refuseCue c op csOPCODE 0 []
  | some sp =>
    if !s.originAllows c.cls.toNat op then
      (s.answerOnly c op csORIGIN c.cls.toNat).logRefused c op csORIGIN c.cls.toNat
    else if sp.roles ≠ 0 ∧ (if op = 0x0012 ∧ s.bitOf SYS.CAUSE.PL 5 then roS else sp.roles) &&& roles = 0 then
      s.refuseCue c op csROLE roles []
    else match s.stateRefuses op sp with
      | some (st, d) => s.refuseCue c op st d []
      | none =>
        match bad with
        | some off => s.refuseCue c op csPAYLOAD off []
        | none =>
          if 256 ≤ (s.cue.entries.filter (fun e => e.delivered.isNone)).length then
            ((s.sat HOST.QUEUE.BUSY_CNT).answerOnly c op csBUSY 2).logRefused c op csBUSY 2
          else
            let a : Actor := { origin := c.cls.toNat, role := actingRole sp.roles roles, op := op }
            let (s', r) := body (s.modCue (fun q => { q with actor := a }))
            let s' := s'.modCue (fun q => { q with actor := {} })
            match r with
            | .ok data => s'.answer c op csOK 0 data
            | .fail st d data => s'.refuseCue c op st d data
            | .pend k =>
              let e := entryOf c op csPENDING 0 [] true
              let s' := s'.store e
              let s' := (s'.send e csPENDING 0 [] false).refreshQueue
              s'.modCue (fun q => { q with deferred := q.deferred ++ [(k, c.session.toNat, c.seq.toNat)] })

/-- The origin of a deferred cue acts for what completes it (R408). -/
def State.actFor (s : State) (k : DeferKind) : State :=
  match s.cue.deferred.find? (fun x => decide (x.1 = k)) with
  | none => s
  | some (_, sess, seq) =>
    match s.cue.entries.find? (fun e => decide (e.session = sess ∧ e.seq = seq)) with
    | none => s
    | some e =>
      let o := e.tag / 2 ^ 24
      let admits := match opSpec e.op with | some sp => sp.roles | none => 0
      let roles := if o = 5 ∨ o = 7 then 2 else s.rolesOf sess
      s.modCue (fun q => { q with actor := { origin := o, role := actingRole admits roles, op := e.op } })

/-- The director acts (R381). -/
def State.asDirector (s : State) (op : Nat) : State :=
  s.modCue (fun q => { q with actor := { origin := orDIRECTOR, role := actingRole roE 2, op := op } })

/-- The actor is dropped. -/
def State.actNone (s : State) : State := s.modCue (fun q => { q with actor := {} })

/-- A cue joins the numbers its session has used, and its extended sequence moves on. -/
def State.noteSeq (s : State) (c : Cue) : State :=
  s.modSess c.session.toNat (fun x =>
    let q := c.seq.toNat
    let w := extWrap x.wrapIn x.lastIn q
    let x := if x.wrapIn * 65536 + x.lastIn < w * 65536 + q then { x with wrapIn := w, lastIn := q } else x
    if x.seen.any (fun y => decide (y.1 = q)) then x else { x with seen := ((q, c.crc.toNat) :: x.seen).take 64 })

/-- The director changes the device by a cue of its own session (R21): pair A checks its origin, role and state
as any other cue's. -/
def State.directorCue (s : State) (op : Nat) (payload : List Byte) (body : State → State × Ans) : State :=
  let c : Cue :=
    { cls := 5, sender := 0, session := 1, seq := BitVec.ofNat 16 (((s.sess 1).map (fun x => x.lastIn + 1)).getD 1)
      flags := 0, crc := 0, payload := payload }
  (s.noteSeq c).runCue op c none body

end Sys2Proof.Machine
end

