-- ==== Sys2Proof/Machine/Feeds.lean ====
section
/-!
DEFINITION. Feeds: states, faults, ripple tracking and sweeps (spec/09_feeds_and_tracking.md).
-/
namespace Sys2Proof.Machine
open Reg

/-- A feed's record. -/
def State.feed (s : State) (k : Nat) : Feed := s.feeds.get k {}
/-- Changes a feed's record. -/
def State.modFeed (s : State) (k : Nat) (f : Feed → Feed) : State := { s with feeds := s.feeds.upd k f }

/-- Feed state codes (FED.STATE.STATE). -/
abbrev fsOFF : Nat := 0
abbrev fsWAIT : Nat := 1
abbrev fsSTART : Nat := 2
abbrev fsRUN : Nat := 3
abbrev fsSTOPPING : Nat := 4
abbrev fsFAULT : Nat := 5

/-- The feed's state. -/
def State.feedSt (s : State) (k : Nat) : Nat := s.rd (FED.STATE.STATE k)

/-- v_k, i_k and V_DC in 2^-20 pu, and the voltage sample's mark. -/
def State.feedV (s : State) (k : Nat) : CSample := (s.chan (s.rd (FED.CFG.VSRC k))).cur
def State.feedI (s : State) (k : Nat) : CSample := (s.chan (s.rd (BND.CH.CFG.SRC (k + 3)))).cur
/-- The sample of a channel that a frame sees: one that became valid in the tick cycle belongs to the next (R30). -/
def State.frameSample (s : State) (n : Nat) : CSample :=
  let c := s.chan n
  if c.cur.cycle < s.cycle then c.cur else c.prev
def State.vdc (s : State) : Int := s.trip.vUp + s.trip.vLo

/-- `n / d` pu in 2^-20 pu times `d`: comparisons are made on values times the divisor. -/
def pu20 (n : Nat) : Int := n * 2 ^ 20

/-- BIDIR (R195): a two-level synchronous boost. FIX_LIM.ICHG is 0 while it is 0 (R211), in the register, in effect and
in a write that waits for the tick. -/
def State.refreshBidir (s : State) (k : Nat) : State :=
  let on := !s.on (BND.CH.CFG.LEVELS (k + 3)) && s.on (PWM.CU.CFG.COMP (k + 1))
  let s := s.wrB (FED.CFG.BIDIR k) on
  if on then s
  else
    let f := FED.FIX_LIM.ICHG k
    { s.wr f 0 with
      eff := mapPut resetWord s.eff f.addr (putField (mapGet resetWord s.eff f.addr) f 0)
      pend := s.pend.map (fun w => if w.space = .reg ∧ w.addr = f.addr then { w with val := putField w.val f 0 } else w) }

/-- The state of a feed changes; RUNNING follows (R199). -/
def State.feedTo (s : State) (k st : Nat) : State :=
  let s := (s.wr (FED.STATE.STATE k) st).wrBit FED.STATUS.RUNNING k (decide (st = fsRUN))
  let s := if st = fsRUN then s.start (.feedRun k) else s.stop (.feedRun k)
  if st = fsWAIT then
    s.modFeed k (fun f => { f with waitAt := s.now, fixNew := false }) else s

/-- A sweep or a relocation runs. -/
def Sweep.running : Sweep → Bool
  | .none => false
  | .armed => false
  | _ => true

/-- A sweep overlaps the feed now. -/
def Feed.sweeping (f : Feed) : Bool := f.sweep.running

/-- The ripple window restarts, and its first period at the next valley (R203, R208). -/
def Feed.freshWindow (f : Feed) (now : Time) : Feed :=
  { f with winPer := 0, winN := 0, winV := 0, winP := 0, winVP := 0, winVV := 0, winAt := now, winOk := true,
           perSkip := true, perN := 0, perV := 0, perP := 0, perVP := 0, perVV := 0 }

/-- The next window follows on the one that ended at the last valley (R203). -/
def Feed.nextWindow (f : Feed) : Feed :=
  { f with winPer := 0, winN := 0, winV := 0, winP := 0, winVP := 0, winVV := 0, winAt := f.perAt,
           winOk := !f.sweeping }

/-- The sweep bits follow the record (FED.STATE.SWEEPING, FED.STATUS.SWEEP_FEED); a window that a sweep overlaps is
invalid (R204). -/
def State.putSweep (s : State) (k : Nat) (w : Sweep) : State :=
  let on := w.running
  let s := (s.modFeed k (fun f =>
    { f with sweep := w, winOk := f.winOk && !on && !f.sweeping })).wrB (FED.STATE.SWEEPING k) on
  if on then s.wr FED.STATUS.SWEEP_FEED k
  else if s.rd FED.STATUS.SWEEP_FEED = k then s.wr FED.STATUS.SWEEP_FEED 0xF else s

/-- Rate of a sweep path in 2^-48 pu/s: 2 × (v_hi − v_lo) / 10 ms (R208). -/
def sweepRate (vHi vLo : Int) : Int := 200 * (vHi - vLo)

/-- Travel in 2^-48 pu at a rate in 2^-48 pu/s over SCLK cycles of 2.5 ns. -/
def travel (rate : Int) (cycles : Nat) : Int := rneDiv (rate * (cycles * 5 : Nat)) (2 * 10 ^ 9)

/-- Leg of a sweep path after `run` cycles (R208): 0 up to v_hi, 1 down to v_lo, 2 up to v_op, 3 complete. -/
def pathLeg (run : Nat) (vOp vHi vLo : Int) : Nat :=
  let d := travel (sweepRate vHi vLo) run
  if d < vHi - vOp then 0 else if d < vHi - vOp + (vHi - vLo) then 1 else if d < 2 * (vHi - vLo) then 2 else 3

/-- v_track on a sweep path after `run` cycles (R208). -/
def pathAt (run : Nat) (vOp vHi vLo : Int) : Int :=
  let d := travel (sweepRate vHi vLo) run
  match pathLeg run vOp vHi vLo with
  | 0 => vOp + d
  | 1 => vHi - (d - (vHi - vOp))
  | 2 => vLo + (d - (vHi - vOp) - (vHi - vLo))
  | _ => vOp

/-- A running sweep is aborted (R207): back to v_op at twice the rate. -/
def State.sweepAbort (s : State) (k : Nat) : State :=
  match (s.feed k).sweep with
  | .path _ vOp _ vHi vLo =>
    ((s.putSweep k (.back vOp (2 * sweepRate vHi vLo))).set (FED.EVT.SWEEP_ABORT k)).wr
      (FED.STATE.CLASS k) 4
  | .reloc .. => ((s.putSweep k .none).modFeed k (·.freshWindow s.now)).set (FED.EVT.SWEEP_ABORT k)
  | _ => s

/-- A feed fault (R199, R201): `cause` is the bit of FED.EVT. The channel goes OFF and its outputs low, but for a
trip that soft-ramps the feed, whose ramp takes it OFF (R124); a fault takes precedence over the return of an
aborted sweep. -/
def State.feedFault (s : State) (k cause : Nat) : State :=
  if s.feedSt k = fsOFF ∨ s.feedSt k = fsFAULT then s
  else
    let s := s.sweepAbort k |>.putSweep k .none
    let soft := decide (cause = 0) && s.trip.ramping.testBit (k + 1)
    let s := (if soft then s else (s.legOff (k + 3)).feedLow k).feedTo k fsFAULT
    let ev := s.word (FED.EVT.SNUFFER k).addr
    let s := s.setWord (FED.EVT.SNUFFER k).addr (ev ||| BitVec.ofNat 32 (2 ^ cause))
    ((s.sat (FED.EVT.FAULTS k)).sat (FED.STATE.RETRIES k)).start (.feedRetry k)
      |>.modFeed k (fun f => { f with cause := cause })

/-- A stop (R199, R200): STOPPING with a soft ramp of the feed's reference. -/
def State.feedStop (s : State) (k : Nat) : State :=
  (((s.sweepAbort k).putSweep k .none).feedTo k fsSTOPPING).modLeg (k + 3) (fun b => { b with soft := true })

/-! ### Rows of R199 -/

/-- A write of FED[k].CFG (R196): MODE, VSRC and SWEEP_EN are taken only in OFF, WAIT or FAULT; MODE 0
sends the feed to OFF, MODE 1 or 2 from OFF to WAIT. -/
def State.writeFedCfg (s : State) (k : Nat) (v : Word) : State :=
  let st := s.feedSt k
  let old := s.word (FED.CFG.MODE k).addr
  let mode := getField v (FED.CFG.MODE k)
  let badMode := decide (mode = 3) || (decide (mode ≠ 0) && decide (s.rd (SYS.RAT_PF.PF k) = 0))
  let badSrc := decide (39 < getField v (FED.CFG.VSRC k))
  if !(st = fsOFF || st = fsWAIT || st = fsFAULT) then
    s.set FED.STATUS.CFG_ERR
  else
    let take : Word := 1 ||| (if badMode then 0 else 0x300) ||| (if badSrc then 0 else 0x3F0000)
    let s := s.setWord (FED.CFG.MODE k).addr ((old &&& ~~~take) ||| (v &&& take))
    let s := if badMode || badSrc then s.set FED.STATUS.CFG_ERR else s
    if badMode then s
    else if mode = 0 then (if st = fsOFF then s else s.feedTo k fsOFF)
    else if st = fsOFF then s.feedTo k fsWAIT else s

/-- FEED_MODE_WRITE. -/
def execFeedModeWrite (t : Time) (k : Fin 8) (v : Word) (s : State) : Host.Outcome State Fault Refusal :=
  s.during t (fun s => s.writeFedCfg k v)

/-- The start conditions of R199. -/
def State.feedReady (s : State) (k : Nat) : Bool :=
  let m := s.rd (FED.CFG.MODE k)
  let f := s.feed k
  let v := s.feedV k
  decide (s.feedSt k = fsWAIT) && decide (s.port (0x180 + 0x10 * k + 2) < 2 ^ 15)
    && (s.code = stENERGIZE || s.code = stRUN)
    && s.on (BND.CH.CFG.ENABLE (k + 3)) && s.on (PWM.CU.CFG.ENABLE (k + 1)) && s.bandMode (k + 1)
    && !(s.rd TRP.TGT.TRIPPED).testBit (k + 1)
    && v.ok && decide (v.fix * 1000 + pu20 (s.rd (FED.LIM.BOOST_MARGIN k)) ≤ s.vdc * 1000)
    && (if m = 1 then
          s.due (.feedStart k) (s.rd (FED.START.T_START k) * sec)
            && (!f.afterLow || decide (f.waitAt + 10 * s.rd (FED.START.T_START k) * sec ≤ s.now))
        else if m = 2 then
          f.fixNew && decide (3000 ≤ s.rdE (FED.FIX.VFIX k)) && decide (s.rdE (FED.FIX.VFIX k) ≤ 9500)
        else false)

/-- FEED_START: the feed goes START and its band channel is released. -/
def execFeedStart (t : Time) (k : Fin 8) (s : State) : Host.Outcome State Fault Refusal :=
  s.during t (fun s =>
    if s.feedReady k then
      let v := (s.feedV k).fix
      let s := (s.feedTo k fsSTART).modFeed k (fun f =>
        { f with vTrack := v * 2 ^ 28, vStart := v, afterLow := false, ovRun := 0, revRun := 0 })
      s.releaseLeg (k + 3)
    else s)

/-- Target of v_track in START (R199), 2^-48 pu. -/
def State.startTarget (s : State) (k : Nat) : Int :=
  if s.rd (FED.CFG.MODE k) = 1 then
    rneDiv ((s.feed k).vStart * 2 ^ 28 * s.rd (FED.START.K_OC k)) 100
  else rneDiv ((s.rdE (FED.FIX.VFIX k) * 2 ^ 48 : Nat) : Int) 10000

/-- FEED_REFERENCE_REACHED: RUN, the tracker starting with a fresh window. -/
def execFeedReferenceReached (t : Time) (k : Fin 8) (s : State) : Host.Outcome State Fault Refusal :=
  s.during t (fun s =>
    if s.feedSt k = fsSTART ∧ (s.feed k).vTrack = s.startTarget k then
      (s.feedTo k fsRUN).modFeed k (fun f => { f.freshWindow s.now with ready := [] })
    else s)

/-- FEED_LOW_POWER: P_k below P_STOP for T_STOP in mode 1. -/
def execFeedLowPower (t : Time) (k : Fin 8) (s : State) : Host.Outcome State Fault Refusal :=
  s.during t (fun s =>
    if (s.feedSt k = fsSTART ∨ s.feedSt k = fsRUN) ∧ s.rd (FED.CFG.MODE k) = 1
        ∧ s.due (.feedLow k) (s.rd (FED.STOP.T_STOP k) * sec) then
      (s.feedStop k).modFeed k (fun f => { f with afterLow := true })
    else s)

/-- FEED_CURRENT_GONE: |i_k| < 0.01 pu for 1 ms in STOPPING: WAIT, channel OFF, outputs low. -/
def execFeedCurrentGone (t : Time) (k : Fin 8) (s : State) : Host.Outcome State Fault Refusal :=
  s.during t (fun s =>
    let long := match (s.feed k).gone with | some t0 => decide (t0 + ms ≤ s.now) | none => false
    if s.feedSt k = fsSTOPPING ∧ long = true then
      ((s.legOff (k + 3)).feedLow k).feedTo k fsWAIT
    else s)

/-- FEED_OVERVOLT (R201): 100 control samples of VSRC above V_DC − BOOST_MARGIN / 2. -/
def execFeedOvervolt (t : Time) (k : Fin 8) (s : State) : Host.Outcome State Fault Refusal :=
  s.during t (fun s =>
    if (s.feedSt k = fsSTART ∨ s.feedSt k = fsRUN) ∧ 100 ≤ (s.feed k).ovRun then s.feedFault k 2 else s)

/-- FEED_REVERSE (R201): 16 control samples of reverse current. -/
def execFeedReverse (t : Time) (k : Fin 8) (s : State) : Host.Outcome State Fault Refusal :=
  s.during t (fun s => if 16 ≤ (s.feed k).revRun then s.feedFault k 3 else s)

/-- The cause of a fault has cleared and may be retried (R201, R202). -/
def State.causeClear (s : State) (k : Nat) : Bool :=
  let c := (s.feed k).cause
  if c = 0 then !(s.rd TRP.TGT.TRIPPED).testBit (k + 1)
  else if c = 1 then true
  else if c = 2 then
    decide ((s.feedV k).fix * 1000 + pu20 (s.rd (FED.LIM.BOOST_MARGIN k)) < s.vdc * 1000)
  else false

/-- FEED_RETRY (R202): 60 s after FAULT a retryable feed returns to WAIT. -/
def execFeedRetry (t : Time) (k : Fin 8) (s : State) : Host.Outcome State Fault Refusal :=
  s.during t (fun s =>
    if s.feedSt k = fsFAULT ∧ s.due (.feedRetry k) (60 * sec) ∧ s.causeClear k
        ∧ s.rd (FED.STATE.RETRIES k) < s.rd (FED.STOP.RETRY_MAX k)
        ∧ (s.code = stENERGIZE ∨ s.code = stRUN) then
      (s.stop (.feedRetry k)).feedTo k fsWAIT
    else s)

/-- FEED_RETRIES_RESET (R202): 1 h of continuous RUN. -/
def execFeedRetriesReset (t : Time) (k : Fin 8) (s : State) : Host.Outcome State Fault Refusal :=
  s.during t (fun s =>
    if s.feedSt k = fsRUN ∧ s.due (.feedRun k) (3600 * sec) then s.wr (FED.STATE.RETRIES k) 0 else s)

/-- A write of FED[k].FIX restarts its watchdog (R211, R212); a VFIX outside its range, other than 0, is
not taken. -/
def State.writeFix (s : State) (k : Nat) (v : Word) : State :=
  let x := getField v (FED.FIX.VFIX k)
  let bad := decide (x ≠ 0) && (decide (x < 3000) || decide (9500 < x))
  let a := (FED.FIX.VFIX k).addr
  let v := if bad then (s.word a &&& 0xFFFF0000) ||| (v &&& 0xFFFF) else v
  let s := s.setWord a v
  let w : PendWrite := { space := .reg, addr := a, val := v, cycle := s.cycle }
  let s := { s with pend := s.pend ++ [w] }
  let s := s.start (.feedFix k)
  if bad then s.set FED.STATUS.CFG_ERR else s.modFeed k (fun f => { f with fixNew := true })

/-- FIX_WRITE. -/
def execFixWrite (t : Time) (k : Fin 8) (v : Word) (s : State) : Host.Outcome State Fault Refusal :=
  s.during t (fun s => s.writeFix k v)

/-- FIX_WATCHDOG_EXPIRY (R212): FIX_WD × 10 ms without a write in START or RUN stops the feed. -/
def execFixWatchdogExpiry (t : Time) (k : Fin 8) (s : State) : Host.Outcome State Fault Refusal :=
  s.during t (fun s =>
    let wd := s.rdE (FED.FIX.FIX_WD k)
    if (s.feedSt k = fsSTART ∨ s.feedSt k = fsRUN) ∧ s.rd (FED.CFG.MODE k) = 2 ∧ wd ≠ 0
        ∧ s.due (.feedFix k) (wd * 10 * ms) then
      ((s.feedStop k).set (FED.EVT.FIX_WD k)).stop (.feedFix k)
    else s)

/-! ### Samples (R199, R201, R203) -/

/-- Representative time of a control sample in 2^-1 fine edge steps: valid time less 5 ns and GD_CTL. -/
def State.repTime (s : State) (ch : Nat) (t : Time) : Int :=
  (t : Int) - 2 * sclk - s.rd (MOD.CH.GD_CTL.DELAY ch)

/-- A control sample of a feed's voltage channel: start timer, overvoltage count, and the current samples
it completes by interpolation (R199, R201, R203). -/
def State.feedVolt (s : State) (k ch : Nat) (tPrev : Time) : State :=
  let c := s.chan ch
  if !c.cur.ok then s
  else
    let v := c.cur.fix
    let thr := pu20 (s.rd (FED.START.V_START k))
    let s := if thr ≤ v * 1000 then s.startIf (.feedStart k)
      else if v * 1000 < thr - pu20 20 then s.stop (.feedStart k) else s
    let high := decide (s.vdc * 2000 < v * 2000 + pu20 (s.rd (FED.LIM.BOOST_MARGIN k)))
    let low := decide (v * 1000 + pu20 (s.rd (FED.LIM.BOOST_MARGIN k)) < s.vdc * 1000)
    let t1 := s.repTime ch s.now
    let t0 := s.repTime ch tPrev
    let v0 := c.prev.fix
    let at' (t : Int) : Int := if t1 ≤ t0 then v else v0 + rneDiv ((v - v0) * (t - t0)) (t1 - t0).toNat
    s.modFeed k (fun f =>
      let done := f.wait.filter (fun e => decide (e.2 ≤ t1))
      let f := { f with ovRun := if high then satInc 100 f.ovRun else if low then 0 else f.ovRun,
                        wait := f.wait.filter (fun e => decide (t1 < e.2)) }
      done.foldl (fun f e =>
        let x := at' e.2
        let p := x * e.1
        { f with perN := f.perN + 1, perV := f.perV + x, perP := f.perP + p, perVP := f.perVP + x * p,
                 perVV := f.perVV + x * x }) f)

/-- A control sample of a feed's current: reverse count, current-gone time, ripple input (R199, R201,
R203). -/
def State.feedCurrent (s : State) (k ch : Nat) : State :=
  let c := (s.chan ch).cur
  if !c.ok then s
  else
    let lim : Nat := if s.rd (FED.CFG.MODE k) = 2 && s.on (FED.CFG.BIDIR k)
      then s.rdE (FED.FIX_LIM.ICHG k) + 50 else 50
    let rev := decide (c.fix * 1000 < -(pu20 lim))
    let clr := decide (-(pu20 lim) + pu20 10 < c.fix * 1000)
    let small := decide ((c.fix.natAbs : Int) * 100 < 2 ^ 20)
    let rt := s.repTime ch s.now
    s.modFeed k (fun f =>
      { f with revRun := if rev then satInc 16 f.revRun else if clr then 0 else f.revRun,
               gone := if small then f.gone.or (some s.now) else none,
               wait := (f.wait ++ [(c.fix, rt)]).drop (f.wait.length - 63) })

/-! ### Ripple windows (R203 to R205) -/

/-- A carrier period of the feed ends at its valley: its sums join the window, but those of a period that the window's
start cut short (R203). -/
def State.ripplePeriod (s : State) (k : Nat) : State :=
  let ex := s.rd (BND.CH.CNT.EXECUTED (k + 3))
  s.modFeed k (fun f =>
    let n := Nat.max 1 f.perN
    let next := { f with perSkip := false, perAt := s.now, perN := 0, perV := 0, perP := 0, perVP := 0, perVV := 0, perExec := ex }
    if f.perSkip then { next with winAt := s.now }
    else { next with
      winPer := f.winPer + 1
      winN := f.winN + f.perN
      winV := f.winV + f.perV
      winP := f.winP + f.perP
      winVP := f.winVP + rneDiv ((f.perVP * f.perN - f.perV * f.perP) * 2 ^ 16) n
      winVV := f.winVV + rneDiv ((f.perVV * f.perN - f.perV * f.perV) * 2 ^ 16) n
      winOk := f.winOk && decide (ex ≠ f.perExec) && decide (f.perN ≠ 0) })

/-- The window is valid (R204, R205): √(S_vv / N) ≥ RC_VMIN, mean power ≥ 0.01 pu, a level change in every
period, no sweep, RC_EN. -/
def State.windowValid (s : State) (k : Nat) : Bool :=
  let f := s.feed k
  let vmin := s.rd (FED.LIM.RC_VMIN k)
  s.on FED.CTRL.RC_EN && f.winOk && !f.sweeping && decide (0 < f.winN) && decide (0 < f.winVV)
    && decide ((vmin * vmin : Nat) * (2 : Int) ^ 56 * f.winN ≤ f.winVV * 10 ^ 8)
    && decide ((2 : Int) ^ 40 * f.winN ≤ f.winP * 100)

/-- RIPPLE_WINDOW_END (R203 to R205): W periods have ended; P_k updates, g on a valid window of a tracking feed
(R196: the tracker is idle in the other modes), and v_track at the next tick. -/
def execRippleWindowEnd (t : Time) (k : Fin 8) (s : State) : Host.Outcome State Fault Refusal :=
  s.during t (fun s =>
    let f := s.feed k
    if f.winPer < s.rd (FED.RC.RC_WIN k) + 1 then s
    else
      let n := Nat.max 1 f.winN
      let p := rneDiv f.winP n
      let s := (s.modFeed k (fun f => { f with p := p })).setWord (FED.PWR.VALUE k).addr
        (satWord (rneDiv p (2 ^ 24)))
      if s.rd (FED.CFG.MODE k) ≠ 1 then s.modFeed k (·.nextWindow)
      else if s.windowValid k then
        -- s = S_vp / S_vv, g = s × v̄ / p̄ in 2^-32
        let num := f.winVP * f.winV * 2 ^ 32
        let den := f.winVV * f.winP
        let g := if den = 0 then 0 else if den < 0 then rneDiv (-num) (-den).toNat else rneDiv num den.toNat
        let s := (s.wr (FED.STATE.WEAK k) 0).setWord (FED.SLOPE.VALUE k).addr (satWord (rneDiv g (2 ^ 16)))
        s.modFeed k (fun f => { f.nextWindow with g := g, ready := f.ready ++ [(g, f.perAt - f.winAt)] })
      else (s.set (FED.STATE.WEAK k)).modFeed k (·.nextWindow))

/-! ### Sweeps (R206 to R209) -/

/-- Feed limit of R108 in 1/65,536,000 pu. -/
def State.feedLimit (s : State) (k : Nat) : Int :=
  min (s.port (0x010 * (k + 3) + 2) * 1000) (s.rd BND.FEED_ILIM.PROF * 65536 : Nat)

/-- P_k now in 2^-40 pu. -/
def State.feedP (s : State) (k : Nat) : Int := (s.feedV k).fix * (s.feedI k).fix

/-- A sweep may run at its window (R207). -/
def State.sweepAllowed (s : State) (k : Nat) : Bool :=
  decide (s.feedSt k = fsRUN) && decide (s.rd (FED.CFG.MODE k) = 1) && s.on (FED.CFG.SWEEP_EN k)
    && s.on FED.CTRL.SWEEP_EN && decide (s.code = stRUN) && !s.on BND.STATUS.POSTURE && !s.band.fault
    && !s.on (FED.STATE.LIMITED k) && decide ((2 : Int) ^ 40 ≤ (s.feed k).p * 20)
    && decide (s.rd FED.STATUS.SWEEP_FEED = 0xF)

/-- SWEEP_WINDOW (R206, R207): the window instant on PTP time, or on the RTC while that time is not
traceable. -/
def execSweepWindow (t : Time) (k : Fin 8) (s : State) : Host.Outcome State Fault Refusal :=
  s.during t (fun s =>
    let tr := s.on PTP.STATUS.TRACEABLE
    let x := (if tr then s.tai else s.rtc) % (Nat.max 1 (s.rd FED.SWEEP_SCHED.INT) * 10 ^ 9)
    let off := s.rd FED.SWEEP_SCHED.SLOT * 10 ^ 8 + k.val * 12500000
    let s := s.wrB FED.STATUS.SCHED_UNSYNC (!tr)
    if x < off ∨ off + 3 ≤ x then s
    else if s.sweepAllowed k then s.putSweep k .armed
    else (s.wr (FED.STATE.CLASS k) 5).set FED.STATUS.SWEEP_SKIP)

/-- Bin of a voltage (R208), 64 equal bins over v_lo to v_hi in 2^-48 pu. -/
def binOf (v vLo vHi : Int) : Nat :=
  if vHi ≤ vLo then 0 else (clampInt 0 63 ((v - vLo) * 64 / (vHi - vLo))).toNat

/-- p_cand of each bin, where both passes recorded it (R208), in 2^-40 pu. -/
def State.candidates (s : State) (k : Nat) (vHi vLo : Int) : List (Nat × Int) :=
  let lim := s.feedLimit k
  (List.range 64).filterMap (fun (i : Nat) =>
    match (s.feed k).bins[i]? with
    | some (sd, nd, su, nu) =>
      if nd = 0 ∨ nu = 0 then none
      else
        let p := rneDiv (rneDiv (sd * 2 ^ 8) nd + rneDiv (su * 2 ^ 8) nu) (2 ^ 9)
        let centre : Int := vLo * 128 + (vHi - vLo) * ((2 * i + 1 : Nat) : Int)          -- 2^-48/128 pu
        some (i, min p (rneDiv (lim * centre) (65536000 * 2 ^ 15)))
    | none => none)

/-- The local maxima of a list of candidates. -/
def localMax (l : List (Nat × Int)) : List (Nat × Int) :=
  let at' (j : Nat) : Int := (l.getD j (0, 0)).2
  (List.range l.length).filterMap (fun j =>
    if (j = 0 || decide (at' (j - 1) < at' j)) && (j + 1 = l.length || decide (at' (j + 1) < at' j))
    then l[j]? else none)

/-- Class of a completed sweep and its maximum's bin and power (R209). -/
def State.classify (s : State) (k : Nat) (vOp pOp vHi vLo : Int) : Nat × Nat × Int :=
  let c := s.candidates k vHi vLo
  let top := c.foldl (fun m e => if m.2 < e.2 then e else m) (c.headD (0, 0))
  let low := c.foldl (fun m e => min m e.2) top.2
  let op := binOf vOp vLo vHi
  let maxima := localMax c
  let near := maxima.foldl (fun (m : Nat × Int) e =>
    if ((e.1 : Int) - op).natAbs < ((m.1 : Int) - op).natAbs then e else m) (maxima.headD top)
  let dip (a b : Nat) : Int := (c.filter (fun e => decide (min a b ≤ e.1) && decide (e.1 ≤ max a b))).foldl
    (fun m e => min m e.2) (2 ^ 62)
  let held := maxima.any (fun e => decide (e.1 ≠ near.1)
    && decide (dip e.1 near.1 * 100 + 3 * pOp ≤ min e.2 near.2 * 100))
  let cls := if (top.2 - low) * 100 < 2 ^ 40 then 3
    else if pOp * (1000 + (s.feed k).gain) < top.2 * 1000
        ∧ 4 * (vHi - vLo) < ((2 * top.1 + 1 : Nat) * (vHi - vLo) + 128 * (vLo - vOp)).natAbs then 2
    else if held then 1 else 0
  (cls, top.1, top.2)

/-- SWEEP_PATH_DONE (R208, R209): the path is complete and the sweep is classified. -/
def execSweepPathDone (t : Time) (k : Fin 8) (s : State) : Host.Outcome State Fault Refusal :=
  s.during t (fun s =>
    match (s.feed k).sweep with
    | .path run vOp pOp vHi vLo =>
      if pathLeg run vOp vHi vLo < 3 then s else
      let (cls, bin, p) := s.classify k vOp pOp vHi vLo
      let vg := vLo + rneDiv ((vHi - vLo) * (2 * bin + 1)) 128
      let s := (s.wr (FED.STATE.CLASS k) cls).inc (FED.CNT.SWEEPS k)
      let s := (s.wr (FED.SWEEP_RES.V_G k) (rneDiv (vg * 10000) (2 ^ 48)).toNat).wr (FED.SWEEP_RES.P_G k)
        (rneDiv (p * 10000) (2 ^ 40)).toNat
      if cls = 2 then
        (s.inc (FED.CNT.MOVES k)).putSweep k (.reloc vg (4 * sweepRate vHi vLo))
      else (s.putSweep k .none).modFeed k (·.freshWindow s.now)
    | _ => s)

/-- RELOCATION_DONE (R208): v_track has reached v_g, and the ripple window restarts. -/
def execRelocationDone (t : Time) (k : Fin 8) (s : State) : Host.Outcome State Fault Refusal :=
  s.during t (fun s =>
    match (s.feed k).sweep with
    | .reloc dest _ =>
      if (s.feed k).vTrack = dest then (s.putSweep k .none).modFeed k (·.freshWindow s.now) else s
    | _ => s)

/-! ### The tick (R198 to R200, R204, R205, R208) -/

/-- A value moved toward a target by at most a step. -/
def toward (x tgt step : Int) : Int := if x < tgt then min tgt (x + step) else max tgt (x - step)

/-- The sweep moves v_track by one tick and records the frame's (v_k, p_k) (R208). -/
def State.sweepTick (s : State) (k cycles : Nat) : State :=
  let f := s.feed k
  match f.sweep with
  | .none => s
  | .armed =>
    if s.sweepAllowed k then
      let m := s.vdc * 2 ^ 28 - rneDiv ((s.rd (FED.LIM.BOOST_MARGIN k) * 2 ^ 48 : Nat) : Int) 1000
      let up := rneDiv ((s.rd FED.SWEEP.SPAN_UP * 2 ^ 48 : Nat) : Int) 100
      let dn := rneDiv ((s.rd FED.SWEEP.SPAN_DN * 2 ^ 48 : Nat) : Int) 100
      let lo := rneDiv ((s.rd (FED.LIM.V_MIN k) * 2 ^ 48 : Nat) : Int) 1000
      let w := Sweep.path 0 f.vTrack (s.feedP k) (min (f.vTrack + up) m) (max lo (f.vTrack - dn))
      let g := s.rd FED.SWEEP.GAIN_THR
      (s.putSweep k w).modFeed k (fun f => { f with bins := List.replicate 64 (0, 0, 0, 0), gain := g })
    else ((s.putSweep k .none).wr (FED.STATE.CLASS k) 5).set FED.STATUS.SWEEP_SKIP
  | .path run vOp pOp vHi vLo =>
    let leg := pathLeg run vOp vHi vLo
    let b := binOf ((s.feedV k).fix * 2 ^ 28) vLo vHi
    let p := s.feedP k
    let rec' (x : Int × Nat × Int × Nat) : Int × Nat × Int × Nat :=
      if leg = 1 then (x.1 + p, x.2.1 + 1, x.2.2.1, x.2.2.2)
      else (x.1, x.2.1, x.2.2.1 + p, x.2.2.2 + 1)
    if leg = 3 then s
    else (s.putSweep k (.path (run + cycles) vOp pOp vHi vLo)).modFeed k (fun f =>
      { f with vTrack := pathAt (run + cycles) vOp vHi vLo, bins := updAt f.bins b rec' })
  | .back dest rate =>
    let v := toward f.vTrack dest (travel rate cycles)
    let s := s.modFeed k (fun f => { f with vTrack := v })
    if v = dest then (s.putSweep k .none).modFeed k (·.freshWindow s.now) else s
  | .reloc dest rate => s.modFeed k (fun f => { f with vTrack := toward f.vTrack dest (travel rate cycles) })

/-- v_track in RUN, mode 1, after each valid window (R205). -/
def State.trackTick (s : State) (k : Nat) : State :=
  let one (v : Int) (w : Int × Nat) : Int :=
    let move := decide (s.rd (FED.RC.RC_DB k) * 2 ^ 32 < w.1.natAbs * 1000) && !s.on (FED.STATE.LIMITED k)
    let r : Int := (s.rd (FED.RC.RC_RATE k) : Int) * 2 ^ 32
    let rate := clampInt (-r) r ((s.rd (FED.RC.RC_GAIN k) : Int) * w.1)        -- 2^-32 × 0.01 pu/s
    let v := if move then v + rneDiv (rate * w.2 * 2 ^ 16) (100 * sec) else v
    let lo := rneDiv ((s.rd (FED.LIM.V_MIN k) * 2 ^ 48 : Nat) : Int) 1000
    let hi := s.vdc * 2 ^ 28 - rneDiv ((s.rd (FED.LIM.BOOST_MARGIN k) * 2 ^ 48 : Nat) : Int) 1000
    min hi (max lo v)
  s.modFeed k (fun f => { f with vTrack := f.ready.foldl one f.vTrack, ready := [] })

/-- One tick of a feed: ports shown, faults before stops, v_track, LIMITED, sweeps. -/
def State.feedTick1 (s : State) (k cycles : Nat) : State :=
  let base := 0x180 + 0x10 * k
  let stopReq := decide (2 ^ 15 ≤ s.port (base + 2))
  let s := (s.setWord (FED.VREF.VALUE k).addr (BitVec.ofInt 32 (s.port base))).setWord
    (FED.PLIM.VALUE k).addr (BitVec.ofInt 32 (s.port (base + 1)))
  let s := s.wrB (FED.STATE.STOP_REQ k) stopReq
  let act := decide (1 ≤ s.feedSt k) && decide (s.feedSt k ≤ 4)
  let trip := ((s.srcHold ||| s.latchHold) : Nat).testBit (k + 1)
  let blocked := s.on (BND.CH.STATE.BLOCKED (k + 3))
  let st := s.feedSt k
  -- a trip that has come and gone since the last tick has taken the channel OFF
  let gone := decide (st = fsSTART ∨ st = fsRUN) && !(s.leg (k + 3)).released && (s.code = stENERGIZE || s.code = stRUN)
  let s := if act && trip then s.feedFault k 0 else if act && blocked then s.feedFault k 4
    else if gone then s.feedFault k 0 else s
  let st := s.feedSt k
  let s := if (s.code = stPILOT ∨ s.code = stHALT) ∧ (st = fsSTART ∨ st = fsRUN ∨ st = fsSTOPPING) then
      ((s.sweepAbort k).putSweep k .none).feedTo k fsWAIT
    else if (st = fsSTART ∨ st = fsRUN) ∧ (stopReq ∨ ¬ (s.code = stENERGIZE ∨ s.code = stRUN)) then
      s.feedStop k
    else s
  let s := if s.band.fault || s.on (FED.STATE.LIMITED k) || (s.rd TRP.TGT.TRIPPED).testBit (k + 1)
      then s.sweepAbort k else s
  let st := s.feedSt k
  let dist (r : Nat) : Int := rneDiv ((r * 2 ^ 48 * cycles * 5 : Nat) : Int) (200 * 10 ^ 9)
  let s := if st = fsSTART then
      let r := if s.rd (FED.CFG.MODE k) = 1 then s.rd (FED.RC.RC_RATE k) else s.rdE (FED.FIX.FIX_RATE k)
      let tgt := s.startTarget k
      s.modFeed k (fun f => { f with vTrack := toward f.vTrack tgt (dist r) })
    else if st = fsRUN then
      if s.rd (FED.CFG.MODE k) = 2 then
        let tgt := s.startTarget k
        let d := dist (s.rdE (FED.FIX.FIX_RATE k))
        s.modFeed k (fun f => { f with vTrack := toward f.vTrack tgt d })
      else if (s.feed k).sweeping then s else s.trackTick k
    else
      let v := (s.frameSample (s.rd (FED.CFG.VSRC k))).fix * 2 ^ 28
      s.modFeed k (fun f => { f with vTrack := v, ready := [] })
  let s := s.sweepTick k cycles
  let v := (s.feed k).vTrack
  let s := s.setWord (FED.VTRACK.VALUE k).addr (satWord (rneDiv v (2 ^ 32)))
  -- LIMITED with 0.005 and 0.002 pu; P_k against P_STOP
  let vr := s.port base * 2 ^ 32
  let s := if v * 1000 + 5 * 2 ^ 48 < vr * 1000 then s.set (FED.STATE.LIMITED k)
    else if vr * 1000 < v * 1000 + 2 * 2 ^ 48 then s.wr (FED.STATE.LIMITED k) 0 else s
  let p := (s.feed k).p
  let stop : Int := (s.rd (FED.STOP.P_STOP k) : Int) * 2 ^ 40
  if st ≠ fsSTART ∧ st ≠ fsRUN then s.stop (.feedLow k)
  else if p * 10000 < stop then s.startIf (.feedLow k)
  else if stop + 50 * 2 ^ 40 < p * 10000 then s.stop (.feedLow k) else s

/-- The feed block's part of a tick. -/
def State.feedTick (s : State) (cycles : Nat) : State :=
  (s.each (List.range 8) (fun s k => s.feedTick1 k cycles)).wrB FED.STATUS.SCHED_UNSYNC (!s.on PTP.STATUS.TRACEABLE)

/-- Slate words 0x0100 + 8·k + j (R198). -/
def State.feedWords (s : State) (k : Nat) : List F32 :=
  let f := s.feed k
  [ (s.frameSample (s.rd (FED.CFG.VSRC k))).val, (s.frameSample (s.rd (BND.CH.CFG.SRC (k + 3)))).val, f32OfDy false ⟨f.p, -40⟩, f32OfDy false ⟨f.vTrack, -48⟩,
    f32OfDy false ⟨f.g, -32⟩, f32OfInt (s.feedSt k),
    f32OfInt (b2n (s.on (FED.STATE.SWEEPING k)) : Nat), f32OfInt (s.rd (FED.STATE.CLASS k)) ]

/-- SOFT_RAMP_DONE (R124, R200): a soft-ramped target is taken OFF as for a hard-off and becomes untripped
where nothing holds it (R259); a stopping feed's channel takes OFF. -/
def execSoftRampDone (t : Time) (g : Fin 9) (s : State) : Host.Outcome State Fault Refusal :=
  s.during t (fun s =>
    if !s.softDone g then s
    else if s.trip.ramping.testBit g then (s.hardOff g).refreshTrips
    else if 1 ≤ g.val ∧ s.feedSt (g.val - 1) = fsSTOPPING ∧ (s.leg (g + 2)).released then
      (s.legOff (g + 2)).feedLow (g.val - 1)
    else s)

end Sys2Proof.Machine
end

