-- ==== Sys2Proof/Machine/Frt.lean ====
section
/-!
DEFINITION. The ride-through detector (spec/10_ride_through.md).
-/
namespace Sys2Proof.Machine
open Reg

/-- Changes the detector's record. -/
def State.modFrt (s : State) (f : Frt → Frt) : State := { s with frt := f s.frt }

/-- Detector states (FRT.STATUS.STATE). -/
abbrev frNORMAL : Nat := 0
abbrev frFAULT : Nat := 1
abbrev frRECOVERING : Nat := 2

/-- `n` thousandths of a pu in 2^-48 pu times 1,000. -/
def pu48 (n : Nat) : Int := n * 2 ^ 48

/-- Envelope exit (R225): the cause of the first exit while source 38 is not asserted, the lowest code within
one sync sample; the source asserts. -/
def State.envExit (s : State) (cause : Nat) : State :=
  let same := decide (s.frt.exitWin.isSome ∧ s.frt.exitWin = s.sync.lastWin)
  if s.srcOn 38 then
    if same && decide (cause < s.rd FRT.STATUS.EXIT_CAUSE) then s.wr FRT.STATUS.EXIT_CAUSE cause else s
  else
    let s := (s.wr FRT.STATUS.EXIT_CAUSE cause).set FRT.STATUS.ENV_EXIT
    ((s.sat FRT.COUNT.EXITS).modFrt (fun f => { f with exitWin := s.sync.lastWin })).assertSrc 38

/-- One sync sample of the 100 ms first-order filter of R218, in 2^-48 pu: 10.24 µs / 100 ms of the way from its value to
its input, give or take 2^-12 of that for the discretization. -/
def preFilter (v x : Int) : Int :=
  let d := rneDiv ((x - v) * 1024) (10 ^ 7)
  let lim : Int := (d.natAbs / 2 ^ 12 : Nat)
  v + d + clampInt (-lim) lim (Config.preErr v x)

/-- The filter of V_pre takes a sync sample in NORMAL and RECOVERING; its value before each is kept for an entry, which
freezes it at t_exc (R218). -/
def Frt.preTake (f : Frt) (vp : Int) (rep : Nat) : Frt :=
  { f with vFilt := preFilter f.vFilt vp, vHist := ((rep, f.vFilt) :: f.vHist).take 80 }

/-- V_pre at an excursion that began at a time (R218). -/
def Frt.preAt (f : Frt) (tExc : Nat) : Int :=
  match f.vHist.find? (fun e => decide (e.1 = tExc)) with
  | some e => e.2
  | none => f.vFilt

/-! ### Fault currents (R219, R220) -/

/-- Square root of a 2^-96 value, 2^-48. -/
def root48 (x : Int) : Int := isqrt x.toNat

/-- The fault references I1D, I1Q, I2D, I2Q in 2^-48 pu, and the new id (R219). -/
def State.faultRefs (s : State) (vp vn : Int) : Int × Int × Int × Int :=
  let f := s.frt
  let one : Int := 2 ^ 48
  let vref := if s.on FRT.INJ.V_REF_SEL then one else f.vPre
  let iqMax := rneDiv (pu48 (s.rd FRT.ILIM_F.IQ_MAX)) 1000
  let i2Max := rneDiv (pu48 (s.rd FRT.ILIM_F.I2_MAX)) 1000
  let iF := rneDiv (s.gridLimit * one) 65536000
  let iq := clampInt (-iqMax) iqMax (f.i1qPre + rneDiv ((s.rd FRT.INJ.K : Int) * (vref - vp)) 10)
  let i2 := if s.on FRT.INJ.NEG_EN then min (rneDiv ((s.rd FRT.INJ.K2 : Int) * vn) 10) i2Max else 0
  let idw := if s.rd FRT.INJ.P_MODE = 0 then f.i1dPre
    else if s.rd FRT.INJ.P_MODE = 1 then
      (if vref ≤ vp ∨ vref ≤ 0 then f.i1dPre else rneDiv (f.i1dPre * vp) vref.toNat)
    else 0
  let zero := s.on FRT.STATUS.ZV && s.on FRT.INJ.ZV_MODE
  let (iq, i2, idw) := if zero then (0, 0, 0) else (iq, i2, idw)
  let (iq, i2, idw) :=
    if !s.on FRT.INJ.PRIO then
      let iq := clampInt (-iF) iF iq
      let i2 := min i2 (iF - iq.natAbs)
      (iq, i2, min idw (root48 ((iF - i2) * (iF - i2) - iq * iq)))
    else
      let idw := min idw iF
      let m := root48 (iF * iF - idw * idw)
      let iq := clampInt (-m) m iq
      (iq, min i2 (iF - root48 (idw * idw + iq * iq)), idw)
  let rise := rneDiv ((s.rd FRT.REC.REC_RATE * 2 ^ 48 * 1024 : Nat) : Int) (100 * 10 ^ 8)
  let id := min idw (f.idPrev + rise)
  if iF ≤ 0 ∨ s.on (BND.CH.STATE.TRIPPED 0) = true then (0, 0, 0, 0)
  else
    let a := s.sync.negTurn.toNat / 2 ^ 32
    (id, iq, rneDiv (i2 * sinU32 a) (2 ^ 64), rneDiv (i2 * cosU32 a) (2 ^ 64))

/-- The references go to the band law and their registers (R219, R220). -/
def State.putRefs (s : State) (vp vn : Int) : State :=
  let (d, q, d2, q2) := s.faultRefs vp vn
  let show' (x : Int) : Word := satWord (rneDiv x (2 ^ 32))
  let s := (s.setWord FRT.I1D.VALUE.addr (show' d)).setWord FRT.I1Q.VALUE.addr (show' q)
  let s := (s.setWord FRT.I2D.VALUE.addr (show' d2)).setWord FRT.I2Q.VALUE.addr (show' q2)
  let up (x : Int) : Int := x * 2 ^ 32
  { (s.modFrt (fun f => { f with idPrev := d })) with
    band := { s.band with frt := some (up d, up q, up d2, up q2) } }

/-- The references of the latest sync sample; one that is invalid counts as 0 (R83). -/
def State.putNow (s : State) : State :=
  let ok := s.sync.valid
  s.putRefs (if ok then dySqrtFix s.sync.loc.posSq 48 else 0) (if ok then dySqrtFix s.sync.loc.negSq 48 else 0)

/-! ### Entry, abandon and jumps (R217, R222) -/

/-- Entry to FAULT (R217, R218, R226, R227): the detector's references are in force at once (R107). -/
def State.frtEnter (s : State) (cause tExc : Nat) : State :=
  let i1d := max 0 (rneDiv (s.rampVal 0) (2 ^ 32))
  let i1q := rneDiv (s.rampVal 1) (2 ^ 32)
  let win := s.rd FRT.REP.REP_WIN * sec
  let es := (s.now :: s.frt.entries).take 16
  let n := (es.filter (fun t => decide (s.now ≤ t + win))).length
  let v := s.frt.preAt tExc
  let s := s.modFrt (fun f =>
    { f with i1dPre := i1d, i1qPre := i1q, vPre := v, vFilt := v, pPre := rneDiv (v * i1d) (2 ^ 48), idPrev := i1d,
             entries := es, tExc := tExc, uvRun := 0, ovRun := 0, inSince := none, outRun := 0,
             cap := 3 * 2 ^ 47 })
  let s := (s.wr FRT.STATUS.STATE frFAULT).wr FRT.STATUS.CAUSE cause
  let s := ((s.set FRT.STATUS.ENTRY).sat FRT.COUNT.ENTRIES).wr64 FRT.T_EXC.TAI_NS tExc
  let s := (s.setWord FRT.V_PRE.VALUE.addr (satWord (rneDiv v (2 ^ 32)))).setWord FRT.REC_CAP.VALUE.addr 0x00018000
  -- the PQ window in progress is flagged (R309)
  let s := { s with band := { s.band with fault := true } }
  let pq := s.mtr.pq.map (fun w => { w with frt := true })
  let s := { s with mtr := { s.mtr with pq := pq } }
  let s := if s.on FRT.INJ.DUMP_FRT && s.on (BND.CH.CFG.ENABLE 11) then s.set FRT.STATUS.DUMP_ACT else s
  let s := s.putNow
  if s.rd FRT.REP.REP_N < n then s.envExit 6 else s

/-- A band exit or a grid jump calls for FAULT (R217): with EN at 0 a band exit is an envelope exit. -/
def State.frtBandExit (s : State) (cause tExc : Nat) : State :=
  if s.on FRT.ENV_CFG.EN then s.frtEnter cause tExc else s.envExit 7

/-- The detector returns to NORMAL because the state left RUN (R217, R225); no ZV condition runs outside it (R216). -/
def State.frtAbandon (s : State) : State :=
  let was := s.rd FRT.STATUS.STATE
  let s := if s.srcOn 38 then s.dropSrc 38 else s
  let s := (s.modFrt (fun f => { f with zvAt := none })).wr FRT.STATUS.ZV 0
  if was = frNORMAL then s.modFrt (fun f => { f with outRun := 0 })
  else
    let s := if s.band.fault then s.startReturn else s
    let s := ((s.wr FRT.STATUS.STATE frNORMAL).wr FRT.STATUS.DUMP_ACT 0).wr FRT.STATUS.JUMP_HOLD 0
    let s := { (s.stop .frtJumpHold) with band := { s.band with frt := none } }
    let s := s.setWord FRT.REC_CAP.VALUE.addr 0x00018000
    (s.modFrt (fun f => { f with cap := 3 * 2 ^ 47, outRun := 0, inSince := none, f := 2 ^ 32 })).showScale

/-- A grid jump is reported (R222): `mag` its magnitude in 2^-64 turns, `tj` its representative time. -/
def State.frtJump (s : State) (mag tj : Nat) : State :=
  if s.code ≠ stRUN then s
  else if deg (s.rd FRT.JUMP.JUMP_MAX) 1 < mag then s.envExit 4
  else if mag < deg (s.rd FRT.JUMP.JUMP_FLT) 1 then s
  else if s.rd FRT.STATUS.STATE = frFAULT then
    ((s.start .frtJumpHold).set FRT.STATUS.JUMP_HOLD).wrBit FRT.STATUS.CAUSE 3 true
  else if s.on FRT.ENV_CFG.EN then
    ((s.frtEnter 8 tj).start .frtJumpHold).set FRT.STATUS.JUMP_HOLD
  else s

/-- JUMP_HOLD_EXPIRY (R222). -/
def execJumpHoldExpiry (t : Time) (s : State) : Host.Outcome State Fault Refusal :=
  s.during t (fun s =>
    if s.due .frtJumpHold (s.rd FRT.JUMP.JUMP_T * ms) then
      (s.stop .frtJumpHold).wr FRT.STATUS.JUMP_HOLD 0
    else s)

/-! ### The sync sample (R216, R218, R221, R224) -/

/-- An envelope curve at `tau` ns after t_exc, in 1/1,000 pu as a fraction (R224). -/
def curveAt (pts : List (Nat × Nat)) (tau : Nat) : Int × Nat :=
  match pts with
  | [] => (0, 1)
  | [(_, v)] => (v, 1)
  | (t0, v0) :: (t1, v1) :: rest =>
    if t1 * 1000000 ≤ tau then curveAt ((t1, v1) :: rest) tau
    else if t1 ≤ t0 then (v0, 1)
    else
      let d := (t1 - t0) * 1000000
      ((v0 : Int) * d + ((v1 : Int) - v0) * (tau - t0 * 1000000 : Nat), d)

/-- The envelopes' points. -/
def State.uvPts (s : State) : List (Nat × Nat) :=
  (List.range (min 16 (s.rd FRT.ENV_CFG.UV_N))).map (fun i => (s.rd (FRT.UV_PT.T_MS i), s.rd (FRT.UV_PT.V i)))
def State.ovPts (s : State) : List (Nat × Nat) :=
  (List.range (min 16 (s.rd FRT.ENV_CFG.OV_N))).map (fun i => (s.rd (FRT.OV_PT.T_MS i), s.rd (FRT.OV_PT.V i)))

/-- The detector takes one sync sample: |V+| and |V−| in 2^-48 pu, both 0 for an invalid one, at its
representative time. -/
def State.frtSample (s : State) (vp vn : Int) (rep : Nat) : State :=
  if s.code ≠ stRUN then s.frtAbandon.modFrt (·.preTake vp rep)
  else
    let uv := decide (vp * 1000 < pu48 (s.rd FRT.BAND.UV_THR))
    let ov := decide (pu48 (s.rd FRT.BAND.OV_THR) < vp * 1000)
    let v2 := s.rd FRT.DET.V2_THR
    let un := decide (v2 ≠ 0) && decide (pu48 v2 < vn * 1000)
    let out := uv || ov || un
    let hy := s.rd FRT.DET.HYST
    let inside := decide (pu48 (s.rd FRT.BAND.UV_THR + hy) ≤ vp * 1000)
      && decide (vp * 1000 ≤ pu48 (s.rd FRT.BAND.OV_THR) - pu48 hy)
      && (decide (v2 = 0) || decide (vn * 1000 ≤ pu48 v2 - pu48 hy))
    let zv := decide (vp * 1000 < pu48 (s.rd FRT.ZV.ZV_THR))
    let st := s.rd FRT.STATUS.STATE
    let tau := rep - s.frt.tExc
    let (un1, ud) := curveAt s.uvPts tau
    let (on1, od) := curveAt s.ovPts tau
    let under := decide (vp * 1000 * ud < un1 * 2 ^ 48)
    let high := decide (on1 * 2 ^ 48 < vp * 1000 * od)
    let s := (s.wrB FRT.STATUS.ZV zv).modFrt (fun f =>
      { f with
        outRun := if out then satInc 64 f.outRun else 0
        outAt := if out && decide (f.outRun ≠ 0) then f.outAt else rep
        outCause := b2n uv + 2 * b2n ov + 4 * b2n un
        inSince := if inside then f.inSince.or (some s.now) else none
        zvAt := if zv then f.zvAt.or (some s.now) else none
        uvRun := if decide (st = frFAULT) && under then satInc 16 f.uvRun else 0
        ovRun := if decide (st = frFAULT) && high then satInc 16 f.ovRun else 0 })
    let s := if st = frFAULT then s else s.modFrt (·.preTake vp rep)
    if st = frFAULT || s.band.frt.isSome then s.putRefs vp vn else s

/-- FRT_ENTRY (R216, R217): FILT + 1 consecutive sync samples outside the band. -/
def execFrtEntry (t : Time) (s : State) : Host.Outcome State Fault Refusal :=
  s.during t (fun s =>
    if s.code = stRUN ∧ s.rd FRT.STATUS.STATE ≠ frFAULT ∧ s.rd FRT.DET.FILT + 1 ≤ s.frt.outRun then
      s.frtBandExit s.frt.outCause s.frt.outAt
    else s)

/-- FRT_RETURN (R217, R229): every sample inside the band with hysteresis for EXIT_T and JUMP_HOLD clear; an
exit in the same sync sample wins (R225). -/
def execFrtReturn (t : Time) (s : State) : Host.Outcome State Fault Refusal :=
  s.during t (fun s =>
    let long := match s.frt.inSince with
    | some t0 => decide (t0 + s.rd FRT.DET.EXIT_T * ms ≤ s.now) | none => false
    let exit := decide (s.frt.exitWin.isSome ∧ s.frt.exitWin = s.sync.lastWin)
    if s.rd FRT.STATUS.STATE = frFAULT ∧ long = true ∧ ¬ s.on FRT.STATUS.JUMP_HOLD ∧ exit = false then
      let s := s.showScale.startReturn
      let cap := rneDiv (dySqrtFix s.sync.loc.posSq 48 * s.frt.idPrev) (2 ^ 48)
      (s.wr FRT.STATUS.STATE frRECOVERING).modFrt (fun f =>
        { f with ticks := 0, cap := cap, fAt := s.now, outRun := 0 })
    else s)

/-- FRT_HANDOVER (R229): at the second tick after the return the ramps take the detector's references, and
ramp on toward the committed targets. -/
def execFrtHandover (t : Time) (s : State) : Host.Outcome State Fault Refusal :=
  s.during t (fun s =>
    if s.rd FRT.STATUS.STATE ≠ frFAULT ∧ 2 ≤ s.frt.ticks then
      let s := if (s.leg 0).soft then s else s.rampsTakeFrt
      { s with band := { s.band with frt := none } }
    else s)

/-- ENVELOPE_EXIT (R224): beyond a curve for ENV_FILT + 1 sync samples. -/
def execEnvelopeExit (t : Time) (s : State) : Host.Outcome State Fault Refusal :=
  s.during t (fun s =>
    let n := s.rd FRT.ENV_CFG.ENV_FILT + 1
    if s.rd FRT.STATUS.STATE ≠ frFAULT then s
    else if n ≤ s.frt.uvRun then s.envExit 1
    else if n ≤ s.frt.ovRun then s.envExit 2 else s)

/-- ZV_TIME_EXIT (R221): the ZV condition has held for longer than ZV_MAX. -/
def execZvTimeExit (t : Time) (s : State) : Host.Outcome State Fault Refusal :=
  s.during t (fun s =>
    match s.frt.zvAt with
    | some t0 => if s.code = stRUN ∧ t0 + s.rd FRT.ZV.ZV_MAX * ms < s.now then s.envExit 3 else s
    | none => s)

/-- ANGLE_VALID = 0 in RUN (R223). -/
def State.angleLost (s : State) : State :=
  if s.code = stRUN ∧ ¬ s.on SYN.STATUS.ANGLE_VALID then s.envExit 5 else s

/-! ### The tick (R229, R230) -/

/-- The detector's part of a tick: the recovery cap rises, and recovery completes (R229). -/
def State.frtTick (s : State) (cycles : Nat) : State :=
  let s := s.modFrt (fun f => { f with ticks := satInc 3 f.ticks })
  if s.rd FRT.STATUS.STATE ≠ frRECOVERING then s
  else
    let rise := rneDiv ((s.rd FRT.REC.REC_RATE * 2 ^ 48 * cycles * 5 : Nat) : Int) (200 * 10 ^ 9)
    let cap := if s.frt.ticks ≤ 1 then s.frt.cap else s.frt.cap + rise
    let done := decide ((s.frt.pPre * 1000 + pu48 (s.rd FRT.REC.REC_MARGIN)) ≤ cap * 1000)
      || decide (3 * 2 ^ 47 ≤ cap)
    let cap := if done then 3 * 2 ^ 47 else cap
    let s := (s.modFrt (fun f => { f with cap := cap })).setWord FRT.REC_CAP.VALUE.addr
      (satWord (rneDiv cap (2 ^ 32)))
    if done then (s.wr FRT.STATUS.STATE frNORMAL).wr FRT.STATUS.DUMP_ACT 0 else s

/-- Slate words 0x0140 to 0x0145 (R230). -/
def State.frtWords (s : State) : List F32 :=
  let st := s.rd FRT.STATUS.STATE
  [ f32OfDy false ⟨if st = frRECOVERING then s.frt.cap else 3 * 2 ^ 47, -48⟩,
    f32OfInt (b2n (decide (st ≠ frRECOVERING)) : Nat), f32OfDy false ⟨s.frt.vPre, -48⟩,
    (if st = frNORMAL then 0 else f32OfRat false ((s.tai : Int) - s.frt.tExc) (10 ^ 9)),
    f32OfDy false ⟨s.feedScale, -32⟩, f32OfInt st ]

end Sys2Proof.Machine
end

