-- ==== Sys2Proof/Machine/Isd.lean ====
section
/-!
DEFINITION. Islanding detection and reconnection (spec/11_islanding.md, R233 to R248).
-/
namespace Sys2Proof.Machine
open Reg

/-! ### Decisions (R233, R234) -/

/-- An islanding decision of a method, by its DEC_ bit (R233, R234). Its time is that of the sync sample
it falls in; several decisions in one sync sample count once. -/
def State.isdDecide (s : State) (dec : Field) : State :=
  let s := s.set dec
  let s := if dec ≠ ISD.STATUS.DEC_TOPO ∧ s.on ISD.CTRL.TOPO_EN ∧ s.on ISD.STATUS.TIED then
      s.set ISD.STATUS.DISAGREE else s
  let same := s.isd.decWin.isSome && decide (s.isd.decWin = s.sync.lastWin)
  let s := if same then s else s.sat ISD.COUNT.DECISIONS
  let s := s.wr64 ISD.T_DEC.TAI_NS (if s.sync.lastWin.isSome then s.sync.rep else s.tai)
  let s := (s.modIsd (fun i => { i with decWin := s.sync.lastWin })).stop .recon
  let s := (s.wr ISD.STATUS.RECON_OK 0).wr ISD.RECON_T.LEFT (s.rd ISD.RECON_T.DELAY)
  if s.code = stENERGIZE ∨ s.code = stRUN then
    let s := (s.set ISD.STATUS.ISLAND).assertSrc 37
    s.modSys (fun y => { y with
      wantStop := if y.wantStop = .none then .islanding else y.wantStop })
  else s

/-! ### Topology (R235 to R238) -/

/-- Position code of a device (R236). -/
def State.devPos (s : State) (i : Nat) : Nat :=
  s.rd (ISD.POS.WORD (i / 16)) / 4 ^ (i % 16) % 4

/-- Stores a position code. -/
def State.putPos (s : State) (i code : Nat) : State :=
  let f := ISD.POS.WORD (i / 16)
  let w := s.rd f
  s.wr f (w - (w / 4 ^ (i % 16) % 4) * 4 ^ (i % 16) + code % 4 * 4 ^ (i % 16))

/-- A device is supervision-lost (R236). -/
def State.supvLost (s : State) (i : Nat) : Bool := s.bitOf (ISD.SUPV.WORD (i / 32)) (i % 32)

/-- TOPO_DEGRADED: any enabled device is supervision-lost (R236). -/
def State.refreshDegraded (s : State) : State :=
  s.wrB ISD.STATUS.TOPO_DEGRADED
    ((List.range 96).any (fun (i : Nat) => s.on (ISD.DEV.EN i) && s.supvLost i))

/-- A device enters supervision loss (R236); one already lost stays. -/
def State.supvLose (s : State) (i : Nat) : State :=
  if s.supvLost i then s
  else (((s.wrBit (ISD.SUPV.WORD (i / 32)) (i % 32) true).sat ISD.COUNT.SUPV_LOSS).start
    (.supvHold i)).refreshDegraded

/-- A valid message ends the loss at once (R236). -/
def State.supvEnd (s : State) (i : Nat) : State :=
  (((s.wrBit (ISD.SUPV.WORD (i / 32)) (i % 32) false).stop (.supvHold i)).modIsd
    (fun x => { x with holdOut := setBit x.holdOut i false })).refreshDegraded

/-- A device is treated as conducting (R236). -/
def State.conducts (s : State) (i : Nat) : Bool :=
  s.on (ISD.DEV.EN i) && decide (s.devPos i = 2)
    && !(s.supvLost i && s.isd.holdOut.testBit i)

/-- One pass of the topology evaluation over the conducting devices, as pairs of nodes (R237). -/
def spread (ds : List (Nat × Nat)) (m : Nat) : Nat :=
  ds.foldl (fun m d => if m.testBit d.1 || m.testBit d.2 then m ||| 2 ^ d.1 ||| 2 ^ d.2 else m) m

/-- Passes until no node can be added: 64 nodes need at most 64 (R237). -/
def spreadAll (ds : List (Nat × Nat)) : Nat → Nat → Nat
  | 0, m => m
  | n + 1, m => spreadAll ds n (spread ds m)

/-- A source is live (R238). -/
def State.srcLive (s : State) (j : Nat) : Bool := !s.on (ISD.SRC.LIVE_EN j) || s.isd.live.testBit j

/-- TIED as the network stands (R237). -/
def State.tiedNow (s : State) : Bool :=
  let ds := ((List.range 96).filter s.conducts).map (fun (i : Nat) =>
    (s.rd (ISD.DEV.NODE_A i), s.rd (ISD.DEV.NODE_B i)))
  let m := spreadAll ds 64 (2 ^ s.rd ISD.CTRL.PCC)
  (List.range 32).any (fun (j : Nat) =>
    s.on (ISD.SRC.EN j) && s.srcLive j && m.testBit (s.rd (ISD.SRC.NODE j)))

/-- TIED is recomputed (R237): its fall, or the first evaluation, starts the filter and its return
cancels it. -/
def State.topoEval (s : State) (first : Bool) : State :=
  let old := s.on ISD.STATUS.TIED
  let new := s.tiedNow
  let s := s.wrB ISD.STATUS.TIED new
  if new then s.stop .topo
  else if s.on ISD.CTRL.TOPO_EN && (old || first) then s.startIf .topo else s

/-- TOPO_DECISION (R237): TIED has read 0 for TOPO_FILT. -/
def execTopoDecision (t : Time) (s : State) : Host.Outcome State Fault Refusal :=
  s.during t (fun s =>
    if s.on ISD.CTRL.TOPO_EN && !s.on ISD.STATUS.TIED
      && s.due .topo (s.rd ISD.TOPO_CFG.TOPO_FILT * 100 * us) then
      (s.stop .topo).isdDecide ISD.STATUS.DEC_TOPO
    else s)

/-- SUPV_HOLD_EXPIRY (R236): the position of a supervision-lost device was held for SUPV_HOLD and is
now treated as open. -/
def execSupvHoldExpiry (t : Time) (dev : Fin 96) (s : State) : Host.Outcome State Fault Refusal :=
  s.during t (fun s =>
    if s.supvLost dev && s.due (.supvHold dev) (s.rd ISD.TOPO_CFG.SUPV_HOLD * ms) then
      ((s.stop (.supvHold dev)).modIsd (fun x => { x with holdOut := setBit x.holdOut dev true })).topoEval
        false
    else s)

/-- Source-live states from the fused quantities of a slate (R238): valid and at least LIVE_THR, with
0.02 pu hysteresis. `q` gives a quantity's value in 2^-20 pu where it is valid. -/
def State.liveTick (s : State) (q : Nat → Option Int) : State :=
  let live (j : Nat) : Bool :=
    match q (s.rd (ISD.SRC.LIVE_Q j)) with
    | none => false
    | some v =>
      let thr : Int := (s.rd (ISD.SRC.LIVE_THR j) * 2 ^ 20 : Nat)
      decide ((if s.isd.live.testBit j then thr - 20 * 2 ^ 20 else thr) ≤ v * 1000)
  let m := (List.range 32).foldl (fun m j =>
    if s.on (ISD.SRC.EN j) && s.on (ISD.SRC.LIVE_EN j) && live j then m + 2 ^ j else m) 0
  if m = s.isd.live then s else (s.modIsd (fun i => { i with live := m })).topoEval false

/-! ### Passive windows (R239, R240) -/

/-- The action of a window: 0 off, 1 alarm, 2 decision. -/
def State.passAct (s : State) (w : Nat) : Nat := s.rd ISD.P_ACT.ACT / 4 ^ w % 4

/-- The delay of a window. -/
def State.passDelay (s : State) (w : Nat) : Nat :=
  10 * ms * (if w ≤ 1 then s.rd ISD.P_TIME.F_T else if w ≤ 3 then s.rd ISD.P_TIME.V_T
    else if w = 4 then s.rd ISD.P_TIME.R_T else if w = 5 then 0 else s.rd ISD.P_TIME.U_T)

/-- The ride-through detector blocks a window (R240): every one but UF and OF. -/
def State.passBlocked (s : State) (w : Nat) : Bool :=
  !s.on ISD.CTRL.PASS_EN || decide (s.passAct w = 0)
    || (decide (2 ≤ w) && decide (s.rd FRT.STATUS.STATE ≠ frNORMAL))

/-- A window takes its condition, and whether the condition is clear by its hysteresis (R239). -/
def State.passTake (s : State) (w : Nat) (cond clear : Bool) : State :=
  let b := s.passBlocked w
  s.modIsd (fun i => { i with
    since := i.since.upd w (fun o =>
      if b || !cond then none else some (o.getD s.now))
    picked := if b || clear then setBit i.picked w false else i.picked })

/-- A magnitude, given as a square, is above `n / d` pu. -/
def isAbove (sq : Dy) (n d : Nat) : Bool := dyLt ⟨n * n, 0⟩ (dyMul sq ⟨d * d, 0⟩)

/-- The windows evaluated at each sync sample (R239). -/
def State.passSample (s : State) : State :=
  let f := s.rd SYN.F_SEL.VALUE
  let uf := s.rd ISD.P_FREQ.UF_THR * 10000
  let ofr := s.rd ISD.P_FREQ.OF_THR * 10000
  let uv := s.rd ISD.P_VOLT.UV_THR
  let ov := s.rd ISD.P_VOLT.OV_THR
  let p := s.sync.loc.posSq
  let n := s.sync.loc.negSq
  let ub := s.rd ISD.P_MISC.UNB_THR
  let unb (k : Nat) : Bool := dyLt (dyMul p ⟨k * k, 0⟩) (dyMul n ⟨1000000, 0⟩)
  let s := s.passTake 0 (decide (f < uf)) (decide (uf + 50000 ≤ f))
  let s := s.passTake 1 (decide (ofr < f)) (decide (f + 50000 ≤ ofr))
  let s := s.passTake 2 (!atLeast p uv 1000) (atLeast p (uv + 20) 1000)
  let s := s.passTake 3 (isAbove p ov 1000) (!isAbove p (ov - 20) 1000)
  s.passTake 6 (unb ub) (!unb (ub - 5))

/-- The ROCOF window, evaluated at each wrap (R239). -/
def State.passRocof (s : State) : State :=
  let r := (s.rdI SYN.ROCOF.VALUE).natAbs * 20
  let k := s.rd ISD.P_MISC.ROCOF_THR
  s.passTake 4 (decide (k * 65536 < r)) (decide (r ≤ (k - 4) * 65536))

/-- The VS window at a reported grid jump, its angle in 2^-64 turns (R239, R240). -/
def State.passJump (s : State) (d : Int) : State :=
  s.passTake 5 (decide (deg (s.rd ISD.P_MISC.VS_THR) 1 ≤ d.natAbs)) true

/-- PASSIVE_WINDOW_PICKUP (R239): a window's condition has held for its delay: alarm or decision. -/
def execPassiveWindowPickup (t : Time) (w : Fin 7) (s : State) : Host.Outcome State Fault Refusal :=
  s.during t (fun s =>
    let held := match s.isd.since.get w none with
    | some t0 => decide (t0 + s.passDelay w ≤ s.now)
    | none => false
    if held && !s.isd.picked.testBit w && !s.passBlocked w then
      let s := s.setAt ISD.STATUS.PASS_WIN w
      let s := s.modIsd (fun i => if w = 5 then { i with since := i.since.upd 5 (fun _ => none) }
        else { i with picked := setBit i.picked w true })
      if s.passAct w = 2 then s.isdDecide ISD.STATUS.DEC_PASS else s
    else s)

/-! ### Active probe (R241 to R245) -/

/-- The code sequence a of R242, as a number whose bit n is a[n]. -/
def chipCode (n : Nat) : Bool :=
  let a := [1, 1, 1, 1, 1, 0, 0, 0, 1, 1, 0, 1, 1, 1, 0, 1, 0, 1, 0, 0, 0, 0, 1, 0, 0, 1, 0, 1, 1, 0, 0]
  decide (a.getD (n % 31) 0 = 1)

/-- The demodulator takes one resampled sample set; `ok` where no sample is invalid, disturbed or
free-run (R243). -/
def State.chipTake (s : State) (x : ChipSample) (ok : Bool) : State :=
  let s := s.probeCheck
  if s.isd.clean then
    if ok && s.on PTP.STATUS.TRACEABLE then s.modIsd (fun i => { i with samples := x :: i.samples })
    else s.modIsd (fun i => { i with clean := false })
  else s

/-- The weighted sums Σ w V and Σ w I over the latest chips, w = c − 1 (R243). -/
def chipSums (cs : List Chip) : Dy × Dy × Dy × Dy :=
  let m := cs.filter (·.minus)
  let sum (f : Chip → Dy) : Dy := m.foldl (fun a c => dyAdd a (dyMul ⟨-2, 0⟩ (f c))) ⟨0, 0⟩
  (sum (·.vRe), sum (·.vIm), sum (·.iRe), sum (·.iIm))

/-- The complex positive-sequence phasor of one quantity at f_p (R243): what the removal of the fundamental and its
harmonics leaves of the samples, turned back by θ_p and averaged with a Hann window over the chip. `th` and `l` give
θ_p and (α, β) of each sample. -/
def chipPhasor (th : List Nat) (l : List (Dy × Dy)) (ratio : Nat) : Dy × Dy :=
  let n := l.length
  -- 1 − cos(2π i / N) in 2^-64; its sum over the chip is N
  let hann (i : Nat) : Int := 2 ^ 64 - cosU32 (2 ^ 32 * i / Nat.max 1 n)
  let part (i : Nat) : Int × Int :=
    let r := Config.chipResidue l ratio i
    let c := cosU32 (th.getD i 0)
    let q := sinU32 (th.getD i 0)
    ((r.1 * c + r.2 * q) * hann i, (r.2 * c - r.1 * q) * hann i)
  let sum := (List.range n).foldl (fun (a : Int × Int) i => (a.1 + (part i).1, a.2 + (part i).2)) (0, 0)
  (⟨rneDiv sum.1 (Nat.max 1 n), -168⟩, ⟨rneDiv sum.2 (Nat.max 1 n), -168⟩)

/-- The chip in progress closes (R243); `next`: the chip that follows it begins. -/
def State.closeChip (s : State) (next : Bool) : State :=
  let i := s.isd
  if i.clean && s.on ISD.STATUS.PROBING && next && !i.samples.isEmpty then
    let r := s.rd ISD.PROBE.RATIO
    let th := i.samples.map (·.th)
    let v := chipPhasor th (i.samples.map (fun x => (x.va, x.vb))) r
    let c := chipPhasor th (i.samples.map (fun x => (x.ia, x.ib))) r
    let chips := (({ vRe := v.1, vIm := v.2, iRe := c.1, iIm := c.2, minus := i.minus } : Chip)
      :: i.chips).take 31
    let s := s.modIsd (fun i => { i with chips := chips, cleanRun := satInc 31 i.cleanRun })
    let (_, _, a, b) := chipSums chips
    let sq := dyAdd (dyMul a a) (dyMul b b)
    if 31 ≤ s.isd.cleanRun ∧ atLeast sq (16 * i.level) 10000 then s.set ISD.STATUS.Z_VALID else s
  else (s.wr ISD.STATUS.Z_VALID 0).modIsd (fun i => { i with chips := [], cleanRun := 0, zRun := 0 })

/-- PROBE_CHIP_BOUNDARY (R241 to R243): a multiple of 20 ms of TAI has passed, so the chip in progress closes, and the
next takes its LEVEL and chip value; the probe runs from here where its conditions hold. -/
def execProbeChipBoundary (t : Time) (s : State) : Host.Outcome State Fault Refusal :=
  s.during t (fun s =>
    let k := s.tai / 20000000
    if s.isd.chip = some k then s
    else
      let s := s.probeCheck.probeAdvance.closeChip (decide (s.isd.chip.map (· + 1) = some k))
      let may := s.probeMay
      (s.wrB ISD.STATUS.PROBING may).modIsd (fun i =>
      { i with level := s.rd ISD.PROBE.LEVEL, minus := chipCode (k + s.rd ISD.PROBE.CODE), chip := some k,
               clean := may, samples := [], boundary := some s.now }))

/-- Dyadic numbers as integers at one exponent. -/
def dyInts (l : List Dy) : List Int :=
  let e := l.foldl (fun e d => if d.m = 0 then e else min e d.e) 0
  l.map (fun d => if d.m = 0 then 0 else d.m * 2 ^ (d.e - e).toNat)

/-- √(n / d) in Q15.16, rounded and saturated. -/
def q16Sqrt (n d : Nat) : Word :=
  if d = 0 then 0x7FFFFFFF else satWord ((isqrt (n * 2 ^ 34 / d) + 1) / 2 : Nat)

/-- Z_R, Z_X, SCR and Z_ACT from the weighted sums (R243, R244). -/
def State.publishZ (s : State) : State :=
  let (a, b, c, d) := chipSums s.isd.chips
  match dyInts [a, b, c, d] with
  | [vr, vi, ir, ii] =>
    let den := (ir * ir + ii * ii).toNat
    let re := vr * ir + vi * ii
    let im := vi * ir - vr * ii
    let ra := s.rd ISD.PROBE.RATIO
    let n2 := (re * re * (ra * ra : Nat) + 4096 * im * im).toNat
    let d2 := den * den * ra * ra
    (((s.setWord ISD.Z_R.VALUE.addr (q16 re den)).setWord ISD.Z_X.VALUE.addr
      (q16 (im * 64) (den * ra))).setWord ISD.SCR.VALUE.addr (q16Sqrt d2 n2)).setWord
        ISD.Z_ACT.VALUE.addr (q16Sqrt n2 d2)
  | _ => s

/-- Z_PUBLISH (R244, R245): 1 ms after a chip boundary. -/
def execZPublish (t : Time) (s : State) : Host.Outcome State Fault Refusal :=
  s.during t (fun s =>
    match s.isd.boundary with
    | none => s
    | some b =>
      if b + ms ≤ s.now then
        let s := s.modIsd (fun i => { i with boundary := none })
        if s.on ISD.STATUS.Z_VALID then
          let s := s.publishZ
          let z := s.rd ISD.Z_ACT.VALUE * 1000
          let lim := s.rd ISD.ACT_CFG.Z_ISL * 65536
          let n := if lim < z then satInc 17 s.isd.zRun
            else if z * 10 < lim * 9 then 0 else s.isd.zRun
          let hit := decide (lim < z) && decide (n = s.rd ISD.ACT_CFG.Z_FILT + 1)
          let s := s.modIsd (fun i => { i with zRun := n })
          if hit && s.on ISD.CTRL.ACT_EN then s.isdDecide ISD.STATUS.DEC_ACT else s
        else s.modIsd (fun i => { i with zRun := 0 })
      else s)

/-! ### Reconnection (R246) -/

/-- The conditions of R246. -/
def State.reconMay (s : State) : Bool :=
  let f := s.rd SYN.F_SEL.VALUE
  let p := s.sync.loc.posSq
  decide (s.rd ISD.RECON_F.LO * 10000 ≤ f) && decide (f ≤ s.rd ISD.RECON_F.HI * 10000)
    && atLeast p (s.rd ISD.RECON_V.LO) 1000 && !isAbove p (s.rd ISD.RECON_V.HI) 1000
    && decide (s.rd SYN.STATUS.STATE = syLOCKED)
    && (!s.on ISD.CTRL.TOPO_EN || (s.on ISD.STATUS.TIED && !s.on ISD.STATUS.TOPO_DEGRADED))

/-- RECON_OK sets, which ends the islanding source (R233, R246). -/
def State.reconSet (s : State) : State :=
  if s.on ISD.STATUS.RECON_OK then s
  else
    let s := ((s.set ISD.STATUS.RECON_OK).wr ISD.RECON_T.LEFT 0).wr ISD.STATUS.ISLAND 0
    s.dropSrc 37

/-- The reconnection timer at a sync sample (R246). -/
def State.reconSample (s : State) : State :=
  let d := s.rd ISD.RECON_T.DELAY
  if s.reconMay then
    let s := s.startIf .recon
    if d = 0 then s.reconSet
    else if s.on ISD.STATUS.RECON_OK then s
    else s.wr ISD.RECON_T.LEFT (d - (s.now - (s.startedAt .recon).getD s.now) / sec)
  else ((s.stop .recon).wr ISD.STATUS.RECON_OK 0).wr ISD.RECON_T.LEFT d

/-- RECON_DELAY_EXPIRY (R246): the conditions have held for DELAY. -/
def execReconDelayExpiry (t : Time) (s : State) : Host.Outcome State Fault Refusal :=
  s.during t (fun s => if s.due .recon (s.rd ISD.RECON_T.DELAY * sec) then s.reconSet else s)

end Sys2Proof.Machine
end

