-- ==== Sys2Proof/Machine/Operands.lean ====
section
/-!
DEFINITION. The operand forms of a shot (spec/02_frame_and_script.md R41, R42, R44, R53): which
words and coefficients each opcode reads and writes, and which shot words are legal.
-/
namespace Sys2Proof

/-- The enabled lanes, lowest first (R42). -/
def Shot.on (w : Shot) : List Nat := (List.range 4).filter (fun i => w.lanes.getLsbD i)

/-- M bit 2: the coefficient is broadcast (R42). -/
def Shot.broadcast (w : Shot) : Bool := w.mode.getLsbD 2

/-- M bit 0. -/
def Shot.m0 (w : Shot) : Bool := w.mode.getLsbD 0

/-- M bit 1. -/
def Shot.m1 (w : Shot) : Bool := w.mode.getLsbD 1

/-- Coefficient index of lane `i` (R42). -/
def Shot.kix (w : Shot) (i : Nat) : Nat :=
  if w.broadcast then w.coef.toNat else w.coef.toNat + i

end Sys2Proof

namespace Sys2Proof.Machine
open Reg

/-- The opcodes of R44 that write state words. -/
inductive ShotOp where
  | mov | add | sub | mul | fma | min | max | lim | int | lpf | dif | abs | sqrt | recip | sincos
  | clarke | park | ipark | load | store | pub
  deriving DecidableEq, Repr

/-- The bank that runs (SEQ.STATUS.BANK). -/
def State.activeBank (s : State) : Bank := if s.on SEQ.STATUS.BANK then s.seq.bank1 else s.seq.bank0
/-- The bank images load into (R39). -/
def State.standbyBank (s : State) : Bank := if s.on SEQ.STATUS.BANK then s.seq.bank0 else s.seq.bank1
/-- Changes the active bank. -/
def State.modActive (s : State) (f : Bank → Bank) : State :=
  s.modSeq (fun q => if s.on SEQ.STATUS.BANK then { q with bank1 := f q.bank1 }
    else { q with bank0 := f q.bank0 })
/-- Changes the standby bank. -/
def State.modStandby (s : State) (f : Bank → Bank) : State :=
  s.modSeq (fun q => if s.on SEQ.STATUS.BANK then { q with bank0 := f q.bank0 }
    else { q with bank1 := f q.bank1 })

/-- A state word (R39); an unlisted word is 0. -/
def State.sw (s : State) (a : Nat) : F32 := mapGet (fun _ => 0) s.seq.st a
/-- Writes a state word. -/
def State.putSw (s : State) (a : Nat) (v : F32) : State :=
  s.modSeq (fun q => { q with st := mapPut (fun _ => 0) q.st a v })
/-- A coefficient of the active bank. -/
def State.coef (s : State) (a : Nat) : F32 := mapGet (fun _ => 0) s.activeBank.k a
/-- LIM's upper limit: a coefficient, or the free value past the last one (R44, R53, log entry 16). -/
def State.coefOr (s : State) (a : Nat) : F32 := if a ≤ 4095 then s.coef a else Config.coefPast
/-- A table word of the active bank. -/
def State.tab (s : State) (a : Nat) : F32 := mapGet (fun _ => 0) s.activeBank.table a


/-- The opcode reads a per-lane coefficient, so broadcast is legal on it (R44). -/
def ShotOp.readsK (op : ShotOp) (w : Shot) : Bool :=
  match op with
  | .mov | .mul => w.m0
  | .fma | .int | .lpf | .dif => true
  | _ => false

/-- The opcode uses the fields A, B and C; D is unused on STORE and PUB (R44). -/
def ShotOp.uses (op : ShotOp) (w : Shot) : Bool × Bool × Bool :=
  match op with
  | .mov => (!w.m0, false, w.m0)
  | .add | .sub | .min | .max => (true, true, false)
  | .mul => (true, !w.m0, w.m0)
  | .fma | .int | .dif => (true, true, true)
  | .lim => (true, w.m0, !w.m0)
  | .lpf => (true, false, true)
  | .abs | .sqrt | .recip | .sincos | .clarke => (true, false, false)
  | .park | .ipark => (true, true, false)
  | .load | .store | .pub => (true, false, true)

/-- The lanes whose words the opcode touches: CLARKE reads three words and writes three, PARK and
IPARK read and write two of each operand (R44); these are their enabled lanes. -/
def ShotOp.reads (op : ShotOp) (w : Shot) : List Nat :=
  let a := w.srcA.toNat; let b := w.srcB.toNat; let d := w.dst.toNat
  let (ua, ub, _) := op.uses w
  let base := w.on.flatMap (fun i => (if ua then [a + i] else []) ++ (if ub then [b + i] else []))
  match op with
  | .lim => base ++ (if w.m0 then w.on.map (fun i => b + i + 4) else [])
  | .int => base ++ w.on.flatMap (fun i =>
      [d + i, b + i + 4] ++ (if w.m0 then [b + i + 8, b + i + 12] else []))
  | .lpf => base ++ w.on.map (fun i => d + i)
  | _ => base

/-- The words the opcode writes. -/
def ShotOp.writes (op : ShotOp) (w : Shot) : List Nat :=
  let d := w.dst.toNat
  match op with
  | .store | .pub => []
  | .sincos => w.on.flatMap (fun i => [d + i, d + i + 4])
  | .dif => w.on.flatMap (fun i => [d + i, w.srcB.toNat + i])
  | _ => w.on.map (fun i => d + i)

/-- M bits the opcode gives a meaning (R44). -/
def ShotOp.modeOk (op : ShotOp) (w : Shot) : Bool :=
  let low := match op with
    | .mov | .mul | .lim | .int => !w.m1
    | _ => !w.m0 && !w.m1
  low && (!w.broadcast || op.readsK w)

/-- LANES as the opcode requires (check 4 of R53). -/
def ShotOp.lanesOk (op : ShotOp) (w : Shot) : Bool :=
  match op with
  | .clarke => w.lanes == 7
  | .park | .ipark => w.lanes == 3
  | _ => w.lanes != 0

/-- Whether PUB may drive port `p` under the resource declaration of the active image (check 7 of
R53): a direct-compare port needs a CU declared direct. -/
def portOk (res : List Nat) (p : Nat) : Bool :=
  decide (p < 0x200) &&
    !(decide (0x0C0 ≤ p) && decide (p < 0x180) && decide (p % 16 ≤ 3)
      && res.getD ((p - 0x0C0) / 16) 2 != 1)

/-- A legal shot word (checks 3 to 7 of R53): M bits, unused fields, LANES, word ranges, coefficient
range, ports. -/
def ShotOp.legal (op : ShotOp) (res : List Nat) (w : Shot) : Bool :=
  let (ua, ub, uc) := op.uses w
  let top := w.on.foldl Nat.max 0
  op.modeOk w && op.lanesOk w
    && (ua || w.srcA == 0) && (ub || w.srcB == 0) && (uc || w.coef == 0)
    && (match op with | .store | .pub => w.dst == 0 | _ => true)
    && (op.reads w).all (fun x => decide (x ≤ 0x1FFF))
    && (op.writes w).all (fun x => decide (0x0600 ≤ x) && decide (x ≤ 0x1FFF))
    && (!uc || w.broadcast || decide (w.coef.toNat + top ≤ 4095))
    && (match op with
        | .pub => w.on.all (fun i => portOk res (w.coef.toNat + i))
        | .store => w.on.all (fun i => decide (w.coef.toNat + i < 0x200))
        | _ => true)

/-- The opcode of a fetched word by its code (R44); END is 0x3F. -/
def shotOpOf : Nat → Option ShotOp
  | 0x01 => some .mov | 0x02 => some .add | 0x03 => some .sub | 0x04 => some .mul
  | 0x05 => some .fma | 0x06 => some .min | 0x07 => some .max | 0x08 => some .lim
  | 0x09 => some .int | 0x0A => some .lpf | 0x0B => some .dif | 0x0C => some .abs
  | 0x0D => some .sqrt | 0x0E => some .recip | 0x0F => some .sincos | 0x10 => some .clarke
  | 0x11 => some .park | 0x12 => some .ipark | 0x13 => some .load | 0x14 => some .store
  | 0x15 => some .pub | _ => none

/-- The fields of a 64-bit shot word (R41). -/
def shotFields (w : BitVec 64) : Shot :=
  { lanes := w.extractLsb' 54 4, dst := w.extractLsb' 41 13, srcA := w.extractLsb' 28 13,
    srcB := w.extractLsb' 15 13, coef := w.extractLsb' 3 12, mode := w.extractLsb' 0 3 }

/-- The opcode field of a 64-bit shot word (R41). -/
def shotCode (w : BitVec 64) : Nat := (w.extractLsb' 58 6).toNat

end Sys2Proof.Machine
end

