-- ==== Sys2Proof/Machine/Fuse.lean ====
section
/-!
DEFINITION. Stream contexts and the fused measurement set (spec/15_process_bus.md, R317 to R329).
-/
namespace Sys2Proof.Machine
open Reg

/-- Changes the process bus record. -/
def State.modBus (s : State) (f : Bus → Bus) : State := { s with bus := f s.bus }

/-- A context by its index. -/
def State.ctx (s : State) (i : Nat) : Option Ctx := s.bus.ctxs.find? (fun c => decide (c.idx = i))

/-- Changes a context. -/
def State.modCtx (s : State) (i : Nat) (f : Ctx → Ctx) : State :=
  s.modBus (fun b => { b with ctxs := b.ctxs.map (fun c => if c.idx = i then f c else c) })

/-! ### The context block (R391) -/

/-- Little-endian field of a context block. -/
def Ctx.u (c : Ctx) (off n : Nat) : Nat := leAt c.block off n
/-- Destination MAC, first byte on the wire in the low bits. -/
def Ctx.dst (c : Ctx) : Nat := c.u 4 6
/-- The frames of a context carry authentication (R325). -/
def Ctx.auth (c : Ctx) : Bool := (c.u 2 1).testBit 0
/-- The first name of a context (svID or gocbRef), and the second (datSet). -/
def Ctx.name1 (c : Ctx) : List Byte := (c.block.drop 27).take (c.u 26 1)
def Ctx.name2 (c : Ctx) : List Byte :=
  let o := 27 + c.u 26 1
  (c.block.drop (o + 1)).take (c.u o 1)
/-- Entry `m` of the member block as `n` bytes from an offset within it. -/
def Ctx.member (c : Ctx) (w m off n : Nat) : Nat := c.u (c.u 24 2 + w * m + off) n

/-- Offset past the names of a context block: svID, or gocbRef and datSet. -/
def ctxNamesEnd (b : List Byte) (two : Bool) : Nat :=
  let o := 27 + leAt b 26 1
  if two then o + 1 + leAt b o 1 else o

/-- Bytes of one member by kind (R391). -/
def memberSize (kind : Nat) : Nat := if kind = 1 then 8 else if kind = 4 then 4 else 1

/-- A dyadic number from a binary32 pattern and an integer factor. -/
def scaled (v : Int) (k : BitVec 32) : Dy := dyMul ⟨v, 0⟩ (f32Val k)

/-- The first bad offset of a context block of R391, none where it is well formed. -/
def ctxBad (b : List Byte) : Option Nat :=
  let kind := leAt b 1 1
  let n := leAt b 3 1
  let two := decide (3 ≤ kind)
  let sz := memberSize kind
  let mb := leAt b 24 2
  let nameOk (o : Nat) : Bool := decide (1 ≤ leAt b o 1) && decide (leAt b o 1 ≤ 129)
  let o2 := 27 + leAt b 26 1
  let ends := ctxNamesEnd b two
  firstBad (if b.length < 27 then some b.length else none)
    [(decide (1 ≤ kind) && decide (kind ≤ 4), 1), (decide (leAt b 2 1 < 4), 2),
     (decide (n ≤ (if kind ≤ 2 then 24 else 64)), 3),
     ((leAt b 2 1).testBit 1 || decide (leAt b 12 2 = 0), 12),
     (if kind ≤ 2 then decide (leAt b 18 2 = 4800 ∨ leAt b 18 2 = 14400) else decide (leAt b 18 2 = 0), 18),
     (if kind = 1 then decide (5 ≤ leAt b 20 2 ∧ leAt b 20 2 ≤ 100)
      else if kind = 4 then decide (1 ≤ leAt b 20 2 ∧ leAt b 20 2 ≤ 16) else decide (leAt b 20 2 = 0), 20),
     (if kind = 4 then decide (100 ≤ leAt b 22 2 ∧ leAt b 22 2 ≤ 10000) else decide (leAt b 22 2 = 0), 22),
     (nameOk 26, 26), (!two || nameOk o2, o2), (decide (ends = mb), 24),
     (decide (b.length = mb + sz * n), mb),
     (if kind = 1 then (List.range n).all (fun m =>
        decide (((BitVec.ofNat 32 (leAt b (mb + 8 * m + 4) 4)).toInt).natAbs ≤ 1000000))
      else if kind = 2 then (List.range n).all (fun m => decide (leAt b (mb + m) 1 < 40))
      else if kind = 3 then (List.range n).all (fun m => decide (leAt b (mb + m) 1 ≤ 5))
      else true, mb)]

/-- The context a block makes. -/
def ctxOf (b : List Byte) : Ctx :=
  let c : Ctx := { idx := leAt b 0 1, kind := leAt b 1 1, block := b }
  if c.kind = 1 then
    { c with sv := (List.range (leAt b 3 1)).map (fun m =>
        { scale := BitVec.ofNat 32 (c.member 8 m 0 4),
          delay := (BitVec.ofNat 32 (c.member 8 m 4 4)).toInt }) }
  else if c.kind = 4 then { c with every := c.u 20 2 } else c

/-- STR.USED follows the contexts (R317). -/
def State.refreshUsed (s : State) : State :=
  let n (k : Nat) : Nat := (s.bus.ctxs.filter (fun c => decide (c.kind = k))).length
  (((s.wr STR.USED.SV_SUB (n 1)).wr STR.USED.SV_PUB (n 2)).wr STR.USED.GO_SUB (n 3)).wr STR.USED.GO_PUB (n 4)

/-- The limit of a kind (R317). -/
def kindLimit (k : Nat) : Nat := if k = 1 then 64 else if k = 2 then 8 else if k = 3 then 160 else 16

/-- A context takes a block, or is freed, at the tick after its cue (R317). -/
def State.putCtx (s : State) (i : Nat) (b : Option (List Byte)) : State :=
  let s := s.modBus (fun x => { x with ctxs := x.ctxs.filter (fun c => decide (c.idx ≠ i)) })
  let s := s.wrBit (STR.SUPV.WORD (i / 32)) (i % 32) false
  match b with
  | some b => (s.modBus (fun x => { x with ctxs := x.ctxs ++ [ctxOf b] })).refreshUsed
  | none => s.refreshUsed

/-! ### Supervision (R320, R322) -/

/-- A context is supervised. -/
def State.supv (s : State) (i : Nat) : Bool := s.bitOf (STR.SUPV.WORD (i / 32)) (i % 32)

/-- A context becomes supervised. -/
def State.supvOn (s : State) (i : Nat) : State := s.wrBit (STR.SUPV.WORD (i / 32)) (i % 32) true

/-- A supervised context loses supervision (R320, R322, R334). -/
def State.supvOff (s : State) (i : Nat) : State :=
  if s.supv i then
    let s := (s.wrBit (STR.SUPV.WORD (i / 32)) (i % 32) false).set STR.EVENT.SUPV_LOSS
    (s.modCtx i (fun c => { c with losses := c.losses + 1 })).detect 0x22 i rcReport
  else s

/-! ### Sources (R323, R326) -/

/-- A source code names an SV member (bit 13), else a decimator channel. -/
def isSv (code : Nat) : Bool := code.testBit 13
/-- Context and member of an SV source. -/
def svCtx (code : Nat) : Nat := code / 32 % 256
def svMember (code : Nat) : Nat := code % 32

/-- Samples of a source, newest first. -/
def State.samples (s : State) (code : Nat) : List Samp :=
  if isSv code then
    match s.ctx (svCtx code) with
    | some c => (c.sv.getD (svMember code) {}).samples
    | none => []
  else ((s.bus.hist.find? (fun h => decide (h.1 = code % 64))).map (·.2)).getD []

/-- Whether a source's newest sample is valid at this instant (R79, R323). -/
def State.sourceOk (s : State) (code : Nat) : Bool :=
  if isSv code then
    s.supv (svCtx code) && s.on PTP.STATUS.TRACEABLE
      && (match (s.samples code).head? with
          | some x => x.ok && decide (s.tai ≤ x.t + 4000000)
          | none => false)
  else s.on (MOD.CH.STATUS.VALID_C (code % 64)) && (s.chan (code % 64)).cur.ok

/-- The codes a quantity's source reads: one, or three for KIND 1 (R326). -/
def sourceCodes (kind code : Nat) : List Nat := if kind = 1 then [code, code + 1, code + 2] else [code]

/-- A source of a quantity exists. -/
def hasSource (code : Nat) : Bool := decide (code ≠ 0x3FFF)

/-- A source of a quantity is valid. -/
def State.qSourceOk (s : State) (kind code : Nat) : Bool :=
  hasSource code && (sourceCodes kind code).all s.sourceOk

/-- Value of a sample list at a time, linear between neighbours; none outside it or beside an invalid
sample (R28, R326). -/
def interp (t : Nat) : List Samp → Option Dy
  | a :: b :: rest =>
    if a.t = t then (if a.ok then some a.v else none)
    else if b.t ≤ t ∧ t < a.t then
      if a.ok && b.ok then
        some (dyAdd b.v (dyMul (dyAdd a.v (dyNeg b.v))
          ⟨rneDiv (((t - b.t) * 2 ^ 40 : Nat) : Int) (a.t - b.t), -40⟩))
      else none
    else interp t (b :: rest)
  | [a] => if a.t = t ∧ a.ok then some a.v else none
  | [] => none

/-- The phasor of one cycle at a frequency in µHz ending at a time: (2/N) Σ x e^(−jωt), in 2^-40 pu (R326). -/
def cyclePhasor (f t : Nat) (l : List Samp) : Int × Int × Bool :=
  let span := if f = 0 then 0 else 10 ^ 15 / f
  let w := l.filter (fun x => decide (x.t ≤ t ∧ t < x.t + span))
  let n := w.length
  let term (x : Samp) : Int × Int :=
    let a := f * (t - x.t) % 10 ^ 15 * 2 ^ 32 / 10 ^ 15
    let v := dyRat x.v
    let k := rneDiv (v.1 * 2 ^ 40) v.2
    (k * cosU32 a, k * sinU32 a)
  let sum := w.foldl (fun (s : Int × Int) x => let y := term x; (s.1 + y.1, s.2 + y.2)) (0, 0)
  if n = 0 then (0, 0, false)
  else (rneDiv (2 * sum.1) (n * 2 ^ 64), rneDiv (2 * sum.2) (n * 2 ^ 64), w.all (·.ok))

/-- |V+| of three phases over one cycle, in pu (R326): |Va + a Vb + a² Vc| / 3. -/
def positiveMag (f t : Nat) (a b c : List Samp) : Option Dy :=
  let (ar, ai, ao) := cyclePhasor f t a
  let (br, bi, bo) := cyclePhasor f t b
  let (cr, ci, co) := cyclePhasor f t c
  if !(ao && bo && co) then none
  else
    -- a = −1/2 + j √3/2; the doubled sum keeps integers but for √3 with 40 fractional bits
    let r3 : Int := isqrt (3 * 4 ^ 40)
    let re := (2 * ar - br - cr) * 2 ^ 40 + (ci - bi) * r3
    let im := (2 * ai - bi - ci) * 2 ^ 40 + (br - cr) * r3
    some ⟨rneDiv (isqrt ((re * re + im * im).toNat) : Nat) 6, -80⟩

/-- Value of a quantity's source at a time; none where it is not valid there (R326). -/
def State.sourceAt (s : State) (kind code t : Nat) : Option Dy :=
  if kind = 1 then
    positiveMag (uHz s.sync.loc.f) t (s.samples code) (s.samples (code + 1)) (s.samples (code + 2))
  else interp t (s.samples code)

/-- Time of the newest sample of a source aligned before an SCLK cycle. -/
def State.newestAt (s : State) (code cyc : Nat) : Option Nat :=
  ((s.samples code).find? (fun x => decide (x.cyc < cyc))).map (·.t)

/-- A control sample joins the history of a channel that a fused quantity names (R326); its time is the
valid time less group delay and the 5 ns of R60. -/
def State.histTake (s : State) (n : Nat) : State :=
  let named (q : Nat) : Bool :=
    s.on (STR.Q.CFG.EN q) && ([s.rd (STR.Q.CFG.PRI q), s.rd (STR.Q.CFG.XCK q)].any (fun c =>
      hasSource c && (sourceCodes (s.rd (STR.Q.CFG.KIND q)) c).any (fun c => !isSv c && decide (c % 64 = n))))
  if (List.range 64).any named then
    let x := (s.chan n).cur
    let e : Samp := { t := s.tai - 5 - s.rd (MOD.CH.GD_CTL.DELAY n) * 5 / 128, v := f32Val x.val, ok := x.ok,
                      cyc := s.cycle }
    let old := ((s.bus.hist.find? (fun h => decide (h.1 = n))).map (·.2)).getD []
    let new := e :: old.takeWhile (fun y => decide (e.t ≤ y.t + 30000000))
    s.modBus (fun b => { b with hist := (n, new) :: b.hist.filter (fun h => decide (h.1 ≠ n)) })
  else s

/-! ### Disagreement (R327) -/

/-- One comparison of a quantity at a time. -/
def State.compareAt (s : State) (q t : Nat) : State :=
  let k := s.rd (STR.Q.CFG.KIND q)
  let p := s.rd (STR.Q.CFG.PRI q)
  let c := s.rd (STR.Q.CFG.XCK q)
  let a := if s.qSourceOk k p then s.sourceAt k p t else none
  let b := if s.qSourceOk k c then s.sourceAt k c t else none
  s.modBus (fun x => { x with q := x.q.upd q (fun f =>
    match a, b with
    | some a, some b =>
      let d := dyRat (dyAdd a (dyNeg b))
      let e := rneDiv (d.1 * 2 ^ 32) d.2
      { f with sq := f.sq + e.natAbs ^ 2, n := f.n + 1 }
    | _, _ => { f with ok := false }) })

/-- The source whose sample times a quantity is compared at: the SV one, else the primary (R326). -/
def State.compareSource (s : State) (q : Nat) : Nat :=
  let p := s.rd (STR.Q.CFG.PRI q)
  let x := s.rd (STR.Q.CFG.XCK q)
  if isSv p then p else if isSv x then x else p

/-- A quantity has two sources and a test. -/
def State.compared (s : State) (q : Nat) : Bool :=
  s.on (STR.Q.CFG.EN q) && hasSource (s.rd (STR.Q.CFG.XCK q))

/-- The comparisons due whose both sources have a sample at or after their time, or of which one is invalid. -/
def State.compareDue (s : State) (q : Nat) : State :=
  let k := s.rd (STR.Q.CFG.KIND q)
  let p := s.rd (STR.Q.CFG.PRI q)
  let x := s.rd (STR.Q.CFG.XCK q)
  let bad := !s.qSourceOk k p || !s.qSourceOk k x
  let ready (t : Nat) : Bool := bad || (sourceCodes k p ++ sourceCodes k x).all (fun c =>
    (s.samples c).head?.any (fun y => decide (t ≤ y.t)))
  let go := (s.bus.q.get q {}).due.filter ready
  let s := s.modBus (fun b => { b with q := b.q.upd q (fun f => { f with due := f.due.filter (fun t => !ready t) }) })
  s.each go (fun s t => s.compareAt q t)

/-- Samples have come, of the sources whose codes `hit` tells (R326, R327): those of a quantity's compared source set
the times of its comparisons. -/
def State.compareNew (s : State) (hit : Nat → Bool) : State :=
  s.each ((List.range 64).filter s.compared) (fun s q =>
    let k := s.rd (STR.Q.CFG.KIND q)
    let c := s.compareSource q
    let s := if hit c then
        let new := ((s.samples c).takeWhile (fun y => decide (y.cyc = s.cycle))).map (·.t)
        s.modBus (fun b => { b with q := b.q.upd q (fun f => { f with due := f.due ++ new.reverse }) })
      else s
    if (sourceCodes k (s.rd (STR.Q.CFG.PRI q)) ++ sourceCodes k (s.rd (STR.Q.CFG.XCK q))).any hit then s.compareDue q
    else s)

/-- One wrap of θ closes the cycle of every quantity (R327). -/
def State.fuseWrap (s : State) : State :=
  s.each ((List.range 64).filter (fun q => s.on (STR.Q.CFG.EN q))) (fun s q =>
    let f := s.bus.q.get q {}
    let thr := s.rd (STR.Q.THR.THR q)
    let lo := thr - s.rd (STR.Q.THR.HYST q)
    let s := if f.ok && decide (0 < f.n) then s.setWord (STR.Q.DIFF.VALUE q).addr (q16Sqrt f.sq (f.n * 2 ^ 64))
      else if s.compared q then s else s.wr (STR.Q.DIFF.VALUE q) 0
    let counts := f.ok && decide (0 < f.n) && s.compared q && decide (thr ≠ 0)
    let above := decide (thr ^ 2 * f.n * 2 ^ 64 < f.sq * 10 ^ 6)
    let below := decide (f.sq * 10 ^ 6 < lo ^ 2 * f.n * 2 ^ 64)
    let up := if counts then (if above then f.runUp + 1 else 0) else f.runUp
    let under := if counts then (if below then f.under + 1 else 0) else f.under
    let s := s.modBus (fun x => { x with q := x.q.upd q (fun f =>
      { f with sq := 0, n := 0, ok := true, runUp := min 2 up, under := min 2 under }) })
    let dis := s.on (STR.Q.STAT.DISAGREE q)
    if !dis && decide (2 ≤ up) then
      ((s.set (STR.Q.STAT.DISAGREE q)).set STR.EVENT.DISAGREE).detect 0x0B q rcReport
    else if dis && (decide (2 ≤ under) || decide (thr = 0)) then s.wr (STR.Q.STAT.DISAGREE q) 0 else s)

/-! ### At the tick (R28, R326, R328, R329) -/

/-- The source in use of a quantity. -/
def State.qInUse (s : State) (q : Nat) : Nat :=
  if s.on (STR.Q.STAT.IN_USE q) then s.rd (STR.Q.CFG.XCK q) else s.rd (STR.Q.CFG.PRI q)

/-- A control quantity (R329). -/
def State.isControl (s : State) (q : Nat) : Bool := s.on (STR.Q.CFG.CTRL q) && s.live5

/-! ### Nodes of the reels (R363, R364) -/

/-- The value of the node a tap word names, and whether it is valid. -/
def State.nodeValue (s : State) (w : Nat) : Word × Bool :=
  let n := w % 64
  match w / 2 ^ 13 with
  | 0 =>
    let c := s.chan n
    let x := if c.cur.cycle < s.cycle then c.cur else c.prev
    (x.val, x.ok)
  | 1 => (f32OfDy false (s.chan n).out, (s.chan n).outOk)
  | 2 =>
    let l := w / 16 % 16
    (match w % 16 with
     | 0 => f32OfQ (s.word (BND.CH.REF.VALUE l).addr)
     | 1 => f32OfQ (s.word (BND.CH.ERR.VALUE l).addr)
     | 2 => f32OfQ (s.word (BND.CH.H.VALUE l).addr)
     | _ => f32OfInt (s.rd (BND.CH.STATE.LEVEL l)), true)
  | 3 => (s.sw (w % 2 ^ 13), true)
  | 4 => ((s.bus.q.get n {}).val, s.qSourceOk (s.rd (STR.Q.CFG.KIND n)) (s.qInUse n))
  | 5 => (if s.srcOn n then 0x3F800000 else 0, true)
  | _ => (0, true)

/-- A value that becomes valid in the SCLK cycle of a row instant belongs to the next row (R364): the armed sample reels
keep their nodes' values before the first change of a cycle. -/
def State.holdRows (s : State) : State :=
  s.each ((List.range 16).filter (fun r => s.reelArmed r && !s.on (REL.CFG.KIND r)
      && decide ((s.reel r).held.map (·.1) ≠ some s.cycle))) (fun s r =>
    s.modReel r (fun x => { x with held := some (s.cycle, x.taps.map s.nodeValue) }))

/-- A quantity left a source (R334): the collector hears of it, and the context counts it. The specification gives the
report no class: it joins the stream losses, by its context (log entry 42). -/
def State.sourceLeft (s : State) (code : Nat) : State :=
  if isSv code then
    (s.modCtx (svCtx code) (fun c => { c with changes := c.changes + 1 })).detect 0x22 (svCtx code) rcReport
  else s.detect 0x22 noDetail rcReport

/-- One quantity at a tick: selection and source change, loss of both sources, value and age (R328,
R329, R326). -/
def State.fuseQ (s : State) (q : Nat) : State :=
  let k := s.rd (STR.Q.CFG.KIND q)
  let p := s.qSourceOk k (s.rd (STR.Q.CFG.PRI q))
  let x := s.qSourceOk k (s.rd (STR.Q.CFG.XCK q))
  let s := (s.wrB (STR.Q.STAT.PRI_VALID q) p).wrB (STR.Q.STAT.XCK_VALID q) x
  let f := s.bus.q.get q {}
  let use := s.on (STR.Q.STAT.IN_USE q)
  let okOf (b : Bool) : Bool := if b then x else p
  let due : Option Bool := match f.sel with
    | some (b, c) => if c < s.cycle then some b else none
    | none => none
  let s := if due.isSome then s.modBus (fun b => { b with q := b.q.upd q (fun f => { f with sel := none }) })
    else s
  let taken := match due with | some b => okOf b | none => false
  let s := if due.isSome && !taken then s.set STR.EVENT.SEL_REJECT else s
  let s := match due with
    | some b => if taken then s.wrB (STR.Q.STAT.IN_USE q) b else s
    | none => s
  let s := if !taken && !okOf use && okOf (!use) then
      ((s.wrB (STR.Q.STAT.IN_USE q) (!use)).set STR.EVENT.SWITCH).sourceLeft
        (s.rd (if use then STR.Q.CFG.XCK q else STR.Q.CFG.PRI q))
    else s
  let s := if !p && !x && s.isControl q then
      ((s.set STR.EVENT.BOTH_LOST).detect 0x0C q rcPILOT).modSys
        (fun y => { y with wantPilot := setBit y.wantPilot 3 true })
    else s
  let code := s.qInUse q
  let s := if okOf (s.on (STR.Q.STAT.IN_USE q)) then
      match s.newestAt code s.cycle with
      | none => s
      | some t =>
        match s.sourceAt k code t with
        | some v => s.modBus (fun b => { b with q := b.q.upd q (fun f =>
            { f with val := f32OfDy false v, at' := t }) })
        | none => s
    else s
  let age := s.tai - (s.bus.q.get q {}).at'
  s.wr (STR.Q.STAT.AGE_US q) (min 65535 (age / 1000))

/-- A selection for a quantity that is not defined has no valid source: it is rejected (R328). -/
def State.fuseNone (s : State) (q : Nat) : State :=
  match (s.bus.q.get q {}).sel with
  | some (_, c) =>
    if c < s.cycle then
      (s.modBus (fun b => { b with q := b.q.upd q (fun f => { f with sel := none }) })).set STR.EVENT.SEL_REJECT
    else s
  | none => s

/-- The fusion stage at a tick. -/
def State.fuseTick (s : State) : State :=
  s.each (List.range 64) (fun s q => if s.on (STR.Q.CFG.EN q) then s.fuseQ q else s.fuseNone q)

/-- Value of a quantity for a consumer of L2 at this instant, in 2^-20 pu, where its source in use is
valid. -/
def State.qFix (s : State) (q : Nat) : Option Int :=
  let k := s.rd (STR.Q.CFG.KIND q)
  let code := s.qInUse q
  if s.on (STR.Q.CFG.EN q) && s.qSourceOk k code then
    some (f32ToInt (s.bus.q.get q {}).val 20)
  else none

/-- Age of a quantity at this tick in seconds, as binary32 (slate words 0x0068 on). -/
def State.qAge (s : State) (q : Nat) : F32 :=
  f32OfRat false ((s.tai - (s.bus.q.get q {}).at' : Nat) : Int) 1000000000

end Sys2Proof.Machine
end

