-- ==== Sys2Proof/Machine/Meter.lean ====
section
/-!
DEFINITION. The frequency-locked resampler (spec/03_measurement_chain.md R66 to R71) and what the metering
and PQ engines do with one of its outputs (spec/14_metering_and_quality.md R292 to R299, R304 to R307).
-/
namespace Sys2Proof.Machine
open Reg

/-! ### The resampler (R66 to R71) -/

/-- Changes the metering record. -/
def State.modMtr (s : State) (f : Mtr → Mtr) : State := { s with mtr := f s.mtr }

/-- PTP time at an instant not later than now. -/
def State.taiOf (s : State) (t : Time) : Nat :=
  (((s.time.tai : Int) + rneDiv (((t : Int) - s.time.taiAt) * 5) 128).emod (2 ^ 64)).toNat

/-- Representative time of a metering sample in fine edge steps (R60). -/
def State.meterTime (s : State) (n : Nat) (m : MSample) : Int :=
  (m.at' : Int) - 2 * sclk - s.rd (MOD.CH.GD_MTR.DELAY n)

/-- The metering period of a channel over 1,024, as numerator and denominator (R69). -/
def State.delayStep (s : State) (n : Nat) : Nat × Nat := (mtrOsr s n * bitNum n, bitDiv s n * 1024)

/-- The four samples around an instant, oldest first, and the instant's place between the middle two in
2^-32 (R69). -/
def State.around (s : State) (n : Nat) (t : Int) : List MSample → Option (MSample × MSample × MSample × MSample × Nat)
  | a :: b :: c :: d :: rest =>
    let tb := s.meterTime n b
    let tc := s.meterTime n c
    if tc ≤ t ∧ t < tb then some (d, c, b, a, ((t - tc) * 2 ^ 32 / (tb - tc)).toNat)
    else s.around n t (b :: c :: d :: rest)
  | _ => none

/-- The cubic through four samples at −1, 0, 1 and 2, at a fraction `mu` of 2^-32 between the middle two, plus the
interpolator's own error within `lim` (R70: −100 dB of FS). -/
def farrow (lim : Nat) (x0 x1 x2 x3 : Int) (mu : Nat) : Int :=
  let m : Int := 2 ^ 32
  let u : Int := mu
  rneDiv (6 * x1 * m ^ 3 + u * m ^ 2 * (6 * x2 - 2 * x0 - 3 * x1 - x3) + u ^ 2 * m * (3 * x0 + 3 * x2 - 6 * x1)
      + u ^ 3 * (x3 - x0 + 3 * x1 - 3 * x2)) (6 * 2 ^ 96)
    + clampInt (-lim) lim (Config.farrowErr x0 x1 x2 x3 mu)

/-- −100 dB of FS in 2^-60, in FS and in pu of the channel (R62, R70). -/
def farrowLim : Nat := 2 ^ 60 / 10 ^ 5
def State.farrowPu (s : State) (n : Nat) : Nat :=
  (dyFix (s.coefE (MOD.CH.GAIN.VALUE n)) 60).natAbs / 10 ^ 5

/-- The cubic of a channel's four samples, of corrected values. -/
def State.farrowVal (s : State) (n : Nat) (x0 x1 x2 x3 : MSample) (mu : Nat) : Dy :=
  let f (x : MSample) : Int := dyFix x.val 60
  ⟨farrow (s.farrowPu n) (f x0) (f x1) (f x2) (f x3) mu, -60⟩

/-- The same of raw values. -/
def farrowRaw (x0 x1 x2 x3 : MSample) (mu : Nat) : Dy :=
  let g (x : MSample) : Int := dyFix x.raw 60
  ⟨farrow farrowLim (g x0) (g x1) (g x2) (g x3) mu, -60⟩

/-- Output of one channel at t_k (R66, R69, R71): the cubic interpolation, or the last value held with the
invalid mark. -/
def State.resampleChan (s : State) (n : Nat) (tk : Time) : State :=
  let (p, q) := s.delayStep n
  let d := (BitVec.ofNat 14 (s.rdE (MOD.CH.FDELAY.DELAY n))).toInt
  let t : Int := (tk : Int) + rneDiv (d * p) q
  match s.around n t (s.chan n).meter with
  | some (x0, x1, x2, x3, mu) =>
    if x0.ok && x1.ok && x2.ok && x3.ok then
      let v := s.farrowVal n x0 x1 x2 x3 mu
      (s.modChan n (fun c => { c with out := v, outRaw := farrowRaw x0 x1 x2 x3 mu, outOk := true })).setWord
        (MOD.CH.MSAMPLE.VALUE n).addr (dyQ v)
    else s.modChan n (fun c => { c with outOk := false })
  | none => s.modChan n (fun c => { c with outOk := false })

/-- The marks of one output: slewing (disturbed) and free-run (R67, R68). -/
structure OutMark where
  disturbed : Bool
  freerun   : Bool
  deriving DecidableEq, Repr

/-- The metering angle at its last output, index k at t_k, against θ (R67, R68): without a valid θ it runs free; a gap
beyond one output starts a slew toward θ, which ends where the gap would close within one output interval. -/
def State.rsmAngle (s : State) (k : Nat) (tk : Time) : State :=
  let sl := s.rd MOD.RSM_CTL.SLEW
  let dir (s : State) (d : Option Bool) : State := s.modMeas (fun m => { m with rsm := { m.rsm with dir := d } })
  match s.thetaAt (s.taiOf tk) with
  | some (th, true) =>
    let gap := angleDiff th (k * 2 ^ 23)
    let fwd := decide (0 < gap)
    -- s / (1 ± s) outputs close in one interval
    let den := if fwd then 16 + sl else 16 - sl
    let near := decide (gap.natAbs * den ≤ 2 ^ 23 * sl)
    let was := s.on MOD.RSM_STAT.SLEWING
    if was && near then dir ((s.wr MOD.RSM_STAT.SLEWING 0).wr MOD.RSM_STAT.FREERUN 0) none
    else if was then dir s (some fwd)
    else if 2 ^ 23 < gap.natAbs then
      dir (((s.set MOD.RSM_STAT.SLEWING).set MOD.RSM_STAT.DISTURBED).sat MOD.RSM_STAT.SLEW_CNT) (some fwd)
    else s.wr MOD.RSM_STAT.FREERUN 0
  | _ => dir ((s.set MOD.RSM_STAT.FREERUN).wr MOD.RSM_STAT.SLEWING 0) none

/-- From the last output, index k at t_k, to the next, in 2^-32 fine edge steps (R66 to R68): while slewing one output of
angle at (1 ± s) times the slate's angle rate; in free run at the rated frequency; else until θ reaches the next
index. -/
def State.rsmStep (s : State) (k : Nat) (tk : Time) : Nat :=
  let sl := s.rd MOD.RSM_CTL.SLEW
  -- angle in 2^-36 turns over a frequency in µHz
  let spanOf (a f : Nat) : Nat := if f = 0 then 0 else a * (10 ^ 15 * 128) / (f * 5 * 16)
  let free := spanOf (2 ^ 27) (s.ratedHz * 1000000)
  let f := s.sync.slateF
  match s.meas.rsm.dir, s.thetaAt (s.taiOf tk) with
  | some fwd, some _ => spanOf (16 * 2 ^ 27 / (if fwd then 16 + sl else 16 - sl)) f
  | _, some (th, true) =>
    if s.on MOD.RSM_STAT.FREERUN then free
    else spanOf ((angleDiff ((k + 1) % 512 * 2 ^ 23) th).toNat * 16) f
  | _, _ => free

/-- The next output is due: its instant, and the rest of a fine edge step in 2^-32. -/
def State.rsmNext (s : State) : Nat × Nat :=
  let r := s.meas.rsm
  let x := r.tk * 2 ^ 32 + r.frac + s.rsmStep (s.rd MOD.RSM_INDEX.INDEX) r.tk
  (x / 2 ^ 32, x % 2 ^ 32)

/-! ### Wiring and phasors (R292, R294) -/

/-- The three metering voltages of the present outputs in 2^-40 pu (R292). -/
def State.meterVolts (s : State) : Int × Int × Int :=
  let v (f : Field) : Int := dyFix (s.chan (s.rd f)).out 40
  let a := v MTR.SRC.VA
  let b := v MTR.SRC.VB
  let c := v MTR.SRC.VC
  if s.on MTR.CTRL.WIRING then (a, b, c)
  else if s.on MTR.SRC.LL then (rneDiv (a - c) 3, rneDiv (b - a) 3, rneDiv (c - b) 3)
  else
    let z := rneDiv (a + b + c) 3
    (a - z, b - z, c - z)

/-- The channels the metering engine reads. -/
def State.meterChans (s : State) : List Nat :=
  let i := s.rd MTR.SRC_I.IN
  [s.rd MTR.SRC.VA, s.rd MTR.SRC.VB, s.rd MTR.SRC.VC, s.rd MTR.SRC_I.IA, s.rd MTR.SRC_I.IB, s.rd MTR.SRC_I.IC]
    ++ (if s.on MTR.CTRL.WIRING && decide (i < 40) then [i] else [])

/-- SEALED_SRC (R292). -/
def State.refreshSealed (s : State) : State :=
  s.wrB MTR.STATUS.SEALED_SRC (s.meterChans.all (fun n =>
    s.on (MOD.CH.STATUS.METER n) && s.on (MOD.CH.STATUS.SEALED n)))

/-- The sample of the present outputs. -/
def State.meterSample (s : State) : List Int :=
  let (a, b, c) := s.meterVolts
  let i (f : Field) : Int := dyFix (s.chan (s.rd f)).out 40
  let n := s.rd MTR.SRC_I.IN
  [a, b, c, i MTR.SRC_I.IA, i MTR.SRC_I.IB, i MTR.SRC_I.IC, if n < 40 then dyFix (s.chan n).out 40 else 0]

/-- Fundamental phasor over the last 512 samples, in pu of rated rms and 2^-40: (2/512) Σ x e^(−jφ), the
newest sample at index k (R294). -/
def fundamental (k : Nat) (xs : List Int) : Int × Int :=
  let term (p : Int × Nat) : Int × Int :=
    let a := (k + 512 - p.2) % 512 * 2 ^ 23
    (p.1 * cosU32 a, -(p.1 * sinU32 a))
  let sum := (xs.zipIdx).foldl (fun (z : Int × Int) p => let y := term p; (z.1 + y.1, z.2 + y.2)) (0, 0)
  (rneDiv sum.1 (256 * 2 ^ 64), rneDiv sum.2 (256 * 2 ^ 64))

/-- Column `j` of the window. -/
def Mtr.col (m : Mtr) (j : Nat) : List Int := m.win.map (fun x => x.getD j 0)

/-- q_k in 2^-80 pu of S_r (R294). -/
def Mtr.reactive (m : Mtr) (k : Nat) : Int :=
  let im (x : Nat) : Int :=
    let v := fundamental k (m.col x)
    let i := fundamental k (m.col (x + 3))
    v.2 * i.1 - v.1 * i.2
  rneDiv (im 0 + im 1 + im 2) 3

/-- s_k in 2^-80 pu of S_r (R294). -/
def Mtr.apparent (m : Mtr) : Int :=
  let sq (j : Nat) : Nat := (m.col j).foldl (fun a x => a + x.natAbs ^ 2) 0
  let one (x : Nat) : Nat := isqrt (sq x * sq (x + 3))
  rneDiv (2 * (one 0 + one 1 + one 2) : Nat) (3 * 512)

/-- p_k in 2^-80 pu of S_r (R294). -/
def active (x : List Int) : Int :=
  let p (j : Nat) : Int := x.getD j 0 * x.getD (j + 3) 0
  rneDiv (2 * (p 0 + p 1 + p 2)) 3

/-! ### Accumulators and pulses (R295, R296, R298, R299, R304) -/

/-- Energy of a power in 2^-80 pu over ns, in 2^-32 mWh (R294, R296): p × S_r [kVA] × Δt [ns] / 3.6·10^6. -/
def State.energyOf (s : State) (p : Int) (dt : Nat) : Int :=
  rneDiv (p * (s.rd SYS.RAT_S.S * dt : Nat)) (3600000 * 2 ^ 48)

/-- What each of the ten accumulators receives (R295). -/
def shares (p q ep eq es : Int) : List Nat :=
  let pos := decide (0 ≤ p)
  let qpos := decide (0 ≤ q)
  let on (b : Bool) (e : Int) : Nat := if b then e.natAbs else 0
  [on pos ep, on (!pos) ep, on qpos eq, on (!qpos) eq, on (pos && qpos) eq, on (!pos && qpos) eq,
   on (!pos && !qpos) eq, on (pos && !qpos) eq, on pos es, on (!pos) es]

/-- A whole number of mWh of an accumulator. -/
def mwh (a : Nat) : Nat := a / 2 ^ 32 % 2 ^ 64

/-- WH32 and WRAP follow an accumulator (R304). -/
def State.showWh (s : State) (j : Nat) : State :=
  let w := mwh (s.mtr.acc.getD j 0) / 1000 % 2 ^ 32
  let s := if w < s.rd (MTR.WH32.VALUE j) then
      s.wr (MTR.WRAP.VALUE j) ((s.rd (MTR.WRAP.VALUE j) + 1) % 65536)
    else s
  s.wr (MTR.WH32.VALUE j) w

/-- The pulses a residue yields: each threshold crossing takes K (R298, R299). -/
def State.pulseTake (s : State) (m : Nat) (e : Nat) : State :=
  let k := s.rd (MTR.EP_CFG.K (m / 4)) * 1000 * 2 ^ 32
  let r := s.mtr.res.get m 0 + e
  let n := if k = 0 then 0 else r / k
  let left := if k = 0 then r else r % k
  let pend := s.rd (MTR.EP_STAT.PENDING m)
  let room := 16 - pend
  let s := s.modMtr (fun x => { x with res := x.res.upd m (fun _ => left) })
  let s := (s.wr (MTR.EP_RES.MWH m) (left / 2 ^ 32)).wr (MTR.EP_STAT.PENDING m) (pend + min n room)
  if room < n then (s.satAdd (MTR.EP_STAT.LOST m) (n - room)).set MTR.STATUS.BACKLOG else s

/-- A snapshot shows in MTR.ACC (R296). -/
def State.showSnap (s : State) : State :=
  s.each (List.range 10) (fun s j => s.wr64 (MTR.ACC.MWH j) (mwh (s.mtr.acc.getD j 0)))

/-- The sample's energies join the accumulators and the residues of the pulse outputs; a snapshot of the same cycle
takes the values after them (R296). -/
def State.accumulate (s : State) (l : List Nat) : State :=
  let s := s.modMtr (fun m => { m with acc := m.acc.zipWith (fun a e => (a + e) % 2 ^ 96) l })
  let s := s.each (List.range 10) State.showWh
  let s := if s.mtr.snapAt = some s.cycle then s.showSnap else s
  s.each (List.range 8) (fun s m => s.pulseTake m (l.getD (m % 4) 0))

/-! ### Cycle results (R294, R305, R306) -/

/-- Q_VALID clears: PHSEQ reads 0 and its counts start again (R294, R305). -/
def State.qLost (s : State) : State :=
  let s := s.modMtr (fun m => { m with win := [], okA := 0, okB := 0, noA := 0, noB := 0 })
  let s := s.wr MTR.STATUS.Q_VALID 0
  if s.rd PQE.STATUS.PHSEQ ≠ 0 then (s.wr PQE.STATUS.PHSEQ 0).set PQE.STATUS.SEQ_EVT else s

/-- Square of |V1+| or |V1−| times 9, in 2^-160 pu² (R305): V_a + a V_b + a² V_c, with b and c exchanged for
the negative sequence. -/
def seqSq (a b c : Int × Int) : Nat :=
  let r3 : Int := isqrt (3 * 4 ^ 40)
  let re := (2 * a.1 - b.1 - c.1) * 2 ^ 40 + (c.2 - b.2) * r3
  let im := (2 * a.2 - b.2 - c.2) * 2 ^ 40 + (b.1 - c.1) * r3
  (re.natAbs ^ 2 + im.natAbs ^ 2) / 4

/-- The counts of PHSEQ and of the neutral at a wrap (R305, R306). -/
def State.cycleCounts (s : State) (k : Nat) : State :=
  let m := s.mtr
  let v (j : Nat) : Int × Int := fundamental k (m.col j)
  let a := v 0; let b := v 1; let c := v 2
  let pos := seqSq a b c
  let neg := seqSq a c b
  let half := 9 * 2 ^ 160 / 4
  let okA := decide (half ≤ pos) && decide (25 * neg ≤ pos)
  let okB := decide (half ≤ neg) && decide (25 * pos ≤ neg)
  let z := (a.1 + b.1 + c.1, a.2 + b.2 + c.2)
  let zSq := z.1.natAbs ^ 2 + z.2.natAbs ^ 2
  let i := if s.rd MTR.SRC_I.IN = 63 then
      let x := v 3; let y := v 4; let w := v 5
      (x.1 + y.1 + w.1, x.2 + y.2 + w.2)
    else v 6
  let iSq := i.1.natAbs ^ 2 + i.2.natAbs ^ 2
  let nv := s.rd PQE.NEU_CFG.NEU_V
  let ni := s.rd PQE.NEU_CFG.NEU_I
  let on := s.on MTR.CTRL.WIRING && s.on PQE.CTRL.NEU_EN
  let up := on && decide (9 * nv ^ 2 * 2 ^ 80 < zSq * 10 ^ 6) && decide (iSq * 10 ^ 6 < ni ^ 2 * 2 ^ 80)
  let dn := !on || decide (zSq * 10 ^ 8 ≤ 9 * 81 * nv ^ 2 * 2 ^ 80)
    || decide (121 * ni ^ 2 * 2 ^ 80 ≤ iSq * 10 ^ 8)
  let run (b : Bool) (n cap : Nat) : Nat := if b then satInc cap n else 0
  s.modMtr (fun m => { m with okA := run okA m.okA 10, okB := run okB m.okB 10, noA := run (!okA) m.noA 10,
                              noB := run (!okB) m.noB 10, neuOn := run up m.neuOn 50, neuOff := run dn m.neuOff 50 })

/-- Means over the last cycle (MTR.P, Q1, S, PF). -/
def State.cycleMeans (s : State) : State :=
  let m := s.mtr
  if m.sumT = 0 then s
  else
    let w (x : Int) : Word := satWord (rneDiv x (m.sumT * 2 ^ 64))
    let s := ((s.setWord MTR.P.VALUE.addr (w m.sumP)).setWord MTR.Q1.VALUE.addr (w m.sumQ)).setWord
      MTR.S.VALUE.addr (w m.sumS)
    let s := s.setWord MTR.PF.VALUE.addr (if m.sumS ≤ 0 then Config.pfIdle m.sumP else q16 m.sumP m.sumS.toNat)
    s.modMtr (fun m => { m with sumP := 0, sumQ := 0, sumS := 0, sumT := 0 })

/-! ### Settlement (R300 to R303) -/

/-- The quarter hour of TAI an instant lies in. -/
def quarter (t : Nat) : Nat := t / 900000000000

/-- Bytes 0 to 247 of a block (R301): the open block closed at a latch. -/
def State.blockBytes (s : State) (b : OpenBlock) (t : Nat) (v : List Nat) : List Byte :=
  let f := (b.flags % 128 ||| (if b.flags.testBit 7 then 0 else 1)) % 128
  le32 0x4B4C4253 ++ leBytes 2 1 ++ leBytes 2 f ++ leBytes 4 s.mtr.nextSeq ++ leBytes 4 b.cycles
    ++ leBytes 8 b.time ++ leBytes 8 t ++ v.flatMap (leBytes 8)
    ++ (v.zipWith (fun c o => (c + 2 ^ 64 - o) % 2 ^ 64) b.vals).flatMap (leBytes 8)
    ++ leBytes 4 (b.subst / 1000000) ++ leBytes 2 (s.rd MTR.LATCH_CFG.N) ++ leBytes 2 0
    ++ shaBytes s.mtr.prevHash

/-- The ten visible values (R296). -/
def State.visible (s : State) : List Nat := s.mtr.acc.map mwh

/-- A latch closes the open block at the first latch at or after a quarter-hour boundary, and opens the
next (R301). The block that boot opened at the journaled latch waits for the first latch taken with BLOCK_EN
(R303). -/
def State.blockLatch (s : State) (t : Nat) (v : List Nat) : State :=
  if !s.on MTR.LATCH_CFG.BLOCK_EN then
    if s.mtr.fresh then s else s.modMtr (fun m => { m with block := none })
  else
    let s := if s.mtr.block.isSome then s.modMtr (fun m => { m with fresh := false }) else s
    match s.mtr.block with
    | none => s.modMtr (fun m =>
        { m with block := some { time := t, vals := v, flags := if m.fresh then 64 else 0 }, fresh := false })
    | some b =>
      if quarter t ≤ quarter b.time then s
      else
        let bytes := s.blockBytes b t v
        let gap := decide (quarter b.time + 1 < quarter t)
        let s := if gap then s.set MTR.STATUS.BLOCK_GAP else s
        let s := s.modMtr (fun m =>
          { m with unsigned := m.unsigned ++ [bytes], nextSeq := m.nextSeq + 1, prevHash := sha384 bytes,
                   block := some { time := t, vals := v, flags := if gap then 32 else 0 } })
        (s.set MTR.STATUS.SIGN_PEND).wr MTR.SUBST_MS.VALUE 0

/-- The N-th index wrap has come (R300). -/
def State.settleDue (s : State) : Bool :=
  s.mtr.tPrev.isSome && decide (s.rd MTR.LATCH_CFG.N ≤ s.mtr.wraps) && decide (0 < s.mtr.wraps)

/-- The settlement latch of the wrapping sample, where one is due (R300): the values, their time, the count, the
block, the journal at most once per second of TAI; a block whose signing failed is tried again (R302). -/
def State.settle (s : State) : State :=
  if !s.settleDue then s
  else
    let tk := s.mtr.tPrev.getD 0
    let v := s.visible
    let s := s.each (List.range 10) (fun s j => s.wr64 (MTR.LATCH.MWH j) (v.getD j 0))
    let s := ((s.wr64 MTR.LATCH_TIME.TAI_NS tk).inc MTR.LATCH_CNT.VALUE).modMtr (fun m =>
      { m with wraps := 0, signWait := false })
    let s := s.blockLatch tk v
    let due := match s.mtr.journal with | some (t0, _) => decide (t0 / 1000000000 < tk / 1000000000) | none => true
    if due && !s.on MEM.STATUS.EMMC_ABSENT then s.modMtr (fun m => { m with journal := some (tk, v) }) else s

/-! ### The metering engine takes a sample (R294 to R297) -/

/-- Marks of a sample go to the flags and to the open block (R297, R301). -/
def State.meterMarks (s : State) (k : OutMark) (bad : Bool) (dt : Nat) : State :=
  let s := if bad then s.set MTR.STATUS.SUBST else s
  let s := if k.freerun then s.set MTR.STATUS.FREERUN else s
  let s := if k.disturbed then s.set MTR.STATUS.DISTURBED else s
  let f := (if s.on MTR.STATUS.SEALED_SRC then 0 else 128) ||| (if bad then 2 else 0)
    ||| (if k.freerun then 4 else 0) ||| (if k.disturbed then 8 else 0)
    ||| (if s.on PTP.STATUS.TRACEABLE then 0 else 16)
  let s := s.modMtr (fun m => { m with block := m.block.map (fun b =>
    { b with flags := b.flags ||| f, subst := b.subst + (if bad then dt else 0) }) })
  match s.mtr.block with
  | some b => s.wr MTR.SUBST_MS.VALUE (b.subst / 1000000 % 2 ^ 32)
  | none => s

/-- The engine is disabled: Q_VALID and PHSEQ read 0, the sums of the cycle are dropped (R294, R305). -/
def State.meterOff (s : State) : State :=
  (s.qLost).modMtr (fun m => { m with tPrev := none, sumP := 0, sumQ := 0, sumS := 0, sumT := 0 })

/-- MTR.CTRL was written: a disabled engine stops at once, and in three-wire wiring NEU_MISSING reads 0 (R306). -/
def State.meterCtrl (s : State) : State :=
  let s := if s.on MTR.CTRL.ENABLE then s else s.meterOff
  if s.on MTR.CTRL.WIRING then s else s.wr PQE.STATUS.NEU_MISSING 0

/-- One resampled output reaches the metering engine; the latch of a wrap before it has been taken (R300). -/
def State.meterTake (s : State) (k tk : Nat) (mark : OutMark) : State :=
  if !s.on MTR.CTRL.ENABLE then s.meterOff
  else
    let s := if k = 1 then s.settle else s
    let s := s.refreshSealed
    let dt := match s.mtr.tPrev with | some t => tk - t | none => 0
    let x := s.meterSample
    let bad := s.meterChans.any (fun n => !(s.chan n).outOk)
    let s := if mark.freerun then s.qLost
      else s.modMtr (fun m => { m with win := (x :: m.win).take 512 })
    let full := decide (512 ≤ s.mtr.win.length)
    let s := if full then s.set MTR.STATUS.Q_VALID else s
    let p := active x
    let q := if full then s.mtr.reactive k else 0
    let a := if full then s.mtr.apparent else 0
    let s := s.accumulate (shares p q (s.energyOf p dt) (s.energyOf q dt) (s.energyOf a dt))
    let s := s.meterMarks mark bad dt
    let s := s.modMtr (fun m => { m with tPrev := some tk, sumP := m.sumP + p * dt, sumQ := m.sumQ + q * dt,
                                         sumS := m.sumS + a * dt, sumT := m.sumT + dt })
    if k = 0 then
      let s := s.cycleMeans
      let s := if full then s.cycleCounts k else s
      s.modMtr (fun m => { m with wraps := m.wraps + 1, block := m.block.map (fun b =>
        { b with cycles := b.cycles + 1 }) })
    else s

/-! ### The PQ engine takes a sample (R307, R309) -/

/-- Value of a PQ channel at t_k in 2^-40 pu, and whether it is valid. -/
def State.pqValue (s : State) (m tk : Nat) : Option Int :=
  let src := s.rd (PQE.CH.CFG.SRC m)
  if s.on (PQE.CH.CFG.FUSED m) then
    let k := s.rd (STR.Q.CFG.KIND src)
    if s.on (STR.Q.CFG.EN src) && s.qSourceOk k (s.qInUse src) then
      (s.sourceAt k (s.qInUse src) (tk - (s.rd64 SEQ.SLATE_TIME.TAI_NS - (s.bus.q.get src {}).at'))).map
        (fun v => dyFix v 40)
    else none
  else if (s.chan src).outOk then some (dyFix (s.chan src).out 40) else none

/-- A window starts at a wrap, with the channels then enabled (R307). -/
def State.pqStart (s : State) (tk : Nat) : PqWin :=
  { start := tk, ch := (List.range 16).map (fun m => { en := s.on (PQE.CH.CFG.EN m) }) }

/-- One resampled output reaches the PQ engine: the window in progress takes it, and a wrap may end it. -/
def State.pqTake (s : State) (k tk : Nat) (mark : OutMark) : State :=
  if !s.on PQE.CTRL.ENABLE then s.modMtr (fun m => { m with pq := none })
  else
    let s := match s.mtr.pq with
      | none => s
      | some w =>
        let one (p : PqSet × Nat) : PqSet × Int :=
          let c := p.1
          let last := (s.mtr.pqCh.get p.2 {}).last
          if !c.en then (c, last)
          else
            let v := s.pqValue p.2 tk
            let x := v.getD last
            ({ c with smp := x :: c.smp, invalid := c.invalid || v.isNone,
                      disturbed := c.disturbed || mark.disturbed, freerun := c.freerun || mark.freerun }, x)
        let l := w.ch.zipIdx.map one
        let w := { w with ch := l.map (·.1), frt := w.frt || decide (s.rd FRT.STATUS.STATE ≠ 0),
                          cycles := if k = 0 then w.cycles + 1 else w.cycles }
        s.modMtr (fun m => { m with pq := some w,
                                    pqCh := l.zipIdx.foldl (fun u x => u.upd x.2 (fun c => { c with last := x.1.2 })) m.pqCh })
    if k ≠ 0 then s
    else
      let need := if s.on PQE.CTRL.WIN then 12 else 10
      match s.mtr.pq with
      | none => s.modMtr (fun m => { m with pq := some (s.pqStart tk) })
      | some w =>
        if need ≤ w.cycles ∨ w.start / 600000000000 ≠ tk / 600000000000 then
          s.modMtr (fun m => { m with ended := m.ended ++ [w], pq := some (s.pqStart tk) })
        else s

/-- An AC span average takes an output (R72, R73). -/
def State.acTake (s : State) (n k : Nat) : State :=
  let c := s.chan n
  match c.cal with
  | none => s
  | some r =>
    if r.kind ≠ .ac then s
    else if s.on MOD.RSM_STAT.FREERUN then s.calFail n 5
    else if !c.outOk then s.calFail n 1
    else if r.count = 0 ∧ k ≠ 0 then s
    else if r.count < 25600 then
      let d := dyAdd c.outRaw (dyNeg (s.coefE (MOD.CH.OFFSET.VALUE n)))
      s.modChan n (fun c => { c with cal := some { r with count := r.count + 1, sum := dyAdd r.sum (dyMul d d) } })
    else s

/-- The demodulator's sample set (R243): metering voltages and the grid legs' currents as (α, β). -/
def State.chipFeed (s : State) (mark : OutMark) : State :=
  let (a, b, c) := s.meterVolts
  let i (l : Nat) : Int := dyFix (s.chan (s.rd (BND.CH.CFG.SRC l))).out 40
  let r3 : Int := isqrt (3 * 4 ^ 64)
  let al (a b c : Int) : Dy := ⟨rneDiv (2 * a - b - c) 3, -40⟩
  let be (b c : Int) : Dy := ⟨rneDiv ((b - c) * r3) (3 * 2 ^ 64), -40⟩
  let chans := [s.rd MTR.SRC.VA, s.rd MTR.SRC.VB, s.rd MTR.SRC.VC] ++ [0, 1, 2].map (fun l => s.rd (BND.CH.CFG.SRC l))
  s.chipTake { th := s.probePhase / 2 ^ 32, va := al a b c, vb := be b c, ia := al (i 0) (i 1) (i 2), ib := be (i 1) (i 2) }
    (chans.all (fun n => (s.chan n).outOk) && !mark.disturbed && !mark.freerun)

/-- RESAMPLER_OUTPUT (R66): the metering angle has reached its next index, at the instant that the angle gives, and the
output is computed at that instant as `place` places it (R70). Before that instant nothing happens. An output carries the marks of the way to it and of what
it begins. -/
def execResamplerOutput (t : Time) (place : Fin 51) (s : State) : Host.Outcome State Fault Refusal :=
  s.during t (fun s =>
    let a := s.rsmAngle (s.rd MOD.RSM_INDEX.INDEX) s.meas.rsm.tk
    let (tk, frac) := a.rsmNext
    if s.now < tk then s
    else
      let a := a.holdRows
      let k := (a.rd MOD.RSM_INDEX.INDEX + 1) % 512
      let s := a.wr MOD.RSM_INDEX.INDEX k
      let s := if k = 0 then s.inc MOD.RSM_INDEX.CYCLE else s
      let s := s.rsmAngle k tk
      let mark : OutMark := ⟨a.on MOD.RSM_STAT.SLEWING || s.on MOD.RSM_STAT.SLEWING,
        a.on MOD.RSM_STAT.FREERUN || s.on MOD.RSM_STAT.FREERUN⟩
      let s := s.modMeas (fun m => { m with rsm := { m.rsm with
        tk := tk, frac := frac, disturbed := mark.disturbed || (m.rsm.disturbed && decide (k ≠ 1)),
        freerun := mark.freerun } })
      let s := s.each ((List.range 40).filter (fun n => s.on (MOD.CH.CFG.ENABLE n))) (fun s n =>
        (s.resampleChan n (tk + place - 25)).acTake n k)
      let ns := s.taiOf tk
      ((s.meterTake k ns mark).pqTake k ns mark).chipFeed mark)

end Sys2Proof.Machine
end

