-- ==== Sys2Proof/Machine/MeterRows.lean ====
section
/-!
DEFINITION. Snapshots, pulses, settlement, phase sequence, power-quality windows and calibration averages
(spec/14_metering_and_quality.md R296 to R310; spec/03_measurement_chain.md R72, R73).
-/
namespace Sys2Proof.Machine
open Reg

/-! ### Snapshots and pulses (R296, R299) -/

/-- A snapshot (R296). -/
def State.snapGo (s : State) : State :=
  (s.showSnap.inc MTR.SNAP.SEQ).modMtr (fun m => { m with snapAt := some s.cycle })

/-- MTR_SNAP_GO (R296). -/
def execMtrSnapGo (t : Time) (s : State) : Host.Outcome State Fault Refusal :=
  s.during t (fun s => s.snapGo)

/-- Pulse width of an output in fine edge steps (R299). -/
def State.pulseWidth (s : State) (m : Nat) : Nat := s.rd (MTR.EP_CFG.PW (m / 4)) * ms

/-- ENERGY_PULSE_START (R299): a pending pulse of an enabled output, once the low interval has passed. -/
def execEnergyPulseStart (t : Time) (m : Fin 8) (s : State) : Host.Outcome State Fault Refusal :=
  s.during t (fun s =>
    let n := s.rd (MTR.EP_STAT.PENDING m)
    let free := match s.mtr.pulse.get m none with
    | none => true
    | some (true, _) => false
    | some (false, t0) => decide (t0 + s.pulseWidth m ≤ s.now)
    if s.bitOf MTR.EP_CTRL.EN m && decide (0 < n) && free then
      (s.wr (MTR.EP_STAT.PENDING m) (n - 1)).modMtr (fun x =>
        { x with pulse := x.pulse.upd m (fun _ => some (true, s.now)) })
    else s)

/-- ENERGY_PULSE_END (R299): PW ms have passed. -/
def execEnergyPulseEnd (t : Time) (m : Fin 8) (s : State) : Host.Outcome State Fault Refusal :=
  s.during t (fun s =>
    match s.mtr.pulse.get m none with
    | some (true, t0) =>
      if t0 + s.pulseWidth m ≤ s.now then
        s.modMtr (fun x => { x with pulse := x.pulse.upd m (fun _ => some (false, s.now)) })
      else s
    | _ => s)

/-- Outputs that EP_CTRL disables go low (R299). -/
def State.pulsesOff (s : State) : State :=
  s.each (List.range 8) (fun s m => s.modMtr (fun x => { x with pulse := x.pulse.upd m (fun o =>
    match o with
    | some (true, t0) => if s.bitOf MTR.EP_CTRL.EN m then some (true, t0) else some (false, s.now)
    | o => o) }))

/-! ### Settlement (R300 to R303) -/

/-- SETTLEMENT_LATCH (R300): every N-th index wrap. -/
def execSettlementLatch (t : Time) (s : State) : Host.Outcome State Fault Refusal :=
  s.during t (fun s => if s.rd MOD.RSM_INDEX.INDEX = 0 then s.settle else s)

/-- SIGN_PEND follows the blocks not yet stored (R302). -/
def State.refreshSign (s : State) : State :=
  s.wrB MTR.STATUS.SIGN_PEND (!s.mtr.unsigned.isEmpty || !s.mtr.signed.isEmpty)

/-- BLOCK_SIGNED (R302): the security core has signed the oldest block, or failed; one that failed waits for the next
latch. -/
def execBlockSigned (t : Time) (ok : Bool) (s : State) : Host.Outcome State Fault Refusal :=
  s.during t (fun s =>
    match s.mtr.unsigned with
    | [] => s
    | b :: rest =>
      if s.mtr.signWait then s
      else if ok then s.modMtr (fun m =>
        { m with unsigned := rest, signed := (m.signed ++ [b ++ beBytes 96 (Config.sign b).toNat]).drop
                                     (m.signed.length - 95) })
      else (s.set MTR.STATUS.SIGN_FAIL).modMtr (fun m => { m with signWait := true }))

/-- BLOCK_STORED (R302): the oldest signed block reaches the archive, or is held. -/
def execBlockStored (t : Time) (ok : Bool) (s : State) : Host.Outcome State Fault Refusal :=
  s.during t (fun s =>
    match s.mtr.signed with
    | [] => s
    | b :: rest =>
      if ok && !s.on MEM.STATUS.EMMC_ABSENT then
        ((s.modMtr (fun m => { m with signed := rest, stored := (m.stored ++ [b]).drop (m.stored.length - 65535) })).wr
          MTR.BLOCK.VALUE (leAt b 8 4)).refreshSign
      else (s.set MTR.STATUS.STORE_FAIL).detect 0x23 noDetail rcReport)

/-! ### Phase sequence and neutral (R305, R306) -/

/-- PHSEQ_CHANGE (R305): a condition has held, or the present one failed, for 10 grid cycles. -/
def execPhseqChange (t : Time) (s : State) : Host.Outcome State Fault Refusal :=
  s.during t (fun s =>
    let m := s.mtr
    let now := s.rd PQE.STATUS.PHSEQ
    let new := if !(s.on MTR.CTRL.ENABLE && s.on MTR.STATUS.Q_VALID) then 0
    else if 10 ≤ m.okA then 1 else if 10 ≤ m.okB then 2
    else if now = 1 ∧ 10 ≤ m.noA then 0 else if now = 2 ∧ 10 ≤ m.noB then 0 else now
    if new = now then s else (s.wr PQE.STATUS.PHSEQ new).set PQE.STATUS.SEQ_EVT)

/-- NEUTRAL_MISSING (R306). -/
def execNeutralMissing (t : Time) (s : State) : Host.Outcome State Fault Refusal :=
  s.during t (fun s =>
    let up := s.on PQE.STATUS.NEU_MISSING
    if !s.on MTR.CTRL.WIRING then s.wr PQE.STATUS.NEU_MISSING 0
    else if !up && decide (50 ≤ s.mtr.neuOn) then (s.set PQE.STATUS.NEU_MISSING).set PQE.STATUS.NEU_EVT
    else if up && decide (50 ≤ s.mtr.neuOff) then s.wr PQE.STATUS.NEU_MISSING 0
    else s)

/-! ### PQ windows (R307 to R310) -/

/-- Square of the rms of bin `b` of samples in time order, 2^-80 pu² of rated rms (R308). -/
def binSq (xs : List Int) (b : Nat) : Nat :=
  let n := xs.length
  let step (z : Int × Int) (p : Int × Nat) : Int × Int :=
    let a := b * p.2 * 2 ^ 32 / n
    (z.1 + p.1 * cosU32 a, z.2 + p.1 * sinU32 a)
  let z := xs.zipIdx.foldl step (0, 0)
  let q : Nat := (z.1.natAbs ^ 2 + z.2.natAbs ^ 2) * (if b = 0 then 2 else 4)
  if n = 0 then 0 else (rneDiv (q : Nat) (n ^ 2 * 2 ^ 128)).toNat

/-- Square of the rms of the component at 2,100 + 200·b Hz of 15,625 samples of 5 ms, 2^-80 pu² (R310). -/
def bandSq (xs : List Int) (b : Nat) : Nat :=
  let n := xs.length
  let step (z : Int × Int) (p : Int × Nat) : Int × Int :=
    let a := (2 * b + 21) * p.2 * 2 ^ 31 / n
    (z.1 + p.1 * cosU32 a, z.2 + p.1 * sinU32 a)
  let z := xs.zipIdx.foldl step (0, 0)
  if n = 0 then 0 else (rneDiv (4 * (z.1.natAbs ^ 2 + z.2.natAbs ^ 2) : Nat) (n ^ 2 * 2 ^ 128)).toNat

/-- Harmonic group (R308): G_0 is bin 0; the end bins of the others count at half power. -/
def groupSq (xs : List Int) (w h : Nat) : Nat :=
  if h = 0 then binSq xs 0
  else (List.range (w + 1)).foldl (fun a (i : Nat) =>
    -- the bin and twice its distance from the centre
    let bin := w * h + i - w / 2
    let d := 2 * Nat.max (i - w / 2) (w / 2 - i)
    if d < w then a + binSq xs bin else if d = w then a + binSq xs bin / 2 else a) 0

/-- Interharmonic group (R308). -/
def interSq (xs : List Int) (w h : Nat) : Nat :=
  (List.range (w - 1)).foldl (fun a i => a + binSq xs (w * h + 1 + i)) 0

/-- Square of the rms of all samples, 2^-80 pu². -/
def rmsSq (xs : List Int) : Nat :=
  if xs.length = 0 then 0 else 2 * xs.foldl (fun a x => a + x.natAbs ^ 2) 0 / xs.length

/-- A square of 2^-80 as its root in Q15.16. -/
def rootWord (q : Nat) : Word := satWord (rneDiv (isqrt q : Nat) (2 ^ 24))

/-- Orders valid for a channel (R308). -/
def State.hmax (s : State) (m : Nat) : Nat :=
  let src := s.rd (PQE.CH.CFG.SRC m)
  let code := s.qInUse src
  if s.on (PQE.CH.CFG.FUSED m) && isSv code then
    match s.ctx (svCtx code) with
    | some c => min 100 (c.u 18 2 * 1000000 / Nat.max 1 (2 * s.rd SYN.F_SEL.VALUE) - 1)
    | none => 0
  else 100

/-- Adds one interval's squares to an aggregate. -/
def PqSum.add (a : PqSum) (start : Nat) (g ig : List Nat) (rms : Nat) (flag : Bool) : PqSum :=
  let plus (x y : List Nat) : List Nat := if x.isEmpty then y else x.zipWith (· + ·) y
  { n := a.n + 1, g := plus a.g g, ig := plus a.ig ig, rms := a.rms + rms,
    start := if a.n = 0 then start else a.start, flagged := a.flagged || flag }

/-- The results of an aggregate: roots of mean squares (R309). -/
def PqSum.result (a : PqSum) : PqRes :=
  { start := a.start, g := a.g.map (fun x => rootWord (x / Nat.max 1 a.n)),
    ig := a.ig.map (fun x => rootWord (x / Nat.max 1 a.n)), rms := rootWord (a.rms / Nat.max 1 a.n),
    flagged := a.flagged }

/-- An aggregate takes an interval, and closes where `full` says so. -/
def PqCh.aggregate (c : PqCh) (i start : Nat) (g ig : List Nat) (rms : Nat) (flag : Bool)
    (full : PqSum → Bool) : PqCh × Option PqSum :=
  let a := (c.sums.getD i {}).add start g ig rms flag
  if full a then
    ({ c with sums := updAt c.sums i (fun _ => {}), res := updAt c.res (i + 1) (fun _ => a.result) }, some a)
  else ({ c with sums := updAt c.sums i (fun _ => a) }, none)

/-- The results of one channel for a window that ends at `till` (R308, R309). -/
def State.pqChannel (s : State) (w : PqWin) (till m : Nat) : State :=
  let c := w.ch.getD m {}
  if !c.en then s
  else
    let xs := c.smp.reverse
    let top := s.hmax m
    let g := (List.range 101).map (fun h => if h ≤ top then groupSq xs w.cycles h else 0)
    let ig := (List.range 100).map (fun h => if h ≤ top then interSq xs w.cycles h else 0)
    let r := rmsSq xs
    let flag := c.invalid || c.disturbed || c.freerun || w.frt
    let thd := (g.drop 2).take 39 |>.foldl (· + ·) 0
    let g1 := g.getD 1 0
    let s := (s.setWord (PQE.CH.RMS.VALUE m).addr (rootWord r)).setWord (PQE.CH.THD.VALUE m).addr
      (if g1 = 0 then Config.thdIdle thd else satWord (rneSqrt (thd * 2 ^ 32) g1))
    let s := ((s.wr (PQE.CH.STAT.HMAX m) top).wrB (PQE.CH.STAT.INVALID m) c.invalid).wrB
      (PQE.CH.STAT.FREERUN m) c.freerun
    let s := (s.wrB (PQE.CH.STAT.DISTURBED m) c.disturbed).wrB (PQE.CH.STAT.FLAGGED m) flag
    let res : PqRes := { start := w.start, g := g.map rootWord, ig := ig.map rootWord, rms := rootWord r,
                         flagged := flag }
    let s := if s.rd PQE.SPEC_SEL.CH = m then
        let s := s.each (List.range 101) (fun s h => s.setWord (PQE.HARM.VALUE h).addr (res.g.getD h 0))
        s.each (List.range 100) (fun s h => s.setWord (PQE.IHARM.VALUE h).addr (res.ig.getD h 0))
      else s
    let ten := decide (w.start / 600000000000 ≠ till / 600000000000)
    let two := decide (w.start / 7200000000000 ≠ till / 7200000000000)
    let h := s.mtr.pqCh.get m {}
    let h := { h with res := updAt h.res 0 (fun _ => res) }
    let (h, _) := h.aggregate 0 w.start g ig r flag (fun a => decide (15 ≤ a.n) || ten)
    let (h, t10) := h.aggregate 1 w.start g ig r flag (fun _ => ten)
    let h := match t10 with
      | some a =>
        let mean (l : List Nat) : List Nat := l.map (· / Nat.max 1 a.n)
        (h.aggregate 2 a.start (mean a.g) (mean a.ig) (a.rms / Nat.max 1 a.n) a.flagged (fun _ => two)).1
      | none => h
    s.modMtr (fun x => { x with pqCh := x.pqCh.upd m (fun _ => h) })

/-- The largest of a list of squares: index and value. -/
def largest (l : List Nat) : Nat × Nat :=
  l.zipIdx.foldl (fun (b : Nat × Nat) p => if b.2 < p.1 then (p.2, p.1) else b) (0, 0)

/-- A slot is enabled and its channel valid; otherwise its results read 0 (R310). -/
def State.slotLive (s : State) (j : Nat) : Bool := slotEn s j && s.on (MOD.CH.STATUS.VALID_S (slotChan s j))

/-- The results of a slot that is not live read 0 (R310). -/
def State.showSupra (s : State) (j : Nat) : State :=
  if s.slotLive j then s
  else ((s.wr (PQE.SUPRA.PEAK.BAND j) 0).wr (PQE.SUPRA.PEAK_VAL.VALUE j) 0).wr (PQE.SUPRA.TOTAL.VALUE j) 0

/-- A supraharmonic slot at the end of a window (R310). -/
def State.supSlotEnd (s : State) (j : Nat) : State :=
  let u := s.mtr.sup.get j {}
  let live := s.slotLive j
  let sq := if live ∧ 0 < u.n then u.sum.map (· / u.n) else List.replicate 740 0
  let (b, p) := largest sq
  let s := (s.wr (PQE.SUPRA.PEAK.BAND j) b).setWord (PQE.SUPRA.PEAK_VAL.VALUE j).addr (rootWord p)
  let s := s.setWord (PQE.SUPRA.TOTAL.VALUE j).addr (rootWord (sq.foldl (· + ·) 0))
  s.modMtr (fun m => { m with sup := m.sup.upd j (fun _ => { spec := sq.map rootWord }) })

/-- PQ_WINDOW_END (R307 to R310): the results of the oldest window that ended. -/
def execPqWindowEnd (t : Time) (s : State) : Host.Outcome State Fault Refusal :=
  s.during t (fun s =>
    match s.mtr.ended with
    | [] => s
    | w :: rest =>
      let till := match rest.head?, s.mtr.pq with
        | some x, _ => x.start
        | none, some x => x.start
        | none, none => s.mtr.tPrev.getD w.start
      let s := s.modMtr (fun m => { m with ended := rest })
      let s := s.each (List.range 16) (fun s m => s.pqChannel w till m)
      let s := s.each (List.range 8) State.supSlotEnd
      let any := w.ch.any (fun c => c.en && (c.invalid || c.disturbed || c.freerun || w.frt))
      ((s.wrB PQE.STATUS.FLAGGED any).inc PQE.STATUS.WIN_CNT).wr64 PQE.WIN_TIME.TAI_NS w.start)

/-- SUPRA_DFT_DONE (R310): 15,625 samples of a slot; their band squares join the window. -/
def execSupraDftDone (t : Time) (j : Fin 8) (s : State) : Host.Outcome State Fault Refusal :=
  s.during t (fun s =>
    let n := slotChan s j
    let c := s.chan n
    if !slotEn s j || decide (c.supWin.length < 15625) then s
    else
      let xs := c.supWin.reverse
      let sq := if c.supOk then (List.range 740).map (fun b => bandSq xs b) else List.replicate 740 0
      let s := s.modChan n (fun c => { c with supWin := [], supOk := true })
      s.modMtr (fun m => { m with sup := m.sup.upd j (fun u =>
        { u with sum := if u.sum.isEmpty then sq else u.sum.zipWith (· + ·) sq, n := u.n + 1 }) }))

/-! ### Zero and span averages (R72 to R74) -/

/-- A register value that takes effect at the next tick after this cycle (R30). -/
def State.pendReg (s : State) (a : Nat) (v : Word) : State :=
  { s.setWord a v with
    pend := s.pend.filter (fun w => decide (¬(w.space = .reg ∧ w.addr = a ∧ w.cycle = s.cycle)))
      ++ [{ space := .reg, addr := a, val := v, cycle := s.cycle }] }

/-- CAL_BUSY follows the averages (R73). -/
def State.refreshCal (s : State) : State :=
  s.wrB MOD.STATUS.CAL_BUSY ((List.range 40).any (fun n => (s.chan n).cal.isSome))

/-- The average ends, its cue fails with a detail (R73). -/
def State.calEnd (s : State) (n d : Nat) : State :=
  (((s.modChan n (fun c => { c with cal := none })).refreshCal).finishCue (.cal n) csFAILED d [])

/-- The average ends with a new coefficient at the next tick (R73, R74); on a channel sealed meanwhile its cue fails and
the coefficient stays (R76). -/
def State.calDone (s : State) (n a : Nat) (v : Word) : State :=
  if s.on MOD.CTRL.METRO_SEALED && s.on (MOD.CH.STATUS.METER n) then
    (((s.modChan n (fun c => { c with cal := none })).refreshCal).finishCue (.cal n) csSEALED 1 [])
  else
  let s := (s.modChan n (fun c => { c with cal := none })).refreshCal
  let old := s.word a
  let s := s.actFor (.cal n)
  let s := if old = v then s else s.logCue (tgReg a) old.toNat v.toNat
  ((s.pendReg a v).actNone).finishCue (.cal n) csOK 0 (le32 v)

/-- A span's result against NOM_GAIN and its divisor (R73): the gain is within ±25 %, its divisor at least
0.01 FS, a negative one by its magnitude (log entry 22). -/
def State.spanOk (s : State) (n : Nat) (g : F32) (div : Dy) : Bool :=
  let nom := f32Val (s.word (MOD.CH.NOM_GAIN.VALUE n).addr)
  let d := dyAdd (f32Val g) (dyNeg nom)
  let abs (x : Dy) : Dy := ⟨x.m.natAbs, x.e⟩
  !dyLt (dyMul (abs nom) ⟨1, -2⟩) (abs d) && !dyLt (dyMul (abs div) ⟨100, 0⟩) ⟨1, 0⟩

/-- CAL_AVERAGE_DONE (R72, R73): the average of a channel has all its samples, or has failed. -/
def execCalAverageDone (t : Time) (n : Fin 40) (s : State) : Host.Outcome State Fault Refusal :=
  s.during t (fun s =>
    match (s.chan n).cal with
    | none => s
    | some r =>
      match r.fail with
      | some d => s.calEnd n d
      | none =>
        match r.kind with
        | .zero =>
          if r.count < 65536 then s
          else
            let mean : Dy := ⟨r.sum.m, r.sum.e - 16⟩
            if dyLt (dyMul ⟨mean.m.natAbs, mean.e⟩ ⟨20, 0⟩) ⟨1, 0⟩ || decide (dyFix mean 60 * 20 = 2 ^ 60) then
              s.calDone n (MOD.CH.OFFSET.VALUE n).addr (f32OfDy false mean)
            else s.calEnd n 3
        | .dc =>
          if r.count < 65536 then s
          else
            let div := dyAdd ⟨r.sum.m, r.sum.e - 16⟩ (dyNeg (s.coefE (MOD.CH.OFFSET.VALUE n)))
            let x := dyRat (f32Val r.x)
            let d := dyRat div
            let g := if d.1 = 0 then 0
              else f32OfRat false (if d.1 < 0 then -(x.1 * d.2) else x.1 * d.2) (x.2 * d.1.natAbs)
            if s.spanOk n g div then s.calDone n (MOD.CH.GAIN.VALUE n).addr g else s.calEnd n 4
        | .ac =>
          if r.count < 25600 then s
          else
            -- X / √(2 Σ / 25,600)
            let x := dyRat (f32Val r.x)
            let q := dyRat r.sum
            let g := if q.1 ≤ 0 then 0
              else f32OfSqrt (decide (x.1 < 0)) (x.1.natAbs ^ 2 * 12800 * q.2) (x.2 ^ 2 * q.1.natAbs) 0
            let root : Dy := ⟨isqrt ((dyFix r.sum 80).toNat / 12800), -40⟩
            if s.spanOk n g root then s.calDone n (MOD.CH.GAIN.VALUE n).addr g else s.calEnd n 4)

end Sys2Proof.Machine
end

