-- ==== Sys2Proof/Machine/GovCore.lean ====
section
/-!
DEFINITION. The energy governor's shared operations (spec/12_trip_network.md R264, R265, R268).
-/
namespace Sys2Proof.Machine
open Reg

/-- The governor source follows its conditions (R268), and BND.ILIM.GOV the lockout (R264, R265). -/
def State.refreshGov (s : State) : State :=
  let m := s.rd TRP.FC.GOV_MASK
  let lock := s.on TRP.GOV_STAT.LOCK_GRID || s.on TRP.GOV_STAT.LOCK_DUMP
  let c := lock || (bit m 1 && s.on TRP.GOV_STAT.REFUSED)
    || (bit m 2 && (s.on TRP.GOV_STAT.DIS_LATE || s.on TRP.GOV_STAT.DIS_BLOCKED))
  let s := s.wr BND.ILIM.GOV (if s.on TRP.GOV_STAT.LOCK_GRID then 0 else s.rd TRP.FC.FC_LIM)
  s.putSource 36 c

/-- The SC events of an island still within SC_WIN (R264). -/
def State.scWindow (s : State) (n : Nat) : List (Time × Nat) :=
  (s.island n).scTimes.filter (fun e => decide (s.now ≤ e.1 + s.rd TRP.SC_LOCK.SC_WIN * sec))

/-- Shows an island's window count and I2T sum (TRP.I2T). -/
def State.showI2t (s : State) (n : Nat) : State :=
  let w := s.scWindow n
  let s := s.modIsland n (fun i => { i with scTimes := w })
  (s.wr (TRP.I2T.WIN_CNT n) w.length).wr (TRP.I2T.I2T n)
    (min (2 ^ 24 - 1) (w.foldl (fun a e => a + e.2) 0))

/-- Contribution of one SC report in 1/256 pu² µs: I_SC² × (0.1 µs + SOFT_T) (R264). -/
def State.scEnergy (s : State) (n : Nat) : Nat :=
  (rneDiv ((s.rd TRP.I2T_CFG.I_SC ^ 2 * (1 + s.rd (ISL.TIMING.SOFT_T n)) * 256 : Nat) : Int)
    10000000).toNat

/-- The island's group is locked out (R264): the group's lockout bit, its forced trip and the
governor source. -/
def State.lockOut (s : State) (n : Nat) : State :=
  let s := if 12 ≤ n then s.set TRP.GOV_STAT.LOCK_DUMP else s.set TRP.GOV_STAT.LOCK_GRID
  (s.forceTrip 36 (islandGroup n)).refreshGov

/-- An SC report from island `n` reaches the governor (R264). -/
def State.scReport (s : State) (n : Nat) : State :=
  let e := s.scEnergy n
  let s := (s.modIsland n (fun i => { i with scTimes := ((s.now, e) :: i.scTimes).take 16 })).showI2t n
  if s.rd TRP.SC_LOCK.SC_N ≤ s.rd (TRP.I2T.WIN_CNT n)
      ∨ s.rd TRP.I2T_CFG.I2T_MAX * 256 < s.rd (TRP.I2T.I2T n) then s.lockOut n
  else s

end Sys2Proof.Machine
end

