-- ==== Sys2Proof/Machine/Link.lean ====
section
/-!
DEFINITION. The Pyngeo link and the gate islands (spec/07_gate_islands.md): slots, frames received
at each end, and what an island does by itself.
-/
namespace Sys2Proof.Machine
open Reg

/-! ### The 32-bit frame (R157, R158) -/

/-- A frame: TYPE, ARG, SEQ and PAYLOAD over the CRC-8 of bits 31:8 (R157). -/
def linkFrame (type arg seq payload : Nat) : Word :=
  let x := BitVec.ofNat 24 (((type % 8 * 4 + arg % 4) * 8 + seq % 8) * 65536 + payload % 65536)
  x ++ crc8 [x.extractLsb' 16 8, x.extractLsb' 8 8, x.extractLsb' 0 8]

/-- Bits 31:8 of a frame agree with its CRC-8 (R157). -/
def frameGood (w : Word) : Bool :=
  decide (crc8 [w.extractLsb' 24 8, w.extractLsb' 16 8, w.extractLsb' 8 8] = w.extractLsb' 0 8)

/-- The fields of a frame (R157). -/
def frameType (w : Word) : Nat := w.toNat / 2 ^ 29
def frameArg (w : Word) : Nat := w.toNat / 2 ^ 27 % 4
def frameSeq (w : Word) : Nat := w.toNat / 2 ^ 24 % 8
def framePayload (w : Word) : Nat := w.toNat / 2 ^ 8 % 65536

/-- A reserved type: 5 to 7 to an island, 7 from one (R158). -/
def frameReserved (atIsland : Bool) (w : Word) : Bool :=
  decide ((if atIsland then 5 else 7) ≤ frameType w)

/-- TYPE, ARG and PAYLOAD of a primary frame in a slot (R158): an edge's offset counts from the slot's start, so
that a repeat carries it reduced by one slot (R159). -/
def Down.fields (slotStart : Time) : Down → Nat × Nat × Nat
  | .ping t => (0, 0, t)
  | .edgeArm on imm t => (1, b2n on + 2 * b2n imm, t - slotStart)
  | .cancel t => (2, 0, t - slotStart)
  | .stateOff => (3, 0, 0)
  | .outerConfirm => (3, 1, 0)
  | .clear => (3, 2, 0)
  | .cfg item value => (4, 0, item % 256 * 256 + value % 256)

/-- TYPE, ARG and PAYLOAD of an island frame in a slot (R158): times count back from the slot's start. -/
def Up.fields (slotStart : Time) : Up → Nat × Nat × Nat
  | .idle seq => (0, 0, seq)
  | .edgeDone res t => (1, res, slotStart - t)
  | .vceTime rise t => (2, b2n rise, slotStart - t)
  | .fault bits => (3, 0, bits)
  | .softDone t => (4, 0, slotStart - t)
  | .meas kind val => (5, kind, val)
  | .nak seq => (6, 0, seq)

/-- The bits on the wire of a frame with its SEQ. -/
def wireOf (fields : Nat × Nat × Nat) (seq : Nat) : Word := linkFrame fields.1 fields.2.1 seq fields.2.2

/-! ### Settings held by an island (R158, R164) -/

/-- CFG item of a field: the byte offset of its word in ISL[n]; 0x40 for the DT fields, 0x44 for the inner delay. The
numbering is internal to the module (R158). -/
def itemOf (f : Field) : Nat :=
  if 0x9100 ≤ f.addr ∧ f.addr < 0x9480 then (f.addr - 0x9100) % 0x40
  else if f.addr = TRP.HARDOFF.INNER_DLY.addr then 0x44 else 0x40

/-- Every CFG item: the bytes of the settings of ISL[n], of DT and of the inner delay (R164). -/
def cfgItems : List Nat :=
  [0, 2, 4, 5, 6, 7, 8, 12, 13, 14, 16, 17, 20, 21, 22, 23, 48, 49, 50, 64, 65, 66, 67, 68]

/-- The carrier unit whose dead time serves an island (R138). -/
def islandUnit (n : Nat) : Nat := if 12 ≤ n then 9 else 0

/-- The value of a CFG item in the register window. -/
def State.cfgValue (s : State) (n item : Nat) : Nat :=
  let a := if item < 64 then 0x9100 + 0x40 * n + item / 4 * 4
    else if item < 68 then (PWM.CU.DT.DT_MIN (islandUnit n)).addr else TRP.HARDOFF.INNER_DLY.addr
  (s.word a).toNat / 2 ^ (8 * (item % 4)) % 256

/-- A byte the island holds. -/
def Island.cfgByte (i : Island) (item : Nat) : Nat :=
  match i.cfg.find? (fun e => decide (e.1 = item)) with | some e => e.2.toNat | none => 0

/-- A setting as the island holds it. -/
def Island.setting (i : Island) (f : Field) : Nat :=
  let k := itemOf f
  getField (BitVec.ofNat 32 (i.cfgByte k + 256 * (i.cfgByte (k + 1) + 256 * (i.cfgByte (k + 2) + 256 * i.cfgByte (k + 3))))) f

/-- A setting in force at island `n`. -/
def State.islRd (s : State) (n : Nat) (f : Field) : Nat := (s.island n).setting f

/-- CFG frames of items on a link that has trained (R137, R158, R164). -/
def State.sendCfg (s : State) (n : Nat) (items : List Nat) : State :=
  if (s.island n).joined then s.each items (fun s k => s.sendDown n (.cfg k (s.cfgValue n k))) else s

/-! ### Slots (R157 to R160) -/

/-- A frame goes out as two copies (R159). -/
def Down.critical : Down → Bool
  | .ping _ | .cfg _ _ => false
  | _ => true

/-- A report goes out as two copies (R159). -/
def Up.critical : Up → Bool
  | .edgeDone _ _ | .fault _ | .softDone _ => true
  | _ => false

/-- Slot order of R159: STATE OFF, other critical, CFG, PING. -/
def Down.rank : Down → Nat
  | .stateOff => 0
  | .cfg _ _ => 2
  | .ping _ => 3
  | _ => 1

/-- An EDGE_ARM is sent only when its offset fits in 16 bits (R160). -/
def Down.fits (slotStart : Time) : Down → Bool
  | .edgeArm _ _ t => decide (t ≤ slotStart + 65535)
  | _ => true

/-- A queued frame may take a slot: its decision has committed (R26) and its offset fits (R160). -/
def Queued.mayGo (slotStart : Time) (q : Queued Down) : Bool :=
  q.frame.fits slotStart && decide (q.ready ≤ slotStart)

/-- Removes the first element that satisfies a predicate, or puts `f` of it in its place. -/
def takeFirst {α : Type} (p : α → Bool) (f : α → Option α) : List α → List α
  | [] => []
  | x :: xs =>
    if p x then (match f x with | some y => y :: xs | none => xs) else x :: takeFirst p f xs

/-- The queued frame that takes a slot (R159): the lowest rank, a repeat before a new frame. -/
def pickDown (slotStart : Time) (q : List (Queued Down)) : Option (Queued Down) :=
  let c := q.filter (Queued.mayGo slotStart)
  let first (r : Nat) : Option (Queued Down) :=
    (c.find? (fun e => decide (e.frame.rank = r) && e.sent)).or (c.find? (fun e => decide (e.frame.rank = r)))
  (first 0).or ((first 1).or ((first 2).or (first 3)))

/-- The report that takes a slot: a repeat, then critical reports, then the rest. -/
def pickUp (q : List (Queued Up)) : Option (Queued Up) :=
  (q.find? (fun e => e.frame.critical && e.sent)).or
    ((q.find? (fun e => e.frame.critical)).or q.head?)

/-- The downlink of one slot: the frame on the wire; a critical frame stays queued for its repeat, and an EDGE_ARM ON
ends the record of a completed turn-off (R166); CFG and PING await their echo; an empty queue carries PING (R157), a muted
link nothing (R163). -/
def Island.slotDown (i : Island) (t : Time) : Island :=
  match pickDown t i.txq with
  | some q =>
    let rest := takeFirst (fun e => decide (e = q))
      (fun e => if e.frame.critical && !e.sent then some { e with sent := true } else none) i.txq
    { i with
      wire := some (wireOf (q.frame.fields t) q.seq), txq := rest
      offDone := i.offDone && !(match q.frame with | .edgeArm on _ _ => on | _ => false)
      echoes := if q.frame.critical then i.echoes
        else { seq := q.seq, done := t + slot, frame := q.frame, resent := q.sent }
          :: i.echoes.filter (fun e => decide (e.seq ≠ q.seq)) }
  | none =>
    if i.muted then { i with wire := none }
    else
      let f := Down.ping (t / sclk % 65536)
      { i with
        wire := some (wireOf (f.fields t) i.txSeq), txSeq := (i.txSeq + 1) % 8
        echoes := ({ seq := i.txSeq, done := t + slot, frame := f } : Echo)
          :: i.echoes.filter (fun e => decide (e.seq ≠ i.txSeq)) }

/-- Queues a report (R158). -/
def Island.report (i : Island) (f : Up) : Island :=
  { i with upq := i.upq ++ [{ frame := f, seq := i.upSeq }], upSeq := (i.upSeq + 1) % 8 }

/-- The level bits of a FAULT frame (R158, R446): OC 1, UVLO 2, UV_WARN 3, OT 4. -/
def Island.levels (i : Island) : Nat :=
  2 * b2n i.oc + 4 * b2n i.uvlo + 8 * b2n i.warn + 16 * b2n i.ot

/-- Queues a FAULT frame with the present levels and the named events (R446). -/
def Island.faultReport (i : Island) (events : Nat) : Island := i.report (.fault (i.levels ||| events))

/-- Event bits of a FAULT frame (R158). -/
abbrev fbSC : Nat := 1
abbrev fbDOUBLE : Nat := 32
abbrev fbINNER : Nat := 64
abbrev fbLOST : Nat := 128

/-- The uplink of one slot: a queued report; with none, an island that self-offed reports LINK_LOST again (R163), and
any other sends IDLE with the SEQ of the last good primary frame. -/
def Island.slotUp (i : Island) (t : Time) : Island :=
  let i := if i.lost && i.upq.isEmpty then i.faultReport fbLOST else i
  match pickUp i.upq with
  | some q =>
    { i with
      upWire := some (wireOf (q.frame.fields t) q.seq)
      upq := takeFirst (fun e => decide (e = q))
        (fun e => if e.frame.critical && !e.sent then some { e with sent := true } else none) i.upq }
  | none =>
    { i with upWire := some (wireOf ((Up.idle i.goodSeq).fields t) i.upSeq), upSeq := (i.upSeq + 1) % 8 }

/-- LINK_SLOT (R157 to R160): a 40 ns slot starts on island `n`'s link, in both directions. -/
def execLinkSlot (t : Time) (n : Fin 14) (s : State) : Host.Outcome State Fault Refusal :=
  s.during t (fun s =>
    -- without SCLK the links stop (R342)
    if s.clk.stopped then s
    else
      let t0 := s.now / slot * slot
      s.modIsland n (fun i => (i.slotDown t0).slotUp t0))

/-! ### The island's own actions -/

/-- The island is inner (R150). -/
def isInner (n : Nat) : Bool := decide (islandRole n = 1)

/-- A soft-off begins (R156): EDGE_DONE off is reported after any FAULT frame already queued. A
switch already off, or in soft-off, does not begin one. -/
def State.softOffIsland (s : State) (n : Nat) : State :=
  if (s.island n).soft.isSome || !(s.island n).on then s
  else
    let s := s.modIsland n (fun i =>
      { i with soft := some s.now, on := false, rel := none, scWait := none }.report (.edgeDone 0 s.now))
    s.set (ISL.STATUS.SOFT_ACTIVE n)

/-- A commanded turn-off executes (R156): soft while the island's OC or SC level is active, through
OUTL otherwise. -/
def State.turnOff (s : State) (n : Nat) : State :=
  let i := s.island n
  if i.oc || i.sc then s.softOffIsland n
  else s.modIsland n (fun i => { i with on := false, rel := none, scWait := none }.report (.edgeDone 0 s.now))

/-- A turn-on executes: blanking of the OC level starts (R165). -/
def State.turnOn (s : State) (n : Nat) : State :=
  let b := (s.islRd n (ISL.SENSE.BLANK n) + 1) * (us / 2)
  s.modIsland n (fun i =>
    { i with on := true, rel := none, blankEnd := s.now + b, ocWait := false }.report (.edgeDone 1 s.now))

/-- The island accepts an ON edge (R153, R164, R166). -/
def State.acceptsOn (s : State) (n : Nat) : Bool :=
  let i := s.island n
  !i.latched && !i.held && i.trained
    && (match i.goodSince with | some g => decide (g + 50 * us ≤ s.now) | none => false)

/-- An ON edge that is not executed (R161): reported as no change; REFUSED shows where the fault
latch refused it. -/
def State.refuseOn (s : State) (n : Nat) : State :=
  let s := if (s.island n).latched then s.set (ISL.STATUS.REFUSED n) else s
  s.modIsland n (fun i => { i with rel := none }.report (.edgeDone 2 s.now))

/-- A good primary frame arrives (R163), ending at `s.now`. -/
def State.goodDown (s : State) (n seq : Nat) : State :=
  s.modIsland n (fun i => { i with goodDown := s.now, goodSeq := seq, runDown := 0 })

/-- A good PING or CFG: no repeat of a critical frame follows it (R159). -/
def State.plainDown (s : State) (n seq : Nat) : State :=
  (s.goodDown n seq).modIsland n (fun i => { i with downSeen := [] })

/-- Whether a critical frame is a later copy of one acted on (R159): of the last, or of the one before it, whose
repeat a STATE OFF pair overtook. -/
def Island.repeatDown (i : Island) (type seq : Nat) : Bool := i.downSeen.contains (type, seq)

/-- A critical frame of a TYPE and SEQ is acted on once (R159). -/
def State.onceDown (s : State) (n type seq : Nat) (f : State → State) : State :=
  let s' := s.goodDown n seq
  if (s.island n).repeatDown type seq then s'
  else f (s'.modIsland n (fun i => { i with downSeen := ((type, seq) :: i.downSeen).take 2 }))

/-- PING (R158, R164): the island's time base keeps phase; the frame is confirmed by the SEQ echo. -/
def execPing (t : Time) (n : Fin 14) (seq : BitVec 3) (s : State) : Host.Outcome State Fault Refusal :=
  s.during t (fun s => s.plainDown n seq.toNat)

/-- EDGE_ARM at its island (R161): `off` counts 39.0625 ps steps from the start of the frame's slot,
which ends now. It replaces any armed edge. After its instant an OFF acts at once and an ON does not execute; with the
fault latched an ON is refused in any case. -/
def State.edgeArm (s : State) (n : Nat) (on imm : Bool) (off : Nat) : State :=
  let te := s.now - slot + off
  if on && (s.island n).latched then (s.modIsland n (fun i => { i with armed := none })).refuseOn n
  else if s.now ≤ te then s.modIsland n (fun i => { i with armed := some (on, imm, te) })
  else
    let s := s.modIsland n (fun i => { i with armed := none })
    if !on && (s.island n).on then s.turnOff n
    else s.modIsland n (fun i => { i with rel := none }.report (.edgeDone 2 s.now))

/-- EDGE_ARM. -/
def execEdgeArm (t : Time) (n : Fin 14) (seq : BitVec 3) (on imm : Bool) (off : BitVec 16)
    (s : State) : Host.Outcome State Fault Refusal :=
  s.during t (fun s => s.onceDown n 1 seq.toNat (fun s => s.edgeArm n on imm off.toNat))

/-- CANCEL at its island (R161): removes the armed edge and its release when the offsets are equal
and it arrives at least 40 ns before the instant; otherwise it is ignored. -/
def State.cancelEdge (s : State) (n : Nat) (off : Nat) : State :=
  match (s.island n).armed with
  | some (_, _, te) =>
    if te = s.now - slot + off ∧ s.now + slot ≤ te then
      s.modIsland n (fun i => { i with armed := none, rel := none })
    else s
  | none => s

/-- CANCEL. -/
def execCancel (t : Time) (n : Fin 14) (seq : BitVec 3) (off : BitVec 16) (s : State) : Host.Outcome State Fault Refusal :=
  s.during t (fun s => s.onceDown n 2 seq.toNat (fun s => s.cancelEdge n off.toNat))

/-- STATE OFF at its island (R161): the armed edge is dropped and the switch turns off at receipt; a
switch already off, or in soft-off, gives no change. -/
def State.stateOff (s : State) (n : Nat) : State :=
  let s := s.modIsland n (fun i => { i with armed := none, rel := none })
  if (s.island n).on then s.turnOff n
  else s.modIsland n (fun i => i.report (.edgeDone 2 s.now))

/-- STATE OFF. -/
def execStateOff (t : Time) (n : Fin 14) (seq : BitVec 3) (s : State) : Host.Outcome State Fault Refusal :=
  s.during t (fun s => s.onceDown n 3 seq.toNat (fun s => s.stateOff n))

/-- OUTER_CONFIRM at its island (R166): an inner island that waits after an SC detection begins its
soft-off; any other ignores it. -/
def State.outerConfirm (s : State) (n : Nat) : State :=
  match (s.island n).scWait with
  | some _ => (s.modIsland n (fun i => { i with scWait := none })).softOffIsland n
  | none => s

/-- OUTER_CONFIRM. -/
def execOuterConfirm (t : Time) (n : Fin 14) (seq : BitVec 3) (s : State) : Host.Outcome State Fault Refusal :=
  s.during t (fun s => s.onceDown n 3 seq.toNat (fun s => s.outerConfirm n))

/-- Source 28 holds while any island latched by SC or INNER_TIMEOUT awaits CLEAR (R257). -/
def State.refreshSc (s : State) : State :=
  s.putSource 28 ((List.range 14).any (fun n =>
    (s.island n).scLatch))

/-- CLEAR at its island (R164, R166): after every CFG item of its training, the fault latch and the
hold end; before that it is ignored and not stored. -/
def State.clearIsland (s : State) (n : Nat) : State :=
  if (s.island n).cfgDone then
    let s := s.modIsland n (fun i => { i with latched := false, held := false, scLatch := false, wantConfirm := false })
    ((s.wr (ISL.STATUS.FAULT_LATCH n) 0).wrBit ISL.SUMMARY.FAULT n false).refreshSc
  else s

/-- CLEAR. -/
def execClear (t : Time) (n : Fin 14) (seq : BitVec 3) (s : State) : Host.Outcome State Fault Refusal :=
  s.during t (fun s => s.onceDown n 3 seq.toNat (fun s => s.clearIsland n))

/-- CFG at its island (R158, R164): the island holds the item's value from now on, and its training is configured once
every item has arrived; the frame is confirmed by the SEQ echo. -/
def execLinkCfg (t : Time) (n : Fin 14) (seq : BitVec 3) (item value : Byte) (s : State) : Host.Outcome State Fault Refusal :=
  s.during t (fun s =>
    (s.plainDown n seq.toNat).modIsland n (fun i =>
      let k := item.toNat
      let got := if i.got.contains k then i.got else k :: i.got
      { i with cfg := (k, value) :: i.cfg.filter (fun e => decide (e.1 ≠ k)), got := got
               cfgDone := i.trained && cfgItems.all got.contains }))

/-! ### Frames received at the primary -/

/-- A good island frame arrives (R163). -/
def State.goodUp (s : State) (n : Nat) : State :=
  s.modIsland n (fun i => { i with goodUp := s.now, runUp := 0 })

/-- A good frame that is no critical report: no repeat of one follows it (R159). -/
def State.plainUp (s : State) (n : Nat) : State :=
  (s.goodUp n).modIsland n (fun i => { i with upSeen := none })

/-- A critical report of a kind and SEQ is acted on once (R159). -/
def State.onceUp (s : State) (n kind seq : Nat) (f : State → State) : State :=
  let rep := decide ((s.island n).upSeen = some (kind, seq))
  let s := (s.goodUp n).modIsland n (fun i => { i with upSeen := some (kind, seq) })
  if rep then s else f s

/-- A CLEAR the primary sends (R166), only once the CFG items of the link's training are confirmed (R164); its own
record of the island's short circuit ends with it (R257, R262). -/
def State.sendClear (s : State) (n : Nat) : State :=
  if s.on (ISL.STATUS.LINK_UP n) then
    ((s.sendDown n .clear).modIsland n (fun i => { i with scLatch := false, wantConfirm := false })).refreshSc
  else s

/-- A link that is not up after it was lost: muted, or in training again (R163). -/
def State.linkDown (s : State) (n : Nat) : Bool :=
  (s.island n).muted || ((s.island n).joined && !s.on (ISL.STATUS.LINK_UP n))

/-- Every CFG item of a training is confirmed (R164): LINK_UP sets, source 34 ends with the last lost link, and a dump
island is cleared where the dump target is not tripped (R166). -/
def State.linkUp (s : State) (n : Nat) : State :=
  let s := (s.set (ISL.STATUS.LINK_UP n)).wrBit ISL.SUMMARY.LINK_UP n true
  let s := if (List.range 14).any s.linkDown then s else s.putSource 34 false
  if 12 ≤ n ∧ ¬ (s.rd TRP.TGT.TRIPPED).testBit 9 then s.sendClear n else s

/-- IDLE (R158, R162, R164): the echo confirms the CFG or PING of that SEQ; the last CFG item of a training brings the
link up. -/
def execIdle (t : Time) (n : Fin 14) (_seq echo : BitVec 3) (s : State) : Host.Outcome State Fault Refusal :=
  s.during t (fun s =>
    let done := (s.island n).echoes.filterMap (fun e =>
      match e.frame with | .cfg k _ => if e.seq = echo.toNat then some k else none | _ => none)
    let s := (s.plainUp n).modIsland n (fun i =>
      { i with echoes := i.echoes.filter (fun e => decide (e.seq ≠ echo.toNat))
               cfgTodo := i.cfgTodo.filter (fun k => !done.contains k) })
    if (s.island n).joined && (s.island n).cfgTodo.isEmpty && !s.on (ISL.STATUS.LINK_UP n) then s.linkUp n else s)

/-- The islands of the leg an island belongs to: T1 to T4 (R150). -/
def legIslands (n : Nat) : List Nat := let b := n / 4 * 4; [b, b + 1, b + 2, b + 3]

/-- OUTER_CONFIRM goes to both inner islands of a leg once an inner island of it has reported SC and
both outer islands have completed their turn-off (R166). -/
def State.tryConfirm (s : State) (n : Nat) : State :=
  let b := n / 4 * 4
  if 12 ≤ n then s
  else if ((s.island (b + 1)).wantConfirm || (s.island (b + 2)).wantConfirm)
      && (s.island b).offDone && (s.island (b + 3)).offDone then
    let s := s.each [b + 1, b + 2] (fun s k => s.modIsland k (fun i => { i with wantConfirm := false }))
    (s.sendDown (b + 1) .outerConfirm).sendDown (b + 2) .outerConfirm
  else s

/-- The edge of a leg that a report of island `n` at `te` executes (R116): a level change by the turn-off of its outgoing
switch, a release from OFF by the turn-on of T2, a dump edge by its own switch; at its instant or, for an OFF that its
island received late (R161), after it. -/
def State.reported (s : State) (l n : Nat) (on : Bool) (te : Time) : Option Edge :=
  let hit (e : Edge) : Bool :=
    if 12 ≤ n then decide (e.new = 2) == on
    else if e.old = 3 then on && decide (n = 4 * l + 1)
    else !on && decide (outgoing l e.old e.new = n)
  let es := (s.leg l).edges
  (es.find? (fun e => hit e && decide (e.te = te))).or
    (es.reverse.find? (fun e => hit e && !on && !e.withdrawn && decide (e.te < te)))

/-- The leg whose edges an island executes: a phase, or a half of the dump. -/
def islandLeg (n : Nat) : Nat := if 12 ≤ n then n - 1 else n / 4

/-- The level of a leg as a dump half or a grid leg stores it. -/
def State.takeLevel (s : State) (l v : Nat) : State :=
  if l ≤ 10 then s.wr (BND.CH.STATE.LEVEL l) v else s.modLeg l (fun b => { b with on := decide (v = 2) })

/-- A grid or dump leg takes an island's execution report (R115, R116): its edge has executed and counts, but for the
release from OFF; where the edge was withdrawn, its CANCEL came late and the leg takes the executed level at once, a newer
armed edge staying armed. -/
def State.legReport (s : State) (n : Nat) (on : Bool) (te : Time) : State :=
  let l := islandLeg n
  let c := legChannel l
  let s := if 12 ≤ n then
      s.wr (BND.CH.STATE.DUMP_SW 11) (setBit (s.rd (BND.CH.STATE.DUMP_SW 11)) (n - 12) on) else s
  match s.reported l n on te with
  | none => s
  | some e =>
    let s := s.modLeg l (fun b => { b with edges := b.edges.filter (fun x => decide (x ≠ e)) })
    let s := if e.old = 3 then s
      else (s.inc (BND.CH.CNT.EXECUTED c)).modLeg l (fun b => { b with nowCnt := b.nowCnt + 1 })
    if e.withdrawn then
      let s := ((s.set BND.STATUS.LATE_CANCEL).sat (BND.CH.EVT.LATE_CNT c)).reelEvent te c 3 e.new
      if !(s.leg l).released then s
      else match (s.leg l).armed with
        | some a => s.modLeg l (fun b => { b with armed := some { a with back := some e.new } })
        | none => s.takeLevel l e.new
    else s.reelEvent te c 2 e.new

/-- An edge reported as no change is recorded (R365) and awaits no other report. -/
def State.noChange (s : State) (n : Nat) (te : Time) : State :=
  let l := islandLeg n
  match (s.reported l n false te).or (if 12 ≤ n then s.reported l n true te else none) with
  | some e => (s.modLeg l (fun b => { b with edges := b.edges.filter (fun x => decide (x ≠ e)) })).reelEvent te
      (legChannel l) 4 e.new
  | none => s

/-- EDGE_DONE at the primary (R158, R166, R116): `res` 0 off, 1 on, 2 no change; `back` counts steps
back from the start of the frame's slot. -/
def State.edgeDone (s : State) (n res back : Nat) : State :=
  let te := s.now - slot - back
  let s := if res = 0 then (s.wr (ISL.STATUS.ON n) 0).inc (ISL.EDGES.OFF_CNT n)
    else if res = 1 then (s.set (ISL.STATUS.ON n)).inc (ISL.EDGES.ON_CNT n) else s
  let s := if res = 2 then s.noChange n te else s.legReport n (res = 1) te
  let off := decide (res = 0) || (decide (res = 2) && !s.on (ISL.STATUS.ON n))
  let s := if off && !s.on (ISL.STATUS.SOFT_ACTIVE n) then s.modIsland n (fun i => { i with offDone := true })
    else if res = 1 then s.modIsland n (fun i => { i with offDone := false }) else s
  s.tryConfirm n

/-- EDGE_DONE. -/
def execEdgeDone (t : Time) (n : Fin 14) (seq : BitVec 3) (res : Fin 3) (back : BitVec 16)
    (s : State) : Host.Outcome State Fault Refusal :=
  s.during t (fun s => s.onceUp n 1 seq.toNat (fun s => s.edgeDone n res back.toNat))

/-- VCE_TIME (R158, R169): the transition's time is held, and an observed fall ends the unit's run of misses (R137). -/
def execVceTime (t : Time) (n : Fin 14) (_seq : BitVec 3) (rise : Bool) (back : BitVec 16)
    (s : State) : Host.Outcome State Fault Refusal :=
  s.during t (fun s =>
    let s := (s.plainUp n).modIsland n (fun i => { i with vceAt := some (rise, s.now - slot - back.toNat) })
    if rise then s else s.modUnit (islandUnit n) (fun u => { u with missRun := 0 }))

/-- Sources 29 to 31 follow the level bits of the last FAULT frames (R446). -/
def State.refreshLevels (s : State) : State :=
  let any (f : Nat → Field) : Bool := (List.range 14).any (fun n => s.on (f n))
  let oc := any ISL.STATUS.OC_NOW
  let ot := any ISL.STATUS.OT_NOW
  let uv := any ISL.STATUS.WARN_NOW || any ISL.STATUS.UVLO_NOW
  ((s.putSource 29 oc).putSource 30 ot).putSource 31 uv

/-- The primary declares a link that had trained lost (R163): it sends nothing more on it but the island's STATE OFF in
group order, source 34 asserts, and the group is forced off. -/
def State.linkLost (s : State) (n : Nat) : State :=
  if !(s.island n).joined then s
  else
    let s := s.modIsland n (fun i =>
      { i with txq := [], muted := true, offAllowed := true, joined := false, cfgTodo := [], training := false })
    let s := ((s.set (ISL.STATUS.LINK_LOSS n)).wr (ISL.STATUS.LINK_UP n) 0).setAt ISL.EVENT.LINK_LOSS n
    let s := s.wrBit ISL.SUMMARY.LINK_UP n false
    let s := s.assertSrc 34
    let s := s.forceTrip 34 (islandGroup n)
    s.detect 0x10 n rcTrip

/-- A rising level bit of a FAULT frame: its event bit, where the level was clear before. -/
def State.levelRise (s : State) (now ev : Field) (b : Bool) : State :=
  let s' := s.wrB now b
  if b && !s.on now then s'.set ev else s'

/-- FAULT at the primary (R446, R153, R162, R163, R166). While the link is lost the level bits keep their last values. -/
def State.faultFrame (s : State) (n bits : Nat) : State :=
  let was := b2n (s.on (ISL.STATUS.OC_NOW n)) * 2 + b2n (s.on (ISL.STATUS.UVLO_NOW n)) * 4
    + b2n (s.on (ISL.STATUS.WARN_NOW n)) * 8 + b2n (s.on (ISL.STATUS.OT_NOW n)) * 16
  let b := (if (s.island n).muted then (bits &&& 0xE1) ||| was else bits).testBit
  let ocNew := b 1 && !s.on (ISL.STATUS.OC_NOW n)
  let otNew := b 4 && !s.on (ISL.STATUS.OT_NOW n)
  let warnNew := b 3 && !s.on (ISL.STATUS.WARN_NOW n)
  let uvloNew := b 2 && !s.on (ISL.STATUS.UVLO_NOW n)
  let s := s.levelRise (ISL.STATUS.OC_NOW n) (ISL.STATUS.OC n) (b 1)
  let s := s.levelRise (ISL.STATUS.UVLO_NOW n) (ISL.STATUS.UVLO n) (b 2)
  let s := s.levelRise (ISL.STATUS.WARN_NOW n) (ISL.STATUS.UV_WARN n) (b 3)
  let s := s.levelRise (ISL.STATUS.OT_NOW n) (ISL.STATUS.OT n) (b 4)
  let s := if ocNew then s.sat (ISL.SCCNT.OC_CNT n) else s
  let latch := b 0 || uvloNew || b 7
  let s := if latch then
      (s.set (ISL.STATUS.FAULT_LATCH n)).wrBit ISL.SUMMARY.FAULT n true else s
  let s := s.refreshLevels
  let s := if b 0 || b 6 then s.modIsland n (fun i => { i with scLatch := true }) else s
  let s := if b 0 then
      let s := (s.set (ISL.STATUS.SC n)).sat (ISL.SCCNT.SC_CNT n)
      let s := if isInner n then s.modIsland n (fun i => { i with wantConfirm := true }) else s
      (s.scReport n).detect 0x11 n (s.tripReact 28)
    else s
  let s := if b 6 then s.set (ISL.STATUS.INNER_TIMEOUT n) else s
  let s := s.refreshSc
  let s := if warnNew || uvloNew then
      let s := if warnNew then s.setAt ISL.EVENT.UV_WARN n else s
      (s.forceTrip 31 (islandGroup n)).detect 0x12 n rcTrip
    else s
  let s := if otNew then s.detect 0x13 n (s.tripReact 30) else s
  let s := if b 5 then s.set (ISL.STATUS.DOUBLE_FAIL n) else s
  let s := if b 5 || b 7 then s.linkLost n else s
  s.tryConfirm n

/-- FAULT. -/
def execFaultFrame (t : Time) (n : Fin 14) (seq : BitVec 3) (bits : Byte) (s : State) : Host.Outcome State Fault Refusal :=
  s.during t (fun s => s.onceUp n 3 seq.toNat (fun s => s.faultFrame n bits.toNat))

/-- SOFT_DONE at the primary (R156, R166): the soft-off is over, which completes an outer turn-off. -/
def execSoftDone (t : Time) (n : Fin 14) (seq : BitVec 3) (back : BitVec 16) (s : State) : Host.Outcome State Fault Refusal :=
  s.during t (fun s =>
    s.onceUp n 4 seq.toNat (fun s =>
    ((s.wr (ISL.STATUS.SOFT_ACTIVE n) 0).modIsland n (fun i =>
      { i with offDone := true, softAt := some (s.now - slot - back.toNat) })).tryConfirm n))

/-- MEAS (R158, R170): temperature in 0.01 °C to Q15.16 °C, supplies in mV; while the link is lost the registers keep
their last values. -/
def execMeas (t : Time) (n : Fin 14) (_seq : BitVec 3) (kind : Fin 3) (val : BitVec 16) (s : State) : Host.Outcome State Fault Refusal :=
  s.during t (fun s =>
    let s := s.plainUp n
    if (s.island n).muted then s
    else if kind = 0 then s.wr (ISL.TEMP.VALUE n) (q16 val.toInt 100).toNat
    else if kind = 1 then s.wr (ISL.SUPPLY.VP n) val.toNat
    else s.wr (ISL.SUPPLY.VN n) val.toNat)

/-- The single resend of a CFG or PING (R162): the frame is queued again as one already sent; its second failure brings
no other. -/
def State.resend (s : State) (n seq : Nat) : State :=
  match (s.island n).echoes.find? (fun e => decide (e.seq = seq)) with
  | some e =>
    if e.resent then s
    else
      (s.modIsland n (fun i =>
        { i with txq := { frame := e.frame, seq := e.seq, sent := true } :: i.txq
                 echoes := i.echoes.filter (fun x => decide (x.seq ≠ seq)) })).sat (ISL.LINKCNT.RESEND n)
  | none => s

/-- NAK (R162): the CFG or PING of that SEQ is resent once. -/
def execNak (t : Time) (n : Fin 14) (_seq failed : BitVec 3) (s : State) : Host.Outcome State Fault Refusal :=
  s.during t (fun s => (s.plainUp n).resend n failed.toNat)

/-- No echo within 200 ns of the end of a CFG or PING: it is resent once (R162). -/
def execLinkResendTimeout (t : Time) (n : Fin 14) (seq : BitVec 3) (s : State) : Host.Outcome State Fault Refusal :=
  s.during t (fun s =>
    let late := (s.island n).echoes.any
      (fun e => decide (e.seq = seq.toNat) && decide (e.done + 200 * us / 1000 ≤ s.now))
    if late then s.resend n seq.toNat else s)

/-! ### Link failures (R162, R163) -/

/-- The 32 bits `w` received in a slot fail their CRC, or are a good frame of a reserved type, which is ignored (R158,
R162): counted; a failure at the island is answered with NAK, and consecutive slots that fail are remembered. Any other
good frame is no error. -/
def execLinkCrcError (t : Time) (n : Fin 14) (atIsland : Bool) (w : Word) (s : State) : Host.Outcome State Fault Refusal :=
  s.during t (fun s =>
    if frameGood w && !frameReserved atIsland w then s else
    let s := (s.sat (ISL.LINKCNT.CRC_ERR n)).detect 0x0F n rcCount
    let k := s.now / slot
    if frameGood w then (if atIsland then s.modIsland n (fun i => { i with goodDown := s.now }) else s.goodUp n)
    else s.modIsland n (fun i =>
      if atIsland then
        { i with badDown := k, runDown := if i.badDown + 1 = k then i.runDown + 1 else 1 }.report
          (.nak ((i.goodSeq + 1) % 8))
      else { i with badUp := k, runUp := if i.badUp + 1 = k then i.runUp + 1 else 1 }))

/-- A double failure (R162): two frames in consecutive slots failed their CRC, or, at the island, a CFG
or PING failed both its transmissions. The island reports it; the primary declares the link lost. -/
def execLinkDoubleFail (t : Time) (n : Fin 14) (atIsland cfgTwice : Bool) (s : State) : Host.Outcome State Fault Refusal :=
  s.during t (fun s =>
    let i := s.island n
    if atIsland then
      if decide (2 ≤ i.runDown) || (cfgTwice && i.echoes.any (·.resent)) then
        s.modIsland n (fun i => { i with runDown := 0 }.faultReport fbDOUBLE) else s
    else if 2 ≤ i.runUp then
      ((s.modIsland n (fun i => { i with runUp := 0 })).set (ISL.STATUS.DOUBLE_FAIL n)).linkLost n
    else s)

/-- The island's wait before self-off (R163): 2 µs, plus the inner delay on an inner island. -/
def State.selfOffTime (s : State) (n : Nat) : Nat :=
  2 * us + (if isInner n then s.islRd n TRP.HARDOFF.INNER_DLY * us / 10 else 0)

/-- Heartbeat expiry (R163) of an island whose link had trained: no good frame for that time, so it drops its armed edge,
turns off by soft-off, latches its fault and reports LINK_LOST, from now on in every slot with nothing else to report. -/
def execIslandHeartbeatExpiry (t : Time) (n : Fin 14) (s : State) : Host.Outcome State Fault Refusal :=
  s.during t (fun s =>
    if (s.island n).linked && decide ((s.island n).goodDown + s.selfOffTime n ≤ s.now) then
      let s := s.modIsland n (fun i =>
        { i with armed := none, rel := none, latched := true, trained := false, linked := false,
                 lost := true }.faultReport fbLOST)
      ((s.softOffIsland n).set (ISL.STATUS.SELF_OFF n)).set (ISL.STATUS.FAULT_LATCH n)
        |>.wrBit ISL.SUMMARY.FAULT n true
    else s)

/-- The primary has no good frame from the island for 2 µs and declares the link lost (R163). -/
def execLinkLossDetect (t : Time) (n : Fin 14) (s : State) : Host.Outcome State Fault Refusal :=
  s.during t (fun s => if (s.island n).goodUp + 2 * us ≤ s.now then s.linkLost n else s)

/-- A link trains (R164): within 100 µs of its supplies passing their rising thresholds, or when commanded. The island
holds its switch off and reports its levels (R446); the primary loads every CFG item by frame, and the link is up once the
last of them is confirmed (State.linkUp). -/
def State.trainLink (s : State) (n : Nat) : State :=
  if (s.island n).training && (s.island n).goodSince.isSome then
    let s := s.modIsland n (fun i =>
      { i with trained := true, cfgDone := false, got := [], linked := true, lost := false, training := false,
               muted := false, offAllowed := false, joined := true, cfgTodo := cfgItems, held := true,
               goodDown := s.now, goodUp := s.now, runUp := 0, runDown := 0, txq := [], echoes := [],
               scWait := none }.faultReport 0)
    s.sendCfg n cfgItems
  else s

/-- LINK_TRAINED. -/
def execLinkTrained (t : Time) (n : Fin 14) (s : State) : Host.Outcome State Fault Refusal :=
  s.during t (fun s => s.trainLink n)

/-! ### Events at an island -/

/-- An armed edge reaches its instant (R161, R130, R137): no change where the switch stands so; OFF
acts; an immediate ON acts; another ON begins its dead-time release. -/
def State.edgeExecute (s : State) (n : Nat) : State :=
  match (s.island n).armed with
  | none => s
  | some (on, imm, te) =>
    if s.now < te then s
    else
      let s := s.modIsland n (fun i => { i with armed := none })
      let i := s.island n
      if on = i.on then s.modIsland n (fun i => { i with rel := none }.report (.edgeDone 2 s.now))
      else if on then
        if !s.acceptsOn n then s.refuseOn n
        else if imm then s.turnOn n
        else s.modIsland n (fun i => { i with rel := some { te := te, out := n } })
      else s.turnOff n

/-- ISLAND_EDGE_EXECUTE. -/
def execIslandEdgeExecute (t : Time) (n : Fin 14) (s : State) : Host.Outcome State Fault Refusal :=
  s.during t (fun s => s.edgeExecute n)

/-- SC detection (R165, R166): 100 ns of the condition. The armed edge is dropped and the fault latches
and is reported; an outer or dump island soft-offs at once, an inner one waits for OUTER_CONFIRM. -/
def execIslandScDetect (t : Time) (n : Fin 14) (s : State) : Host.Outcome State Fault Refusal :=
  s.during t (fun s =>
    if s.islRd n (ISL.SENSE.SNS_EN n) = 0 then s
    else
      let s := s.modIsland n (fun i =>
        { i with armed := none, rel := none, sc := true, latched := true }.faultReport fbSC)
      if isInner n then s.modIsland n (fun i => { i with scWait := i.scWait.or (some s.now) })
      else s.softOffIsland n)

/-- The OC level is found and reported (R165, R166). -/
def State.ocLevel (s : State) (n : Nat) : State :=
  s.modIsland n (fun i => { i with oc := true, ocWait := false }.faultReport 0)

/-- OC detection (R165): the filter has expired; during blanking its result is held. -/
def execIslandOcDetect (t : Time) (n : Fin 14) (s : State) : Host.Outcome State Fault Refusal :=
  s.during t (fun s =>
    if s.islRd n (ISL.SENSE.SNS_EN n) = 0 ∨ (s.island n).oc then s
    else if s.now < (s.island n).blankEnd then s.modIsland n (fun i => { i with ocWait := true })
    else s.ocLevel n)

/-- Blanking ends (R165): an OC whose filter expired in it is reported at once. -/
def execBlankingEnd (t : Time) (n : Fin 14) (s : State) : Host.Outcome State Fault Refusal :=
  s.during t (fun s =>
    if (s.island n).ocWait && decide ((s.island n).blankEnd ≤ s.now) then s.ocLevel n else s)

/-- The OC level clears by its hysteresis and a FAULT frame says so (R165, R446); one that blanking still hid ends
unreported; the SC level, which lies above it, is then clear as well. -/
def execIslandOcClear (t : Time) (n : Fin 14) (s : State) : Host.Outcome State Fault Refusal :=
  s.during t (fun s =>
    let was := (s.island n).oc
    s.modIsland n (fun i =>
      let i := { i with oc := false, ocWait := false, sc := false }
      if was then i.faultReport 0 else i))

/-- An inner island waited 2 µs for OUTER_CONFIRM (R166): soft-off and INNER_TIMEOUT. -/
def execInnerScTimeout (t : Time) (n : Fin 14) (s : State) : Host.Outcome State Fault Refusal :=
  s.during t (fun s =>
    match (s.island n).scWait with
    | some t0 =>
      if t0 + 2 * us ≤ s.now then
        (s.modIsland n (fun i => { i with scWait := none }.faultReport fbINNER)).softOffIsland n
      else s
    | none => s)

/-- SOFT_T passes (R156): OUTL engages and SOFT_DONE is reported. -/
def execSoftOffEnd (t : Time) (n : Fin 14) (s : State) : Host.Outcome State Fault Refusal :=
  s.during t (fun s =>
    match (s.island n).soft with
    | some t0 =>
      if t0 + s.islRd n (ISL.TIMING.SOFT_T n) * us / 10 ≤ s.now then
        s.modIsland n (fun i => { i with soft := none, sc := false }.report (.softDone s.now))
      else s
    | none => s)

/-- A supply fell below its warning level for 1 µs (R153). -/
def execIslandUvWarn (t : Time) (n : Fin 14) (s : State) : Host.Outcome State Fault Refusal :=
  s.during t (fun s => s.modIsland n (fun i => if i.warn then i else { i with warn := true }.faultReport 0))

/-- A supply fell below its trip level for 1 µs (R153, R161): the armed edge is dropped, the fault
latches, UVLO is reported and the switch soft-offs. -/
def execIslandUvlo (t : Time) (n : Fin 14) (s : State) : Host.Outcome State Fault Refusal :=
  s.during t (fun s =>
    if (s.island n).uvlo then s
    else (s.modIsland n (fun i =>
      { i with uvlo := true, warn := true, latched := true, armed := none, rel := none,
               goodSince := none }.faultReport 0)).softOffIsland n)

/-- The supplies pass their rising thresholds (R153): both trip levels, or both warning levels. -/
def execIslandSupplyRecovery (t : Time) (n : Fin 14) (warning : Bool) (s : State) : Host.Outcome State Fault Refusal :=
  s.during t (fun s =>
    s.modIsland n (fun i =>
    let j := if warning then { i with warn := false, uvlo := false } else { i with uvlo := false }
    let j := { j with goodSince := i.goodSince.or (some s.now) }
    if i.levels = j.levels then j else j.faultReport 0))

/-- The Vce monitor sees a filtered transition (R169): reported with its time; a fall at the incoming
island is the t_tr of its release (R137). With VCE_EN at 0 none is seen. -/
def execVceTransition (t : Time) (n : Fin 14) (rise : Bool) (s : State) : Host.Outcome State Fault Refusal :=
  s.during t (fun s =>
    if s.islRd n (ISL.CFG.VCE_EN n) = 1 then
      let seen (r : Release) : Release := if rise then r else { r with tr := r.tr.or (some s.now) }
      s.modIsland n (fun i => { i with rel := i.rel.map seen }.report (.vceTime rise s.now))
    else s)

/-- Natural logarithm of p/q in 2^-64: the power of two, and the series of artanh for the rest. -/
def lnRatio (p q : Nat) : Int :=
  let e : Int := (Nat.log2 p : Int) - Nat.log2 q
  let p' := p * 2 ^ Nat.log2 q
  let q' := q * 2 ^ Nat.log2 p
  let y : Int := ((p' : Int) - q') * 2 ^ 64 / (p' + q' : Nat)
  let (sum, _) := (List.range 40).foldl (fun (a : Int × Int) i =>
    (a.1 + a.2 / (2 * i + 1 : Nat), a.2 * y / 2 ^ 64 * y / 2 ^ 64)) ((0 : Int), y)
  e * 12786308645202655660 + 2 * sum

/-- Thermistor temperature in 0.01 °C from its resistance in Ω, by the B equation of NTC_NOM at 25 °C and NTC_B (R170). -/
def thermistor (b nom r : Nat) : Int :=
  let l := lnRatio (Nat.max 1 r) (Nat.max 1 (nom * 100))
  let den : Int := (b : Int) * 100 * 2 ^ 64 + 29815 * l
  clampInt (-32768) 32767 (if den ≤ 0 then 32767 else rneDiv ((29815 * b * 100 * 2 ^ 64 : Nat) : Int) den.toNat - 27315)

/-- A measurement period expires (R170): temperature every 1 ms, computed from the thermistor's resistance in Ω, VP and
|VN| in mV every 100 µs; MEAS is sent on a link that has trained. -/
def execIslandMeasReport (t : Time) (n : Fin 14) (kind : Fin 3) (val : Word) (s : State) : Host.Outcome State Fault Refusal :=
  s.during t (fun s =>
    let i := s.island n
    let last := if kind = 0 then i.measAt.1 else if kind = 1 then i.measAt.2.1 else i.measAt.2.2
    let per := if kind = 0 then ms else 100 * us
    if !i.trained || decide (s.now < last + per) then s
    else
      let v := if kind = 0 then
          (thermistor (s.islRd n (ISL.NTC.NTC_B n)) (s.islRd n (ISL.NTC.NTC_NOM n)) val.toNat).emod 65536 |>.toNat
        else min 65535 val.toNat
      s.modIsland n (fun i =>
        { i with measAt := if kind = 0 then (s.now, i.measAt.2) else if kind = 1 then (i.measAt.1, s.now, i.measAt.2.2)
                   else (i.measAt.1, i.measAt.2.1, s.now) }.report (.meas kind v)))

/-- OT_THR exceeded for 10 ms (R170). -/
def execIslandOt (t : Time) (n : Fin 14) (s : State) : Host.Outcome State Fault Refusal :=
  s.during t (fun s => s.modIsland n (fun i => if i.ot then i else { i with ot := true }.faultReport 0))

/-- The temperature fell 5 °C below OT_THR (R170). -/
def execIslandOtClear (t : Time) (n : Fin 14) (s : State) : Host.Outcome State Fault Refusal :=
  s.during t (fun s => s.modIsland n (fun i => if i.ot then { i with ot := false }.faultReport 0 else i))

end Sys2Proof.Machine
end

