-- ==== Sys2Proof/Machine/RegRules.lean ====
section
/-!
DEFINITION. Which bits of a register write are taken (R12, R13): the ranges of the register tables and
the conditions of R36, R63 to R65, R81, R125, R149, R196, R215, R232, R248, R290 to R293, R313, R344,
R346 to R351, R441 and R447. A field whose range or condition fails keeps its value, and its block's
error bit sets where the write would have changed it, or where no bit of the word is taken.
-/
namespace Sys2Proof.Machine
open Reg

/-- Every bit of a word. -/
abbrev allBits : Word := 0xFFFFFFFF

/-- The mask of a list of fields. -/
def fieldBits (fs : List Field) : Word := fs.foldl (fun m f => m ||| f.mask) 0

/-- The fields of a word outside their ranges: field, least and greatest value. -/
def outOf (w : Word) (fs : List (Field × Nat × Nat)) : Word :=
  fieldBits ((fs.filter (fun x => decide (getField w x.1 < x.2.1) || decide (x.2.2 < getField w x.1))).map (·.1))

/-- The value that a field has after a write: the written one where its range takes it, else the present one. -/
def State.taken (s : State) (w : Word) (f : Field) (lo hi : Nat) : Nat :=
  if lo ≤ getField w f ∧ getField w f ≤ hi then getField w f else s.rd f

/-- Bits that a condition keeps. -/
def keepIf (c : Bool) (m : Word) : Word := if c then m else 0

/-- COMMISSION, SEALED or STANDBY. -/
def State.cfgState (s : State) : Bool := decide (2 ≤ s.code) && decide (s.code ≤ 4)

/-- Index of an array element by base and stride. -/
def elem (a base stride : Nat) : Nat := (a - base) / stride

/-! ### Block by block: the bits of `w` that a write at `a` does not take; `o` is the present word -/

/-- SYS (R291, R447). -/
def State.keepSys (s : State) (a : Nat) (w : Word) : Word :=
  if a = 0x14 then keepIf (!s.cfgState) allBits
    ||| outOf w [(SYS.SEQ.MATCH, 100, 130), (SYS.SEQ.PCH_T, 1, 60), (SYS.SEQ.PCH_V, 300, 1000)]
  else if a = 0x18 then keepIf (!s.cfgState) allBits
    ||| outOf w [(SYS.SEQ_T.STOP_T, 10, 10000), (SYS.SEQ_T.BRK_CT, 1, 50), (SYS.SEQ_T.DCD_CT, 1, 50)]
  else if a = 0x1C then outOf w [(SYS.HOLD.TIME, 1, 120)]
  else if a = 0x20 then keepIf (!s.cfgState) allBits
    ||| outOf w [(SYS.PL_CFG.TRIP_WIN, 1, 3600), (SYS.PL_CFG.TRIP_N, 1, 15)]
  else if a = 0x6C then fieldBits ((List.range 16).map (fun i => (⟨0x6C, 2 * i, 2⟩ : Field)) |>.filter
    (fun f => decide (getField w f = 3)))
  else 0

/-- CLK (R344, R346, R441). -/
def State.keepClk (s : State) (a : Nat) (o w : Word) : Word :=
  if a = 0x1000 then keepIf s.live5 allBits
  else if a = 0x100C then keepIf (s.live5 || decide (50000000 < w.toInt.natAbs)) allBits
  else if a = 0x1010 then keepIf s.live5 allBits ||| outOf w [(CLK.HOLD.WAIT, 1, 1000), (CLK.HOLD.T, 1, 600)]
  else if a = 0x1014 then keepIf s.live5 allBits
  else if 0x1020 ≤ a ∧ a ≤ 0x102C then
    let n := elem a 0x1020 4
    let fmt := getField w (CLK.CKO.FMT n)
    let div := getField w (CLK.CKO.DIV n)
    let both := fieldBits [CLK.CKO.FMT n, CLK.CKO.DIV n]
    keepIf ((decide (fmt = 0) && s.sys.vioc18) || (decide (fmt = 1) && !s.sys.vioc18)) allBits
      ||| keepIf (decide (getField o (CLK.CKO.EN n) = 1)) both
      ||| keepIf (if fmt ≤ 1 then decide (div < 32) else if fmt = 2 then decide (div < 8) else decide (div ≠ 32)) both
  else 0

/-- A reel's area overlaps a window given in MiB (R359, R367). -/
def State.reelOverlap (s : State) (base size : Nat) : Bool :=
  (List.range 16).any (fun r =>
    let b := s.rd (REL.AREA.BASE r)
    let n := s.rd (REL.AREA.SIZE r)
    decide (0 < n) && decide (0 < size) && decide (b < base + size) && decide (base < b + n))

/-- GAF (R348, R349, R351, R354, R359). -/
def State.keepGaf (s : State) (a : Nat) (w : Word) : Word :=
  if a = 0x2000 then keepIf (!s.cfgState) allBits
  else if a = 0x2008 ∨ a = 0x200C then
    fieldBits ((List.range 8).map (fun i => (⟨a, 4 * i, 4⟩ : Field)) |>.filter (fun f =>
      decide (getField w f < 2) || decide (11 < getField w f)))
  else if a = 0x201C then
    let b := getField w GAF.EXT_WIN.BASE
    let n := getField w GAF.EXT_WIN.SIZE
    keepIf (!s.cfgState || decide (6144 ≤ b) || decide (6144 < b + n) || s.reelOverlap b n) allBits
  else if 0x2040 ≤ a ∧ a ≤ 0x2070 then outOf w [(GAF.REQ.HOLD (elem a 0x2040 4), 1, 65535)]
  else 0

/-- A channel that feeds an enabled band channel or a fused quantity (R63). -/
def State.chanUsed (s : State) (n : Nat) : Bool :=
  (List.range 12).any (fun b => s.on (BND.CH.CFG.ENABLE b) && decide (s.rd (BND.CH.CFG.SRC b) = n))
    || (s.on (BND.CH.CFG.ENABLE 11) && decide (s.rd (BND.CH.CFG.SRC_B 11) = n))
    || (List.range 64).any (fun q => s.on (STR.Q.CFG.EN q)
        && [s.rd (STR.Q.CFG.PRI q), s.rd (STR.Q.CFG.XCK q)].any (fun c => !c.testBit 13 && decide (c ≤ n)
          && decide (n ≤ c + (if s.rd (STR.Q.CFG.KIND q) = 1 then 2 else 0))))

/-- MOD (R63, R64). -/
def State.keepMod (s : State) (a : Nat) (o w : Word) : Word :=
  if a = 0x4018 then outOf w [(MOD.RSM_CTL.SLEW, 1, 8)]
  else if 0x5000 ≤ a ∧ (a - 0x5000) % 0x40 = 0 then
    let n := elem a 0x5000 0x40
    let en := (MOD.CH.CFG.ENABLE n).mask
    let on := decide (getField o (MOD.CH.CFG.ENABLE n) = 1)
    let range := outOf w [(MOD.CH.CFG.BSFREQ n, 5, 25), (MOD.CH.CFG.MOSR n, 0, 4)]
    -- the rate that results: a field out of its range keeps its value
    let next := (w &&& ~~~ range) ||| (o &&& range)
    let bs := getField next (MOD.CH.CFG.BSFREQ n)
    let osr := 32 * 2 ^ getField next (MOD.CH.CFG.MOSR n)
    let bad := decide (16 ≤ n) && (decide (bs * 1000 < 150 * osr) || decide (400 * osr < bs * 1000))
    keepIf (on && decide (w &&& ~~~ en &&& 0x7FFF ≠ o &&& ~~~ en &&& 0x7FFF)) allBits
      ||| keepIf (on && decide (getField w (MOD.CH.CFG.ENABLE n) = 0) && s.live5 && s.chanUsed n) en
      ||| outOf w [(MOD.CH.CFG.BSMODE n, 0, 2)]
      ||| keepIf (decide (16 ≤ n)) range
      ||| keepIf bad allBits
  else if 0x5004 ≤ a ∧ (a - 0x5004) % 0x40 = 0 then
    outOf w [(MOD.CH.MON_CFG.OVR_THR (elem a 0x5004 0x40), 1024, 2560)]
  else 0

/-- SYN (R81, R90, and the ranges of its registers). -/
def State.keepSyn (s : State) (a : Nat) (w : Word) : Word :=
  if a = 0x6000 then
    keepIf (decide (getField w SYN.CTRL.ENABLE = 0) && s.live5) SYN.CTRL.ENABLE.mask
  else if a = 0x6004 then
    let far := decide (39 < getField w SYN.SRC.SRC_A) || decide (39 < getField w SYN.SRC.SRC_B)
      || decide (39 < getField w SYN.SRC.SRC_C)
    keepIf (s.on SYN.CTRL.ENABLE || (decide (getField w SYN.SRC.FUSED = 0) && far)) allBits
  else if a = 0x6008 then outOf w [(SYN.LOW.HYST, 0, 50), (SYN.LOW.THR, 50, 300)]
  else if a = 0x600C then outOf w [(SYN.HOLD.TIME, 10, 500)]
  else if a = 0x6010 then outOf w [(SYN.JUMP_CFG.FILT, 3, 31),
    (SYN.JUMP_CFG.HYST, 0, s.taken w SYN.JUMP_CFG.THR 8 240 - 4), (SYN.JUMP_CFG.THR, 8, 240)]
  else if a = 0x6014 then outOf w [(SYN.CHG.THR, 10, 1000), (SYN.CHG.HYST, 0, s.taken w SYN.CHG.THR 10 1000 - 1)]
  else if a = 0x6018 then outOf w [(SYN.BORROW.MIN, 10, 127)]
    ||| keepIf (s.on SYN.CTRL.BORROW_EN) (fieldBits [SYN.BORROW.SRC_A, SYN.BORROW.SRC_B, SYN.BORROW.SRC_C])
  else if a = 0x6020 then outOf w [(SYN.BORROW_TOL.TOL, 4, 160)]
  else 0

/-- BND (R118, R125). -/
def State.keepBnd (s : State) (a : Nat) (o w : Word) : Word :=
  if a = 0x7004 then outOf w [(BND.GRID_CFG.ANG_SLEW, 1, 255), (BND.GRID_CFG.ZCW, 0, 120)]
  else if a = 0x7008 then outOf w [(BND.FAULT_CFG.RET_CYC, 1, 15)]
  else if a < 0x7100 then 0
  else
    let n := elem a 0x7100 0x40
    let r := (a - 0x7100) % 0x40
    let en := (BND.CH.CFG.ENABLE n).mask
    let on := s.on (BND.CH.CFG.ENABLE n)
    if r = 0 then keepIf (decide (getField o (BND.CH.CFG.ENABLE n) = 1)) (~~~ en)
      ||| keepIf (decide (getField w (BND.CH.CFG.ENABLE n) = 0) && s.live5) en
      ||| keepIf (decide (n ≤ 2) && decide (getField w (BND.CH.CFG.LEVELS n) = 0)) (BND.CH.CFG.LEVELS n).mask
      ||| outOf w [(BND.CH.CFG.HORIZON n, 1, 8), (BND.CH.CFG.SRC n, 0, 39), (BND.CH.CFG.SRC_B n, 0, 39)]
    else if r = 4 then
      if n ≤ 2 then outOf w [(BND.CH.ADAPT.TGT_FREQ n, 20, 400)]
      else if n ≤ 10 then outOf w [(BND.CH.ADAPT.TGT_FREQ n, 40, 1000)] else 0
    else if r = 0xC then
      keepIf (decide (getField w (BND.CH.H_LIM.H_MAX n) < getField w (BND.CH.H_LIM.H_MIN n))) allBits
    else if r = 0x10 then keepIf on allBits
    else 0

/-- PWM (R140, R142, R143, R149). -/
def State.keepPwm (s : State) (a : Nat) (w : Word) : Word :=
  if a = 0x8004 then outOf w [(PWM.CLAP.WIN, 1, 15), (PWM.CLAP.OUT_EVT, 0, 2), (PWM.CLAP.OUT_CU, 0, 11)]
    ||| keepIf (decide (getField w PWM.CLAP.IN_EN = 1) && decide (getField w PWM.CLAP.VIRT_EN = 1))
      (fieldBits [PWM.CLAP.IN_EN, PWM.CLAP.VIRT_EN])
  else if a = 0x8008 then outOf w [(PWM.VCLAP_INT.MS, 1, 1000)]
  else if a = 0x800C then outOf w [(PWM.VCLAP_OFS.NS, 0, 999999999)]
  else if a < 0x8100 then 0
  else
    let n := elem a 0x8100 0x40
    let r := (a - 0x8100) % 0x40
    let en := (PWM.CU.CFG.ENABLE n).mask
    let on := s.on (PWM.CU.CFG.ENABLE n)
    if r = 0 then keepIf on (~~~ en) ||| keepIf (on && decide (getField w (PWM.CU.CFG.ENABLE n) = 0) && s.live5) en
      ||| outOf w [(PWM.CU.CFG.RLD n, 0, 2), (PWM.CU.CFG.PRESC n, 0, 2)]
      ||| keepIf (decide (n ≠ 0) && decide (getField w (PWM.CU.CFG.GRID3 n) = 1)) (PWM.CU.CFG.GRID3 n).mask
    else if r = 0x1C then
      keepIf (decide (2 * s.rd (PWM.CU.PRD.ACTIVE n) ≤ getField w (PWM.CU.PHASE.POS n))) (PWM.CU.PHASE.POS n).mask
    else if r = 0x20 then
      -- DT_MAX runs from DT_MIN to 1,023 (R138)
      let lo := s.taken w (PWM.CU.DT.DT_MIN n) 16 65535
      let short := decide (getField w (PWM.CU.DT.DT_MAX n) < lo)
      keepIf on allBits ||| outOf w [(PWM.CU.DT.DT_MIN n, 16, 1023)] ||| keepIf short (PWM.CU.DT.DT_MAX n).mask
        ||| keepIf (short && decide (s.rd (PWM.CU.DT.DT_MAX n) < lo)) (PWM.CU.DT.DT_MIN n).mask
    else if r = 0x24 then keepIf on allBits ||| outOf w [(PWM.CU.MINP.MIN_PULSE n, 4, 1023)]
    else if r = 0x28 then keepIf on allBits ||| outOf w [(PWM.CU.WICK.N n, 1, 255),
        (PWM.CU.WICK.W n, s.rd (PWM.CU.DT.DT_MAX n) + s.rd (PWM.CU.MINP.MIN_PULSE n), 1023)]
      ||| keepIf (decide (getField w (PWM.CU.WICK.EN n) = 1)
          && (!s.on (PWM.CU.CFG.COMP n) || decide (n < 1) || decide (8 < n))) (PWM.CU.WICK.EN n).mask
    else 0

/-- ISL: RW fields outside the live states only (spec/07_gate_islands.md, registers). -/
def State.keepIsl (s : State) (a : Nat) (w : Word) : Word :=
  if a < 0x9100 then 0
  else
    let n := elem a 0x9100 0x40
    let r := (a - 0x9100) % 0x40
    if r = 0 then keepIf s.live5 allBits
    else if r = 0x10 then keepIf s.live5 allBits ||| outOf w [(ISL.VCE.VCE_THR n, 25, 250)]
    else 0

/-- FED (R207, R211, R215). CFG and FIX have writers of their own. -/
def State.keepFed (s : State) (a : Nat) (w : Word) : Word :=
  if a = 0xD008 then outOf w [(FED.SWEEP.GAIN_THR, 5, 200), (FED.SWEEP.SPAN_DN, 0, 60), (FED.SWEEP.SPAN_UP, 0, 20)]
  else if a = 0xD00C then
    let int := getField w FED.SWEEP_SCHED.INT
    keepIf (decide (int < 10) || decide (3600 < int) || decide (10 * int ≤ getField w FED.SWEEP_SCHED.SLOT)) allBits
  else if a < 0xD100 then 0
  else
    let k := elem a 0xD100 0x40
    let r := (a - 0xD100) % 0x40
    let st := s.rd (FED.STATE.STATE k)
    let idle := decide (st = 0 ∨ st = 1 ∨ st = 5)
    if r = 4 then keepIf (!idle) allBits ||| outOf w [(FED.START.V_START k, 100, 1000), (FED.START.T_START k, 1, 255),
      (FED.START.K_OC k, 50, 95)]
    else if r = 8 then keepIf (!idle) allBits ||| outOf w [(FED.STOP.T_STOP k, 1, 255)]
    else if r = 0xC then keepIf (!idle) allBits ||| outOf w [(FED.RC.RC_RATE k, 1, 255)]
    else if r = 0x10 then keepIf (!idle) allBits ||| outOf w [(FED.LIM.BOOST_MARGIN k, 5, 100)]
    else if r = 0x18 then outOf w [(FED.FIX_LIM.IDIS k, 0, 1500), (FED.FIX_LIM.ICHG k, 0, 1500)]
      ||| keepIf (!s.on (FED.CFG.BIDIR k)) (FED.FIX_LIM.ICHG k).mask
    else 0

/-- FRT (R232). -/
def State.keepFrt (s : State) (a : Nat) (w : Word) : Word :=
  if 0xE00C ≤ a ∧ a ≤ 0xE01C then
    keepIf (decide (s.rd FRT.STATUS.STATE ≠ 0)) allBits |||
    (if a = 0xE00C then outOf w [(FRT.INJ.K, 0, 100), (FRT.INJ.K2, 0, 100), (FRT.INJ.P_MODE, 0, 2)]
     else if a = 0xE010 then outOf w [(FRT.ILIM_F.I2_MAX, 0, 1500), (FRT.ILIM_F.IQ_MAX, 0, 1500)]
     else if a = 0xE014 then outOf w [(FRT.REC.REC_MARGIN, 0, 200), (FRT.REC.REC_RATE, 10, 1000)]
     else if a = 0xE018 then
       outOf w [(FRT.DUMP.V_ENG, 400, 700), (FRT.DUMP.V_REL, 0, s.taken w FRT.DUMP.V_ENG 400 700 - 5)]
     else outOf w [(FRT.FEED.V_THR, 900, 1200), (FRT.FEED.V_ZERO, s.taken w FRT.FEED.V_THR 900 1200 + 1, 65535)])
  else 0

/-- MTR (R292, R293). -/
def State.keepMtr (s : State) (a : Nat) (w : Word) : Word :=
  let no := keepIf (decide (s.code ≠ stCOMMISSION) || s.on MOD.CTRL.METRO_SEALED) allBits
  if a = 0x10000 then no
    ||| keepIf (decide (getField w MTR.CTRL.WIRING = 1) && s.on MTR.SRC.LL) MTR.CTRL.WIRING.mask
  else if a = 0x10004 then no
    ||| outOf w [(MTR.SRC.VA, 0, 39), (MTR.SRC.VB, 0, 39), (MTR.SRC.VC, 0, 39)]
    ||| keepIf (decide (getField w MTR.SRC.LL = 1) && s.on MTR.CTRL.WIRING) MTR.SRC.LL.mask
  else if a = 0x10008 then no
    ||| outOf w [(MTR.SRC_I.IA, 0, 39), (MTR.SRC_I.IB, 0, 39), (MTR.SRC_I.IC, 0, 39)]
    ||| keepIf (decide (39 < getField w MTR.SRC_I.IN) && decide (getField w MTR.SRC_I.IN ≠ 63)) MTR.SRC_I.IN.mask
  else if a = 0x1000C then no ||| outOf w [(MTR.LATCH_CFG.N, 1, 65535)]
  else if a = 0x11000 ∨ a = 0x11004 then
    let i := elem a 0x11000 4
    no ||| outOf w [(MTR.EP_CFG.K i, 1, 65535), (MTR.EP_CFG.PW i, 10, 200)]
  else 0

/-- The bits of a write at an aligned address that are not taken. -/
def State.kept (s : State) (a : Nat) (o w : Word) : Word :=
  match a / 4096 with
  | 0 => s.keepSys a w
  | 1 => s.keepClk a o w
  | 2 => s.keepGaf a w
  | 4 | 5 => s.keepMod a o w
  | 6 => s.keepSyn a w
  | 7 => s.keepBnd a o w
  | 8 => s.keepPwm a w
  | 9 => s.keepIsl a w
  | 10 => if a = 0xA00C then outOf w [(CMP.TEST.INT, 1, 24), (CMP.TEST.CH, 0, 23)] else 0
  | 13 => s.keepFed a w
  | 14 => s.keepFrt a w
  | 15 => if a = 0xF030 then outOf w [(ISD.PROBE.LEVEL, 30, 100)] else 0
  | 16 | 17 => s.keepMtr a w
  | 18 =>
    if a = 0x12008 then outOf w [(PQE.NEU_CFG.NEU_I, 1, 200), (PQE.NEU_CFG.NEU_V, 10, 500)]
    else if 0x12100 ≤ a ∧ a < 0x12200 then
      let m := elem a 0x12100 0x10
      keepIf (decide (getField w (PQE.CH.CFG.FUSED m) = 0) && decide (39 < getField w (PQE.CH.CFG.SRC m)))
        (fieldBits [PQE.CH.CFG.FUSED m, PQE.CH.CFG.SRC m])
    else 0
  | 20 => if a = 0x14000 then keepIf (!s.cfgState || decide (getField w NET.CTRL.MODE = 3)) allBits else 0
  | 21 => if a = 0x15000 then outOf w [(PTP.CTRL.HOLD_T, 0, 60)] else 0
  | 26 => if a = 0x1A020 then outOf w [(MEM.EMMC_CFG.PE_RATED, 1, 1000), (MEM.EMMC_CFG.WEAR_THR, 1, 50)] else 0
  | _ => 0

/-- The bit that shows a write not taken. -/
def errBit (a : Nat) : Option Field :=
  match a / 4096 with
  | 0 => some (if a = 0x6C then SYS.SEQ_STAT.GPIO_ERR else SYS.SEQ_STAT.REQ_REFUSED)
  | 1 => some CLK.STATUS.CFG_ERR
  | 2 => some GAF.STATUS.CFG_ERR
  | 4 | 5 => some MOD.STATUS.CFG_ERR
  | 6 => some SYN.STATUS.CFG_ERR
  | 7 => some BND.STATUS.CFG_ERR
  | 8 => some PWM.STATUS.CFG_ERR
  | 9 => some (ISL.STATUS.CFG_ERR (elem a 0x9100 0x40))
  | 10 | 11 => some TRP.PROF_STAT.CFG_ERR
  | 13 => some FED.STATUS.CFG_ERR
  | 14 => some FRT.STATUS.CFG_ERR
  | 15 => some ISD.STATUS.CFG_ERR
  | 16 | 17 => some MTR.STATUS.CFG_ERR
  | 18 => some PQE.STATUS.CFG_ERR
  | 20 => some NET.STATUS.CFG_ERR
  | 21 => some PTP.STATUS.CFG_ERR
  | 26 => some MEM.STATUS.CFG_ERR
  | _ => none

end Sys2Proof.Machine
end

