-- ==== Sys2Proof/Machine/ScriptImage.lean ====
section
/-!
DEFINITION. Signature blocks (spec/20_security_and_continuity.md R396, R397) and the script image with the
checks the device makes when it loads one (spec/02_frame_and_script.md R52, R53).
-/
namespace Sys2Proof.Machine
open Reg

/-! ### Signature blocks (R396, R397) -/

/-- The block at the end of an object verifies: its layout, a signer the object's kind accepts, and its chain to
the anchor. -/
def sigBlockOk (signers : List Nat) (anchor : Option (BitVec 384)) (data block : List Byte) : Bool :=
  let who := leAt block 4 1
  let certs := leAt block 5 1
  let chain := leAt block 6 2
  decide (leAt block 0 4 = 0x53494742) && signers.contains who && decide (certs ≤ 3)
    && decide (block.length = 104 + chain)
    && (who ≠ 2 || (decide (certs = 0) && decide (chain = 0)))
    && (who ≠ 1 || anchor.isSome)
    && Config.sigOk who (anchor.getD 0) data block

/-- The signature block that the device puts on its own objects (R396, R397). -/
def ownBlock (data : List Byte) : List Byte :=
  leBytes 4 0x53494742 ++ [2, 0, 0, 0] ++ beBytes 96 (Config.sign data).toNat

/-- The bytes of a calibration set (R72). -/
def CalSet.image (x : CalSet) : List Byte :=
  leBytes 4 x.version ++ x.chans.flatMap (fun p =>
    le32 p.1 ++ le32 p.2.1 ++ le32 p.2.2.1 ++ le32 p.2.2.2.1 ++ leBytes 1 (b2n p.2.2.2.2))

/-- A calibration set verifies (R75): its block is the device's own. -/
def CalSet.ok (x : CalSet) : Bool := decide (x.sig = ownBlock x.image) || sigBlockOk [2] none x.image x.sig

/-- All bytes are zero. -/
def zeros (l : List Byte) : Bool := l.all (fun b => decide (b = 0))

/-- A slice of a list of bytes. -/
def slice (l : List Byte) (off n : Nat) : List Byte := (l.drop off).take n

/-- Little-endian words of 4 bytes. -/
def wordsOf : List Byte → List Word
  | a :: b :: c :: d :: r => BitVec.ofNat 32 (leVal [a, b, c, d]) :: wordsOf r
  | _ => []

/-- Shot words of 8 bytes. -/
def shotsOf : List Byte → List (BitVec 64)
  | a :: b :: c :: d :: e :: f :: g :: h :: r => BitVec.ofNat 64 (leVal [a, b, c, d, e, f, g, h]) :: shotsOf r
  | _ => []

/-! ### Layout (R52) -/

/-- The next multiple of 8. -/
def pad8 (n : Nat) : Nat := (n + 7) / 8 * 8

/-- Table words of an image: 65,536 with the flag TABLE_FULL. -/
def imageTable (b : List Byte) : Nat := if (leAt b 6 2).testBit 15 then 65536 else leAt b 18 2

/-- Offsets of the coefficients, the table, the resources, the CRC and the signature block. -/
def imageAt (b : List Byte) : Nat × Nat × Nat × Nat × Nat :=
  let ko := 640 + 8 * leAt b 12 4
  let tb := ko + 16384 + 512 + 26624 + 832
  let ro := pad8 (tb + 4 * imageTable b)
  (ko, tb, ro, ro + 16, ro + 24)

/-- One scene-table entry. -/
def sceneAt (b : List Byte) (i : Nat) : SceneEntry :=
  let o := 128 + 8 * i
  { first := leAt b o 2, len := leAt b (o + 2) 2, flags := leAt b (o + 4) 2, worst := leAt b (o + 6) 2 }

/-- The bank that an image fills. -/
def imageBank (b : List Byte) : Bank :=
  let (ko, tb, ro, _, _) := imageAt b
  { valid := true
    id := BitVec.ofNat 32 (leAt b 32 4)
    version := BitVec.ofNat 32 (leAt b 36 4)
    rollback := BitVec.ofNat 32 (leAt b 40 4)
    pMin := leAt b 20 2
    worst := leAt b 22 2
    forced := [leAt b 24 1, leAt b 25 1, leAt b 26 1]
    scenes := (List.range 64).map (sceneAt b)
    shots := mapPutList (fun _ => 0) [] 0 (shotsOf (slice b 640 (8 * leAt b 12 4)))
    k := mapPutList (fun _ => 0) [] 0 (wordsOf (slice b ko 16384))
    tunable := slice b (ko + 16384) 512
    init := mapPutList (fun _ => 0) [] 0x0600 (wordsOf (slice b (ko + 16896) 26624))
    carry := slice b (ko + 43520) 832
    table := mapPutList (fun _ => 0) [] 0 (wordsOf (slice b tb (4 * imageTable b)))
    res := (slice b ro 12).map BitVec.toNat
    digest := BitVec.ofNat 384 (leVal (slice b 48 48).reverse) }

/-! ### Checks (R53) -/

/-- Check 1: header, lengths, zero fields, scene count and flags, resource codes. -/
def imageHead (b : List Byte) : Bool :=
  let (_, tb, ro, co, so) := imageAt b
  let shots := leAt b 12 4
  let count := ((List.range 64).filter (fun i => decide ((sceneAt b i).len ≠ 0))).length
  decide (leAt b 0 4 = 0x5243534D) && decide (leAt b 4 2 = 2)
    && decide (leAt b 6 2 = 0 ∨ (leAt b 6 2 = 0x8000 ∧ leAt b 18 2 = 0))
    && decide (leAt b 8 4 = b.length) && decide (b.length = so + 104 + leAt b (so + 6) 2)
    && decide (1 ≤ shots ∧ shots ≤ 32768)
    && decide (1 ≤ leAt b 16 2 ∧ leAt b 16 2 ≤ 64) && decide (count = leAt b 16 2)
    && decide (2000 ≤ leAt b 20 2 ∧ leAt b 20 2 ≤ 20000)
    && zeros (slice b 27 5) && zeros (slice b 96 32)
    && zeros (slice b (tb + 4 * imageTable b) (ro - (tb + 4 * imageTable b)))
    && zeros (slice b (ro + 12) 4) && zeros (slice b (co + 4) 4)
    && (List.range 64).all (fun i => decide ((sceneAt b i).flags < 4))
    && (slice b ro 12).all (fun x => decide (x.toNat ≤ 2))

/-- Check 2: CRC, digest over the sections, signature of owner or vendor. -/
def imageSigned (anchor : Option (BitVec 384)) (b : List Byte) : Bool :=
  let (_, _, _, co, so) := imageAt b
  decide (leAt b co 4 = (crc32 (b.take co)).toNat)
    && decide (sha384 (slice b 128 (co - 128)) = BitVec.ofNat 384 (leVal (slice b 48 48).reverse))
    && sigBlockOk [0, 1] anchor (b.take so) (b.drop so)

/-- The word of END: every other field 0. -/
def isEnd (w : BitVec 64) : Bool := decide (shotCode w = 0x3F)

/-- Check 3: a legal opcode and M bits; unused fields 0. -/
def shotForm (w : BitVec 64) : Bool :=
  let f := shotFields w
  if isEnd w then decide (w.toNat = 0x3F * 2 ^ 58)
  else match shotOpOf (shotCode w) with
    | none => false
    | some op =>
      let (ua, ub, uc) := op.uses f
      op.modeOk f && (ua || f.srcA == 0) && (ub || f.srcB == 0) && (uc || f.coef == 0)
        && (match op with | .store | .pub => f.dst == 0 | _ => true)

/-- A check of the opcode of every shot but END. -/
def shotAll (p : ShotOp → Shot → Bool) (w : BitVec 64) : Bool :=
  isEnd w || (match shotOpOf (shotCode w) with | some op => p op (shotFields w) | none => false)

/-- Check 5: word ranges. -/
def shotWords (op : ShotOp) (f : Shot) : Bool :=
  (op.reads f).all (fun x => decide (x ≤ 0x1FFF))
    && (op.writes f).all (fun x => decide (0x0600 ≤ x) && decide (x ≤ 0x1FFF))

/-- Check 6: coefficient range. -/
def shotCoef (op : ShotOp) (f : Shot) : Bool :=
  let (_, _, uc) := op.uses f
  !uc || f.broadcast || decide (f.coef.toNat + f.on.foldl Nat.max 0 ≤ 4095)

/-- What a shot stages: whether for a port, and the index. -/
def shotStages (w : BitVec 64) : List (Bool × Nat) :=
  let f := shotFields w
  match shotOpOf (shotCode w) with
  | some .pub => f.on.map (fun i => (true, f.coef.toNat + i))
  | some .store => f.on.map (fun i => (false, f.coef.toNat + i))
  | _ => []

/-- No port or target is staged by two shots of a list. -/
def stagedOnce : List (List (Bool × Nat)) → Bool
  | [] => true
  | l :: ls => l.all (fun x => !ls.any (fun m => m.contains x)) && stagedOnce ls

/-- Check 7: ports and targets of R48, none staged by two shots of a scene. -/
def imageStages (b : Bank) (shots : List (BitVec 64)) : Bool :=
  shots.all (fun w => (shotStages w).all (fun p => if p.1 then portOk b.res p.2 else decide (p.2 < 0x200)))
    && b.scenes.all (fun e => stagedOnce (((shots.drop e.first).take e.len).map shotStages))

/-- Check 8: scenes end with their only END, do not overlap; the forced scenes are defined, their flags 0. -/
def imageScenes (b : Bank) (shots : List (BitVec 64)) : Bool :=
  let l := b.scenes.filter (fun e => decide (e.len ≠ 0))
  l.all (fun e =>
      let w := (shots.drop e.first).take e.len
      decide (e.first + e.len ≤ shots.length) && (w.take (e.len - 1)).all (fun x => !isEnd x)
        && (match w.getLast? with | some x => isEnd x | none => false))
    && l.zipIdx.all (fun p => (l.drop (p.2 + 1)).all (fun e =>
      decide (p.1.first + p.1.len ≤ e.first ∨ e.first + e.len ≤ p.1.first)))
    && b.forced.all (fun n => match b.scenes[n]? with
      | some e => decide (e.len ≠ 0) && decide (e.flags = 0)
      | none => false)

/-- Number of the first failed check of an image, 0 for none (R53); check 9 is Garjo's alone. -/
def imageCheck (anchor : Option (BitVec 384)) (stored : Nat) (b : List Byte) : Nat :=
  if !imageHead b then 1
  else if !imageSigned anchor b then 2
  else
    let bank := imageBank b
    let shots := shotsOf (slice b 640 (8 * leAt b 12 4))
    if !shots.all shotForm then 3
    else if !shots.all (shotAll ShotOp.lanesOk) then 4
    else if !shots.all (shotAll shotWords) then 5
    else if !shots.all (shotAll shotCoef) then 6
    else if !imageStages bank shots then 7
    else if !imageScenes bank shots then 8
    else if bank.rollback.toNat < stored then 10 else 0

end Sys2Proof.Machine
end

