-- ==== Sys2Proof/Machine/Profile.lean ====
section
/-!
DEFINITION. The protection profile and its checks (spec/12_trip_network.md R270 to R272; the conditions of
R168, R225, R233, R235, R245, R250 and R252).
-/
namespace Sys2Proof.Machine
open Reg

/-- Records of a profile: address and value (R270). -/
def profileRecords (b : List Byte) : List (Nat × Word) :=
  (List.range (leAt b 6 2)).map (fun i => (leAt b (128 + 8 * i) 4, BitVec.ofNat 32 (leAt b (132 + 8 * i) 4)))

/-- Check 1: header, lengths, CRC, digest, the owner's signature, rollback counter. -/
def profileHead (anchor : Option (BitVec 384)) (stored : Nat) (b : List Byte) : Bool :=
  let n := leAt b 6 2
  let c := 128 + 8 * n
  let so := c + 4
  decide (leAt b 0 4 = 0x50524F46) && decide (leAt b 4 2 = 1) && decide (1 ≤ n ∧ n ≤ 4096)
    && decide (leAt b 8 4 = b.length) && decide (b.length = so + 104 + leAt b (so + 6) 2)
    && zeros (slice b 72 56)
    && decide (sha384 (slice b 128 (8 * n)) = BitVec.ofNat 384 (leVal (slice b 24 48).reverse))
    && decide (leAt b c 4 = (crc32 (b.take c)).toNat)
    && sigBlockOk [1] anchor (b.take so) (b.drop so)
    && decide (stored ≤ leAt b 20 4)

/-- Check 2: a record addresses a register with a SEAL field, its value within SEAL fields. -/
def recordOk (r : Nat × Word) : Bool :=
  decide (r.1 % 4 = 0) && (match rowOf r.1 with
    | some row => decide (row.mSeal ≠ 0) && decide (r.2 &&& ~~~ BitVec.ofNat 32 row.mSeal = 0)
    | none => false)

/-- Boot code writes the SEAL fields of a record's register. -/
def State.putSeal (s : State) (r : Nat × Word) : State :=
  match rowOf r.1 with
  | some row =>
    let m := BitVec.ofNat 32 row.mSeal
    s.setWord r.1 ((s.word r.1 &&& ~~~ m) ||| (r.2 &&& m))
  | none => s

/-- A field lies within a range. -/
def State.inR (s : State) (f : Field) (lo hi : Nat) : Bool := decide (lo ≤ s.rd f ∧ s.rd f ≤ hi)

/-- Rated frequency in 10 mHz (R290). -/
def State.rated10 (s : State) : Nat := if s.on SYS.RAT_S.F60 then 6000 else 5000

/-- Check 3: every SEAL field of the register at an address lies within its range, as the tables of the
registers' chapters give it, a range bounded by another field (SC_THR above OC_THR, JUMP_MAX from JUMP_FLT, Z_ISL up
to 1,000,000 / PROF) included. DEDUCED: a range that check 4 names as well fails check 3 first (log entry 65). -/
def State.sealRange (s : State) (a : Nat) : Bool :=
  if a = 0x30 then s.inR SYS.RAT_VLL.VLL 1000 1000000
  else if a = 0x34 then s.inR SYS.RAT_S.S 500 6000
  else if a = 0x38 then s.inR SYS.RAT_DC.VDC 3000 16000
  else if 0x40 ≤ a ∧ a < 0x60 then s.inR (SYS.RAT_PF.PF (elem a 0x40 4)) 0 1100
  else if a = 0x700C then s.inR BND.ILIM.PROF 1000 1500
  else if a = 0x7010 then s.inR BND.FEED_ILIM.PROF 1000 1500
  else if a = 0x7014 then s.inR BND.SOFT.RATE 1 10000
  else if 0x9100 ≤ a ∧ a < 0x9480 then
    let n := elem a 0x9100 0x40
    let r := (a - 0x9100) % 0x40
    if r = 4 then s.inR (ISL.SENSE.OC_THR n) 10 250
      && decide (s.rd (ISL.SENSE.OC_THR n) < s.rd (ISL.SENSE.SC_THR n))
    else if r = 8 then s.inR (ISL.TIMING.SOFT_T n) 5 100
    else if r = 0xC then s.inR (ISL.UVLO.VN_TRIP n) 20 80 && s.inR (ISL.UVLO.VP_TRIP n) 120 170
      && s.inR (ISL.UVLO.WARN n) 3 15
    else if r = 0x14 then s.inR (ISL.NTC.OT_THR n) 60 175
    else true
  else if a = 0xE004 then s.inR FRT.BAND.OV_THR 1050 1300 && s.inR FRT.BAND.UV_THR 500 950
  else if a = 0xE008 then s.inR FRT.DET.EXIT_T 1 255 && s.inR FRT.DET.HYST 0 50
  else if a = 0xE020 then s.inR FRT.ZV.ZV_THR 0 100 && s.inR FRT.ZV.ZV_MAX 0 250
  else if a = 0xE024 then s.inR FRT.JUMP.JUMP_T 0 1000 && s.inR FRT.JUMP.JUMP_FLT 2 60
    && s.inR FRT.JUMP.JUMP_MAX (s.rd FRT.JUMP.JUMP_FLT) 60
  else if a = 0xE028 then s.inR FRT.REP.REP_WIN 1 3600 && s.inR FRT.REP.REP_N 1 15
  else if a = 0xE02C then s.inR FRT.ENV_CFG.UV_N 1 16 && s.inR FRT.ENV_CFG.OV_N 1 16
  else if a = 0xF008 then s.inR ISD.TOPO_CFG.TOPO_FILT 0 100 && s.inR ISD.TOPO_CFG.SUPV_HOLD 0 5000
  else if a = 0xF010 then
    s.inR ISD.P_FREQ.OF_THR (s.rated10 + 1) 7200 && s.inR ISD.P_FREQ.UF_THR 4000 (s.rated10 - 1)
  else if a = 0xF014 then s.inR ISD.P_VOLT.OV_THR 1000 1400 && s.inR ISD.P_VOLT.UV_THR 500 1000
  else if a = 0xF018 then s.inR ISD.P_MISC.ROCOF_THR 2 200 && s.inR ISD.P_MISC.VS_THR 2 60 && s.inR ISD.P_MISC.UNB_THR 5 200
  else if a = 0xF020 then (List.range 7).all (fun i => decide (s.rd ISD.P_ACT.ACT / 4 ^ i % 4 ≠ 3))
  else if a = 0xF030 then s.inR ISD.PROBE.CODE 0 30 && s.inR ISD.PROBE.RATIO 80 112
  else if a = 0xF034 then decide (100 ≤ s.rd ISD.ACT_CFG.Z_ISL)
    && decide (s.rd ISD.ACT_CFG.Z_ISL * s.rd BND.ILIM.PROF ≤ 1000000)
  else if a = 0xF050 then decide (s.rd ISD.RECON_F.LO < s.rd ISD.RECON_F.HI)
  else if a = 0xF054 then decide (s.rd ISD.RECON_V.LO < s.rd ISD.RECON_V.HI)
  else if a = 0xF058 then s.inR ISD.RECON_T.DELAY 0 600
  else if 0xA100 ≤ a ∧ a < 0xA280 ∧ (a - 0xA100) % 0x10 = 0 then
    let n := elem a 0xA100 0x10
    (s.inR (CMP.CFG.PAIR n) 0 23 || decide (s.rd (CMP.CFG.PAIR n) = 0x1F)) && s.inR (CMP.CFG.HYST n) 0 50
      && s.inR (CMP.CFG.FILT n) 0 2 && s.inR (CMP.CFG.MODE n) 0 2
  else if a = 0xB020 then s.inR TRP.HARDOFF.BRK_T 5 50 && s.inR TRP.HARDOFF.INNER_DLY 10 50
  else if a = 0xB200 then s.inR TRP.DUMP_E.E_MAX 1 32767 && s.inR TRP.DUMP_E.TAU 1 3600
  else if a = 0xB204 then s.inR TRP.DUMP_R.P_DIS 1 65535 && s.inR TRP.DUMP_R.R_DUMP 100 65535
  else if a = 0xB208 then s.inR TRP.DIS.DIS_T 1 255 && s.inR TRP.DIS.C_HALF 1 65535
  else if a = 0xB20C then s.inR TRP.SC_LOCK.SC_WIN 1 3600 && s.inR TRP.SC_LOCK.SC_N 1 15
  else if a = 0xB210 then s.inR TRP.I2T_CFG.I2T_MAX 1 65535
  else if a = 0xB214 then s.bitOf TRP.FC.GOV_MASK 0 && s.inR TRP.FC.FC_LIM 1000 1500
  else true

/-- The conditions of R168 on an island: an outer soft-off ends in time, SC above OC, WARN in its range. -/
def State.islandProfile (s : State) (n : Nat) : Bool :=
  let t := s.rd (ISL.TIMING.SOFT_T n)
  (!(decide (n < 12) && !isInner n) || (decide (t + 5 ≤ s.rd TRP.HARDOFF.INNER_DLY) && decide (t ≤ 14)))
    && decide (s.rd (ISL.SENSE.OC_THR n) < s.rd (ISL.SENSE.SC_THR n)) && s.inR (ISL.UVLO.WARN n) 3 15

/-- Times of an envelope start at 0 and do not decrease. -/
def timesRise : List Nat → Bool
  | a :: b :: l => decide (a ≤ b) && timesRise (b :: l)
  | _ => true

/-- The conditions of R225. -/
def State.envelopes (s : State) : Bool :=
  let un := s.rd FRT.ENV_CFG.UV_N
  let on' := s.rd FRT.ENV_CFG.OV_N
  let ut := (List.range un).map (fun i => s.rd (FRT.UV_PT.T_MS i))
  let ot := (List.range on').map (fun i => s.rd (FRT.OV_PT.T_MS i))
  decide (1 ≤ un ∧ un ≤ 16 ∧ 1 ≤ on' ∧ on' ≤ 16)
    && decide (ut.head? = some 0) && decide (ot.head? = some 0) && timesRise ut && timesRise ot
    && (List.range un).all (fun i => decide (s.rd (FRT.UV_PT.V i) ≤ s.rd FRT.BAND.UV_THR))
    && (List.range on').all (fun i => decide (s.rd FRT.BAND.OV_THR ≤ s.rd (FRT.OV_PT.V i)) && decide (s.rd (FRT.OV_PT.V i) ≤ 1300))
    && decide (s.rd FRT.ZV.ZV_MAX ≤ 250) && decide (s.rd FRT.JUMP.JUMP_FLT ≤ s.rd FRT.JUMP.JUMP_MAX)

/-- A source acts hard-off and latched on every target of a mask. -/
def State.routes (s : State) (src mask : Nat) : Bool :=
  s.on (TRP.MAP.LATCH src) && !s.on (TRP.MAP.SOFT src) && decide (s.rd (TRP.MAP.TGT src) &&& mask = mask)

/-- A context of the stored network image is a GOOSE subscription (R235). -/
def State.storedGoose (s : State) (c : Nat) : Bool :=
  match s.nvm.image with
  | some i => i.ctxs.any (fun b => decide (leAt b 0 1 = c ∧ leAt b 1 1 = 3))
  | none => false

/-- The conditions of R235 on the topology table. -/
def State.topology (s : State) : Bool :=
  (!s.on ISD.CTRL.TOPO_EN || (List.range 32).any (fun i => s.on (ISD.SRC.EN i)))
    && (List.range 96).all (fun i => !s.on (ISD.DEV.EN i) || s.storedGoose (s.rd (ISD.DEV.CTX i)))

/-- Check 4: the ratings are written, and the chapters' conditions hold. -/
def State.profileConds (s : State) (l : List (Nat × Word)) : Bool :=
  ([0x30, 0x34, 0x38] ++ (List.range 8).map (fun k => 0x40 + 4 * k)).all (fun a => l.any (fun r => decide (r.1 = a)))
    && (List.range 14).all s.islandProfile && s.envelopes && s.routes 37 0x401 && s.topology
    && decide (s.rd ISD.ACT_CFG.Z_ISL * s.rd BND.ILIM.PROF ≤ 1000000)

/-- Check 5: windows of the comparators (R250) and their pairs (R252). -/
def State.comparators (s : State) : Bool :=
  (List.range 24).all (fun n =>
    let p := s.rd (CMP.CFG.PAIR n)
    (!s.on (CMP.CFG.EN n) || decide (s.rd (CMP.CFG.MODE n) ≠ 0)
      -- thresholds are codes of 0.625 mV, the hysteresis is in mV
      || decide (s.rd (CMP.CFG.HYST n) * 2 * 8 < ((s.rd (CMP.THR.HI n) : Int) - s.rd (CMP.THR.LO n)) * 5))
    && (decide (p = 0x1F) || (decide (p ≠ n) && decide (s.rd (CMP.CFG.PAIR p) = n))))

/-- Check 7: discharge energy, current sensing and short-circuit thresholds. -/
def State.energies (s : State) : Bool :=
  decide (s.rd TRP.DUMP_R.P_DIS * s.rd TRP.DUMP_E.TAU < s.rd TRP.DUMP_E.E_MAX * 10)
    && (List.range 14).all (fun n =>
      let k := s.rd (ISL.KSNS.KSNS n)
      decide (k ≠ 0) && decide ((s.rd (ISL.SENSE.SC_THR n) * k) ^ 2 * 3 * s.rd SYS.RAT_VLL.VLL ^ 2
        < s.rd TRP.I2T_CFG.I_SC ^ 2 * 2 * s.rd SYS.RAT_S.S ^ 2 * 10 ^ 8))

/-- Number of the first failed check of a profile, 0 for none (R272). The fields are taken as boot would leave
them: the reset words with the records written. -/
def State.profileCheck (s : State) (b : List Byte) : Nat :=
  let l := profileRecords b
  let p : State := l.foldl State.putSeal { s with regs := [] }
  if !profileHead s.nvm.anchor (s.nvm.cnt.getD 2 0) b then 1
  else if !l.all recordOk then 2
  else if !l.all (fun r => p.sealRange r.1) then 3
  else if !p.profileConds l then 4
  else if !p.comparators then 5
  else if !(p.routes 32 0x3FF && p.routes 35 0x3FF) then 6
  else if !p.energies then 7 else 0

end Sys2Proof.Machine
end

