-- ==== Sys2Proof/Machine/Pwm.lean ====
section
/-!
DEFINITION. Carrier events, shadows, direct compare, dead time, wick monitor and clapper
(spec/06_pulse_generation.md).
-/
namespace Sys2Proof.Machine
open Reg

/-- PWM.CU[n].CNT shows the counter. -/
def State.showCount (s : State) (n : Nat) : State :=
  let p := s.position n s.now
  let down := decide (s.prd n < p)
  (s.wr (PWM.CU.CNT.COUNT n) (if down then 2 * s.prd n - p else p)).wrB (PWM.CU.CNT.DOWN n) down

/-! ### Shadows (R132 to R134) -/

/-- The shadow field of an item, whole. -/
def shadowOf (s : State) (n : Nat) (i : ShadowItem) : Nat :=
  match i with
  | .prd => s.rd (PWM.CU.PRD.SHADOW n)
  | .cmpa => (s.word (PWM.CU.CMPA.COUNT n).addr).toNat % 2 ^ 22
  | .cmpb => (s.word (PWM.CU.CMPB.COUNT n).addr).toNat % 2 ^ 22

/-- Number of an item in the write record. -/
def itemNum : ShadowItem → Nat | .prd => 0 | .cmpa => 1 | .cmpb => 2

/-- The pending bit of an item (R133). -/
def pendBit (n : Nat) : ShadowItem → Field
  | .prd => PWM.CU.COMMIT.PRD_P n | .cmpa => PWM.CU.COMMIT.CMPA_P n | .cmpb => PWM.CU.COMMIT.CMPB_P n

/-- An item was written since its last transfer. -/
def isNew (u : CarrierUnit) : ShadowItem → Bool
  | .prd => u.newPrd | .cmpa => u.newA | .cmpb => u.newB

/-- Marks an item. -/
def setNew (u : CarrierUnit) (i : ShadowItem) (b : Bool) : CarrierUnit :=
  match i with | .prd => { u with newPrd := b } | .cmpa => { u with newA := b } | .cmpb => { u with newB := b }

/-- A shadow is written (R132, R133): where its SCLK cycle holds a reload point, it waits for the next
one and its pending bit shows; where that reload took a commit, the commit stands for it. The value before the first write
of a cycle is the old one. -/
def State.putShadow (s : State) (n : Nat) (i : ShadowItem) (v : Nat) : State :=
  let u := s.unit n
  let old := shadowOf s n i
  let s := match i with
    | .prd => s.wr (PWM.CU.PRD.SHADOW n) v
    | .cmpa => s.setWord (PWM.CU.CMPA.COUNT n).addr (BitVec.ofNat 32 (v % 2 ^ 22))
    | .cmpb => s.setWord (PWM.CU.CMPB.COUNT n).addr (BitVec.ofNat 32 (v % 2 ^ 22))
  let s := if u.reload = s.cycle then s.set (pendBit n i) else s
  s.modUnit n (fun u =>
    let wr := u.wr.filter (fun w => decide (w.2.1 = s.cycle))
    let u := if u.moved = some s.cycle then { u with commit := true, commitAt := s.cycle } else u
    { setNew u i true with
      wr := if wr.any (fun w => decide (w.1 = itemNum i)) then wr else (itemNum i, s.cycle, old, isNew u i) :: wr })

/-- A write of PRD, CMPA or CMPB from the window; a PRD outside 16 to 65,535 is not taken (R149). -/
def State.writeShadow (s : State) (n : Nat) (i : ShadowItem) (v : Word) : State :=
  match i with
  | .prd => if v.toNat % 65536 < 16 then s.set PWM.STATUS.CFG_ERR else s.putShadow n .prd (v.toNat % 65536)
  | i => s.putShadow n i (v.toNat % 2 ^ 22)

/-- SHADOW_WRITE. -/
def execShadowWrite (t : Time) (n : Fin 12) (w : ShadowItem) (v : Word) (s : State) : Host.Outcome State Fault Refusal :=
  s.during t (fun s => s.writeShadow n w v)

/-- A commit (R132, R133); one that stands already keeps its place. -/
def State.commitGo (s : State) (n : Nat) : State :=
  let s := if (s.unit n).reload = s.cycle then s.set (PWM.CU.COMMIT.GO_P n) else s
  s.modUnit n (fun u =>
    { u with commit := true, commitAt := if u.commit then u.commitAt else s.cycle, commitLast := s.cycle })

/-- COMMIT_GO. -/
def execCommitGo (t : Time) (n : Fin 12) (s : State) : Host.Outcome State Fault Refusal :=
  s.during t (fun s => s.commitGo n)

/-- The value an item transfers at a reload in cycle `c`, if it transfers: `all` in paired mode after a
commit, in free mode what is new; a write of the cycle itself takes no part (R132, R133). -/
def transferOf (s : State) (n c : Nat) (all : Bool) (i : ShadowItem) : Option Nat :=
  let u := s.unit n
  match u.wr.find? (fun w => decide (w.1 = itemNum i) && decide (w.2.1 = c)) with
  | some (_, _, old, was) => if all || (s.on (PWM.CU.CFG.FREE n) && was) then some old else none
  | none =>
    if all || (s.on (PWM.CU.CFG.FREE n) && isNew u i) then some (shadowOf s n i)
    else none

/-- A new PRD with the position kept at the reload point; POS beyond the new period shows (R143). -/
def State.takePrd (s : State) (n v : Nat) (peak : Bool) : State :=
  let s := s.wr (PWM.CU.PRD.ACTIVE n) v
  let s := s.modUnit n (fun u =>
    { u with org := if peak then (s.now : Int) - s.halfPeriod n else s.now, slewing := 0 })
  if 2 * v ≤ s.rd (PWM.CU.PHASE.POS n) then s.set (PWM.CU.STATUS.POS_WRAP n) else s

/-- After a transfer an item is new, and pending, only if it was written in this cycle (R133). -/
def State.afterItem (s : State) (n c : Nat) (i : ShadowItem) (moved : Bool) : State :=
  if (s.unit n).wr.any (fun w => decide (w.1 = itemNum i) && decide (w.2.1 = c)) then s.set (pendBit n i)
  else if moved then (s.wr (pendBit n i) 0).modUnit n (fun u => setNew u i false) else s

/-- The unit reloads at its valleys or peaks; in band-law mode only valleys reload (R129, R132). -/
def State.reloadsAt (s : State) (n : Nat) (peak : Bool) : Bool :=
  let rld := s.rd (PWM.CU.CFG.RLD n)
  if s.bandMode n then !peak else rld = 2 || (rld = 1) == peak

/-- A reload point (R132 to R134), where the unit has one here or takes over at this vertex (`back`, R128). -/
def State.reloadAt (s : State) (n : Nat) (peak back : Bool) : State :=
  if !back && !s.reloadsAt n peak then s
  else
    let c := s.cycle
    let u := s.unit n
    let free := s.on (PWM.CU.CFG.FREE n)
    let all := !free && u.commit && decide (u.commitAt ≠ c)
    let prd := transferOf s n c all .prd
    let a := transferOf s n c all .cmpa
    let b := transferOf s n c all .cmpb
    let s := match prd with | some v => s.takePrd n v peak | none => s
    let s := match a with | some v => s.wr (PWM.CU.CMPA_ACT.VALUE n) v | none => s
    let s := match b with | some v => s.wr (PWM.CU.CMPB_ACT.VALUE n) v | none => s
    let s := if free && prd.isSome && a.isNone && b.isNone then
        let m := ceilDiv (s.rd (PWM.CU.MINP.MIN_PULSE n)) (2 ^ s.rd (PWM.CU.CFG.PRESC n))
        let top := (s.prd n - m) * 64
        let s := s.wr (PWM.CU.CMPA_ACT.VALUE n) (min top (s.rd (PWM.CU.CMPA_ACT.VALUE n)))
        (s.wr (PWM.CU.CMPB_ACT.VALUE n) (min top (s.rd (PWM.CU.CMPB_ACT.VALUE n)))).set
          (PWM.CU.COMMIT.SKEW n)
      else s
    let s := ((s.afterItem n c .prd prd.isSome).afterItem n c .cmpa a.isSome).afterItem n c .cmpb b.isSome
    -- a commit, or a write that joined the one taken, of this cycle stands for the next reload (R133)
    let again := u.commit && decide (u.commitLast = c)
    let joined := all && u.wr.any (fun w => decide (w.2.1 = c))
    let s := s.wrB (PWM.CU.COMMIT.GO_P n) again
    s.modUnit n (fun u =>
      { u with reload := c, commit := again || joined, commitAt := if again || joined then c else u.commitAt
               moved := if all then some c else u.moved })

/-! ### Outputs (R130, R137, R147) -/

/-- A unit's source is not `unused`: CU10 and CU11 declared for the band law act as unused (R128). -/
def State.inService (s : State) (n : Nat) : Bool :=
  decide (s.rd (PWM.CU.CFG.SRC n) = 1) || (s.bandMode n && decide (n ≤ 9))

/-- A unit's outputs follow its compares: direct, or held by the governor (R128). -/
def State.direct (s : State) (n : Nat) : Bool := decide (s.rd (PWM.CU.CFG.SRC n) = 1) || s.govHolds n

/-- The target of a unit's outputs in the trip matrix. -/
def unitTarget (n : Nat) : Option Nat :=
  if n = 0 then some 0 else if n ≤ 8 then some n else if n = 9 then some 9 else none

/-- The outputs of a unit may be driven: enabled and not unused, and its target untripped (R147, R128); the auxiliary
outputs from SEALED on (R282). -/
def State.mayDrive (s : State) (n : Nat) : Bool :=
  ((s.on (PWM.CU.CFG.ENABLE n) && s.inService n) || s.govHolds n) && match unitTarget n with
    | some g => !(s.rd TRP.TGT.TRIPPED).testBit g
    | none => decide (stSEALED ≤ s.code)

/-- Drives an output pad of a feed or auxiliary unit: output 0 is A, 1 is B. An auxiliary pad that PINSEL leaves to its
GPIO is not driven (R146); SYS.GPIO_IN shows the level of one it does not (R291). -/
def State.putPad (s : State) (n out : Nat) (on : Bool) : State :=
  let i := 2 * (n - 10) + out
  let s := if 1 ≤ n ∧ n ≤ 8 then s.wrBit PWM.OUT.FD (2 * (n - 1) + out) (on && s.mayDrive n)
    else if 10 ≤ n ∧ s.bitOf PWM.PINSEL.AUX i = true then
      let b := on && s.mayDrive n
      (s.wrBit PWM.OUT.AUX i b).wrBit SYS.GPIO_IN.LEVEL (12 + i) b
    else s
  if on then s.modUnit n (fun u => if out = 0 then { u with openA := s.now } else { u with openB := s.now })
  else s.modUnit n (fun u => { u with stayed := false })

/-- An output pad's state. -/
def State.padOn (s : State) (n out : Nat) : Bool :=
  if 1 ≤ n ∧ n ≤ 8 then s.bitOf PWM.OUT.FD (2 * (n - 1) + out)
  else if 10 ≤ n then s.bitOf PWM.OUT.AUX (2 * (n - 10) + out) else false

/-- GPIO pads that PINSEL gives to AUX or the clapper (R146). -/
def State.pwmPads (s : State) : Nat :=
  s.rd PWM.PINSEL.AUX * 2 ^ 12 + s.rd PWM.PINSEL.CLAP_OUT * 2 ^ 8 + s.rd PWM.PINSEL.CLAP_IN * 2 ^ 9

/-- The outputs of a unit that is disabled or goes out of service drop (R147): its pads at once, the islands it drives by
their STATE OFF in group order. -/
def State.unitOff (s : State) (n : Nat) : State :=
  if n = 0 then (s.each [0, 1, 2] State.legOff).groupOff
  else if n ≤ 8 then (s.legOff (n + 2)).feedLow (n - 1)
  else if n = 9 then (s.each [11, 12] State.legOff).dumpOff
  else ((s.putPad n 0 false).putPad n 1 false).modUnit n (fun u => { u with rel := none })

/-- A complementary changeover: the other output off now, this one released by dead time (R137). With no
outgoing output on, it turns on at once. -/
def State.changeOver (s : State) (n out : Nat) : State :=
  let other := 1 - out
  if s.padOn n other then
    (s.putPad n other false).modUnit n (fun u => { u with rel := some { te := s.now, out := out } })
  else if (s.unit n).rel.isSome then
    s.modUnit n (fun u => { u with rel := u.rel.map (fun r => { r with out := out }) })
  else s.putPad n out true

/-- STATUS.RUNNING: the unit is switching (R143): its band channel is released, or its direct outputs are not off, the
time between two pulses and a dead time included. -/
def State.switching (s : State) (n : Nat) : Bool :=
  if s.bandMode n then
    if n = 0 then (List.range 3).any (fun l => (s.leg l).released)
    else if n ≤ 8 then (s.leg (n + 2)).released
    else decide (n = 9) && ((s.leg 11).released || (s.leg 12).released)
  else s.direct n && s.mayDrive n && (s.on (PWM.CU.CFG.COMP n) || decide (s.rd (PWM.CU.CMPA_ACT.VALUE n) ≠ 0)
    || decide (s.rd (PWM.CU.CMPB_ACT.VALUE n) ≠ 0) || s.govHolds n)

/-- Refreshes RUNNING. -/
def State.showRunning (s : State) (n : Nat) : State := s.wrB (PWM.CU.STATUS.RUNNING n) (s.switching n)

/-- The outputs of a feed take a level (R130): two-level by changeover or A alone, three-level by count. -/
def State.feedLevel (s : State) (k new : Nat) : State :=
  let n := k + 1
  if (s.unit n).notch.isSome then
    s.modUnit n (fun u => { u with wantA := decide (new = 2), wantB := decide (new = 0) })
  else if s.threeLevel (k + 3) then
    if new = 2 then (s.putPad n 0 true).putPad n 1 true
    else if new = 0 then (s.putPad n 0 false).putPad n 1 false
    else
      let useB := !(s.leg (k + 3)).servedB
      ((s.putPad n 0 (!useB)).putPad n 1 useB).modLeg (k + 3) (fun b => { b with servedB := useB })
  else if s.on (PWM.CU.CFG.COMP n) then s.changeOver n (if new = 2 then 0 else 1)
  else s.putPad n 0 (decide (new = 2))

/-- FEED_EDGE_EXECUTE (R116): the oldest standing edge of the feed whose instant has come executes and
counts. -/
def execFeedEdgeExecute (t : Time) (k : Fin 8) (s : State) : Host.Outcome State Fault Refusal :=
  s.during t (fun s =>
    let l := k.val + 3
    match (s.leg l).edges.reverse.find? (fun e => !e.withdrawn && decide (e.te ≤ s.now)) with
    | none => s
    | some e =>
      let s := s.modLeg l (fun b =>
        { b with edges := b.edges.filter (fun x => decide (x ≠ e)),
                 nowCnt := if e.old = 3 then b.nowCnt else b.nowCnt + 1 })
      let s := if e.old = 3 then s else s.inc (BND.CH.CNT.EXECUTED l)
      (((s.settleEdge l).feedLevel k e.new).showRunning (k + 1)).reelEvent e.te l 2 e.new)

/-! ### Direct compare (R131, R135, R136) -/

/-- Compare in force of an output, in 1/64 count; the governor's own while it holds CU9 (R128). -/
def State.compare (s : State) (n out : Nat) : Nat :=
  if s.govHolds n then (if out = 0 then s.trip.govA else s.trip.govB)
  else if out = 0 then s.rd (PWM.CU.CMPA_ACT.VALUE n) else s.rd (PWM.CU.CMPB_ACT.VALUE n)

/-- Whether a compare makes its output active just after an instant (R131). -/
def State.active (s : State) (n out lag : Nat) (t : Time) : Bool :=
  let x := s.ramp n lag t * 64
  let down := decide (s.halfPeriod n ≤ s.phaseOf n lag t)
  let c := s.compare n out * s.countLen n
  let full := s.prd n * 64 * s.countLen n
  if s.on (PWM.CU.CFG.CENTRE n) && !s.govHolds n then
    decide (full < x + c) || (decide (x + c = full) && !down && decide (0 < c))
  else decide (x < c) || (decide (x = c) && down && decide (0 < c))

/-- Nominal active width of an output and the carrier period, in fine edge steps (R131, R127). -/
def State.width (s : State) (n out : Nat) : Nat × Nat :=
  let car := 2 * s.halfPeriod n
  (min car (2 * s.compare n out * s.countLen n / 64), car)

/-- The shortest interval that may open (R136). -/
def State.minOpen (s : State) (n : Nat) (comp : Bool) : Nat :=
  sclk * (s.rd (PWM.CU.MINP.MIN_PULSE n) + if comp then s.rd (PWM.CU.DT.DT_MAX n) else 0)

/-- An opening edge is suppressed and counted (R136). -/
def State.dropEdge (s : State) (n : Nat) : State := s.sat (PWM.CU.EVT.DROP n)

/-- The complementary pair follows compare A (R136): whether A should conduct, or neither. -/
def State.directPair (s : State) (n lag : Nat) (t : Time) : Option Bool :=
  let (l, car) := s.width n 0
  let m := s.minOpen n true
  if car ≤ 2 * m then none
  else if l ≤ m then some false
  else if car ≤ l + m then some true
  else some (s.active n 0 lag t)

/-- What an independent output conducts (R136): an interval under MIN_PULSE does not open. -/
def State.directOne (s : State) (n out lag : Nat) (t : Time) : Bool :=
  let (l, car) := s.width n out
  let m := s.minOpen n false
  if l < m then false else if car - l < m then true else s.active n out lag t

/-- An opening edge that R136 suppresses counts, once: while the compare calls for another state than the output
`took`, no other edge of it is one. `leg` is the leg of CU0, 0 elsewhere. -/
def State.noteDrop (s : State) (n leg out lag : Nat) (t : Time) (took : Bool) : State :=
  let k := (leg, out)
  if s.active n out lag t = took then s.modUnit n (fun u => { u with dropped := u.dropped.filter (fun x => decide (x ≠ k)) })
  else if (s.unit n).dropped.contains k then s
  else (s.dropEdge n).modUnit n (fun u => { u with dropped := k :: u.dropped })

/-- The instant of an edge at `t` that closes a pulse opened at `opened`: not before MIN_PULSE after it (R136). -/
def State.closeAt (s : State) (n : Nat) (opened t : Time) : Time :=
  max t (opened + sclk * s.rd (PWM.CU.MINP.MIN_PULSE n))

/-- An independent output of a feed or auxiliary unit follows its compare (R136). -/
def State.directOut (s : State) (n out : Nat) : State :=
  let take := s.directOne n out 0 s.now
  let s := s.noteDrop n 0 out 0 s.now take
  let opened := if out = 0 then (s.unit n).openA else (s.unit n).openB
  if take = s.padOn n out then s
  else if take then s.putPad n out true
  else if s.now < s.closeAt n opened s.now then s else s.putPad n out false

/-- What the outputs of CU0 call for on a leg (R131): 2 P, 1 O, 0 N; or both A and B. -/
def State.directWant (s : State) (l : Nat) (te : Time) : Nat × Bool :=
  let lag := s.gridLag l
  if s.on (PWM.CU.CFG.COMP 0) then
    match s.directPair 0 lag te with
    | some a => (if a then 2 else 0, false)
    | none => (1, true)
  else
    let a := s.directOne 0 0 lag te
    let b := s.directOne 0 1 lag te
    (if a && !b then 2 else if b && !a then 0 else 1, a && b)

/-- One level change of a grid leg in direct mode. -/
def State.directStep (s : State) (l new : Nat) (te : Time) : State :=
  let cur := s.rd (BND.CH.STATE.LEVEL l)
  let e : Edge := ⟨decide (cur < new), cur, new, te, te + 1, none, false, none⟩
  ((s.modLeg l (fun b => { b with edges := (e :: b.edges).take 8, lastEdge := some te })).wr
    (BND.CH.STATE.LEVEL l) new).sendEdge l e |>.reelEvent te l 0 new

/-- A grid leg in direct mode takes the level its outputs call for (R131, R136). A pulse is not closed before MIN_PULSE
after its opening; a change between P and N passes through O, which it leaves once the dead time of the first change has
ended. -/
def State.directLeg (s : State) (l : Nat) (te : Time) : State :=
  let lag := s.gridLag l
  let (want, both) := s.directWant l te
  let s := if s.on (PWM.CU.CFG.COMP 0) then
      (match s.directPair 0 lag te with | some a => s.noteDrop 0 l 0 lag te a | none => s)
    else (s.noteDrop 0 l 0 lag te (s.directOne 0 0 lag te)).noteDrop 0 l 1 lag te (s.directOne 0 1 lag te)
  let s := if both then s.set (PWM.CU.STATUS.DUTY_CONFLICT 0) else s
  let cur := s.rd (BND.CH.STATE.LEVEL l)
  if cur = want then s
  else if cur = 3 then
    ((s.wr (BND.CH.STATE.LEVEL l) 1).sendDown (4 * l + 1) (.edgeArm true true te)).sendDown (4 * l + 2)
      (.edgeArm true true te)
  else if cur = 1 then s.directStep l want te
  else
    let tc := match (s.leg l).lastEdge with | some t => s.closeAt 0 t te | none => te
    let s := s.directStep l 1 tc
    if want = 1 then s else s.directStep l want (tc + sclk * s.rd (PWM.CU.DT.DT_MAX 0))

/-- A dump switch in direct mode (R128, R136): G13 is A, G14 is B; the governor drives them with COMP 0 (R266). -/
def State.directDump (s : State) (out : Nat) (te : Time) : State :=
  let comp := s.on (PWM.CU.CFG.COMP 9) && !s.govHolds 9
  let on := if comp then
      (match s.directPair 9 0 te with | some a => if out = 0 then a else !a | none => false)
    else s.directOne 9 out 0 te
  let s := if comp then
      (match s.directPair 9 0 te with
        | some a => if out = 0 then s.noteDrop 9 0 0 0 te a else s
        | none => s.set (PWM.CU.STATUS.DUTY_CONFLICT 9))
    else s.noteDrop 9 0 out 0 te on
  let u := s.unit 9
  let (was, opened) := if out = 0 then (u.wantA, u.openA) else (u.wantB, u.openB)
  if on = was then s
  else
    let te := if on then te else s.closeAt 9 opened te
    let e : Edge := ⟨on, if on then 0 else 2, if on then 2 else 0, te, te + 1, none, false, none⟩
    let s := (s.modUnit 9 (fun u =>
      if out = 0 then { u with wantA := on, openA := if on then te else u.openA }
      else { u with wantB := on, openB := if on then te else u.openB })).modLeg (11 + out) (fun b =>
        { b with edges := (e :: b.edges).take 8 })
    s.sendDown (12 + out) (.edgeArm on (!comp) te)

/-- DIRECT_COMPARE_EDGE (R131, R135, R136): the outputs of a unit in direct mode take what its compares say;
edges of island outputs are computed 160 ns before their instant, and edges within a wick notch are held to its end
(R139). -/
def execDirectCompareEdge (t : Time) (n : Fin 12) (s : State) : Host.Outcome State Fault Refusal :=
  s.during t (fun s =>
    if !s.direct n || !s.mayDrive n then s
    else if n = 0 then (s.each [0, 1, 2] (fun s l => s.directLeg l (s.now + sclk * 64))).showRunning 0
    else if n = 9 then ((s.directDump 0 (s.now + sclk * 64)).directDump 1 (s.now + sclk * 64)).showRunning 9
    else if s.on (PWM.CU.CFG.COMP n) then
      match s.directPair n 0 s.now with
      | none => ((s.putPad n 0 false).putPad n 1 false).set (PWM.CU.STATUS.DUTY_CONFLICT n) |>.showRunning n
      | some a =>
        let s := s.noteDrop n 0 0 0 s.now a
        let out := if a then 0 else 1
        let opened := if out = 0 then (s.unit n).openB else (s.unit n).openA
        if (s.unit n).notch.isSome then s.modUnit n (fun u => { u with wantA := a, wantB := !a })
        else if s.padOn n out then s
        else if s.padOn n (1 - out) && decide (s.now < s.closeAt n opened s.now) then s
        else (s.changeOver n out).showRunning n
    else ((s.directOut n 0).directOut n 1).showRunning n)

/-! ### Dead time (R137, R138) -/

/-- FSN_TRANSITION (R137): the pad's level, and the transition of a pending release: rising after FDkA
turned off, falling after FDkB. -/
def execFsnTransition (t : Time) (k : Fin 8) (rise : Bool) (s : State) : Host.Outcome State Fault Refusal :=
  s.during t (fun s =>
    s.modUnit (k + 1) (fun u =>
    let hit := match u.rel with | some r => decide ((r.out = 1) = (rise = true)) | none => false
    { u with fsn := rise, missRun := if hit then 0 else u.missRun,
             rel := if hit then u.rel.map (fun r => { r with tr := r.tr.or (some s.now) }) else u.rel }))

/-- Release instant and whether it counts as a miss (R137, R138), by the DT fields as `dt` reads them. -/
def State.releaseBy (s : State) (dt : Field → Nat) (n : Nat) (r : Release) (sees : Bool) : Time × Bool :=
  let lo := r.te + sclk * dt (PWM.CU.DT.DT_MIN n)
  let hi := r.te + sclk * dt (PWM.CU.DT.DT_MAX n)
  let g := sclk * dt (PWM.CU.DT.GUARD n)
  let g := if 1 ≤ n ∧ n ≤ 8 then max g (4 * sclk + s.rd (PWM.CU.MINP.FSN_FILT n) * fclk) else g
  if dt (PWM.CU.DT.ADAPT n) = 0 then (hi, false)
  else match r.tr with
    | some tr => if tr + g ≤ hi then (max lo (tr + g), false) else (hi, false)
    | none => (hi, sees)

/-- Release of a unit's output, by its register; of an island's switch, by the fields its CFG frames brought (R137). -/
def State.releaseTime (s : State) (n : Nat) (r : Release) : Time × Bool := s.releaseBy s.rd n r true
def State.islandRelease (s : State) (n : Nat) (r : Release) : Time × Bool :=
  s.releaseBy (s.islRd n) (islandUnit n) r (decide (s.islRd n (ISL.CFG.VCE_EN n) = 1))

/-- A release at DT_MAX with no transition seen counts (R137). -/
def State.countMiss (s : State) (n : Nat) : State :=
  let s := (s.sat (PWM.CU.STATUS.DT_MISS n)).modUnit n (fun u => { u with missRun := satInc 16 u.missRun })
  if (s.unit n).missRun = 16 ∧ ¬ s.on (PWM.CU.STATUS.DT_FAULT n) then
    (s.set (PWM.CU.STATUS.DT_FAULT n)).detect 0x1D n rcReport
  else s

/-- DEADTIME_RELEASE (R137): the incoming switch turns on. -/
def execDeadtimeRelease (t : Time) (w : RelAt) (s : State) : Host.Outcome State Fault Refusal :=
  s.during t (fun s =>
    match w with
    | .unit n =>
      match (s.unit n).rel with
      | none => s
      | some r =>
        let (due, miss) := s.releaseTime n r
        if s.now < due then s
        else
          let s := s.modUnit n (fun u => { u with rel := none })
          let s := if miss then s.countMiss n else s
          s.putPad n r.out true
    | .island n =>
      match (s.island n).rel with
      | none => s
      | some r =>
        let (due, miss) := s.islandRelease n r
        if s.now < due then s
        else
          let s := s.modIsland n (fun i => { i with rel := none })
          let s := if miss then s.countMiss (islandUnit n) else s
          if s.acceptsOn n then s.turnOn n else s.refuseOn n)

/-! ### Wick monitor (R139, R140) -/

/-- The valley of a feed unit: periods with H on are counted, and a notch begins when due (R139). -/
def State.wickValley (s : State) (n : Nat) : State :=
  let hi := s.rd (PWM.CU.WICK.OUT n)
  if !s.on (PWM.CU.WICK.EN n) || decide (8 < n) then s
  else
    let on := s.padOn n hi
    let u := s.unit n
    let cnt := if on && u.stayed then u.fullOn + 1 else 0
    let s := s.modUnit n (fun u => { u with fullOn := cnt, stayed := on })
    if on && (decide (s.rd (PWM.CU.WICK.N n) ≤ cnt) || u.wantNotch) && u.notch.isNone then
      let s := (s.putPad n hi false).inc (PWM.CU.EVT.WICK_CNT n)
      s.modUnit n (fun u =>
        { u with notch := some s.now, lowNotch := u.wantNotch, wantNotch := false, fullOn := 0,
                 wantA := decide (hi = 0), wantB := decide (hi = 1),
                 rel := some { te := s.now, out := 1 - hi } })
    else s

/-- Wick droop (R140, R201): outputs low, fault informed, feed FAULT. -/
def State.wickDroop (s : State) (n : Nat) : State :=
  ((((s.feedLow (n - 1)).set (PWM.CU.STATUS.WICK_DROOP n)).detect 0x1E (n - 1) rcReport)).feedFault (n - 1) 1

/-- WICK_NOTCH_END (R139, R140): at the valley + W the low side turns off, WKS is sampled (`wks` its level)
and the outputs take the state the held edges call for. -/
def execWickNotchEnd (t : Time) (k : Fin 8) (wks : Bool) (s : State) : Host.Outcome State Fault Refusal :=
  s.during t (fun s =>
    let n := k.val + 1
    let u := s.unit n
    match u.notch with
    | none => s
    | some t0 =>
      if s.now < t0 + sclk * s.rd (PWM.CU.WICK.W n) then s
      else
        let lo := 1 - s.rd (PWM.CU.WICK.OUT n)
        let s := (s.putPad n lo false).modUnit n (fun u => { u with notch := none, rel := none })
        if !wks && u.lowNotch then s.wickDroop n
        else
          let out := if u.wantA then 0 else 1
          s.modUnit n (fun u =>
            { u with wantNotch := !wks, stayed := true,
                     rel := if u.wantA || u.wantB then some { te := s.now, out := out } else none }))

/-- WICK_LOW_FILTERED (R140): WKSk low for 1 µs while H is on: a notch at the next valley. -/
def execWickLowFiltered (t : Time) (k : Fin 8) (s : State) : Host.Outcome State Fault Refusal :=
  s.during t (fun s =>
    let n := k.val + 1
    if s.on (PWM.CU.WICK.EN n) && s.padOn n (s.rd (PWM.CU.WICK.OUT n)) then
      s.modUnit n (fun u => { u with wantNotch := true })
    else s)

/-! ### Delay lines (R141) -/

/-- Time to the next point of a unit's period, at a phase in fine edge steps. -/
def State.timeTo (s : State) (n ph : Nat) : Nat :=
  let p := Nat.max 1 (2 * s.halfPeriod n)
  (ph + p - s.phaseOf n 0 s.now) % p

/-- An edge of a unit's output pad is due within the next 4 SCLK cycles (R141): of the band law, of a compare or its
closing by MIN_PULSE, of a dead-time release, or of a wick notch at its valley or its end. -/
def State.padBusy (s : State) (n out : Nat) : Bool :=
  let u := s.unit n
  let soon (t : Time) : Bool := decide (s.now ≤ t) && decide (t ≤ s.now + 4 * sclk)
  let src := if s.on (PWM.CU.CFG.COMP n) then 0 else out
  let opened := if out = 0 then u.openA else u.openB
  (decide (1 ≤ n ∧ n ≤ 8) && (s.leg (n + 2)).edges.any (fun e => !e.withdrawn && soon e.te))
    || (match u.rel with | some r => soon (s.releaseTime n r).1 | none => false)
    || (s.direct n && ((List.range 4).any (fun i => s.active n src 0 (s.now + (i + 1) * sclk) != s.active n src 0 s.now)
        || (s.padOn n out && soon (s.closeAt n opened 0))))
    || (match u.notch with | some t0 => soon (t0 + sclk * s.rd (PWM.CU.WICK.W n)) | none => false)
    || (s.on (PWM.CU.WICK.EN n) && (u.wantNotch || decide (s.rd (PWM.CU.WICK.N n) ≤ u.fullOn + 1))
        && decide (s.timeTo n 0 ≤ 4 * sclk))

/-- An edge of CLAP_OUT is due within the next 4 SCLK cycles: the end of its pulse, or its next event (R141, R142). -/
def State.clapBusy (s : State) : Bool :=
  let n := s.rd PWM.CLAP.OUT_CU
  let h := s.halfPeriod n
  let at' := if s.rd PWM.CLAP.OUT_EVT = 0 then [0] else if s.rd PWM.CLAP.OUT_EVT = 1 then [h] else [h / 2, h + h / 2]
  (match s.clap.out with | some t => decide (s.now ≤ t + 8 * sclk) && decide (t ≤ s.now) | none => false)
    || (s.on PWM.CLAP.OUT_EN && s.on (PWM.CU.CFG.ENABLE n) && at'.any (fun ph => decide (s.timeTo n ph ≤ 4 * sclk)))

/-- The line of a delay line's pad is busy (R141). -/
def State.lineBusy (s : State) (line : Nat) : Bool :=
  if line < 16 then s.padBusy (line / 2 + 1) (line % 2)
  else if line < 20 then s.padBusy (10 + (line - 16) / 2) (line % 2)
  else s.clapBusy

/-- DELAY_LINE_CALIBRATION (R141): the spare takes a line's place in an idle window, or hands it back. -/
def execDelayLineCalibration (t : Time) (line : Fin 21) (back : Bool) (s : State) : Host.Outcome State Fault Refusal :=
  s.during t (fun s =>
    if s.lineBusy line then s
    else if back then
      (if s.rd PWM.STATUS.SPARE_FOR = line.val then
        (s.wr PWM.STATUS.SPARE_FOR 0x1F).start (.bgLine line) else s)
    else if s.rd PWM.STATUS.SPARE_FOR = 0x1F then s.wr PWM.STATUS.SPARE_FOR line else s)

/-! ### Clapper (R142 to R145) -/

/-- One follower at a clap (R143). -/
def State.follow (s : State) (n : Nat) : State :=
  if !s.on (PWM.CU.CFG.ENABLE n) || !s.on (PWM.CU.CFG.FOLLOW n) then s
  else
    let per := 2 * s.prd n
    let pos := s.rd (PWM.CU.PHASE.POS n) % Nat.max 1 per
    let s := if per ≤ s.rd (PWM.CU.PHASE.POS n) then s.set (PWM.CU.STATUS.POS_WRAP n) else s
    if !s.switching n || decide (s.rd (PWM.CU.PHASE.SLEW n) = 0) then
      (s.wr (PWM.CU.STATUS.CLAP_ADJ n) 0).modUnit n (fun u =>
        { u with org := (s.now : Int) - pos * s.countLen n, slew := 0, slewing := 0 })
    else
      let d : Int := (pos : Int) - s.position n s.now
      let d := if (s.prd n : Int) < d then d - per else if d < -(s.prd n : Int) then d + per else d
      (s.wrB (PWM.CU.STATUS.CLAP_ADJ n) (decide (d ≠ 0))).modUnit n (fun u =>
        { u with slew := d, slewing := 0, org := u.org + u.slewRest (s.countLen n) s.now })

/-- A clap (R143, R145). -/
def State.clapNow (s : State) : State :=
  let s := { s with clap := { s.clap with last := s.now } }
  (s.each (List.range 12) State.follow).wr PWM.STATUS.CLAP_LOST_NOW 0

/-- The corrections of a new half period begin (R143): at most SLEW of them, one count each, in the counts that follow its
start; the carrier stays continuous. -/
def State.slewStep (s : State) (n : Nat) : State :=
  let m : Int := min (s.rd (PWM.CU.PHASE.SLEW n)) (s.prd n / 2)
  let d := clampInt (-m) m (s.unit n).slew
  let s := s.modUnit n (fun u =>
    { u with slew := u.slew - d, slewing := d, slewFrom := s.now
             org := u.org + u.slewRest (s.countLen n) s.now - d * s.countLen n })
  s.wrB (PWM.CU.STATUS.CLAP_ADJ n) (decide ((s.unit n).slew ≠ 0 ∨ d ≠ 0))

/-- CLAP_OUT emits at its event, which is a clap for the device's own followers (R142), where PINSEL gives it its pad
(R146). -/
def State.clapOut (s : State) (n ev : Nat) : State :=
  if s.on PWM.CLAP.OUT_EN && decide (s.rd PWM.CLAP.OUT_CU = n) && decide (s.rd PWM.CLAP.OUT_EVT = ev) then
    let s := if s.on PWM.PINSEL.CLAP_OUT then
        (({ s with clap := { s.clap with out := some s.now } }.set PWM.OUT.CLAP_OUT)).wrBit SYS.GPIO_IN.LEVEL 8 true
      else s
    s.clapNow
  else s

/-- The pulse of CLAP_OUT has ended (8 SCLK cycles, R142). -/
def State.endClapOut (s : State) : State :=
  match s.clap.out with
  | some t => if t + 8 * sclk ≤ s.now then
      ({ s with clap := { s.clap with out := none } }.wr PWM.OUT.CLAP_OUT 0).wrBit SYS.GPIO_IN.LEVEL 8 false else s
  | none => s

/-- The governor's duty at each valley of CU9 (R266): d = min(1, P_DIS × R_DUMP / v²) for a half whose E
stays below E_MAX, as a compare in 1/64 count of PRD 50,000. -/
def State.govDuty (s : State) (up : Bool) : Nat :=
  let v := if up then s.trip.vUp else s.trip.vLo
  let e := if up then s.trip.eUp else s.trip.eLo
  let full := 50000 * 64
  -- v² in W·Ω: (v/2^20 × V_DC,r)², V_DC,r in 0.1 V; P_DIS in 100 W, R_DUMP in mΩ
  let v2 := v.natAbs ^ 2 * s.rd SYS.RAT_DC.VDC ^ 2
  let pr := s.rd TRP.DUMP_R.P_DIS * s.rd TRP.DUMP_R.R_DUMP * 10 * 2 ^ 40
  if s.rd TRP.DUMP_E.E_MAX * 2 ^ 64 ≤ e then 0
  else if v2 ≤ pr then full else (rneDiv ((pr * full : Nat) : Int) v2).toNat

/-- CARRIER_VALLEY (R127): reload, wick, clap and governor actions of a counter at 0. -/
def execCarrierValley (t : Time) (n : Fin 12) (s : State) : Host.Outcome State Fault Refusal :=
  s.during t (fun s =>
    let s := s.endClapOut
    if (!s.on (PWM.CU.CFG.ENABLE n) && !s.govHolds n)
        || decide (s.phaseOf n 0 s.now ≠ 0) then s
    else
      let s := if !s.govHolds n then s.reloadAt n false false
        else if s.on (PWM.CU.CFG.PROT_HOLD 9) then
          s.modTrip (fun t => { t with govA := s.govDuty true, govB := s.govDuty false })
        else
          ((s.modTrip (fun t => { t with govTail := false })).modUnit 9 (fun u => { u with org := s.now, slewing := 0 })).reloadAt
            9 false true
      let s := s.slewStep n
      let s := if 1 ≤ n.val ∧ n.val ≤ 8 then (s.wickValley n).ripplePeriod (n.val - 1) else s
      (s.clapOut n 0).showCount n)

/-- CARRIER_PEAK (R127): reload and clap actions of a counter at PRD. -/
def execCarrierPeak (t : Time) (n : Fin 12) (s : State) : Host.Outcome State Fault Refusal :=
  s.during t (fun s =>
    let s := s.endClapOut
    if !s.on (PWM.CU.CFG.ENABLE n) || decide (s.phaseOf n 0 s.now ≠ s.halfPeriod n) then s
    else
      let s := if s.govHolds n then s else s.reloadAt n true false
      ((s.slewStep n).clapOut n 1).showCount n)

/-- CARRIER_MID_COUNT (R127): the counter passes PRD/2. -/
def execCarrierMidCount (t : Time) (n : Fin 12) (s : State) : Host.Outcome State Fault Refusal :=
  s.during t (fun s =>
    let s := s.endClapOut
    if !s.on (PWM.CU.CFG.ENABLE n)
        || decide (s.phaseOf n 0 s.now % Nat.max 1 (s.halfPeriod n) ≠ s.halfPeriod n / 2) then s
    else (s.clapOut n 2).showCount n)

/-- CLAP_IN (R142): a rising edge followed by `high` fine edge steps of high level; under 10 ns it is
ignored, and so is a pad that PINSEL leaves to its GPIO (R146). -/
def execClapIn (t : Time) (high : Nat) (s : State) : Host.Outcome State Fault Refusal :=
  s.during t (fun s =>
    if s.on PWM.CLAP.IN_EN && s.on PWM.PINSEL.CLAP_IN && decide (4 * sclk ≤ high) then s.clapNow else s)

/-- VIRTUAL_CLAP (R144): PTP second + OFS (whole SCLK cycles) + i × MS. -/
def execVirtualClap (t : Time) (s : State) : Host.Outcome State Fault Refusal :=
  s.during t (fun s =>
    let per := Nat.max 1 (s.rd PWM.VCLAP_INT.MS) * 10 ^ 6
    let ofs := s.rd PWM.VCLAP_OFS.NS * 2 / 5 * 5 / 2
    if s.on PWM.CLAP.VIRT_EN && decide ((s.tai % 10 ^ 9 + 10 ^ 9 - ofs) % 10 ^ 9 % per < 3) then s.clapNow
    else s)

/-- CLAP_LOST (R145): no clap for WIN periods of the source unit, or WIN virtual intervals. -/
def execClapLost (t : Time) (s : State) : Host.Outcome State Fault Refusal :=
  s.during t (fun s =>
    let win := s.rd PWM.CLAP.WIN
    let wait := if s.on PWM.CLAP.VIRT_EN then win * s.rd PWM.VCLAP_INT.MS * ms
    else win * 2 * s.halfPeriod (s.rd PWM.CLAP.OUT_CU)
    if (s.on PWM.CLAP.IN_EN || s.on PWM.CLAP.VIRT_EN) && decide (s.clap.last + wait ≤ s.now) then
      (s.set PWM.STATUS.CLAP_LOST).set PWM.STATUS.CLAP_LOST_NOW
    else s)

/-- The script's direct-compare ports commit into the shadows at the tick, also while the governor holds CU9,
whose carrier then takes none of them (R128, R132). -/
def State.portShadows (s : State) (n : Nat) (staged : Nat → Option Int) : State :=
  let base := 0x0C0 + 0x10 * n
  let cnt (x : Int) : Nat := (clampInt 0 (2 ^ 22 - 1) (rneDiv x 1024)).toNat
  let s := match staged base with
    | some x =>
      let v := rneDiv x 65536
      if v < 16 then s.set PWM.STATUS.PRD_REJECT else s.putShadow n .prd v.toNat
    | none => s
  let s := match staged (base + 1) with | some x => s.putShadow n .cmpa (cnt x) | none => s
  let s := match staged (base + 2) with | some x => s.putShadow n .cmpb (cnt x) | none => s
  match staged (base + 3) with
  | some x => if 2 ^ 15 ≤ x then s.commitGo n else s
  | none => s

end Sys2Proof.Machine
end

