-- ==== Sys2Proof/Machine/TripRows.lean ====
section
/-!
DEFINITION. The steps of the comparators, the snuffer and the energy governor
(spec/12_trip_network.md, R249 to R268).
-/
namespace Sys2Proof.Machine
open Reg

/-! ### Comparators (R249 to R253) -/

/-- A threshold code in µV at the input of comparator `n` (R249). -/
def codeUv (n code : Nat) : Int := if n ≤ 15 then ((code : Int) - 2048) * 625 else (code : Int) * 625

/-- The comparator output for an input in µV, from its state before (R250). -/
def State.cmpAlarm (s : State) (n : Nat) (v : Int) (was : Bool) : Bool :=
  let hi := codeUv n (s.rd (CMP.THR.HI n))
  let lo := codeUv n (s.rd (CMP.THR.LO n))
  let hy : Int := (s.rd (CMP.CFG.HYST n) * 1000 : Nat)
  let m := s.rd (CMP.CFG.MODE n)
  let high := decide (hi < v) && decide (m ≠ 2)
  let under := decide (v < lo) && decide (m ≠ 1)
  let safe := (decide (v < hi - hy) || decide (m = 2)) && (decide (lo + hy < v) || decide (m = 1))
  if high || under then true else if safe then false else was

/-- The member's source is masked by a test or a failed test (R255). -/
def State.cmpMasked (s : State) (n : Nat) : Bool :=
  s.trip.masked.testBit n || (match s.trip.test with | some (k, _, _) => decide (k = n) | none => false)

/-- The filter output of a comparator shows and drives its source (R252); an entry into alarm counts. -/
def State.cmpOut (s : State) (n : Nat) (a : Bool) : State :=
  let was := s.bitOf CMP.ALARM.CMP n
  let s := s.wrBit CMP.ALARM.CMP n a
  let s := if a && !was then (s.setAt CMP.EVENT.CMP n).sat (CMP.CNT.ALARMS n) else s
  s.putSource n a

/-- COMP_UNRESOLVED follows UNRES (R253). -/
def State.refreshUnres (s : State) : State :=
  s.wrB CMP.STATUS.COMP_UNRESOLVED (decide (s.rd CMP.STATUS.UNRES ≠ 0))

/-- COMPARATOR_CHANGE (R250 to R253): the majority-filtered output of comparator `n` follows an input `v`,
signed, in µV. -/
def execComparatorChange (t : Time) (n : Fin 24) (v : BitVec 32) (s : State) : Host.Outcome State Fault Refusal :=
  s.during t (fun s =>
    if !s.on (CMP.CFG.EN n) || !s.sys.vana then s
    else
      let a := s.cmpAlarm n v.toInt (s.trip.raw.testBit n)
      let s := s.modTrip (fun x => { x with
        raw := setBit x.raw n a, boot := if a then x.boot else setBit x.boot n false })
      let s := if a then s else (s.wrBit CMP.STATUS.UNRES n false).refreshUnres
      if s.cmpMasked n then s else s.cmpOut n a)

/-- COMPARATOR_UNRESOLVED (R253): 1 ms after the profile was applied. -/
def execComparatorUnresolved (t : Time) (n : Fin 24) (s : State) : Host.Outcome State Fault Refusal :=
  s.during t (fun s =>
    if s.on (CMP.CFG.EN n) && s.trip.boot.testBit n && s.due .profileApplied ms then
      ((s.wrBit CMP.STATUS.UNRES n true).refreshUnres).detect 0x19 n rcReport
    else s)

/-! ### Self-test (R254 to R256) -/

/-- R254: a self-test of comparator `n` is allowed. -/
def State.testAllowed (s : State) (n : Nat) : Bool :=
  let p := s.rd (CMP.CFG.PAIR n)
  s.on (CMP.CFG.EN n) && s.trip.test.isNone
    && (decide (s.code = stCOMMISSION ∨ s.code = stSEALED ∨ s.code = stSTANDBY)
      || (decide (s.code = stRUN) && decide (p < 24) && s.on (CMP.CFG.EN p)
        && !s.trip.raw.testBit p && !s.cmpMasked p && !s.bitOf CMP.TEST_FAIL.CMP p))

/-- A self-test starts: the source is masked and step 1 runs (R255). -/
def State.testStart (s : State) (n : Nat) : State :=
  let s := (s.modTrip (fun x => { x with test := some (n, 1, x.raw.testBit n) })).set CMP.TEST.BUSY
  let s := if s.srcOn n then s.dropSrc n else s
  s.start (.cmpTest n)

/-- A test on request: one that is not allowed sets REFUSED (R254). -/
def State.testGo (s : State) (n : Nat) : State :=
  if s.testAllowed n then s.testStart n else s.set CMP.TEST.REFUSED

/-- SELFTEST_GO (R254): a write to CMP.TEST.GO naming comparator `n`. -/
def execSelftestGo (t : Time) (n : Fin 24) (s : State) : Host.Outcome State Fault Refusal :=
  s.during t (fun s => s.testGo n)

/-- SELFTEST_SCHEDULE (R256): the lowest comparator whose test is due and allowed starts. -/
def execSelftestSchedule (t : Time) (s : State) : Host.Outcome State Fault Refusal :=
  s.during t (fun s =>
    let due (n : Nat) : Bool :=
    !s.running (.cmpLast n) || s.due (.cmpLast n) (s.rd CMP.TEST.INT * 3600 * sec)
    match (List.range 24).find? (fun n => s.testAllowed n && due n) with
    | some n => s.testStart n
    | none => s)

/-- The result a step of the test expects (R255): `was` is the output before step 1. -/
def testExpect (mode step : Nat) (was : Bool) : Bool :=
  if step = 1 then decide (mode ≠ 2) else if step = 2 then decide (mode ≠ 1)
  else if step = 3 then false else was

/-- A test ends (R255): a failure keeps the member masked and reports it; a pass returns it to its
input at once, and clears its failure. -/
def State.testEnd (s : State) (n : Nat) (pass : Bool) : State :=
  let s := ((s.stop (.cmpTest n)).start (.cmpLast n)).inc (CMP.CNT.TESTS n)
  let s := (s.modTrip (fun x => { x with test := none, masked := setBit x.masked n (!pass) })).wr
    CMP.TEST.BUSY 0
  let s := s.wrBit CMP.TEST_FAIL.CMP n (!pass)
  if pass then s.cmpOut n (s.trip.raw.testBit n)
  else (s.set CMP.TEST.FAIL).detect 0x1A n rcReport

/-- SELFTEST_STEP_END (R255): a 2 µs step ends with a filter output, and is checked. -/
def execSelftestStepEnd (t : Time) (out : Bool) (s : State) : Host.Outcome State Fault Refusal :=
  s.during t (fun s =>
    match s.trip.test with
    | none => s
    | some (n, k, was) =>
      if !s.due (.cmpTest n) (2 * us) then s
      else if out != testExpect (s.rd (CMP.CFG.MODE n)) k was then s.testEnd n false
      else if k = (if n ≤ 15 then 4 else 3) then s.testEnd n true
      else (s.modTrip (fun x => { x with test := some (n, k + 1, was) })).start (.cmpTest n))

/-- TEST_LATE (R256): comparator `n` is untested for INT hours and 10 minutes. -/
def execTestLate (t : Time) (n : Fin 24) (s : State) : Host.Outcome State Fault Refusal :=
  s.during t (fun s =>
    if s.on (CMP.CFG.EN n) && s.due (.cmpLast n) (s.rd CMP.TEST.INT * 3600 * sec + 600 * sec) then
      (s.set CMP.STATUS.TEST_LATE).detect 0x1B n rcReport
    else s)

/-! ### Snuffer (R257 to R262) -/

/-- XTRIP_INPUT (R257): pad XTRIP`n` has been low for 10 ns. -/
def execXtripInput (t : Time) (n : Fin 4) (s : State) : Host.Outcome State Fault Refusal :=
  s.during t (fun s => (s.modTrip (fun x => { x with xtrip := setBit x.xtrip n true })).assertSrc (24 + n))

/-- XTRIP_RELEASE (R257): the pad is high again. -/
def execXtripRelease (t : Time) (n : Fin 4) (s : State) : Host.Outcome State Fault Refusal :=
  s.during t (fun s =>
    (s.modTrip (fun x => { x with xtrip := setBit x.xtrip n false })).putSource (24 + n)
    false)

/-- TRIP_PULSE_END (R257): source 32, or 33, has been asserted for 1 µs. -/
def execTripPulseEnd (t : Time) (overrun : Bool) (s : State) : Host.Outcome State Fault Refusal :=
  s.during t (fun s =>
    let k := if overrun then TimerKey.pulse33 else TimerKey.pulse32
    if s.due k us then (s.stop k).putSource (if overrun then 33 else 32) false else s)

/-- INNER_DELAY_EXPIRY (R260): STATE OFF goes to the inner islands. -/
def execInnerDelayExpiry (t : Time) (s : State) : Host.Outcome State Fault Refusal :=
  s.during t (fun s =>
    if s.due .innerDelay (s.rd TRP.HARDOFF.INNER_DLY * 2560) then
      s.each innerIslands (fun s n =>
        if (s.island n).offLater then
          (s.modIsland n (fun i => { i with offLater := false })).sendDown n .stateOff
        else s) |>.stop .innerDelay
    else s)

/-- BRK_PULSE_END (R261): BRK_T has passed since the breaker target's assertion. -/
def execBrkPulseEnd (t : Time) (s : State) : Host.Outcome State Fault Refusal :=
  s.during t (fun s =>
    if s.due .brkPulse (s.rd TRP.HARDOFF.BRK_T * 10 * ms) then
      (s.stop .brkPulse).wr SYS.AUXIO.BRK_OPEN 0
    else s)

/-- Clears the latch bits of a mask whose sources are not asserted (R262, R14); forced latches only where
`forced` allows. -/
def State.clearLatches (s : State) (mask : Nat) (forced : Nat → Bool) : State :=
  (s.each ((List.range 40).filter (fun n => mask.testBit n)) (fun s n =>
    if s.srcOn n || !s.latchOn n then s
    else if s.forcedOf n ≠ 0 then (if forced n then (s.putLatch n false).putForced n 0 else s)
    else s.putLatch n false)).refreshTrips

/-- LATCH_CLEAR_WRITE (R262): a write of ones to TRP.LATCH_LO and LATCH_HI. -/
def execLatchClearWrite (t : Time) (mask : BitVec 40) (s : State) : Host.Outcome State Fault Refusal :=
  s.during t (fun s => s.clearLatches mask.toNat (fun _ => false))

/-- SC_EVENT_AGED (R264): events older than SC_WIN leave the count and the sum of island `n`. -/
def execScEventAged (t : Time) (n : Fin 14) (s : State) : Host.Outcome State Fault Refusal :=
  s.during t (fun s => s.showI2t n)

/-! ### Governor energies and discharge (R263, R266, R267) -/

/-- One control sample of a dump half (R263): `sq` is v² in 2^-40 pu², the switch is on where its island
reports so. Units 2^-64 kJ. -/
def State.energyStep (s : State) (e : Nat) (on : Bool) (sq : Nat) (ts : Nat × Nat) : Nat :=
  let r := Nat.max 1 (s.rd TRP.DUMP_R.R_DUMP)
  let gain := if on then
      (rneDiv ((sq * s.rd SYS.RAT_DC.VDC ^ 2 * 2 ^ 24 * ts.1 : Nat) : Int) (100 * r * ts.2 * sec)).toNat
    else 0
  let leak := (rneDiv ((e * ts.1 : Nat) : Int) (Nat.max 1 (s.rd TRP.DUMP_E.TAU) * ts.2 * sec)).toNat
  e + gain - leak

/-- The grant of a half follows its energy (R263). -/
def State.refreshGrant (s : State) (up : Bool) : State :=
  let g := if up then TRP.GOV_STAT.GRANT_UP else TRP.GOV_STAT.GRANT_LO
  let e := if up then s.trip.eUp else s.trip.eLo
  let m := s.rd TRP.DUMP_E.E_MAX * 2 ^ 64
  if s.on g then (if m ≤ e then ((s.wr g 0).set TRP.GOV_STAT.REFUSED).refreshGov else s)
  else if e * 10 < m * 9 then s.set g else s

/-- Shows an energy of 2^-64 kJ in Q15.16 kJ. -/
def showKj (e : Nat) : Word := satWord (rneDiv (e : Int) (2 ^ 48))

/-- The governor takes a control sample of BND.CH[11]'s source (R263): the half's voltage, its energy and
its grant. -/
def State.governorSample (s : State) (ch : Nat) (up : Bool) : State :=
  let x := (s.chan ch).cur
  let ts := s.tsOf ch
  let on := s.on (ISL.STATUS.ON (if up then 12 else 13))
  let sq := if x.ok then x.fix.natAbs ^ 2 else 36 * 2 ^ 40 / 100
  let s := if up then
      s.modTrip (fun t => { t with vUpOk := x.ok, vUp := if x.ok then x.fix else t.vUp,
                                   eUp := s.energyStep t.eUp on sq ts })
    else
      s.modTrip (fun t => { t with vLoOk := x.ok, vLo := if x.ok then x.fix else t.vLo,
                                   eLo := s.energyStep t.eLo on sq ts })
  let s := if up then s.setWord TRP.E_UP.VALUE.addr (showKj s.trip.eUp)
    else s.setWord TRP.E_LO.VALUE.addr (showKj s.trip.eLo)
  s.refreshGrant up

/-- The state calls for discharge (R266, R282). -/
def State.wantsDischarge (s : State) : Bool :=
  decide (s.code = stPILOT)
    || (s.on SYS.SEQ.DIS_SB && decide (s.code = stCOMMISSION ∨ s.code = stSEALED ∨ s.code = stSTANDBY))
    || (s.on SYS.SEQ.DIS_HALT && decide (s.code = stHALT))

/-- The grid group and every feed are off and the dump target is not tripped (R266). -/
def State.dischargeMay (s : State) : Bool :=
  s.wantsDischarge && (List.range 11).all (fun (l : Nat) => decide (s.rd (BND.CH.STATE.LEVEL l) = 3))
    && !s.bitOf TRP.TGT.TRIPPED 9

/-- Discharge cannot run (R267): a dump island's link is down or its fault is latched, or both half
measurements are invalid. -/
def State.dischargeBlocked (s : State) : Bool :=
  dumpIslands.any (fun n => !s.on (ISL.STATUS.LINK_UP n) || s.on (ISL.STATUS.FAULT_LATCH n))
    || (!s.trip.vUpOk && !s.trip.vLoOk)

/-- v_up + v_lo is below 50 V (R266). -/
def State.linkLow (s : State) : Bool :=
  decide ((s.trip.vUp + s.trip.vLo) * (s.rd SYS.RAT_DC.VDC : Nat) < 500 * 2 ^ 20)

/-- The reaction of a discharge that is late or blocked (R414): with GOV_MASK bit 2 the governor source asserts. -/
def State.disReact (s : State) : Nat := if bit (s.rd TRP.FC.GOV_MASK) 2 then s.tripReact 36 else rcReport

/-- Discharge is blocked (R267): CU9 is free and the fault collector knows. -/
def State.blockDischarge (s : State) : State :=
  let s := s.stopDischarge
  ((s.set TRP.GOV_STAT.DIS_BLOCKED).refreshGov).detect 0x25 noDetail s.disReact

/-- DISCHARGE_START (R266): where discharge is called for and may run, DCD_OPEN is driven. -/
def execDischargeStart (t : Time) (s : State) : Host.Outcome State Fault Refusal :=
  s.during t (fun s =>
    if !s.dischargeMay || s.on TRP.GOV_STAT.DIS_RUN || s.linkLow then s
    else if s.dischargeBlocked then
      if s.on TRP.GOV_STAT.DIS_BLOCKED then s else s.blockDischarge
    else
      let s := ((s.wr TRP.GOV_STAT.DIS_BLOCKED 0).set TRP.GOV_STAT.DIS_RUN).set SYS.AUXIO.DCD_OPEN
      let s := (s.start .discharge).start .dcdOpenWait
      (s.modTrip (fun x => { x with disWait := true })).refreshGov)

/-- DISCHARGE_CONFIRM (R266, R267): the disconnect's auxiliary contact reads `closed`; open within 200 ms,
discharge takes CU9; otherwise it is blocked. -/
def execDischargeConfirm (t : Time) (closed : Bool) (s : State) : Host.Outcome State Fault Refusal :=
  s.during t (fun s =>
    let s := s.wrB SYS.AUXIO.DCD_AUX closed
    if !s.trip.disWait then s
    else if !closed && !s.due .dcdOpenWait (200 * ms + 1) then
      let s := (s.stop .dcdOpenWait).modTrip (fun x => { x with disWait := false })
      if s.dischargeBlocked then s.blockDischarge
      else
        let s := (s.set (PWM.CU.CFG.PROT_HOLD 9)).modUnit 9 (fun u => { u with org := s.now, slewing := 0 })
        s.modTrip (fun x => { x with govA := s.govDuty true, govB := s.govDuty false, govTail := false })
    else if s.due .dcdOpenWait (200 * ms) then s.blockDischarge
    else s)

/-- DISCHARGE_DONE (R266): v_up + v_lo is below 50 V. -/
def execDischargeDone (t : Time) (s : State) : Host.Outcome State Fault Refusal :=
  s.during t (fun s =>
    if s.on TRP.GOV_STAT.DIS_RUN && !s.trip.disWait && s.linkLow then
      (s.stopDischarge.set TRP.GOV_STAT.DIS_DONE).dumpOff
    else s)

/-- DISCHARGE_LATE (R266): discharge has not ended DIS_T after it started. -/
def execDischargeLate (t : Time) (s : State) : Host.Outcome State Fault Refusal :=
  s.during t (fun s =>
    if s.on TRP.GOV_STAT.DIS_RUN && !s.on TRP.GOV_STAT.DIS_LATE
      && s.due .discharge (s.rd TRP.DIS.DIS_T * sec) then
      ((s.set TRP.GOV_STAT.DIS_LATE).refreshGov).detect 0x25 noDetail s.disReact
    else s)

/-- E_REM_UPDATE (R267): ½ C_HALF (v_up² + v_lo²) in kJ, while discharge runs or is blocked. -/
def execERemUpdate (t : Time) (s : State) : Host.Outcome State Fault Refusal :=
  s.during t (fun s =>
    if s.on TRP.GOV_STAT.DIS_RUN || s.on TRP.GOV_STAT.DIS_BLOCKED then
      let sq := s.trip.vUp.natAbs ^ 2 + s.trip.vLo.natAbs ^ 2
      s.setWord TRP.E_REM.VALUE.addr
        (q16 ((s.rd TRP.DIS.C_HALF * sq * s.rd SYS.RAT_DC.VDC ^ 2 : Nat) : Int) (2 * 10 ^ 9 * 2 ^ 40))
    else s)

end Sys2Proof.Machine
end

