-- ==== Sys2Proof/Machine/OpState.lean ====
section
/-!
DEFINITION. Operating states and their sequences (spec/13_operating_states.md R273 to R287).
-/
namespace Sys2Proof.Machine
open Reg

/-! ### Conditions of the requests (R277, R279, R280, R286) -/

/-- Number, counted from 1, of the first condition that fails; none where all hold (R286). -/
def firstFail (cs : List Bool) : Option Nat := (cs.findIdx? (fun b => !b)).map (· + 1)

/-- The conditions of PRECHARGE in the order of R277. -/
def State.preConds (s : State) : List Bool :=
  [ decide (s.rd TRP.TGT.TRIPPED = 0),
    !s.on MOD.STATUS.CALSET_BAD && !s.on CMP.STATUS.COMP_UNRESOLVED && decide (s.rd CMP.TEST_FAIL.CMP = 0),
    (List.range 14).all (fun n => s.on (ISL.STATUS.LINK_UP n) && !s.on (ISL.STATUS.FAULT_LATCH n)),
    s.on SYN.CTRL.ENABLE && s.on (BND.CH.CFG.ENABLE 11),
    !s.on SYS.SEQ_STAT.BRK_FAIL && !s.on SYS.SEQ_STAT.DCD_FAIL ]

/-- The bridge voltage matches the grid (R279): V_DC ≥ MATCH / 100 × √2 × |V+| × V_LL,r / V_DC,r, both sides
squared, |V+| from the slate. -/
def State.bridgeMatch (s : State) : Bool :=
  let v := dyRat (f32Val (mapGet (fun _ => (0 : Word)) s.seq.st 0x00A9))
  let l : Int := s.vdc * (s.rd SYS.RAT_DC.VDC : Nat) * 100 * (v.2 : Nat)
  let r : Int := v.1 * (s.rd SYS.SEQ.MATCH * s.rd SYS.RAT_VLL.VLL : Nat) * 2 ^ 20
  decide (0 ≤ l) && decide (2 * r * r ≤ l * l)

/-- The conditions of ENERGIZE in the order of R279; the phase sequence is the detected 1. -/
def State.energizeConds (s : State) : List Bool :=
  [ decide (s.rd SYN.STATUS.STATE = syLOCKED), s.on ISD.STATUS.RECON_OK, decide (s.rd PQE.STATUS.PHSEQ = 1),
    s.bridgeMatch ]

/-- One grid cycle at f_ar in fine edge steps (R16). -/
def State.gridCycle (s : State) : Nat :=
  let f := uHz s.sync.loc.f
  (sec * 1000000 + f - 1) / Nat.max 1 f

/-- The conditions of RUN in the order of R280. -/
def State.runConds (s : State) : List Bool :=
  [ (match s.sys.releasedAt with | some t => decide (t + s.gridCycle ≤ s.now) | none => false),
    !s.sys.tripSince, decide (s.rd FRT.STATUS.STATE = frNORMAL) ]

/-- A request for a state against the present state and conditions (R276, R403): none where it may proceed,
else the number of the failed condition, 0 for the state alone. -/
def State.requestFails (s : State) (target : Nat) : Option Nat :=
  let c := s.code
  if target = stSTANDBY then
    if c = stSEALED ∨ c = stPRECHARGE ∨ c = stSYNC ∨ c = stENERGIZE ∨ c = stRUN then none else some 0
  else if target = stPRECHARGE then
    if c = stSTANDBY ∧ s.rd SEC.STATUS.LIFECYCLE ≠ 3 then firstFail s.preConds else some 0
  else if target = stENERGIZE then if c = stSYNC then firstFail s.energizeConds else some 0
  else if target = stRUN then if c = stENERGIZE then firstFail s.runConds else some 0
  else some 0

/-- MATCH_FAIL sets when the match fails (R279). -/
def State.noteMatch (s : State) (target : Nat) (f : Option Nat) : State :=
  if target = stENERGIZE ∧ f = some 4 then s.set SYS.SEQ_STAT.MATCH_FAIL else s

/-! ### Hold-over (R284, R447) -/

/-- Hold-over begins, or a further pair is absent: bit 0 pair A, bit 1 pair B. -/
def State.holdStart (s : State) (pair : Nat) : State :=
  if s.code ≤ stBOOT then s
  else
    let s := s.wrBit SYS.HOLD.ACTIVE pair true
    if s.running .holdover then s
    else
      let n := s.rd SYS.HOLD.TIME
      ((s.start .holdover).modSys (fun y => { y with holdLimit := n, holdOut := false })).wr SYS.HOLD.LEFT n

/-- SYS.HOLD.LEFT follows the running hold-over. -/
def State.showHoldover (s : State) : State :=
  match s.startedAt .holdover with
  | none => s
  | some t => s.wr SYS.HOLD.LEFT (s.sys.holdLimit - (s.now - t) / sec)

/-- Hold-over ends. -/
def State.holdEnd (s : State) : State :=
  (((s.stop .holdover).wr SYS.HOLD.ACTIVE 0).wr SYS.HOLD.LEFT (s.rd SYS.HOLD.TIME)).modSys
    (fun y => { y with holdOut := false })

/-- DIRECTOR_ABSENT (R284): 30 ms after the start of its last completed evaluation. -/
def execDirectorAbsent (t : Time) (s : State) : Host.Outcome State Fault Refusal :=
  s.during t (fun s =>
    if s.due .directorEval (30 * ms) && !s.bitOf SYS.HOLD.ACTIVE 1 && decide (stBOOT < s.code) then
      (s.detect 0x15 noDetail rcHOLDOVER).holdStart 1
    else s)

/-- HOLDOVER_EXPIRY (R284): hold-over has lasted its limit, and the device reacts by its state; an update whose
new image has not started is given up (R288). -/
def execHoldoverExpiry (t : Time) (s : State) : Host.Outcome State Fault Refusal :=
  s.during t (fun s =>
    if s.due .holdover (s.sys.holdLimit * sec) && !s.sys.holdOut then
      let c := s.code
      let go := decide (c = stENERGIZE ∨ c = stRUN)
      let idle := decide (stCOMMISSION ≤ c ∧ c ≤ stSYNC)
      let s := s.detect 0x16 noDetail (if go then rcSTOPPING else if idle then rcPILOT else rcReport)
      let s := ((s.wr SYS.HOLD.LEFT 0).wrBit SYS.CAUSE.PL 4 true).modSys (fun y => { y with holdOut := true })
      let s := s.modSys (fun y =>
        if go then { y with wantStop := if y.wantStop = .none then .holdover else y.wantStop, holdExpired := true }
        else if idle then { y with wantPilot := setBit y.wantPilot 4 true }
        else if c = stSTOPPING then { y with holdExpired := true } else y)
      match s.sys.updating with
      | some p =>
        if bit s.sys.pairRunning p then s
        else
          ({ s with sys := { s.sys with updating := none }, nvm := { s.nvm with stage := .rolledBack } }).finishCue
            .update csFAILED 1 []
      | none => s
    else s)

/-! ### Entering a state (R276, R281, R282) -/

/-- A state change and its log entry (R408): on behalf of an origin, or forced by the fault collector. -/
def State.moveTo (s : State) (new origin role : Nat) (forced : Bool) : State :=
  let old := s.code
  let s := (s.wr SYS.STATE.PREV old).wr SYS.STATE.CODE new
  let s := s.wrB SEQ.MODE.FORCED (decide (new = stSTOPPING ∨ new = stPILOT ∨ new = stHALT))
  let s := s.logIt origin role false false (if forced then evFORCED else evSTATE) (tgState new) old new
  s.refreshTrips.probeCheck

/-- BRK_CLOSE low, BRK_OPEN pulsed, and the wait for BRK_AUX (R281). -/
def State.openBreaker (s : State) : State :=
  (((s.wr SYS.AUXIO.BRK_CLOSE 0).set SYS.AUXIO.BRK_OPEN).start .brkPulse).start .brkOpen

/-- Timers and flags of the sequences are dropped on leaving a state. -/
def State.dropSequence (s : State) : State :=
  let s := [TimerKey.pchHold, .pchEntry, .dcdClose, .brkClose, .gridWait, .stopEntry, .stopLow].foldl
    (fun s k => s.stop k) s
  s.modSys (fun y => { y with pchClosed := false, dcdOk := false, pchFail := false, gridOff := false,
                              stopDone := false, releasedAt := none, wantStop := .none, stopCause := .none })

/-- Contactors in the states with the DC link apart: PCH_CLOSE low, DCD_OPEN high. -/
def State.isolate (s : State) : State := (s.wr SYS.AUXIO.PCH_CLOSE 0).set SYS.AUXIO.DCD_OPEN

/-- The dump channel is released where it is enabled and its target not tripped (R282). -/
def State.releaseDump (s : State) : State :=
  if s.on (BND.CH.CFG.ENABLE 11) && !s.bitOf TRP.TGT.TRIPPED 9 then (s.releaseLeg 11).releaseLeg 12 else s

/-- The grid group is switched off without tripping its target, and the breaker opens (R281 steps 2, 3). -/
def State.switchOff (s : State) : State :=
  let s := if s.bitOf TRP.TGT.TRIPPED 0 then s else (s.each [0, 1, 2] State.legOff).groupOff
  let s := (s.each [11, 12] State.legOff).dumpOff
  let s := ((s.stop .stopLow).openBreaker).modSys (fun y => { y with gridOff := true })
  if s.on SYS.AUXIO.BRK_AUX then s
  else ((s.stop .brkOpen).set SYS.AUXIO.DCD_OPEN).modSys (fun y => { y with stopDone := true })

/-- All grid references below 0.02 pu: the 1 ms of R281 runs while they stay so. -/
def State.trackStop (s : State) : State :=
  if s.code ≠ stSTOPPING ∨ s.sys.gridOff = true then s
  else if [0, 1, 2].all (fun n => decide ((s.rdI (BND.CH.REF.VALUE n)).natAbs * 50 < 65536)) then
    s.startIf .stopLow
  else s.stop .stopLow

/-- V_DC at or above PCH_V: the 10 ms of R278 run while it stays so. -/
def State.trackPrecharge (s : State) : State :=
  if s.code ≠ stPRECHARGE ∨ s.sys.pchClosed = true then s
  else if s.trip.vUpOk && s.trip.vLoOk && decide (pu20 (s.rd SYS.SEQ.PCH_V) ≤ s.vdc * 1000) then s.startIf .pchHold
  else s.stop .pchHold

/-- Entry to STOPPING (R281). -/
def State.enterStopping (s : State) (cause : StopCause) (origin role : Nat) (forced : Bool) : State :=
  let s := s.dropSequence.moveTo stSTOPPING origin role forced
  let s := (s.start .stopEntry).modSys (fun y => { y with stopCause := cause })
  let s := s.trackStop
  if s.bitOf TRP.TGT.TRIPPED 0 then s.switchOff else s

/-- Entry to PILOT_LIGHT (R276): its causes join SYS.CAUSE. -/
def State.enterPilot (s : State) (causes : Nat) : State :=
  let s := s.wr SYS.CAUSE.PL (s.rd SYS.CAUSE.PL ||| causes)
  let s := (s.actOn 0x3FF false).dropSequence.moveTo stPILOT orPROTECTION 0 true
  (s.openBreaker.isolate).modSys (fun y => { y with wantPilot := 0 })

/-- Entry to HALT (R276). -/
def State.enterHalt (s : State) (causes : Nat) : State :=
  let s := s.wr SYS.CAUSE.HALT (s.rd SYS.CAUSE.HALT ||| causes)
  let s := (s.actOn 0x7FF false).dropSequence.moveTo stHALT orPROTECTION 0 true
  (s.isolate.start .brkOpen).modSys (fun y => { y with wantHalt := 0 })

/-- Entry to STANDBY. -/
def State.enterStandby (s : State) (origin role : Nat) (forced : Bool) : State :=
  (s.dropSequence.moveTo stSTANDBY origin role forced).isolate

/-- Entry to PRECHARGE, SYNC, ENERGIZE and RUN by the sequence (R278 to R280). -/
def State.enterStart (s : State) (new origin role : Nat) : State :=
  let keep := s.sys
  let s := s.dropSequence.moveTo new origin role false
  if new = stPRECHARGE then (((s.set SYS.AUXIO.PCH_CLOSE).set SYS.AUXIO.DCD_OPEN).start .pchEntry).trackPrecharge
  else if new = stENERGIZE then
    let s := s.wrB SYS.AUXIO.BRK_CLOSE (!s.bitOf TRP.TGT.TRIPPED 10)
    (if s.on SYS.AUXIO.BRK_AUX then s.start .gridWait else s.start .brkClose).releaseDump
  else if new = stRUN then s.modSys (fun y => { y with releasedAt := keep.releasedAt })
  else s

/-! ### The tick (R274 to R276) -/

/-- Who asked for the pending state: origin class and acting role of its cue. -/
def State.requestActor (s : State) : Nat × Nat :=
  match s.cue.deferred.find? (fun x => decide (x.1 = DeferKind.state)) with
  | some (_, sess, seq) =>
    match s.cue.entries.find? (fun e => decide (e.session = sess ∧ e.seq = seq)) with
    | some e => (e.tag / 2 ^ 24, actingRole roE (if e.tag / 2 ^ 24 = 5 then 2 else s.rolesOf sess))
    | none => (orHOST, 0)
  | none => (orHOST, 0)

/-- The pending request completes with a conflict (R274, R286). -/
def State.refuseRequest (s : State) (n : Nat) : State :=
  let s := (s.wr SYS.STATE.REQ 0xF).set SYS.SEQ_STAT.REQ_REFUSED
  s.finishCue .state csSTATE (s.code * 256 + n) []

/-- The pending request takes effect: the transition, then the cue's OK (R274). -/
def State.acceptRequest (s : State) (target : Nat) : State :=
  let (o, r) := s.requestActor
  let c := s.code
  let s := s.wr SYS.STATE.REQ 0xF
  let s := if target = stSTANDBY ∧ o ≠ orDIRECTOR then { s with avail := { s.avail with told := true } } else s
  let s := if target = stSTANDBY then
      (if c = stENERGIZE ∨ c = stRUN then s.enterStopping .request o r true else s.enterStandby o r false)
    else s.enterStart target o r
  s.finishCue .state csOK 0 []

/-- A request reaches this tick: one is pending and its cue completed before the tick cycle (R274, R30). -/
def State.requestDue (s : State) : Option Nat :=
  if s.rd SYS.STATE.REQ ≠ 0xF ∧ s.sys.reqCycle < s.cycle then some (s.rd SYS.STATE.REQ) else none

/-- The request of this tick where no forced entry came first. -/
def State.requestTick (s : State) : State :=
  match s.requestDue with
  | none => s
  | some target =>
    let f := s.requestFails target
    match f with
    | some n => (s.noteMatch target f).refuseRequest n
    | none => s.acceptRequest target

/-- A transition of another row takes this tick: a request that reaches it completes with a conflict. -/
def State.loseRequest (s : State) : State := if s.requestDue.isSome then s.refuseRequest 0 else s

/-- Pilot-light causes that act in the present state (R276, R284): every one but BOOT, HALT. -/
def State.pilotDue (s : State) : Bool :=
  let w := s.sys.wantPilot
  decide (w ≠ 0) && decide (stBOOT < s.code ∧ s.code ≠ stHALT ∧ s.code ≠ stPILOT)
    && (decide (w ≠ 16) || decide (s.code ≤ stSYNC))

/-- A missing breaker confirmation gives way to a request for STANDBY at the same tick, the earlier row of R276. -/
def State.stopYields (s : State) : Bool :=
  decide (s.sys.wantStop = .brkFail) && decide (s.requestDue = some stSTANDBY)

/-- The transitions of R276 at a tick, in the order of its rows. -/
def State.stateMoves (s : State) : State :=
  let c := s.code
  let y := s.sys
  if y.wantHalt ≠ 0 then
    if c = stHALT then
      (s.wr SYS.CAUSE.HALT (s.rd SYS.CAUSE.HALT ||| y.wantHalt)).modSys (fun y => { y with wantHalt := 0 })
    else (s.enterHalt y.wantHalt).loseRequest
  else if s.pilotDue then (s.enterPilot y.wantPilot).loseRequest
  else
    let s := if y.wantPilot ≠ 0 ∧ (c = stPILOT ∨ c = stHALT) then
        (s.wr SYS.CAUSE.PL (s.rd SYS.CAUSE.PL ||| y.wantPilot)).modSys (fun y => { y with wantPilot := 0 })
      else s
    if (c = stENERGIZE ∨ c = stRUN) ∧ y.wantStop ≠ .none ∧ s.stopYields = false then
      (s.enterStopping y.wantStop orPROTECTION 0 true).loseRequest
    else
      let s := s.modSys (fun y => { y with wantStop := .none })
      if c = stSTOPPING ∧ y.stopDone = true then
        if y.stopCause = .holdover ∨ y.holdExpired = true then (s.enterPilot 16).loseRequest
        else (s.enterStandby orPROTECTION 0 false).loseRequest
      else if c = stPRECHARGE ∧ y.pchClosed = true ∧ y.dcdOk = true then
        (s.enterStart stSYNC orPROTECTION 0).loseRequest
      else if c = stPRECHARGE ∧ y.pchFail = true then (s.enterStandby orPROTECTION 0 false).loseRequest
      else
        let s := s.requestTick
        if s.code = stSYNC ∧ c = stSYNC ∧ s.on SYN.STATUS.ANGLE_VALID = false then
          s.enterStandby orPROTECTION 0 false
        else s

/-- A discharge that its state no longer calls for, or that can run no longer, stops (R266, R267). -/
def State.dischargeTick (s : State) : State :=
  if s.on TRP.GOV_STAT.DIS_RUN && !s.dischargeMay then s.stopDischarge.dumpOff.refreshGov
  else if s.on TRP.GOV_STAT.DIS_RUN && !s.trip.disWait && s.dischargeBlocked then s.dumpOff.blockDischarge
  else if s.on TRP.GOV_STAT.DIS_BLOCKED && !s.wantsDischarge then (s.wr TRP.GOV_STAT.DIS_BLOCKED 0).refreshGov
  else s

/-- The state machine at a tick: its transitions, the stop whose grid group a trip has switched off meanwhile
(R281), and the discharge. -/
def State.stateTick (s : State) : State :=
  let s := s.stateMoves
  let s := if s.code = stSTOPPING ∧ s.sys.gridOff = false ∧ s.bitOf TRP.TGT.TRIPPED 0 = true then s.switchOff else s
  s.dischargeTick

/-! ### The start and stop sequences between ticks (R278, R279, R281) -/

/-- PRECHARGE_VOLTAGE_HELD (R278): V_DC at or above PCH_V for 10 ms closes the DC disconnect. -/
def execPrechargeVoltageHeld (t : Time) (s : State) : Host.Outcome State Fault Refusal :=
  s.during t (fun s =>
    if s.code = stPRECHARGE ∧ s.sys.pchClosed = false ∧ s.sys.pchFail = false
        ∧ s.due .pchHold (10 * ms) = true then
      let s := ((s.stop .pchHold).stop .pchEntry).wr SYS.AUXIO.DCD_OPEN 0
      let s := s.modSys (fun y => { y with pchClosed := true })
      if s.on SYS.AUXIO.DCD_AUX then (s.wr SYS.AUXIO.PCH_CLOSE 0).modSys (fun y => { y with dcdOk := true })
      else s.start .dcdClose
    else s)

/-- DCD_AUX_CLOSED (R278): the disconnect reads closed; in step 3 PCH_CLOSE goes low. -/
def execDcdAuxClosed (t : Time) (s : State) : Host.Outcome State Fault Refusal :=
  s.during t (fun s =>
    let s := s.set SYS.AUXIO.DCD_AUX
    if s.code = stPRECHARGE ∧ s.sys.pchClosed = true ∧ s.sys.pchFail = false then
      ((s.stop .dcdClose).wr SYS.AUXIO.PCH_CLOSE 0).modSys (fun y => { y with dcdOk := true })
    else s)

/-- PRECHARGE_TIMEOUT (R278): step 2 not reached within PCH_T. -/
def execPrechargeTimeout (t : Time) (s : State) : Host.Outcome State Fault Refusal :=
  s.during t (fun s =>
    if s.code = stPRECHARGE ∧ s.sys.pchClosed = false ∧ s.due .pchEntry (s.rd SYS.SEQ.PCH_T * sec) = true then
      ((s.stop .pchEntry).set SYS.SEQ_STAT.PCH_FAIL).modSys (fun y => { y with pchFail := true })
    else s)

/-- DCD_CONFIRM_TIMEOUT (R278): the disconnect does not read closed within DCD_CT of step 2. -/
def execDcdConfirmTimeout (t : Time) (s : State) : Host.Outcome State Fault Refusal :=
  s.during t (fun s =>
    if s.code = stPRECHARGE ∧ s.sys.pchClosed = true ∧ s.sys.dcdOk = false
        ∧ s.due .dcdClose (s.rd SYS.SEQ_T.DCD_CT * 10 * ms) = true then
      ((s.stop .dcdClose).set SYS.SEQ_STAT.DCD_FAIL).modSys (fun y => { y with pchFail := true })
    else s)

/-- BRK_AUX_CLOSED (R279): in ENERGIZE the wait of two grid cycles begins. -/
def execBrkAuxClosed (t : Time) (s : State) : Host.Outcome State Fault Refusal :=
  s.during t (fun s =>
    let s := s.set SYS.AUXIO.BRK_AUX
    if s.code = stENERGIZE ∧ s.running .brkClose = true then (s.stop .brkClose).start .gridWait else s)

/-- GRID_RELEASE (R279): CLEAR to G01 to G12, CU0 enabled, grid legs released. -/
def execGridRelease (t : Time) (s : State) : Host.Outcome State Fault Refusal :=
  s.during t (fun s =>
    if s.code = stENERGIZE ∧ s.due .gridWait (2 * s.gridCycle) = true then
      let s := (s.stop .gridWait).each (List.range 12) State.sendClear
      let s := s.set (PWM.CU.CFG.ENABLE 0)
      let s := s.each [0, 1, 2] (fun s l =>
        if s.on (BND.CH.CFG.ENABLE l) && !s.bitOf TRP.TGT.TRIPPED 0 then s.releaseLeg l else s)
      let hit := decide (s.rd TRP.TGT.TRIPPED &&& 0x601 ≠ 0)
      s.modSys (fun y => { y with releasedAt := some s.now, tripSince := hit })
    else s)

/-- BRK_CLOSE_TIMEOUT (R276): the breaker does not read closed within BRK_CT. -/
def execBrkCloseTimeout (t : Time) (s : State) : Host.Outcome State Fault Refusal :=
  s.during t (fun s =>
    if s.code = stENERGIZE ∧ s.due .brkClose (s.rd SYS.SEQ_T.BRK_CT * 10 * ms) = true then
      ((s.stop .brkClose).set SYS.SEQ_STAT.BRK_FAIL).modSys (fun y =>
        { y with wantStop := if y.wantStop = .none then .brkFail else y.wantStop })
    else s)

/-- STOP_CURRENT_LOW (R281): every grid reference has stayed below 0.02 pu for 1 ms. -/
def execStopCurrentLow (t : Time) (s : State) : Host.Outcome State Fault Refusal :=
  s.during t (fun s =>
    if s.code = stSTOPPING ∧ s.sys.gridOff = false ∧ s.due .stopLow ms = true then s.switchOff else s)

/-- STOP_TIMEOUT (R281): STOP_T has passed since entry. -/
def execStopTimeout (t : Time) (s : State) : Host.Outcome State Fault Refusal :=
  s.during t (fun s =>
    if s.code = stSTOPPING ∧ s.sys.gridOff = false ∧ s.due .stopEntry (s.rd SYS.SEQ_T.STOP_T * ms) = true then
      (s.set SYS.SEQ_STAT.STOP_TIMEOUT).switchOff
    else s)

/-- BRK_AUX_OPENED (R281): BRK_AUX reads `open'`, or BRK_CT has run out with it closed. -/
def execBrkAuxOpened (t : Time) (open' : Bool) (s : State) : Host.Outcome State Fault Refusal :=
  s.during t (fun s =>
    let s := s.wrB SYS.AUXIO.BRK_AUX (!open')
    let done (s : State) : State :=
    let s := s.stop .brkOpen
    if s.code = stSTOPPING ∧ s.sys.gridOff = true then
      (s.set SYS.AUXIO.DCD_OPEN).modSys (fun y => { y with stopDone := true })
    else s
    if !s.running .brkOpen then s
    else if open' then done s
    else if s.due .brkOpen (s.rd SYS.SEQ_T.BRK_CT * 10 * ms) then done (s.set SYS.SEQ_STAT.BRK_FAIL)
    else s)

/-! ### Supplies and pads (R276, R291, R439) -/

/-- GPIO_INPUT_CHANGE (R291): the synchronized pad levels. -/
def execGpioInputChange (t : Time) (level : BitVec 16) (s : State) : Host.Outcome State Fault Refusal :=
  s.during t (fun s => s.wr SYS.GPIO_IN.LEVEL level.toNat)

end Sys2Proof.Machine
end

