-- ==== Sys2Proof/Machine/SyncRows.lean ====
section
/-!
DEFINITION. The sync sample and the state changes of the grid synchronizer
(spec/04_grid_synchronizer.md R81 to R102).
-/
namespace Sys2Proof.Machine
open Reg

/-! ### Inputs (R81, R82) -/

/-- One sync sample of three voltages: values in 2^-60 pu, mark, representative time. -/
structure SyncIn where
  a   : Int
  b   : Int
  c   : Int
  ok  : Bool
  rep : Nat
  deriving DecidableEq, Repr

/-- The sync sample of three channels for a window (R82). -/
def State.localIn (s : State) (w a b c : Nat) : SyncIn :=
  let one (n : Nat) : Int × Bool × Nat :=
    let x := s.closedWin n w
    (rneDiv (x.sum * 2 ^ 40) (Nat.max 1 x.n), x.ok && decide (0 < x.n), s.winTime n x)
  let (va, oa, ta) := one a
  let (vb, ob, tb) := one b
  let (vc, oc, tc) := one c
  ⟨va, vb, vc, oa && ob && oc, (ta + tb + tc) / 3⟩

/-- Age of a quantity at the last tick, ns (R326). -/
def State.qAgeNs (s : State) (q : Nat) : Nat := s.rd64 SEQ.SLATE_TIME.TAI_NS - (s.bus.q.get q {}).at'

/-- The instant a quantity is read at for a window's centre (R82): the centre less the quantity's age, and no later
than its source's newest sample. -/
def State.fusedTime (s : State) (mid q : Nat) : Nat :=
  let t := mid - s.qAgeNs q
  match (s.samples (s.qInUse q)).head? with
  | some x => min t x.t
  | none => t

/-- The sync sample of three fused quantities: each value at the window's centre less its age (R82). -/
def State.fusedIn (s : State) (w a b c : Nat) : SyncIn :=
  let mid := w * 10240 + 5120
  let one (q : Nat) : Int × Bool :=
    let k := s.rd (STR.Q.CFG.KIND q)
    let code := s.qInUse q
    match (if s.on (STR.Q.CFG.EN q) && s.qSourceOk k code then s.sourceAt k code (s.fusedTime mid q) else none) with
    | some v => (dyFix v 60, true)
    | none => (0, false)
  let (va, oa) := one a
  let (vb, ob) := one b
  let (vc, oc) := one c
  ⟨va, vb, vc, oa && ob && oc, s.fusedTime mid a⟩

/-- The synchronizer's sync sample (R81, R82). -/
def State.syncIn (s : State) (w : Nat) : SyncIn :=
  let a := s.rd SYN.SRC.SRC_A
  let b := s.rd SYN.SRC.SRC_B
  let c := s.rd SYN.SRC.SRC_C
  let x := if s.on SYN.SRC.FUSED then s.fusedIn w a b c else s.localIn w a b c
  if s.on SYN.SRC.LL then
    { x with a := rneDiv (x.a - x.c) 3, b := rneDiv (x.b - x.a) 3, c := rneDiv (x.c - x.b) 3 }
  else x

/-- α, β and v0 (R6, R83). -/
def SyncIn.clarke (x : SyncIn) : Dy × Dy × Dy :=
  let r3 : Int := isqrt (3 * 4 ^ 64)
  (⟨rneDiv (2 * x.a - x.b - x.c) 3, -60⟩, ⟨rneDiv ((x.b - x.c) * r3) (3 * 2 ^ 64), -60⟩,
   ⟨rneDiv (x.a + x.b + x.c) 3, -60⟩)

/-! ### Borrowing (R90, R91) -/

/-- The three borrow quantities are valid, their streams supervised (R90). -/
def State.borrowValid (s : State) : Bool :=
  [s.rd SYN.BORROW.SRC_A, s.rd SYN.BORROW.SRC_B, s.rd SYN.BORROW.SRC_C].all (fun q =>
    s.on (STR.Q.CFG.EN q) && s.qSourceOk (s.rd (STR.Q.CFG.KIND q)) (s.qInUse q))

/-- θ_remote at its sample time, extrapolated to the present, as a 48-bit angle (R90, R100). -/
def State.remoteAngle (s : State) : Nat :=
  let age := s.tai - s.sync.remRep
  ((s.sync.rem.angleBack s.cycle age : Int)
    + rneDiv (s.sync.rem.f * age * 2 ^ 16) (10 ^ 15)).emod (2 ^ 48) |>.toNat

/-- The borrowed angle (R90). -/
def State.borrowed (s : State) : Nat :=
  (s.remoteAngle + s.rd SYN.BORROW_OFS.OFFSET * 2 ^ 16) % 2 ^ 48

/-- The borrow tracker takes one sync sample, and BORROW_OK follows (R90). Like the loop, it starts at f_r. -/
def State.borrowTake (s : State) (w : Nat) : State :=
  let x := s.fusedIn w (s.rd SYN.BORROW.SRC_A) (s.rd SYN.BORROW.SRC_B) (s.rd SYN.BORROW.SRC_C)
  let ok := x.ok && s.borrowValid
  let (al, be, _) := x.clarke
  let k := s.sync.rem.upTo s.cycle
  let k := if k.f = 0 then { k with f := s.ratedHz * hz32, inc := incOf (s.ratedHz * hz32) } else k
  let k := if ok then k.filter al be else k
  let k := { k with e := k.phaseErr s.cycle (s.tai - x.rep) }
  let k := k.lockTake ok
  let k := k.loop (s.rd SYN.STATUS.STEP_EFF) (if ok then k.e else 0) s.cycle
  let m := s.rd SYN.BORROW.MIN
  let up := ok && atLeast k.posSq m 100
  let dn := !ok || !atLeast k.posSq (m - 2) 100
  let y := s.sync
  let okRun := if up then satInc 8 y.okRun else 0
  let badRun := if dn then satInc 8 y.badRun else 0
  let mag := if 8 ≤ okRun then true else if 8 ≤ badRun then false else y.magOk
  let s := s.modSync (fun y => { y with rem := k, okRun := okRun, badRun := badRun, magOk := mag, remValid := ok, remRep := x.rep })
  s.wrB SYN.STATUS.BORROW_OK (s.borrowValid && k.lockDone && mag && !s.on SYN.STATUS.BORROW_MISMATCH)

/-- Mean of θ_local − θ_remote over the last second, and the time its error has been beyond or within the
tolerance (R91). -/
def State.borrowMeasure (s : State) : State :=
  if s.rd SYN.STATUS.STATE = syLOCKED ∧ s.sync.rem.lockDone = true ∧ s.sync.remValid = true then
    let d := (angleDiff s.theta (s.remoteAngle / 2 ^ 16)).emod (2 ^ 32) |>.toNat
    let ds := ((s.now, d) :: s.sync.diffs).filter (fun x => decide (s.now < x.1 + sec))
    -- the mean of angles: the newest, and the mean separation from it
    let meas := (d : Int) + rneDiv (ds.foldl (fun a x => a + angleDiff x.2 d) 0) ds.length
    let mean := angleDiff (meas.emod (2 ^ 32)).toNat (s.rd SYN.BORROW_OFS.OFFSET)
    let tol := s.rd SYN.BORROW_TOL.TOL
    let far (q : Nat) : Bool := decide (deg q 4 < mean.natAbs * 2 ^ 32)
    let near := decide (mean.natAbs * 2 ^ 32 < deg (tol - 2) 4)
    (s.wrI SYN.BORROW_MEAS.DIFF meas).modSync (fun y =>
      { y with diffs := ds,
               beyond := if far tol then y.beyond.or (some s.now) else none,
               within := if near then y.within.or (some s.now) else none })
  else s.modSync (fun y => { y with diffs := [], beyond := none, within := none })

/-! ### State changes (R87 to R92) -/

/-- HOLD_LEFT from the accumulated hold time (R89). -/
def State.showHold (s : State) : State :=
  s.wr SYN.HOLD_LEFT.MS (s.rd SYN.HOLD.TIME - s.sync.holdN * 1024 / 100000)

/-- The accumulator and f_ar take given values from now on. -/
def State.carry (s : State) (f inc : Int) : State :=
  s.modSync (fun y => { y with loc := { y.loc with f := f, inc := inc } })

/-- The state becomes BORROW (R87, R92): θ steps to the borrowed angle, reported with JUMP_SRC 1. -/
def State.toBorrow (s : State) : State :=
  let d := wrapTurn (((s.borrowed : Int) - s.sync.loc.angle s.cycle) * 2 ^ 16)
  let s := (s.stepAngle d).carry s.sync.rem.f s.sync.rem.inc
  ((s.syncTo syBORROW).sat SYN.COUNT.HOLDS).reportJump 1 d s.sync.rep

/-- The state becomes HOLD at a frequency (R87, R89). -/
def State.toHold (s : State) (f : Int) : State :=
  (((s.carry f (incOf f)).syncTo syHOLD).sat SYN.COUNT.HOLDS).selFast

/-- The state becomes ACQUIRE (R87, R97): FSEL sets, and f_pc reads 0 until the second wrap. -/
def State.toAcquire (s : State) : State :=
  let s := ((s.syncTo syACQUIRE).wr SYN.F_PC.VALUE 0).selFast
  s.modSync (fun y => { y with wrapHist := [], loc := { y.loc with lockArc := 0 }, lowRun := 0, clampRun := 0,
                               jumpN := 0, fs := [], rateRun := 0 })

/-- Local recovery is due in this sample: it takes precedence over later rows of R87. -/
def State.recoveryDue (s : State) : Bool :=
  let st := s.rd SYN.STATUS.STATE
  (decide (st = syHOLD) || decide (st = syBORROW) || decide (st = syLOST))
    && decide (s.rd SYN.LOW.FILT + 1 ≤ s.sync.highRun)

/-- Borrow changes of R87 at a sync sample. -/
def State.borrowChange (s : State) : State :=
  let st := s.rd SYN.STATUS.STATE
  let ok := s.on SYN.STATUS.BORROW_OK
  if s.recoveryDue then s
  else if (st = syHOLD ∨ st = syLOST) ∧ ok = true ∧ s.on SYN.CTRL.BORROW_EN = true then s.toBorrow
  else if st = syBORROW ∧ ok = false then s.toHold s.sync.rem.f
  else s

/-! ### The sync sample -/

/-- The counters of R87, R88, R93 and R94 take the separated sample. -/
def State.syncCount (s : State) (ok : Bool) (ej : Int) : State :=
  let y := s.sync
  let st := s.rd SYN.STATUS.STATE
  let thr := s.rd SYN.LOW.THR
  let low := !ok || !atLeast y.loc.posSq thr 1000
  let high := ok && atLeast y.loc.posSq (thr + s.rd SYN.LOW.HYST) 1000
  let jt := s.rd SYN.JUMP_CFG.THR
  let jl := jt - s.rd SYN.JUMP_CFG.HYST
  let up := ok && decide (deg jt 4 < ej.natAbs)
  let dn := ok && decide (ej.natAbs < deg jl 4)
  let jn := if st ≠ syLOCKED ∨ dn = true then 0 else if up then satInc 64 y.jumpN else y.jumpN
  let first := up && decide (y.jumpN = 0)
  let keep := !ok || decide (jn ≠ 0)
  s.modSync (fun y => { y with
    lowRun := if low then satInc 64 y.lowRun else 0
    highRun := if high then satInc 64 y.highRun else 0
    jumpN := jn
    jumpNow := ej
    jumpFirst := if first then ej else y.jumpFirst
    jumpAt := if first then y.rep else y.jumpAt
    recovering := y.recovering && decide (st = syLOCKED) && decide (jn ≠ 0)
    realignRun := if ok && decide (y.loc.e.natAbs < deg 1 1) then satInc 64 y.realignRun else 0
    neg := if keep then y.neg else y.loc.neg2
    negAge := if keep then y.negAge + 1 else 0
    holdN := if st = syHOLD then y.holdN + 1 else y.holdN })

/-- The counters of R87, R88, R96 and R97 take f_ar and the angle that the loop gave in this sample. -/
def State.syncRate (s : State) (ok : Bool) : State :=
  let y := s.sync
  let st := s.rd SYN.STATUS.STATE
  let fs := (y.loc.f :: y.fs).take 513
  let rate := (({ y with fs := fs } : Sync)).rate
  let ct := s.rd SYN.CHG.THR
  let cl := ct - s.rd SYN.CHG.HYST
  let above := match rate with | some d => rateAbove d ct | none => false
  let calm := match rate with | some d => decide (d.natAbs * 10000 < cl * 524288 * 2 ^ 32) | none => true
  let atClamp := decide (y.loc.f = fLow) || decide (y.loc.f = fHigh)
  s.modSync (fun y => { y with
    clampRun := if atClamp then satInc 64 y.clampRun else 0
    fs := fs
    rateRun := if above then satInc 16 y.rateRun else 0
    clean := y.clean && decide (st = syLOCKED) && !s.on SYN.STATUS.REALIGN && ok
      && atLeast y.loc.posSq 1 5 && calm
    back := ((y.loc.f, y.loc.angle s.cycle) :: y.back).take 33 })

/-- The loop of one sample by state (R84, R85, R87, R89, R90). -/
def State.syncLoop (s : State) (ok : Bool) : State :=
  let st := s.rd SYN.STATUS.STATE
  let step := if st = syACQUIRE then 7 else s.rd SYN.STATUS.STEP_EFF
  if st = syACQUIRE ∨ st = syLOCKED then
    let e := if ok && decide (s.sync.jumpN = 0) then s.sync.loc.e else 0
    s.modSync (fun y => { y with loc := y.loc.loop step e s.cycle })
  else if st = syBORROW then
    let a := s.borrowed
    let d := wrapTurn (((a : Int) - s.sync.loc.angle s.cycle) * 2 ^ 16)
    -- a change of the borrowed angle beyond what θ_r slews in one sample is a step of θ (R121)
    let room := s.rd BND.GRID_CFG.ANG_SLEW * 2 ^ 64 * 1024 / (360 * 100000)
    let s := if room < d.natAbs then s.stepAngle d else s
    (s.carry s.sync.rem.f s.sync.rem.inc).modSync (fun y => { y with loc := { y.loc with acc := a } })
  else s.carry s.sync.loc.f (incOf s.sync.loc.f)

/-- SYN.VPOS, SYN.VNEG and SYN.VZERO (R83). -/
def State.showSeq (s : State) : State :=
  let k := s.sync.loc
  let q (d : Dy) : Word := satWord (dySqrtFix d 16)
  ((s.setWord SYN.VPOS.VALUE.addr (q k.posSq)).setWord SYN.VNEG.VALUE.addr (q k.negSq)).setWord
    SYN.VZERO.VALUE.addr (dyQ s.sync.vz)

/-- The events of ENABLE act at a sync sample (R87). What R89 and R94 leave open at them is the model's choice (log
entry 9): entering ACQUIRE from OFF sets the hold-over timer to zero, and entering OFF clears REALIGN. -/
def State.syncEnable (s : State) : State :=
  let off := decide (s.rd SYN.STATUS.STATE = syOFF)
  if !s.on SYN.CTRL.ENABLE then
    if off then s
    else
      let s := (((s.syncTo syOFF).wr SYN.STATUS.FSEL 0).wr SYN.F_PC.VALUE 0).wr SYN.STATUS.REALIGN 0
      (s.carry s.sync.loc.f (incOf s.sync.loc.f)).modSync (fun y =>
        { y with clean := false, cleanRun := 0, wrapHist := [], jumpN := 0, lowRun := 0, highRun := 0 }) |>.stop .realign
  else if off then
    let f : Int := s.ratedHz * hz32
    (s.toAcquire.carry f (incOf f)).modSync (fun y =>
      { y with loc := { y.loc with al := ⟨0, 0⟩, qal := ⟨0, 0⟩, be := ⟨0, 0⟩, qbe := ⟨0, 0⟩,
                                   alIn := ⟨0, 0⟩, beIn := ⟨0, 0⟩, e := 0 },
               holdN := 0, back := [], neg := (⟨0, 0⟩, ⟨0, 0⟩), negAge := 0 })
  else s

/-- STEP_EFF follows the STEP in effect while the posture is NORMAL (R85). -/
def State.stepTake (s : State) : State :=
  if s.band.fault then s else s.wr SYN.STATUS.STEP_EFF (s.rdE SYN.CTRL.STEP)

/-- A command that may change f_ar begins: the probe's phase is brought to now (R241), and the slate words of the
instant are kept (R30). -/
def State.syncHead (s : State) : State := s.probeAdvance.keepWords

/-- The consumers of a sync sample: ride-through (R83, R216, R223), islanding (R239, R246). -/
def State.syncFeed (s : State) (ok : Bool) : State :=
  let vp := if ok then dySqrtFix s.sync.loc.posSq 48 else 0
  let vn := if ok then dySqrtFix s.sync.loc.negSq 48 else 0
  ((s.frtSample vp vn s.sync.rep).passSample.reconSample).angleLost

/-- SYNC_SAMPLE (R82 to R84, R87, R90 to R93, R95, R99): the window that closed last is processed once. At an invalid
sample the quadrature filters take nothing and the magnitudes stay (log entry 9). -/
def execSyncSample (t : Time) (s : State) : Host.Outcome State Fault Refusal :=
  s.during t (fun s =>
    let s := s.syncHead
    let w := winIndex s.tai - 1
    if s.sync.lastWin = some w then s
    else
      let s := (s.advanceTheta s.cycle).modSync (fun y => { y with lastWin := some w })
      let s := (s.syncEnable.stepTake).borrowTake w
      let s := if s.rd SYN.STATUS.STATE = syOFF then s
        else
          let x := s.syncIn w
          let (al, be, v0) := x.clarke
          let ok := x.ok
          let v0 := if s.on SYN.SRC.LL then ⟨0, 0⟩ else v0
          let s := if ok then s else s.set SYN.STATUS.SRC_INVALID
          let before := s.sync.loc
          let ns := s.tai - x.rep
          let th := before.angleBack s.cycle ns
          let ej := jumpErr s.sync.neg before.f (s.sync.negAge + 1) al be th
          let s := s.modSync (fun y =>
            let k := if ok then y.loc.filter al be else y.loc
            let k := { k with e := k.phaseErr s.cycle ns }
            let d := turnBack k.pos2 th
            { y with
              vd := d.1, vq := d.2
              negTurn := (dyAngle k.neg2 + (th : Int) * 2 ^ 16).emod (2 ^ 64)
              loc := k.lockTake (ok && decide (s.rd SYN.STATUS.STATE = syACQUIRE))
              vz := if s.on SYN.SRC.LL then ⟨0, 0⟩ else if ok then Config.zeroRms y.vz v0 else y.vz
              alpha := if ok then al else y.alpha
              beta := if ok then be else y.beta
              rep := x.rep, valid := ok })
          let s := ((s.syncCount ok ej).syncLoop ok).syncRate ok
          (s.showSeq.borrowChange.borrowMeasure).showHold
      (s.syncFeed s.sync.valid).showAngle)

/-- LOW_VOLTAGE_ENTRY (R87, R88): frequency and angle are restored from FILT + 1 samples earlier. REALIGN and its 1 ms
end here (log entry 9). -/
def execLowVoltageEntry (t : Time) (s : State) : Host.Outcome State Fault Refusal :=
  s.during t (fun s =>
    let s := s.syncHead.advanceTheta s.cycle
    let n := s.rd SYN.LOW.FILT + 1
    if s.rd SYN.STATUS.STATE = syLOCKED ∧ n ≤ s.sync.lowRun then
      let s := (s.modSync (fun y => { y with jumpN := 0, recovering := false })).wr SYN.STATUS.REALIGN 0
      let s := s.stop .realign
      let (f, a) := s.sync.back.getD n (s.sync.loc.f, s.sync.loc.angle s.cycle)
      let old := ((a : Int) + incOf f * (n * 4096 : Nat)).emod (2 ^ 48)
      let d := wrapTurn ((old - s.sync.loc.angle s.cycle) * 2 ^ 16)
      let s := (s.stepAngle d).carry f (incOf f)
      let s := if s.on SYN.STATUS.BORROW_OK && s.on SYN.CTRL.BORROW_EN then s.toBorrow else s.toHold f
      s.showAngle
    else s)

/-- LOCAL_RECOVERY (R87, R89, R92): the loop goes on from the output θ and f. -/
def execLocalRecovery (t : Time) (s : State) : Host.Outcome State Fault Refusal :=
  s.during t (fun s =>
    let s := s.syncHead.advanceTheta s.cycle
    if s.recoveryDue && s.on SYN.CTRL.ENABLE then
      let lost := decide (s.rd SYN.STATUS.STATE = syLOST)
      let s := (s.modSync (fun y => { y with holdN := 0 })).showHold
      let s := if lost then s.toAcquire
        else ((s.syncTo syLOCKED).selFast).modSync (fun y =>
          { y with lowRun := 0, clampRun := 0, jumpN := 0, recovering := true })
      s.showAngle
    else s)

/-- The state becomes LOST with a flag (R87). -/
def State.toLost (s : State) (flag : Field) : State :=
  let s := (((s.carry s.sync.loc.f (incOf s.sync.loc.f)).syncTo syLOST).set flag).detect 0x18 noDetail rcReport
  ((s.modSync (fun y => { y with clean := false, cleanRun := 0, jumpN := 0 })).angleLost).showAngle

/-- SYNC_RANGE (R87): f_ar at a clamp for 16 sync samples in LOCKED. -/
def execSyncRange (t : Time) (s : State) : Host.Outcome State Fault Refusal :=
  s.during t (fun s =>
    let s := s.syncHead.advanceTheta s.cycle
    if s.rd SYN.STATUS.STATE = syLOCKED ∧ 16 ≤ s.sync.clampRun ∧ s.sync.lowRun < s.rd SYN.LOW.FILT + 1 then
      s.toLost SYN.STATUS.RANGE
    else s)

/-- SYNC_HOLD_EXPIRY (R87, R89): the accumulated hold time has reached HOLD.TIME. -/
def execSyncHoldExpiry (t : Time) (s : State) : Host.Outcome State Fault Refusal :=
  s.during t (fun s =>
    let s := s.syncHead.advanceTheta s.cycle
    if s.rd SYN.STATUS.STATE = syHOLD ∧ s.rd SYN.HOLD.TIME * 100000 ≤ s.sync.holdN * 1024
        ∧ s.recoveryDue = false then
      s.toLost SYN.STATUS.HOLD_EXPIRED
    else s)

/-! ### Jumps and wraps -/

/-- JUMP_DETECT (R92 to R94): θ steps by the error of this sample, the filters take the present vector as
positive-sequence, and ride-through and islanding are told of a grid jump. -/
def execJumpDetect (t : Time) (s : State) : Host.Outcome State Fault Refusal :=
  s.during t (fun s =>
    let s := s.syncHead.advanceTheta s.cycle
    if s.rd SYN.STATUS.STATE = syLOCKED ∧ s.rd SYN.JUMP_CFG.FILT + 1 ≤ s.sync.jumpN then
      let y := s.sync
      let src := if y.recovering then 2 else 0
      let s := s.stepAngle y.jumpNow
      let s := s.modSync (fun y => { y with
        loc := { y.loc with al := y.alpha, be := y.beta, qal := y.beta, qbe := dyNeg y.alpha,
                            alIn := y.alpha, beIn := y.beta }
        jumpN := 0, realignRun := 0, recovering := false, neg := (⟨0, 0⟩, ⟨0, 0⟩), negAge := 0 })
      let s := ((s.reportJump src y.jumpFirst y.jumpAt).set SYN.STATUS.REALIGN).start .realign
      let s := if src = 0 then (s.frtJump y.jumpFirst.natAbs y.jumpAt).passJump y.jumpFirst else s
      s.showAngle
    else s)

/-- THETA_WRAP (R95 to R98, R239, R327): the earliest passage of θ through zero not yet taken. -/
def execThetaWrap (t : Time) (s : State) : Host.Outcome State Fault Refusal :=
  s.during t (fun s =>
    let s := s.syncHead.advanceTheta s.cycle
    match s.sync.wraps with
    | [] => s
    | tw :: rest =>
      let s := s.modSync (fun y => { y with wraps := rest })
      if s.rd SYN.STATUS.STATE = syOFF then s.fuseWrap
      else
        let y := s.sync
        let s := match y.wrapHist.head? with
          | some (_, t0) => if t0 < tw then s.wr SYN.F_PC.VALUE (rneDiv (10 ^ 15) (tw - t0)).toNat else s
          | none => s
        let run := if y.clean then satInc 2 y.cleanRun else 0
        let s := if y.clean then (if 2 ≤ run then s.wr SYN.STATUS.FSEL 0 else s) else s.selFast
        let start := decide (s.rd SYN.STATUS.STATE = syLOCKED) && !s.on SYN.STATUS.REALIGN
        let s := s.modSync (fun y => { y with cleanRun := run, clean := start })
        let s := s.showAngle
        let f := s.rd SYN.F_SEL.VALUE
        let hist := (f, tw) :: y.wrapHist
        let s := s.modSync (fun y => { y with wrapHist := hist.take 17 })
        let s := match hist[s.rd SYN.CHG.WIN + 1]? with
          | some (f0, t0) =>
            if t0 < tw then
              s.setWord SYN.ROCOF.VALUE.addr (satWord (rneDiv (((f : Int) - f0) * 65536000) (tw - t0)))
            else s
          | none => s
        (s.fuseWrap).passRocof)

end Sys2Proof.Machine
end

