-- ==== Sys2Proof/Machine/Live.lean ====
section
/-!
DEFINITION. The registers that follow a clock: what brings each to the present instant before it is read (R12).
-/
namespace Sys2Proof.Machine
open Reg

/-- The owner of SB or DP now, 15 for none: the winner of a decision owns the arbiter cycle that follows it (R347,
R350). -/
def State.busOwner (s : State) (arb len : Nat) : Nat :=
  match s.mem.busOwn.getD arb none with
  | some (i, last) => if s.cycle ≤ last ∧ last < s.cycle + len then i else 15
  | none => 15

/-- GAF.OWNER follows the owners of the three resources. -/
def State.showOwner (s : State) : State :=
  ((s.wr GAF.OWNER.SB (s.busOwner 0 1)).wr GAF.OWNER.DP (s.busOwner 1 4)).wr GAF.OWNER.EP (match s.mem.own with
    | some o => if o.locked || decide (s.cycle < o.till) then o.req else 15
    | none => 15)

/-- Registers that follow a clock are brought to now. -/
def State.live (s : State) (a : Nat) : State :=
  if a = 0x6028 ∨ a = 0x602C ∨ a = 0x6034 then (s.advanceTheta s.cycle).showAngle
  else if a = BND.THETA_R.ANGLE.addr then (s.advanceTheta s.cycle).slewTheta
  else if 0x8100 ≤ a ∧ a < 0x8400 then (s.showCount (elem a 0x8100 0x40)).showRunning (elem a 0x8100 0x40)
  else if a = PWM.OUT.CLAP_OUT.addr then s.endClapOut
  else if a = 0x15008 ∨ a = 0x1500C then s.wr64 PTP.TIME.TAI_NS s.tai
  else if a = 0x1C020 ∨ a = 0x1C024 then s.wr64 SEC.RTC.TAI_NS s.rtc
  else if a = 0x2018 then s.showOwner
  else if (a = 0xE000 ∨ a = 0xE048) ∧ s.band.fault = false then s.showScale
  else if a = 0xF000 then s.probeCheck
  else if 0x12200 ≤ a ∧ a < 0x12280 then s.showSupra (elem a 0x12200 0x10)
  else if a = 0x1C then s.showHoldover
  else s

end Sys2Proof.Machine
end

