-- ==== Sys2Proof/Machine/Clock.lean ====
section
/-!
DEFINITION. The clock synthesizer (spec/16_clock_synthesizer.md, R335 to R346).
-/
namespace Sys2Proof.Machine
open Reg

/-- Changes the clock synthesizer's record. -/
def State.modClk (s : State) (f : Clk → Clk) : State := { s with clk := f s.clk }

/-- Every target (R258). -/
abbrev allTargets : Nat := 0x7FF

/-- Clock loss (R342, R259): source 35 and the forced trip of every target. -/
def State.clockLoss (s : State) : State :=
  (((s.assertSrc 35).forceTrip 35 allTargets).detect 0x0E noDetail rcTrip).startIf .clockLoss

/-- An alignment of this SCLK cycle did not take place (R343). -/
def State.unalign (s : State) : State :=
  match s.clk.aligned with
  | some (c, tr, st) =>
    if c = s.cycle then
      (s.wrB CLK.STATUS.ALIGN_TRACE tr).modClk (fun k => { k with aligned := none, strobe := st })
    else s
  | none => s

/-- A loss of lock (R342); a relock is one (R339). -/
def State.loseLock (s : State) (stopped : Bool) : State :=
  let s := s.unalign
  let s := ((s.wr CLK.STATUS.LOCKED 0).set CLK.STATUS.UNLOCK).wr CLK.STATUS.ALIGNED 0
  let s := (s.sat CLK.COUNT.RELOCKS).modClk (fun c =>
    { c with stopped := stopped, gated := true, wantAlign := false })
  s.clockLoss

/-- m in use (R340): 1 ×2, 2 ×1, 3 ÷2. -/
def State.pfdEff (s : State) : Nat :=
  let m := s.rd CLK.CTRL.PFD_M
  if m ≠ 0 then m else if s.rd CLK.STATUS.INPUT = 1 ∧ s.clk.ten then 2 else 1

/-- A PTP second begins in this SCLK cycle, within the 1 ns of R343. -/
def State.atSecond (s : State) : Bool := decide (s.tai % 1000000000 < 3)

/-- The instant of the last PTP second, in fine edge steps. -/
def State.secondAt (s : State) : Nat :=
  ((s.time.taiAt : Int) + rneDiv (((s.tai / 1000000000 * 1000000000 : Nat) - (s.time.tai : Int)) * 128) 5).toNat

/-- The frequency offset in force follows TRIM where no servo steers (R336). -/
def State.refreshFofs (s : State) : State :=
  if s.rd CLK.CTRL.SRC ≤ 1 then s.wr CLK.FOFS.PPS (s.rd CLK.TRIM.PPS) else s

/-- The present input and steering select REFIN; PTP steers. -/
def srcRef (v : Nat) : Bool := decide (v % 2 = 1)
def srcPtp (v : Nat) : Bool := decide (2 ≤ v)

/-- PLL_LOCK (R345): lock after reset or a relock; clock loss ends, and an alignment is due (R343). -/
def execPllLock (t : Time) (refTen : Bool) (s : State) : Host.Outcome State Fault Refusal :=
  s.during t (fun s =>
    if s.on CLK.STATUS.LOCKED then s
    else
      let s := (s.set CLK.STATUS.LOCKED).wr CLK.STATUS.HOLDOVER 0
      let s := s.wr CLK.STATUS.INPUT (b2n (srcRef (s.rd CLK.CTRL.SRC)))
      let s := s.modClk (fun c =>
        { c with lockAt := s.now, wantAlign := true, stopped := false, ten := refTen })
      let s := (s.wr CLK.STATUS.PFD_EFF s.pfdEff).refreshFofs
      ((s.stop .clockLoss).stop .clkHold).putSource 35 false)

/-- UNLOCK (R342): the phase-error test, or the ring-oscillator detector of a stopped clock, declares it. -/
def execUnlock (t : Time) (stopped : Bool) (s : State) : Host.Outcome State Fault Refusal :=
  s.during t (fun s => s.loseLock stopped)

/-- CLOCK_LOSS_HALT (R285): clock loss was not recovered within 1 ms. -/
def execClockLossHalt (t : Time) (s : State) : Host.Outcome State Fault Refusal :=
  s.during t (fun s =>
    if s.due .clockLoss ms then
      ((s.stop .clockLoss).detect 0x0E noDetail rcHALT).modSys
        (fun y => { y with wantHalt := setBit y.wantHalt 0 true })
    else s)

/-- CLOCK_INPUT_LOST (R341): the input in use misses edges or errs in frequency: holdover. -/
def execClockInputLost (t : Time) (s : State) : Host.Outcome State Fault Refusal :=
  s.during t (fun s =>
    if s.on CLK.STATUS.HOLDOVER then s
    else
      let ref := decide (s.rd CLK.STATUS.INPUT = 1)
      let s := (s.set CLK.STATUS.HOLDOVER).set (if ref then CLK.STATUS.REF_LOST else CLK.STATUS.XTAL_LOST)
      let s := ((s.wr CLK.STATUS.INPUT 2).sat CLK.COUNT.HOLDOVERS).modClk (fun c => { c with lostRef := ref })
      (s.start .clkHold).detect 0x0D noDetail rcReport)

/-- CLOCK_INPUT_RESUME (R341): an input has been good for REF_WAIT, or REFIN for 10 s on a return;
`other` tells whether the input other than the lost one is present. PFD_EFF follows the input without a relock (log entry
12); a lock already lost comes back by PLL_LOCK alone. -/
def execClockInputResume (t : Time) (ref other : Bool) (s : State) : Host.Outcome State Fault Refusal :=
  s.during t (fun s =>
    let onto (s : State) : State :=
    let s := ((s.wr CLK.STATUS.HOLDOVER 0).wr CLK.STATUS.INPUT (b2n ref)).stop .clkHold
    s.wr CLK.STATUS.PFD_EFF s.pfdEff
    if s.on CLK.STATUS.HOLDOVER then
      if ref != s.clk.lostRef || s.on CLK.CTRL.REVERT || !other then onto s else s
    else if ref && decide (s.rd CLK.STATUS.INPUT = 0) && srcRef (s.rd CLK.CTRL.SRC)
        && s.on CLK.CTRL.REVERT && !s.live5 then
      let s := s.wr CLK.STATUS.INPUT 1
      s.wr CLK.STATUS.PFD_EFF s.pfdEff
    else s)

/-- CLOCK_HOLDOVER_EXPIRY (R341): holdover lasted CLK.HOLD.T with no good input. -/
def execClockHoldoverExpiry (t : Time) (s : State) : Host.Outcome State Fault Refusal :=
  s.during t (fun s =>
    if s.on CLK.STATUS.HOLDOVER && s.due .clkHold (s.rd CLK.HOLD.T * sec) then
      ((s.stop .clkHold).set CLK.STATUS.HOLD_EXP).loseLock false
    else s)

/-- RELOCK_START (R339): a pending relock starts outside the live states. -/
def execRelockStart (t : Time) (s : State) : Host.Outcome State Fault Refusal :=
  s.during t (fun s =>
    if s.on CLK.STATUS.RELOCK_PEND && !s.live5 then
      (s.wr CLK.STATUS.RELOCK_PEND 0).loseLock false
    else s)

/-- DIVIDER_ALIGNMENT (R343): the due PTP second resets the output dividers in phase. -/
def execDividerAlignment (t : Time) (s : State) : Host.Outcome State Fault Refusal :=
  s.during t (fun s =>
    if s.on CLK.STATUS.LOCKED && s.atSecond && ((s.clk.wantAlign && decide (s.clk.lockAt + ms ≤ s.secondAt))
        || ((s.clk.wantRe || s.on CLK.STATUS.ALIGN_LOST && !s.on CLK.STATUS.ALIGNED) && !s.live5)) then
      let tr := s.on CLK.STATUS.ALIGN_TRACE
      let s := (s.set CLK.STATUS.ALIGNED).wrB CLK.STATUS.ALIGN_TRACE (s.on PTP.STATUS.TRACEABLE)
      s.modClk (fun c => { c with wantAlign := false, wantRe := false, gated := false,
                                  aligned := some (s.cycle, tr, c.strobe)
                                  strobe := s.secondAt + s.rd CLK.ALIGN.OFS * 8 })
    else s)

/-- A realignment is asked for: not taken inside the live states (R343, R346). -/
def State.alignGo (s : State) : State :=
  if s.live5 then s.set CLK.STATUS.CFG_ERR else s.modClk (fun c => { c with wantRe := true })

/-- ALIGN_GO (R343): a write of 1 to CLK.CTRL.ALIGN_GO. -/
def execAlignGo (t : Time) (s : State) : Host.Outcome State Fault Refusal :=
  s.during t (fun s => s.alignGo)

/-- STROBE_PHASE_MEASURE (R343): the strobe error at a PTP second, in ps. -/
def execStrobePhaseMeasure (t : Time) (ps : BitVec 32) (s : State) : Host.Outcome State Fault Refusal :=
  s.during t (fun s => s.setWord CLK.PHASE_ERR.PS.addr ps)

/-- The servo takes one offset (R337, R339): within ±1 µs of phase error its slewing offset is limited to ±10 ppm; its
correction is clamped to ±100,000 ps/s and the offset in force to ±50 ppm. -/
def State.servoStep (s : State) (off : Int) : State :=
  if srcPtp (s.rd CLK.CTRL.SRC) then
    let old := s.rdI CLK.FOFS.PPS
    let (freq, slew) := Config.servo off old
    let slew := if off.natAbs ≤ 1000 then clampInt (-10000000) 10000000 slew else slew
    let want := old + clampInt (-100000) 100000 (freq + slew - old)
    let new := clampInt (-50000000) 50000000 want
    let s := (s.wrI CLK.FOFS.PPS new).modClk (fun c => { c with fofs := (new :: c.fofs).take 16 })
    if new = want then s
    else
      let s := s.set CLK.STATUS.RANGE
      if s.live5 then s.set CLK.STATUS.RELOCK_PEND else s.loseLock false
  else s

/-- PTP holdover (R338): FOFS freezes at the mean over the last 16 corrections. -/
def State.ptpHold (s : State) : State :=
  let l := s.clk.fofs
  let s := s.set CLK.STATUS.PTP_HOLD
  if l.isEmpty || !srcPtp (s.rd CLK.CTRL.SRC) then s
  else s.wrI CLK.FOFS.PPS (rneDiv (l.foldl (· + ·) 0) l.length)

/-- A step of PTP time (R316, R337): the divider phase stays, so the alignment is lost. -/
def State.stepTai (s : State) (tai : Nat) : State :=
  let s := { s with time := { s.time with tai := tai % 2 ^ 64, taiAt := s.now } }
  let s := s.set PTP.STATUS.STEP
  (s.wr CLK.STATUS.ALIGNED 0).set CLK.STATUS.ALIGN_LOST

end Sys2Proof.Machine
end

