-- ==== Sys2Proof/Machine/NetRows.lean ====
section
/-!
DEFINITION. The steps of the process bus (spec/15_process_bus.md, R313 to R325): ports, PTP, sampled
values and GOOSE.
-/
namespace Sys2Proof.Machine
open Reg

/-! ### Ports (R313, R314) -/

/-- A port is enabled: PA alone in single-port mode. -/
def State.portOn (s : State) (p : Nat) : Bool :=
  if p = 0 then s.on NET.CTRL.PA_EN else s.on NET.CTRL.PB_EN && decide (s.rd NET.CTRL.MODE ≠ 0)

/-- A frame the device sends goes out on both ports (R314). -/
def State.netSend (s : State) : State :=
  s.each ((List.range 2).filter s.portOn) (fun s p => s.inc (NET.PORT.TX.COUNT p))

/-- A frame arrives on a port (R314): whether it is the first good copy. -/
def State.netTake (s : State) (h : NetHdr) (good : Bool) : Bool × State :=
  if !s.portOn h.port then (false, s)
  else if !good then (false, s.inc (NET.PORT.RXERR.COUNT h.port))
  else
    let s := s.inc (NET.PORT.RX.COUNT h.port)
    let fresh := s.bus.seen.filter (fun x => decide (s.now < x.2.2 + 400 * ms))
    let dup := decide (s.rd NET.CTRL.MODE ≠ 0)
      && fresh.any (fun x => decide (x.1 = h.src ∧ x.2.1 = h.rseq))
    if dup then (false, (s.modBus (fun b => { b with seen := fresh })).inc (NET.PORT.DUP.COUNT h.port))
    else (true, s.modBus (fun b => { b with seen := (h.src, h.rseq, s.now) :: fresh }))

/-- PORT_LOST (R314): the other port carries on. -/
def State.portLost (s : State) (p : Nat) : State := (s.set NET.STATUS.PORT_LOST).detect 0x17 p rcReport

/-- RING_OPEN as the own supervision frames stand (R314): three intervals of 2 s without a return on a
port in HSR. -/
def State.ringTest (s : State) : State :=
  let late (p : Nat) : Bool := match s.bus.back.getD p none with
    | some t => decide (t + 6 * sec ≤ s.now)
    | none => false
  let open' := decide (s.rd NET.CTRL.MODE = 2) && (late 0 || late 1)
  if open' && !s.on NET.STATUS.RING_OPEN then
    (s.set NET.STATUS.RING_OPEN).portLost (if late 0 then 0 else 1)
  else if !open' then s.wr NET.STATUS.RING_OPEN 0 else s

/-- HSR_FORWARD (R314, R315): a frame from ring port `h.port` not addressed only to this device is passed
to the other; a bad FCS leaves inverted, a PTP event gains its residence time in ns. A frame of the
device's own is removed, and its return noted. -/
def execHsrForward (t : Time) (h : NetHdr) (badFcs ptpEvent : Bool) (residence : BitVec 32) (s : State) : Host.Outcome State Fault Refusal :=
  s.during t (fun s =>
    if s.rd NET.CTRL.MODE ≠ 2 || !s.portOn h.port || decide (h.dst = Config.mac) then s
    else if h.src = Config.mac then
      (s.modBus (fun b => { b with back := updAt b.back h.port (fun _ => some s.now) })).ringTest
    else
      let out := 1 - h.port.val
      let s := s.inc (NET.PORT.FWD.COUNT out)
      s.modBus (fun b => { b with
        fwd := some (out, badFcs, if ptpEvent && s.on PTP.CTRL.TC_EN then residence.toNat else 0) }))

/-- NET.CTRL was written: another mode starts its redundancy anew (R313, R314). -/
def State.netCtrl (s : State) (o n : Word) : State :=
  if getField o NET.CTRL.MODE = getField n NET.CTRL.MODE then s
  else (s.modBus (fun b => { b with seen := [], back := [none, none], supAt := none })).wr NET.STATUS.RING_OPEN 0

/-- REDUNDANCY_SUPERVISION_SEND (R314): in PRP and HSR, 2 s after the last one. -/
def execRedundancySupervisionSend (t : Time) (s : State) : Host.Outcome State Fault Refusal :=
  s.during t (fun s =>
    if s.rd NET.CTRL.MODE = 0 || s.bus.supAt.any (fun t0 => decide (s.now < t0 + 2 * sec)) then s
    else
      let s := s.netSend
      s.modBus (fun b => { b with supAt := some s.now, back := b.back.map (fun o => some (o.getD s.now)) }))

/-- RING_OPEN (R314): the own supervision frames fail to return, or return. -/
def execRingOpen (t : Time) (s : State) : Host.Outcome State Fault Refusal :=
  s.during t (fun s => s.ringTest)

/-- The link bit of a port: 0 PA, 1 PB, 2 management. -/
def linkField (p : Nat) : Field :=
  if p = 0 then NET.STATUS.PA_LINK else if p = 1 then NET.STATUS.PB_LINK else NET.STATUS.MGMT_LINK

/-- PORT_LINK_LOSS (R314): a port loses its link. -/
def execPortLinkLoss (t : Time) (p : Fin 3) (s : State) : Host.Outcome State Fault Refusal :=
  s.during t (fun s =>
    let s := s.wr (linkField p) 0
    if p.val ≤ 1 ∧ s.portOn p = true then s.portLost p else s)

/-- PORT_LINK_UP (R314): a port regains its link. -/
def execPortLinkUp (t : Time) (p : Fin 3) (s : State) : Host.Outcome State Fault Refusal :=
  s.during t (fun s => s.set (linkField p))

/-! ### PTP (R315, R316) -/

/-- TRACEABLE ends (R316, R334). -/
def State.traceEnd (s : State) : State :=
  if s.on PTP.STATUS.TRACEABLE then
    (((s.wr PTP.STATUS.TRACEABLE 0).modBus (fun b => { b with traceLosses := b.traceLosses + 1 })).detect 0x22
      noDetail rcReport).probeCheck
  else s

/-- The order of the best-master comparison: priority1, class, accuracy, variance, priority2, identity,
steps removed. -/
def Master.key (m : Master) : List Nat :=
  let p := m.prio.toNat; let q := m.q.toNat
  [p / 2 ^ 24 % 256, q % 256, q / 256 % 256, p / 256 % 65536, p % 256, m.gm.toNat, q / 2 ^ 24 % 256]

/-- Lexicographic order of two keys of one length. -/
def keyLt : List Nat → List Nat → Bool
  | a :: as, b :: bs => decide (a < b) || (decide (a = b) && keyLt as bs)
  | _, _ => false

/-- The port whose master wins among those heard within three announce intervals (R315). -/
def State.bestPort (s : State) : Option Nat :=
  let live (p : Nat) : Option Master := match s.bus.masters.get p none with
    | some m => if s.now < m.last + 3 * m.every * ms + 1 then some m else none
    | none => none
  match live 0, live 1 with
  | some a, some b => some (if keyLt b.key a.key then 1 else 0)
  | some _, none => some 0
  | none, some _ => some 1
  | none, none => none

/-- The conditions TRACEABLE sets on (R316). -/
def State.mayTrace (s : State) : Bool :=
  decide (s.rd PTP.STATUS.STATE = 3) && s.on PTP.GM_Q.TIME_TRACE
    && decide (s.rd PTP.GM_Q.CLASS = 6 ∨ s.rd PTP.GM_Q.CLASS = 7) && decide (16 ≤ s.bus.goodRun)

/-- The device takes its time from the master of a port (R315, R316). -/
def State.adopt (s : State) (p : Nat) : State :=
  match s.bus.masters.get p none with
  | none => s
  | some m =>
    let old := s.rd64 PTP.GM_ID.IDENTITY
    let oldPort := s.rd PTP.STATUS.PORT
    let st := s.rd PTP.STATUS.STATE
    let change := decide (old ≠ m.gm.toNat)
    let s := (s.wr64 PTP.GM_ID.IDENTITY m.gm.toNat).setWord PTP.GM_Q.STEPS.addr (m.q &&& 0xFF03FFFF)
    let s := s.wr PTP.STATUS.PORT p
    let s := if change && decide (old ≠ 0) then s.set PTP.STATUS.GM_CHANGE else s
    let s := if change || decide (p ≠ oldPort) || decide (st = 1 ∨ st = 4) then
        s.modBus (fun b => { b with fresh := true, goodRun := 0, badRun := 0 }) else s
    let s := if st = 1 ∨ st = 4 then (s.wr PTP.STATUS.STATE 2).stop .traceHold else s
    if !s.on PTP.GM_Q.TIME_TRACE then s.traceEnd
    else if s.mayTrace then s.set PTP.STATUS.TRACEABLE else s

/-- PTP_ANNOUNCE (R315, R316): `q` is laid out as PTP.GM_Q; `prio` holds priority1 in bits 31:24, the
variance in 23:8 and priority2 in 7:0; `every` is the announce interval in ms. -/
def execPtpAnnounce (t : Time) (port : Fin 2) (domain : BitVec 8) (gm : BitVec 64) (q prio : BitVec 32)
    (every : BitVec 16) (s : State) : Host.Outcome State Fault Refusal :=
  s.during t (fun s =>
    if !s.on PTP.CTRL.EN || !s.portOn port || decide (domain.toNat ≠ s.rd PTP.CTRL.DOMAIN) then s
    else
      let s := s.modBus (fun b => { b with masters := b.masters.upd port (fun _ =>
        some { gm := gm, q := q, prio := prio, last := s.now, every := every.toNat }) })
      match s.bestPort with
      | none => s
      | some p => s.adopt p)

/-- The RTC is set from PTP while traceable, where the two differ by more than 1 ms (R412). -/
def State.setRtc (s : State) : State :=
  if s.on PTP.STATUS.TRACEABLE && decide (1000000 < ((s.tai : Int) - s.rtc).natAbs) then
    { s with time := { s.time with rtc := s.tai, rtcAt := s.now } }
  else s

/-- PTP_SYNC (R316, R337): a Sync, or the Follow_Up of a two-step master, gives the signed offset of local
time from the master in ns. -/
def execPtpSync (t : Time) (port : Fin 2) (off : BitVec 64) (s : State) : Host.Outcome State Fault Refusal :=
  s.during t (fun s =>
    let st := s.rd PTP.STATUS.STATE
    if !s.on PTP.CTRL.EN || decide (s.rd PTP.STATUS.PORT ≠ port) || decide (st ≠ 2 ∧ st ≠ 3) then s
    else
      let d := off.toInt
      let s := s.setWord PTP.OFFSET.NS.addr (satWord d)
      let step := s.bus.fresh && decide (1000 < d.natAbs)
      let s := if step then s.stepTai ((s.tai : Int) - d).toNat else s
      let s := (s.wr PTP.STATUS.STATE 3).wr CLK.STATUS.PTP_HOLD 0
      let s := s.modBus (fun b => { b with
        fresh := false
        goodRun := if d.natAbs ≤ 250 then satInc 16 b.goodRun else 0
        badRun := if 1000 < d.natAbs then satInc 3 b.badRun else 0 })
      let s := if step then s else s.servoStep d
      let s := if s.mayTrace then s.set PTP.STATUS.TRACEABLE else s
      let s := if 3 ≤ s.bus.badRun then s.traceEnd else s
      s.setRtc)

/-- PTP_PDELAY (R315): an exchange on a port gives its mean peer delay in ns. -/
def execPtpPdelay (t : Time) (port : Fin 2) (ns : BitVec 32) (s : State) : Host.Outcome State Fault Refusal :=
  s.during t (fun s =>
    if s.on PTP.CTRL.EN && s.portOn port then s.setWord (PTP.PDELAY.NS port).addr ns else s)

/-- PTP_ANNOUNCE_TIMEOUT (R316, R338): announces have timed out on every port; where another port still hears its
master, that one is taken (R315). -/
def execPtpAnnounceTimeout (t : Time) (s : State) : Host.Outcome State Fault Refusal :=
  s.during t (fun s =>
    let st := s.rd PTP.STATUS.STATE
    if s.bestPort.isNone && decide (st = 2 ∨ st = 3) then
      ((s.wr PTP.STATUS.STATE 4).start .traceHold).ptpHold
    else match s.bestPort with
      | some p => if p = s.rd PTP.STATUS.PORT then s else s.adopt p
      | none => s)

/-- TRACEABLE_HOLD_EXPIRY (R316): HOLD_T has passed since the timeout. -/
def execTraceableHoldExpiry (t : Time) (s : State) : Host.Outcome State Fault Refusal :=
  s.during t (fun s =>
    if decide (s.rd PTP.STATUS.STATE = 4) && s.due .traceHold (s.rd PTP.CTRL.HOLD_T * sec) then
      (s.stop .traceHold).traceEnd
    else s)

/-! ### Authentication (R325) -/

/-- The keys of a context. -/
def State.ctxKeys (s : State) (i : Nat) : KeySlot :=
  ((s.bus.keys.find? (fun k => decide (k.1 = i))).map (·.2)).getD {}

/-- A received frame passes the authentication its context requires: the tag verifies under the slot its
key id names, the key not expired (R325, R406). -/
def State.frameAuth (s : State) (c : Ctx) (a : Option FrameAuth) : Bool :=
  if !c.auth then true
  else match a with
    | none => false
    | some a =>
      let k := s.ctxKeys c.idx
      [k.cur, k.next].any (fun o => match o with
        | some k => decide (k.id = a.keyId.toNat) && decide (s.tai ≤ k.till)
            && decide (Config.gmac k.bytes a.iv a.data = a.tag)
        | none => false)

/-- A published frame carries the tag of the current slot (R325). -/
def State.tagFrame (s : State) (i : Nat) : State :=
  s.modCtx i (fun c => { c with txKey := if c.auth then (s.ctxKeys i).cur.map (·.id) else none })

/-- A context's addressing matches a frame (R318, R322). -/
def Ctx.matches (c : Ctx) (kind : Nat) (h : NetHdr) : Bool :=
  decide (c.kind = kind) && decide (c.dst = (leVal (beBytes 6 h.dst.toNat))) && decide (c.u 10 2 = h.appid.toNat)
    && (if (c.u 2 1).testBit 1 then decide (h.vlan = some (BitVec.ofNat 16 (c.u 12 2))) else h.vlan.isNone)

/-- A frame that fails authentication is discarded (R325). -/
def State.authDrop (s : State) (i : Nat) : State :=
  (s.modCtx i (fun c => { c with authFails := c.authFails + 1, discarded := c.discarded + 1 })).set
    STR.EVENT.AUTH_FAIL

/-! ### Sampled values (R318 to R320) -/

/-- Sample time in ns TAI before DELAY (R319): the latest second that keeps it within 1 ms of arrival. -/
def svTime (arrival rate cnt : Nat) : Nat :=
  let f := (rneDiv ((cnt * 10 ^ 9 : Nat) : Int) rate).toNat
  let lim := arrival + 1000000
  if lim < f then f else (lim - f) / 10 ^ 9 * 10 ^ 9 + f

/-- A member takes one sample (R319): late and early ones are discarded; a gap of one or two is bridged
by linear interpolation, which the neighbours give; a longer gap puts an invalid sample between. -/
def SvMember.take (m : SvMember) (arrival rate cnt cyc : Nat) (v : BitVec 32) (ok : Bool) :
    SvMember × Bool × Bool :=
  let t : Int := (svTime arrival rate cnt : Int) + m.delay
  if t + 4000000 < arrival then (m, true, false)
  else if (arrival : Int) + 1000000 < t then (m, false, true)
  else
    let x : Samp := { t := t.toNat, v := scaled v.toInt m.scale, ok := ok, cyc := cyc }
    let gap := match m.last with | some l => (cnt + rate - l) % rate | none => 1
    let old := m.samples.takeWhile (fun y => decide (x.t ≤ y.t + 30000000))
    let old := if 3 < gap then
        (match old with
          | y :: _ => { x with t := (x.t + y.t) / 2, ok := false } :: old
          | [] => old)
      else old
    ({ m with samples := x :: old, last := some cnt }, false, false)

/-- One ASDU at its context (R318): accepted, or discarded and counted. -/
def State.svAsdu (s : State) (i : Nat) (c : Ctx) (a : SvAsdu) : State × Bool :=
  let rate := c.u 18 2
  if a.svId = c.name1 ∧ a.confRev.toNat = c.u 14 4 ∧ a.synch = 2 ∧ a.smpCnt.toNat < rate then
    let arrival := s.tai
    let r (m : Nat) (x : SvMember) : SvMember × Bool × Bool :=
      match a.vals[m]? with
      | some (v, q) => x.take arrival rate a.smpCnt.toNat s.cycle v (decide (q = 0))
      | none => (x, false, false)
    let cur := (s.ctx i).getD c
    let rs := (List.range cur.sv.length).map (fun m => r m (cur.sv.getD m {}))
    let s := s.modCtx i (fun c => { c with sv := rs.map (·.1) })
    let s := if rs.any (·.2.1) then s.set STR.EVENT.LATE else s
    (if rs.any (·.2.2) then s.set STR.EVENT.TIME_ERR else s, true)
  else ((s.modCtx i (fun c => { c with discarded := c.discarded + 1, seqErrs := c.seqErrs + 1 })).set
    STR.EVENT.SEQ_ERR, false)

/-- A frame at a subscription it matches (R318 to R320). -/
def State.svAt (s : State) (i : Nat) (h : NetHdr) (asdus : List SvAsdu) : State :=
  match s.ctx i with
  | none => s
  | some c =>
    if !s.frameAuth c h.auth then s.authDrop i
    else
      let r := asdus.foldl (fun (x : State × Bool) a =>
        let y := x.1.svAsdu i c a; (y.1, x.2 || y.2)) (s, false)
      if r.2 then
        (((r.1.modCtx i (fun c => { c with accepted := c.accepted + 1 })).supvOn i).start (.svSup i)).compareNew
          (fun code => isSv code && decide (svCtx code = i))
      else r.1

/-- SV_FRAME (R318, R319): a frame of 1 to 8 ASDUs, good or with a bad FCS. -/
def execSvFrame (t : Time) (h : NetHdr) (good : Bool) (asdus : List SvAsdu) (s : State) : Host.Outcome State Fault Refusal :=
  s.during t (fun s =>
    let (first, s) := s.netTake h good
    if !first || asdus.isEmpty || decide (8 < asdus.length) then s
    else s.each ((s.bus.ctxs.filter (fun c => c.matches 1 h)).map (·.idx)) (fun s i => s.svAt i h asdus))

/-- SV_SUPERVISION_LOSS (R320): no frame was accepted for LOSS_T; a frame in the SCLK cycle of the expiry comes first. -/
def execSvSupervisionLoss (t : Time) (ctx : BitVec 8) (s : State) : Host.Outcome State Fault Refusal :=
  s.during t (fun s =>
    match s.ctx ctx.toNat with
    | some c =>
      let past := (s.startedAt (.svSup ctx.toNat)).any (fun t0 => decide ((t0 + c.u 20 2 * 100 * us) / sclk < s.cycle))
      if c.kind = 1 ∧ past = true then
        (s.stop (.svSup ctx.toNat)).supvOff ctx.toNat
      else s
    | none => s)

/-! ### GOOSE (R322) -/

/-- The enabled devices of the topology that a context carries (R235). -/
def State.devicesOf (s : State) (i : Nat) : List Nat :=
  (List.range 96).filter (fun (d : Nat) => s.on (ISD.DEV.EN d) && decide (s.rd (ISD.DEV.CTX d) = i))

/-- Positions and supervision of a context's devices after a message (R236, R237): all changes first, then
one evaluation. -/
def State.applyPositions (s : State) (i : Nat) (items : List (BitVec 64 × BitVec 16)) : State :=
  let s := s.each (s.devicesOf i) (fun s d =>
    match items[s.rd (ISD.DEV.MEMBER d)]? with
    | some (v, q) => if q = 0 then (s.putPos d (v.toNat % 4)).supvEnd d else s.supvLose d
    | none => s.supvLose d)
  s.topoEval false

/-- A context's devices lose supervision (R236). -/
def State.devicesLost (s : State) (i : Nat) : State :=
  (s.each (s.devicesOf i) State.supvLose).topoEval false

/-- A message at a subscription it matches (R322). -/
def State.gooseAt (s : State) (i : Nat) (h : NetHdr) (m : GooseMsg) : State :=
  match s.ctx i with
  | none => s
  | some c =>
    if !s.frameAuth c h.auth then s.authDrop i
    else if decide (m.gocbRef ≠ c.name1 ∨ m.datSet ≠ c.name2 ∨ m.confRev.toNat ≠ c.u 14 4) || m.ndsCom
        || (decide (m.stNum.toNat < c.stNum) && decide (m.stNum.toNat ≠ 1)) then
      (s.modCtx i (fun c => { c with discarded := c.discarded + 1, seqErrs := c.seqErrs + 1 })).set
        STR.EVENT.SEQ_ERR
    else if m.test || m.sim then
      -- lost for the time allowed to live of this message, whatever else arrives
      let till := s.now + m.ttl.toNat * ms
      (((s.stop (.gooseSup i)).supvOff i).modCtx i (fun c =>
        { c with testTill := some (Nat.max till (c.testTill.getD 0)) })).devicesLost i
    else
      let new := decide (m.stNum.toNat ≠ c.stNum) || decide (c.accepted = 0)
      let items := if new then m.items else c.items
      let s := s.modCtx i (fun c =>
        { c with accepted := c.accepted + 1, stNum := m.stNum.toNat, ttl := m.ttl.toNat, items := items })
      if c.testTill.any (fun t0 => decide (s.now < t0)) then s.devicesLost i
      else ((s.supvOn i).start (.gooseSup i)).applyPositions i items

/-- GOOSE_MESSAGE (R322). -/
def execGooseMessage (t : Time) (h : NetHdr) (good : Bool) (m : GooseMsg) (s : State) : Host.Outcome State Fault Refusal :=
  s.during t (fun s =>
    let (first, s) := s.netTake h good
    if !first then s
    else s.each ((s.bus.ctxs.filter (fun c => c.matches 3 h)).map (·.idx)) (fun s i => s.gooseAt i h m))

/-- GOOSE_SUPERVISION_LOSS (R322): the time allowed to live of the last accepted message has expired. -/
def execGooseSupervisionLoss (t : Time) (ctx : BitVec 8) (s : State) : Host.Outcome State Fault Refusal :=
  s.during t (fun s =>
    match s.ctx ctx.toNat with
    | some c =>
      if c.kind = 3 ∧ s.due (.gooseSup ctx.toNat) (c.ttl * ms) then
        ((s.stop (.gooseSup ctx.toNat)).supvOff ctx.toNat).devicesLost ctx.toNat
      else s
    | none => s)

/-- A message of a publication is sent, and its next repetition timed (R324). -/
def State.gooseSend (s : State) (i : Nat) : State :=
  let s := (s.netSend.start (.gooseRetx i)).tagFrame i
  match s.ctx i with
  | some c => s.modBus (fun b => { b with gooseTx := ((i, c.stNum, c.sqNum) :: b.gooseTx).take 64 })
  | none => s

/-- GOOSE_RETRANSMIT (R324): the interval has passed; the message repeats and the interval doubles up to
T_MAX. -/
def execGooseRetransmit (t : Time) (ctx : BitVec 8) (s : State) : Host.Outcome State Fault Refusal :=
  s.during t (fun s =>
    match s.ctx ctx.toNat with
    | some c =>
      if c.kind = 4 ∧ s.due (.gooseRetx ctx.toNat) (c.every * ms) then
        let next := min (2 * c.every) (c.u 22 2)
        (s.modCtx ctx.toNat (fun c =>
          { c with sqNum := c.sqNum + 1, every := next, ttl := 2 * next })).gooseSend ctx.toNat
      else s
    | none => s)

end Sys2Proof.Machine
end

