-- ==== Sys2Proof/Machine/RegWrite.lean ====
section
/-!
DEFINITION. Reads and writes of the register window (spec/00_scope.md R10 to R14; spec/22_register_index.md
R424 to R430; the registers of every chapter), and the commands that reach it directly.
-/
namespace Sys2Proof.Machine
open Reg

/-! ### Writes that a chapter gives a rule of its own -/

/-- A write of SEQ.PERIOD (R36): outside its range, below the P_min of the active image, or below that of
the standby image while a swap waits, it is not taken. -/
def State.periodWrite (s : State) (v : Word) : State :=
  let x := getField v SEQ.PERIOD.CYCLES
  let low := if s.on SEQ.STATUS.SWAP_PENDING then max s.activeBank.pMin s.standbyBank.pMin
    else if s.activeBank.valid then s.activeBank.pMin else 0
  if x < 2000 ∨ 20000 < x ∨ x < low then s.set SEQ.STATUS.PERIOD_REJECT
  else s.pendReg 0x3000 (BitVec.ofNat 32 x)

/-- A write of CLK.CTRL (R335, R339, R340, R343): a change of input or multiplier starts a relock. -/
def State.clkCtrl (s : State) (o n : Word) : State :=
  let src (w : Word) := getField w CLK.CTRL.SRC
  let relock := decide (src o % 2 ≠ src n % 2) || decide (s.pfdEff ≠ s.rd CLK.STATUS.PFD_EFF)
  if relock then s.loseLock false else s.refreshFofs

/-- PTP is switched on or off (R316, R338). -/
def State.ptpCtrl (s : State) (o n : Word) : State :=
  let a := getField o PTP.CTRL.EN
  let b := getField n PTP.CTRL.EN
  if a = b then s
  else if b = 1 then s.wr PTP.STATUS.STATE 1
  else (((if s.rd PTP.STATUS.STATE = 3 then s.ptpHold else s).wr PTP.STATUS.STATE 0).traceEnd).modBus (fun x => { x with masters := .fill 2 none })

/-- A carrier unit's configuration changed (R127, R147, R195): an enabled unit starts at its valley, a
disabled one drops its outputs. -/
def State.unitCfg (s : State) (n : Nat) (o w : Word) : State :=
  let a := getField o (PWM.CU.CFG.ENABLE n)
  let b := getField w (PWM.CU.CFG.ENABLE n)
  let s := if 1 ≤ n ∧ n ≤ 8 then s.refreshBidir (n - 1) else s
  let s := if a = 0 ∧ b = 1 then s.modUnit n (fun u => { u with org := s.now, slew := 0, slewing := 0 })
    else if a = 1 ∧ b = 0 then s.unitOff n
    else s
  s.showRunning n

/-- The islands a unit's dead time serves (R138). -/
def unitIslands (c : Nat) : List Nat := if c = 0 then List.range 12 else if c = 9 then [12, 13] else []

/-- What follows a write of a word from `o` to `n` at an address, as the chapter of its block says; `took`: some bit of
it was taken. The DT fields go to the islands whenever they are taken (R137), other settings when they change. -/
def State.afterWrite (s : State) (a : Nat) (o n : Word) (took : Bool) : State :=
  if 0x8100 ≤ a ∧ a < 0x8400 ∧ (a - 0x8100) % 0x40 = 0x20 then
    if took then s.each (unitIslands (elem a 0x8100 0x40)) (fun s i => s.sendCfg i [64, 65, 66, 67]) else s
  else if o = n then s
  else if 0x5000 ≤ a ∧ a < 0x5A00 ∧ (a - 0x5000) % 0x40 = 0 then
    let c := elem a 0x5000 0x40
    let s := if getField o (MOD.CH.CFG.ENABLE c) = 0 then s.start (.bgChan c) else s
    (s.bgMonitor c).chanRestart c
  else if a = 0x4000 then
    (if getField o MOD.CTRL.BG_CAL_EN = 0 then s.startAll ((List.range 16).map TimerKey.bgChan) else s)
  else if a = 0x1A000 then
    let s := if getField o MEM.CTRL.SRAM_SCRUB = 0 then s.start .scrubS else s
    if getField o MEM.CTRL.DRAM_SCRUB = 0 then s.start .scrubD else s
  else if a = 0x600C then s.showHold
  else if 0x7100 ≤ a ∧ a < 0x7400 ∧ (a - 0x7100) % 0x40 = 0 then
    let c := elem a 0x7100 0x40
    if 3 ≤ c ∧ c ≤ 10 then s.refreshBidir (c - 3) else s
  else if 0x8100 ≤ a ∧ a < 0x8400 then
    let c := elem a 0x8100 0x40
    if (a - 0x8100) % 0x40 = 0 then s.unitCfg c o n else s
  else if 0x9100 ≤ a ∧ a < 0x9480 then
    let r := (a - 0x9100) % 0x40
    s.sendCfg (elem a 0x9100 0x40) (if r = 0 then [0, 2] else if r = 0x10 then [16, 17] else [])
  else if a = 0x1000 then s.clkCtrl o n
  else if a = CLK.TRIM.PPS.addr then s.refreshFofs
  else if a = 0x14000 then s.netCtrl o n
  else if a = 0x15000 then s.ptpCtrl o n
  else if a = FRT.STATUS.ENV_EXIT.addr then
    (if s.on FRT.STATUS.ENV_EXIT then s else s.putSource 38 false)
  else if a = 0x10000 then s.meterCtrl.refreshSealed
  else if a = 0x10004 ∨ a = 0x10008 then s.refreshSealed
  else if a = 0x11008 then s.pulsesOff
  else if a = 0x1C then (if s.rd SYS.HOLD.ACTIVE = 0 then s.wr SYS.HOLD.LEFT (s.rd SYS.HOLD.TIME) else s)
  else if a = 0x60 ∨ a = 0x64 then
    -- a pad that PINSEL gives to AUX or to the clapper follows that function (R291)
    let d := s.rd SYS.GPIO_DIR.OE &&& (0xFFFF ^^^ s.pwmPads)
    s.wr SYS.GPIO_IN.LEVEL ((s.rd SYS.GPIO_OUT.LEVEL &&& d) ||| (s.rd SYS.GPIO_IN.LEVEL &&& (0xFFFF ^^^ d)))
  else if a = TRP.GOV_STAT.LOCK_GRID.addr ∨ a = TRP.FC.GOV_MASK.addr then s.refreshGov
  else if a = SEC.STATUS.VBAT_LOST.addr then
    { s with nvm := { s.nvm with vbatLost := s.on SEC.STATUS.VBAT_LOST } }
  else s

/-- The commands a register's WO bits give (R12), and the writes of TRP.LATCH. -/
def State.goWrite (s : State) (a : Nat) (v : Word) : State :=
  if a = 0xB00C then s.clearLatches (v &&& ~~~ s.hotBits a).toNat (fun _ => false)
  else if a = 0xB010 then s.clearLatches (((v &&& ~~~ s.hotBits a).toNat % 256) * 2 ^ 32) (fun _ => false)
  else if a = 0xA00C then (if v.getLsbD 8 then s.testGo (v.toNat % 32) else s)
  else if a = 0x10014 then (if v.getLsbD 0 then s.snapGo else s)
  else if a = 0x1000 then (if v.getLsbD 9 then s.alignGo else s)
  else if 0x8100 ≤ a ∧ a < 0x8400 ∧ (a - 0x8100) % 0x40 = 0x18 then
    (if v.getLsbD 0 then s.commitGo (elem a 0x8100 0x40) else s)
  else s

/-! ### One word -/

/-- The bits of a row that a direct write may set: RW and RWS; requester 0's hold limit and the ranks of
requesters 0 and 1 are fixed (R348). -/
def settable (a : Nat) (r : RegRow) : Word :=
  let m := BitVec.ofNat 32 (r.mRw ||| r.mRws)
  if a = 0x2040 then m &&& 0xFFFF0000 else m

/-- A word is written under the access codes and rules of its fields (R12, R13, R424): `v` is written
whole. -/
def State.regWrite (s : State) (a : Nat) (v : Word) : State :=
  match rowOf a with
  | none => s
  | some r =>
    if a = 0x3000 then s.periodWrite v
    else if a = 0x4010 ∨ a = 0x4014 then s.writeSupra (decide (a = 0x4014)) v
    else if 0xD100 ≤ a ∧ a < 0xD300 ∧ (a - 0xD100) % 0x40 = 0 then s.writeFedCfg (elem a 0xD100 0x40) v
    else if 0xD100 ≤ a ∧ a < 0xD300 ∧ (a - 0xD100) % 0x40 = 0x14 then s.writeFix (elem a 0xD100 0x40) v
    else if 0x8100 ≤ a ∧ a < 0x8400 ∧ (a - 0x8100) % 0x40 = 4 then s.writeShadow (elem a 0x8100 0x40) .prd v
    else if 0x8100 ≤ a ∧ a < 0x8400 ∧ (a - 0x8100) % 0x40 = 8 then s.writeShadow (elem a 0x8100 0x40) .cmpa v
    else if 0x8100 ≤ a ∧ a < 0x8400 ∧ (a - 0x8100) % 0x40 = 12 then s.writeShadow (elem a 0x8100 0x40) .cmpb v
    else if a = 0xB00C ∨ a = 0xB010 then s.goWrite a v
    else
      let o := s.word a
      let rw := settable a r
      let w := (o &&& ~~~ rw) ||| (v &&& rw)
      let kept := s.kept a o w &&& rw
      let n := ((o &&& ~~~ rw) ||| (w &&& ~~~ kept) &&& rw ||| (o &&& kept))
        &&& ~~~ (v &&& BitVec.ofNat 32 r.mW1c &&& ~~~ s.hotBits a)
      let s := if r.mRws = 0 then s.setWord a n else s.pendReg a n
      let s := s.afterWrite a o n (decide (kept ≠ rw))
      -- R81, R232, R293, R313, R346, R447: a write of which no bit is taken shows so, whatever its value
      let shut := decide (rw ≠ 0) && decide (kept = rw)
      let s := if (o ^^^ w) &&& kept = 0 && !shut then s
        else match errBit a with | some f => s.set f | none => s
      s.goWrite a v

/-- A write of the bits of a mask (R389): bits outside it keep their value, and give no command. -/
def State.maskWrite (s : State) (a : Nat) (m v : Word) : State :=
  match rowOf a with
  | none => s
  | some r =>
    let once := BitVec.ofNat 32 (r.mW1c ||| r.mWo)
    s.regWrite a ((s.word a &&& ~~~ m &&& ~~~ once) ||| (v &&& m))

/-! ### Reads -/

/-- Registers of 64 bits, by the address of their low word (R11). -/
def isWide (a : Nat) : Bool :=
  a = 0x8 || a = 0x3010 || a = 0x604C || a = 0xE04C || a = 0xF060 || a = 0xB018
    || (0x10040 ≤ a && a < 0x10090 && (a - 0x10040) % 8 = 0)
    || (0x100C0 ≤ a && a < 0x10110 && (a - 0x100C0) % 8 = 0)
    || a = 0x10110 || a = 0x1200C || a = 0x15008 || a = 0x1501C || a = 0x1C020 || a = 0x1D004 || a = 0x1D00C

/-- Key of a snapshot: the path and the address of the low word (R429). -/
def snapKey (path a : Nat) : Nat := path * 2 ^ 20 + a

/-- One word is read on a path: 0 the host port, 1 the cue processor, 2 to 5 external requesters (R11, R12,
R424, R429). -/
def State.regRead (s : State) (path a : Nat) : Word × State :=
  match rowOf a with
  | none => (0, s)
  | some r =>
    let s := s.live a
    let hidden := BitVec.ofNat 32 (r.mWo ||| if path = 1 then 0 else r.mCue)
    if isWide a then
      (s.word a, { s with snap := mapPut (fun _ => none) s.snap (snapKey path a) (some (s.word (a + 4))) })
    else
      match if isWide (a - 4) then mapGet (fun _ => none) s.snap (snapKey path (a - 4)) else none with
      | some w => (w, s)
      | none => (s.word a &&& ~~~ hidden, s)

/-- Consecutive words are read. -/
def State.readWords (s : State) (path : Nat) : Nat → Nat → List Word × State
  | _, 0 => ([], s)
  | a, n + 1 =>
    let (w, s) := s.regRead path a
    let (ws, s) := s.readWords path (a + 4) n
    (w :: ws, s)

/-! ### Commands -/

/-- Counts a refused transaction (R427). -/
def State.accErr (s : State) (f : Field) : State := (s.set f).sat HOST.ACC_ERR.COUNT

/-- The refusal of a transaction by its cases (R427): case 1, 2, 3. -/
def State.accRefuses (s : State) (a n : Nat) (write : Bool) : Option Field :=
  if a % 4 ≠ 0 then some HOST.ACC_ERR.ALIGN
  else if n = 0 ∨ 256 < n ∨ 0x20000 < a + 4 * n then some HOST.ACC_ERR.RANGE
  else if write && s.on HOST.STATUS.KEYED then some HOST.ACC_ERR.KEYED_W
  else none

/-- One word of a direct write, with its log entries (R428, R430, R13): a change as event 0xF001, an
attempt on SEAL bits as event 0xF002. -/
def State.hostWord (s : State) (a : Nat) (v : Word) : State :=
  let o := s.word a
  let sm : Word := match rowOf a with | some r => BitVec.ofNat 32 r.mSeal | none => 0
  let s := if (o ^^^ v) &&& sm = 0 then s
    else s.logIt orHOST (actingRole roO (s.rolesOf 0)) false false evSEAL (tgReg a) o.toNat v.toNat
  let s := s.regWrite a v
  let n := s.word a
  if o = n then s
  else s.logIt orHOST (actingRole roO (s.rolesOf 0)) false false evREGWRITE (tgReg a) o.toNat n.toNat

/-- PERIOD_WRITE (R36): a direct write of SEQ.PERIOD, logged where it changes the shadow (R22). -/
def execPeriodWrite (t : Time) (v : Word) (s : State) : Host.Outcome State Fault Refusal :=
  s.during t (fun s => s.hostWord 0x3000 v)

/-- REGISTER_FIELD_WRITE (R12): a direct write to a register, applied under the access codes and rules of its
fields, and logged where it changes the word (R22). -/
def execRegisterFieldWrite (t : Time) (a : BitVec 17) (v : Word) (s : State) : Host.Outcome State Fault Refusal :=
  s.during t (fun s => if a.toNat % 4 = 0 then s.hostWord a.toNat v else s)

/-- REG_WRITE (R426 to R428): `vs` are the words; `whole` tells that the byte count after the command is
4 + 4k. -/
def execRegWrite (t : Time) (a : Word) (vs : List Word) (whole : Bool) (s : State) : Host.Outcome State Fault Refusal :=
  s.during t (fun s =>
    if s.code < stBOOT then s
    else match s.accRefuses a.toNat (if whole then vs.length else 0) true with
    | some f =>
      (s.accErr f).logIt orHOST (actingRole roO (s.rolesOf 0)) true false evREGWRITE (tgReg a.toNat) 0 (2 ^ f.lo)
    | none => vs.zipIdx.foldl (fun (s : State) p => s.hostWord (a.toNat + 4 * p.2) p.1) s)

/-- REG_READ (R426 to R429): status byte, then the words; `late` are the positions of words the gaffer did
not deliver in time. -/
def execRegRead (t : Time) (a : Word) (n : BitVec 16) (late : List Nat) (s : State) : Host.Outcome State Fault Refusal :=
  s.during t (fun s =>
    if s.code < stBOOT then s
    else match s.accRefuses a.toNat n.toNat false with
    | some f =>
      (s.accErr f).modCue (fun q => { q with hostTx := (1 : Byte) :: List.replicate (4 * n.toNat) 0 })
    | none =>
      let (ws, s) := s.readWords 0 a.toNat n.toNat
      let miss (i : Nat) : Bool := late.contains i
      let out := ws.zipIdx.map (fun (p : Word × Nat) => if miss p.2 then allBits else p.1)
      let lost := ((List.range n.toNat).filter miss).length
      let s := if lost = 0 then s else (s.set HOST.ACC_ERR.LATE).satAdd HOST.ACC_ERR.COUNT lost
      s.modCue (fun q => { q with hostTx := (0 : Byte) :: out.flatMap (fun w => leBytes 4 w.toNat) }))

end Sys2Proof.Machine
end

