-- ==== Sys2Proof/Machine/Memory.lean ====
section
/-!
DEFINITION. The gaffer, the memories and the archive device (spec/17_gaffer_and_memory.md R347 to R362;
spec/01_architecture.md R33).
-/
namespace Sys2Proof.Machine
open Reg

/-- Changes the record of the gaffer and the memories. -/
def State.modMem (s : State) (f : Mem → Mem) : State := { s with mem := f s.mem }

/-! ### DRAM (R358, R359) -/

/-- DRAM bytes: an unlisted byte reads 0. -/
def dramGet (m : SMap Byte) (a : Nat) : Byte := mapGet (fun _ => 0) m a

/-- The word of DRAM at a byte address. -/
def State.dramWord (s : State) (a : Nat) : Word := BitVec.ofNat 32 (leVal (mapGetList (fun _ => 0) s.mem.dram a 4))

/-- A block that a word is written in: a poisoned block is whole again once each of its 16 words was
rewritten (R358). -/
def rewriteBlock (l : List (Nat × Nat)) (a : Nat) : List (Nat × Nat) :=
  (l.map (fun e => if e.1 = a / 64 then (e.1, setBit e.2 (a % 64 / 4) true) else e)).filter
    (fun e => decide (e.2 ≠ 0xFFFF))

/-- A word of DRAM is written. -/
def State.putDram (s : State) (a : Nat) (v : Word) : State :=
  s.modMem (fun m => { m with
    dram := mapPutList (fun _ => 0) m.dram a (leBytes 4 v.toNat), poisoned := rewriteBlock m.poisoned a })

/-- A block is poisoned. -/
def State.isPoisoned (s : State) (block : Nat) : Bool := s.mem.poisoned.any (fun e => decide (e.1 = block))

/-! ### Ranks and pointers (R348, R350) -/

/-- Rank of a requester (R348). -/
def State.rankOf (s : State) (i : Nat) : Nat :=
  if i < 8 then getField (s.word 0x2008) ⟨0x2008, 4 * i, 4⟩ else getField (s.word 0x200C) ⟨0x200C, 4 * (i - 8), 4⟩

/-- The winner among raised requesters: the lowest rank, then the first index at or after that rank's
rotating pointer (R350). -/
def State.arbWinner (s : State) (arb : Nat) (raised : List Nat) : Option Nat :=
  let top := raised.foldl (fun a i => min a (s.rankOf i)) 16
  let p := (s.mem.ptr.getD arb []).getD top 0
  ((List.range 13).map (fun j => (p + j) % 13)).find? (fun i => raised.contains i && decide (s.rankOf i = top))

/-- The pointer of the winner's rank moves on. -/
def State.movePtr (s : State) (arb i : Nat) : State :=
  s.modMem (fun m => { m with ptr := updAt m.ptr arb (fun l => updAt l (s.rankOf i) (fun _ => (i + 1) % 13)) })

/-! ### Decisions of SB and DP (R350, R352, R353) -/

/-- A requester uses an arbiter (R348): every one uses SB, 0; DP, 1, is for those that reach the DRAM port. -/
def usesArb (arb i : Nat) : Bool := decide (arb ≠ 1) || [2, 4, 5, 6, 7, 8, 9, 10, 11].contains i

/-- SCLK cycles of one cycle of an arbiter (R347): a beat of SB, a block of DP. -/
def arbCycle (arb : Nat) : Nat := if arb = 0 then 1 else 4

/-- An SCLK cycle lies in the last 10 % of its frame, which background shares (R352). -/
def State.reserved (s : State) (c : Nat) : Bool :=
  s.seq.ticked && decide (9 * s.seq.period ≤ 10 * (c - s.seq.tickCycle))

/-- The owner that keeps the resource by a lock (R353): on SB only ranks 0 and 1 may lock. -/
def State.busHeld (s : State) (arb c : Nat) (up : List Nat) (lock : Bool) : Option Nat :=
  match s.mem.busOwn.getD arb none with
  | some (i, from') =>
    if lock && decide (from' = c) && up.contains i && (decide (arb ≠ 0) || decide (s.rankOf i ≤ 1)) then some i else none
  | none => none

/-- Background wins a decision by its share (R352): every second one in which it is raised, against all ranks but 0
and 1. -/
def State.bgWins (s : State) (arb c : Nat) (up : List Nat) : Bool :=
  s.reserved c && up.contains 7 && s.mem.bgTurn.getD arb false && up.all (fun i => decide (2 ≤ s.rankOf i))

/-- A decision of SB or DP in SCLK cycle `c` among raised requesters; `lock`: the owner raises LOCK (R350, R352,
R353). -/
def State.busDecide (s : State) (arb c : Nat) (up : List Nat) (lock : Bool) : Option Nat × State :=
  let up := up.filter (usesArb arb)
  let held := s.busHeld arb c up lock
  let win := held.or (if s.bgWins arb c up then some 7 else s.arbWinner arb up)
  let s := match win with
    | some i => if held.isSome then s else s.movePtr arb i
    | none => s
  let turn := if s.reserved c && up.contains 7 then decide (win ≠ some 7) else s.mem.bgTurn.getD arb false
  (win, s.modMem (fun m => { m with
    busOwn := updAt m.busOwn arb (fun _ => win.map (fun i => (i, c + arbCycle arb)))
    bgTurn := updAt m.bgTurn arb (fun _ => turn) }))

/-- Decisions of SB or DP from SCLK cycle `c` on, each with the rivals raised in it, until the requester wins; with no
rival left it is alone. Answers the cycle of the decision it wins. -/
def State.busWin (s : State) (arb i : Nat) : Nat → List (List (Fin 13) × Bool) → Nat × State
  | c, [] => (c, (s.busDecide arb c [i] false).2)
  | c, (up, lock) :: rest =>
    let (win, s) := s.busDecide arb c (i :: up.map (·.val)) lock
    if win = some i then (c, s) else s.busWin arb i (c + arbCycle arb) rest

/-! ### Transfers of the external scene port (R349 to R353) -/

/-- The ESP cycle reached: 4 SCLK cycles each (R347). -/
def State.espCycle (s : State) : Nat := s.cycle / 4

/-- The longest wait of a requester (R355). -/
def State.noteWait (s : State) (i n : Nat) : State :=
  s.wr (GAF.WAIT.MAX i) (max (s.rd (GAF.WAIT.MAX i)) (min 65535 n))

/-- The requester takes its place on the arbiter of its transfer's target, beside the rivals raised there; its wait
counts (R350, R355). -/
def State.busTake (s : State) (arb i : Nat) (rivals : List (List (Fin 13) × Bool)) : State :=
  let (c, s) := s.busWin arb i s.cycle rivals
  s.noteWait i (c - s.cycle)

/-- An external transfer is made (R349): reads of the window, over SB, reads and writes of the exchange window, over DP;
any other ends with an error response. -/
def State.extServe (s : State) (r : ExtReq) (rivals : List (List (Fin 13) × Bool)) : State :=
  let i := 8 + r.req.val
  let a := r.addr.toNat
  let give (s : State) (err : Bool) (w : Word) : State :=
    s.modMem (fun m => { m with ext := some { req := r.req, err := err, data := w } })
  let win := s.rd GAF.EXT_WIN.SIZE * 2 ^ 20
  if a % 4 ≠ 0 then give (s.set GAF.STATUS.EXT_ERR) true 0
  else if r.dram then
    if win ≤ a then give (s.set GAF.STATUS.EXT_ERR) true 0
    else if s.on MEM.STATUS.RETRAIN then s
    else
      let s := s.busTake 1 i rivals
      let d := s.rd GAF.EXT_WIN.BASE * 2 ^ 20 + a
      if r.write then give (s.putDram d r.data) false 0
      else give s (s.isPoisoned (d / 64)) (s.dramWord d)
  else if r.write || decide (0x20000 ≤ a) then give (s.set GAF.STATUS.EXT_ERR) true 0
  else
    let (w, s) := (s.busTake 0 i rivals).regRead (2 + r.req) a
    give s false w

/-- A decision of the EP arbiter takes effect (R350, R351): the owner's cycle is the next one, or with COMPAT
the one after it. -/
def State.extGrant (s : State) (r : ExtReq) (lock : Bool) (rivals : List (List (Fin 13) × Bool)) : State :=
  let i := 8 + r.req.val
  let start := 4 * (s.espCycle + if s.on GAF.CTRL.COMPAT then 2 else 1)
  let since := match s.mem.own with
    | some o => if o.req = i ∧ o.till = start then o.since else start
    | none => start
  let s := match s.mem.raised.find? (fun e => decide (e.1 = i)) with
    | some e => s.noteWait i (s.cycle - e.2)
    | none => s
  let s := s.modMem (fun m => { m with
    own := some { req := i, since := since, till := start + 4, locked := lock }
    raised := m.raised.filter (fun e => decide (e.1 ≠ i)) })
  (s.showOwner).extServe r rivals

/-- EXT_ACCESS (R349 to R353): the transfers whose requests are raised at the start of an ESP cycle. The
winner's transfer is made once it wins the arbiter of its target, SB or DP, against its rivals there. -/
def execExtAccess (t : Time) (reqs : List ExtReq) (arb : ExtArb) (s : State) : Host.Outcome State Fault Refusal :=
  s.duringMem t (fun s =>
    let up := reqs.map (fun r => 8 + r.req.val)
    let next := 4 * (s.espCycle + if s.on GAF.CTRL.COMPAT then 2 else 1)
    let held : Option Nat := match s.mem.own with
    | some o => if o.locked && arb.lock && decide (o.till = next) && up.contains o.req then some o.req else none
    | none => none
    let win := held.or (s.arbWinner 2 up)
    match win, reqs.find? (fun r => decide (some (8 + r.req.val) = win)) with
    | some i, some r =>
      let s := if held.isSome then s else s.movePtr 2 i
      let s := s.modMem (fun m => { m with
        raised := m.raised.filter (fun e => up.contains e.1) ++
          ((up.eraseDups.filter (fun i => !m.raised.any (fun e => decide (e.1 = i)))).map (fun i => (i, s.cycle))) })
      s.extGrant r arb.lock arb.rivals
    | _, _ => (s.modMem (fun m => { m with own := none, raised := [] })).showOwner)

/-- GAFFER_CUTOFF (R354): requester `req` of an arbiter, 0 SB, 1 DP, 2 EP, has owned it for its hold limit;
`locked` tells of a locked sequence. -/
def execGafferCutoff (t : Time) (arb : Fin 3) (req : Fin 13) (locked : Bool) (s : State) : Host.Outcome State Fault Refusal :=
  s.during t (fun s =>
    let may := match arb.val, s.mem.own with
    | 2, some o => decide (o.req = req.val) && decide (o.since + s.rd (GAF.REQ.HOLD req) ≤ s.cycle)
    | 2, none => false
    | _, _ => true
    if may then
      let s := s.setAt GAF.CUT.REQ req
      -- a transfer in progress ends with an abort
      let s := if arb = 2 then (s.modMem (fun m => { m with
          own := none, ext := some { req := req.val - 8, err := true, data := 0 } })).showOwner
        else s
      let s := if locked && (decide (arb.val ≠ 0) || decide (s.rankOf req ≤ 1)) then s.set GAF.STATUS.LOCK_BREAK else s
      s.detect 0x20 req rcReport
    else s)

/-- GAFFER_STARVATION (R355): requester `req` has waited `wait` SCLK cycles without a grant. -/
def execGafferStarvation (t : Time) (req : Fin 13) (wait : BitVec 32) (s : State) : Host.Outcome State Fault Refusal :=
  s.during t (fun s =>
    let s := s.noteWait req wait.toNat
    let lim := s.rd (GAF.REQ.STARVE_LIM req)
    if lim ≠ 0 ∧ 64 * lim ≤ wait.toNat then (s.setAt GAF.STARVE.REQ req).detect 0x21 req rcReport else s)

/-! ### Memories (R356 to R358) -/

/-- DRAM_RETRAIN (R356): retraining starts when the block in progress has ended. -/
def execDramRetrain (t : Time) (s : State) : Host.Outcome State Fault Refusal :=
  s.during t (fun s => (s.set MEM.STATUS.RETRAIN).start .drTrain)

/-- DRAM_RETRAIN_DONE (R356): DP grants again. -/
def execDramRetrainDone (t : Time) (s : State) : Host.Outcome State Fault Refusal :=
  s.during t (fun s => (s.wr MEM.STATUS.RETRAIN 0).stop .drTrain)

/-- SRAM_UNCORRECTABLE (R357): a double-bit error at a byte address. -/
def execSramUncorrectable (t : Time) (a : Word) (s : State) : Host.Outcome State Fault Refusal :=
  s.during t (fun s =>
    let s := ((s.set MEM.STATUS.SRAM_UE).sat MEM.SRAM_CNT.UE).setWord MEM.SRAM_ERR.VALUE.addr a
    s.detect 0x02 noDetail rcReport)

/-- DRAM_BLOCK_POISONED (R358): three re-reads of a block failed. -/
def execDramBlockPoisoned (t : Time) (block : BitVec 27) (s : State) : Host.Outcome State Fault Refusal :=
  s.during t (fun s =>
    let b := block.toNat
    let s := ((s.set MEM.STATUS.DRAM_UE).sat MEM.DRAM_CNT.UE).wr MEM.DRAM_ERR.VALUE b
    let s := if s.isPoisoned b then s else s.modMem (fun m => { m with poisoned := (b, 0) :: m.poisoned })
    s.detect 0x04 noDetail rcReport)

/-- `n` masked detections of a class (R414, R419). -/
def State.countMasked (s : State) (c n : Nat) : State := s.satAdd (FLT.CLASS_CNT.COUNT c) n

/-- SCRUB_PASS (R33, R357, R358): a pass of SRAM or DRAM ends after `ce` corrected errors and `again` good
re-reads; with `done` false its period has passed without an end. -/
def execScrubPass (t : Time) (dram done : Bool) (ce again : BitVec 16) (s : State) : Host.Outcome State Fault Refusal :=
  s.during t (fun s =>
    let k := if dram then TimerKey.scrubD else TimerKey.scrubS
    let on := s.on (if dram then MEM.CTRL.DRAM_SCRUB else MEM.CTRL.SRAM_SCRUB)
    let n := ce.toNat
    let m := again.toNat
    if !on then s
    else if done then
      let s := s.start k
      if dram then
        let s := (((s.inc MEM.SCRUB.DRAM_PASS).satAdd MEM.DRAM_CNT.CE n).satAdd MEM.DRAM_REREAD.VALUE m).countMasked
          0x03 (n + m)
        if n + m = 0 then s else s.set MEM.STATUS.DRAM_CE
      else
        let s := ((s.inc MEM.SCRUB.SRAM_PASS).satAdd MEM.SRAM_CNT.CE n).countMasked 0x01 n
        if n = 0 then s else s.set MEM.STATUS.SRAM_CE
    else if s.due k (if dram then 900 * sec else 60 * sec) then
      ((s.start k).set MEM.STATUS.SCRUB_LATE).detect 0x1B noDetail rcReport
    else s)

/-- The periods of R33 of an activity that is on: 0 scrub, 1 calibration of the delay lines and the on-module channels,
2 archive, 3 dailies. The scan of the point table, 4, runs within the ticks. -/
def State.bgPeriods (s : State) : Nat → List (TimerKey × Nat)
  | 0 => (if s.on MEM.CTRL.SRAM_SCRUB then [(.scrubS, 60 * sec)] else [])
      ++ (if s.on MEM.CTRL.DRAM_SCRUB then [(.scrubD, 900 * sec)] else [])
  | 1 => (List.range 21).map (fun n => (.bgLine n, sec))
      ++ (if s.on MOD.CTRL.BG_CAL_EN then
          ((List.range 16).filter (fun n => s.on (MOD.CH.CFG.ENABLE n))).map (fun n => (.bgChan n, 10 * sec)) else [])
  | 2 => if s.on MEM.STATUS.EMMC_ABSENT then [] else [(.bgWear, sec), (.bgSpill, sec)]
  | 3 => [(.bgDigest 0, sec), (.bgDigest 1, 60 * sec), (.bgDigest 2, 86400 * sec)]
  | _ => []

/-- The activities of a kind whose period has passed since they last completed (R33). -/
def State.bgLate (s : State) (which : Nat) : List TimerKey :=
  ((s.bgPeriods which).filter (fun p => s.due p.1 p.2)).map (·.1)

/-- The flag of R33 of a kind of activity. -/
def State.lateFlag (s : State) (which : Nat) : State :=
  if which = 0 then s.set MEM.STATUS.SCRUB_LATE else if which = 1 then s.set PWM.STATUS.CAL_LATE
  else if which = 2 then s.set MEM.STATUS.ARCHIVE_LATE else if which = 3 then s.set REL.STATUS.DAILIES_LATE
  else s.modMem (fun m => { m with scanLate := true })

/-- BACKGROUND_PERIOD_MISSED (R33): an activity misses its period: 0 scrub, 1 calibration, 2 archive, 3
dailies, 4 point-table scan of a table that is not empty. Its next period begins. -/
def execBackgroundPeriodMissed (t : Time) (which : Fin 5) (s : State) : Host.Outcome State Fault Refusal :=
  s.during t (fun s =>
    let late := s.bgLate which
    if late.isEmpty && (decide (which ≠ 4) || s.bus.points.isEmpty) then s
    else ((s.startAll late).lateFlag which).detect 0x1B noDetail rcReport)

/-! ### Archive device (R360 to R362) -/

/-- MEM.EMMC_STAT.SPARE and SPARE_LOW follow the spare pool (R361). -/
def State.refreshSpare (s : State) : State :=
  let low := decide (s.mem.spare * 10 < s.mem.pool)
  let was := s.on MEM.STATUS.SPARE_LOW
  let s := (s.wr MEM.EMMC_STAT.SPARE (s.mem.spare / 256)).wrB MEM.STATUS.SPARE_LOW low
  if low && !was then s.detect 0x23 noDetail rcReport else s

/-- EMMC_BLOCK_WRITE (R361): a block is written, `fails` of its read-backs fail: each of up to three brings a
rewrite and a remap; a fourth loses the block. -/
def execEmmcBlockWrite (t : Time) (fails : Fin 5) (s : State) : Host.Outcome State Fault Refusal :=
  s.during t (fun s =>
    let n := min 3 fails.val
    if s.on MEM.STATUS.EMMC_ABSENT then s
    else
      let s := ((s.satAdd MEM.EMMC_CNT.REWRITE n).satAdd MEM.EMMC_CNT.REMAP n).modMem
        (fun m => { m with spare := m.spare - n })
      let s := s.refreshSpare
      if 4 ≤ fails.val then s.detect 0x23 noDetail rcReport else s)

/-- WEAR_MANAGEMENT_PASS (R362): the erase counts of `groups` groups add up to `erases`. -/
def execWearManagementPass (t : Time) (erases groups : BitVec 32) (s : State) : Host.Outcome State Fault Refusal :=
  s.during t (fun s =>
    if s.on MEM.STATUS.EMMC_ABSENT then s
    else
      let s := s.start .bgWear
      let pe := s.rd MEM.EMMC_CFG.PE_RATED * 100 * Nat.max 1 groups.toNat
      let e := 100 * (pe - erases.toNat) / Nat.max 1 pe
      let low := decide (e < s.rd MEM.EMMC_CFG.WEAR_THR)
      let was := s.on MEM.STATUS.WEAR_LOW
      let s := (s.wr MEM.EMMC_STAT.ENDUR e).wrB MEM.STATUS.WEAR_LOW low
      if low && !was then s.detect 0x23 noDetail rcReport else s)

end Sys2Proof.Machine
end

