-- ==== Sys2Proof/Machine/Points.lean ====
section
/-!
DEFINITION. The point table: values, quality, change detection and GOOSE publication
(spec/15_process_bus.md R324, R330, R331; spec/01_architecture.md R35).
-/
namespace Sys2Proof.Machine
open Reg

/-! ### Values (R330) -/

/-- Little-endian field of a point record. -/
def Point.u (p : Point) (off n : Nat) : Nat := leAt p.record off n

/-- THD of one interval's groups, Q15.16 (R308). -/
def PqRes.thd (r : PqRes) : Word :=
  let g := r.g.map (fun w => w.toNat)
  let sq := ((g.drop 2).take 39).foldl (fun a x => a + x ^ 2) 0
  if g.getD 1 0 = 0 then Config.thdIdle sq else satWord (rneSqrt (sq * 2 ^ 32) ((g.getD 1 0) ^ 2))

/-- A PQ item by its point address (R330). -/
def State.pqItem (s : State) (a : Nat) : Word :=
  let i := a % 256
  let ch := a / 256 % 16
  let r := ((s.mtr.pqCh.get ch {}).res).getD (a / 4096 % 4) {}
  if i = 0 then r.rms else if i = 1 then r.thd
  else if i ≤ 102 then r.g.getD (i - 2) 0 else r.ig.getD (i - 103) 0

/-- The raw value of a point. -/
def State.pointRaw (s : State) (p : Point) : Dy :=
  let a := p.u 0 4
  let kind := p.u 4 1
  if kind = 1 then f32Val (s.sw a)
  else if kind = 2 then ⟨(s.pqItem a).toInt, -16⟩
  else
    let s := (s.live a).live (a + 4)
    let w := (s.word a).toNat + (s.word (a + 4)).toNat * 2 ^ 32
    let n := p.u 6 1
    let v := (w >>> p.u 5 1) % 2 ^ n
    ⟨if (p.u 7 1).testBit 0 && v.testBit (n - 1) then (v : Int) - 2 ^ n else v, 0⟩

/-- The value of a point: raw × scale + offset. -/
def State.pointValue (s : State) (p : Point) : Dy :=
  dyAdd (dyMul (s.pointRaw p) (f32Val (BitVec.ofNat 32 (p.u 8 4)))) (f32Val (BitVec.ofNat 32 (p.u 12 4)))

/-- The scene that runs is a test scene (R331, R52). -/
def State.testScene (s : State) : Bool :=
  (s.activeBank.scenes.getD (s.rd SEQ.MODE.ACTIVE) {}).flags.testBit 0

/-- Quality of a point (R331): 0 good, 1 invalid, 2 questionable and inconsistent; plus 4 in the test
scene. -/
def State.pointQuality (s : State) (p : Point) : Nat :=
  let q := p.u 24 2
  let base :=
    if q < 64 then
      let k := s.rd (STR.Q.CFG.KIND q)
      if !s.qSourceOk k (s.rd (STR.Q.CFG.PRI q)) && !s.qSourceOk k (s.rd (STR.Q.CFG.XCK q)) then 1
      else if s.on (STR.Q.STAT.DISAGREE q) then 2 else 0
    else if 0x100 ≤ q ∧ q < 0x128 then (if s.on (MOD.CH.STATUS.VALID_C (q - 0x100)) then 0 else 1)
    else 0
  base + if s.testScene then 4 else 0

/-- A value differs from another by more than the deadband of a point (R331). -/
def Point.moved (p : Point) (v old : Dy) : Bool :=
  let d := dyAdd v (dyNeg old)
  dyLt (f32Val (BitVec.ofNat 32 (p.u 16 4))) ⟨d.m.natAbs, d.e⟩

/-! ### Change detection (R35, R331) -/

/-- TimeAccuracy: the largest N with 2^−N s at least the frame period (R331). -/
def State.timeAccuracy (s : State) : Nat := Nat.log2 (400000000 / Nat.max 1 (s.rdE SEQ.PERIOD.CYCLES))

/-- One point is compared with its last report. -/
def State.scanPoint (s : State) (i : Nat) : State :=
  match s.bus.points[i]? with
  | none => s
  | some p =>
    let v := s.pointValue p
    let q := s.pointQuality p
    if p.moved v p.val || decide (q ≠ p.q) then
      let t := s.rd64 SEQ.SLATE_TIME.TAI_NS
      let r : Report := { handle := p.u 20 4, val := v, quality := q, time := t, accuracy := s.timeAccuracy,
                          synced := s.on PTP.STATUS.TRACEABLE }
      s.modBus (fun b => { b with
        points := updAt b.points i (fun p => { p with val := v, q := q, time := t })
        reports := (r :: b.reports).take 65536
        bufOvfl := b.bufOvfl || decide (65536 ≤ b.reports.length) })
    else s

/-- The 256 points of a frame (R35). -/
def State.scanTick (s : State) : State :=
  let n := s.bus.points.length
  if n = 0 then s
  else
    let a := s.bus.scanAt
    let s := s.each ((List.range (min 256 n)).map (fun i => (a + i) % n)) State.scanPoint
    s.modBus (fun b => { b with scanAt := (a + min 256 n) % n })

/-! ### GOOSE publication (R324) -/

/-- The dataset of a publication: the points of its members. -/
def State.dataset (s : State) (c : Ctx) : List Point :=
  (List.range (c.u 3 1)).map (fun m => (s.bus.points[c.member 4 m 0 4]?).getD { record := [] })

/-- One publication at a tick: a change found gives a new stNum and its first message. -/
def State.gooseTick1 (s : State) (i : Nat) : State :=
  match s.ctx i with
  | none => s
  | some c =>
    let ps := s.dataset c
    let now := ps.map (fun p => (s.pointValue p, s.pointQuality p))
    let same := decide (c.sent.length = now.length) && (ps.zip (now.zip c.sent)).all (fun x =>
      !x.1.moved x.2.1.1 x.2.2.1 && decide (x.2.1.2 = x.2.2.2))
    if same && decide (0 < c.stNum) then s
    else
      let tmin := c.u 20 2
      (s.modCtx i (fun c => { c with
        stNum := if c.stNum + 1 < 2 ^ 32 then c.stNum + 1 else 1, sqNum := 0, every := tmin, ttl := 2 * tmin, sent := now })).gooseSend i

/-- The GOOSE publications at a tick. -/
def State.gooseTick (s : State) : State :=
  s.each ((s.bus.ctxs.filter (fun c => decide (c.kind = 4))).map (·.idx)) State.gooseTick1

end Sys2Proof.Machine
end

