-- ==== Sys2Proof/Machine/Reels.lean ====
section
/-!
DEFINITION. Reels, disturbance records and dailies (spec/18_reels_and_dailies.md R363 to R374).
-/
namespace Sys2Proof.Machine
open Reg

/-- Changes the history record. -/
def State.modHist (s : State) (f : Hist → Hist) : State := { s with hist := f s.hist }

/-! ### Nodes (R363, R364) -/

/-- The values of a row: an invalid node shows its last valid value (R364). -/
def State.nodeRow (s : State) (r : Nat) : List Word × Bool :=
  let x := s.reel r
  let l := if s.on (REL.CFG.KIND r) then [] else match x.held with
    | some (c, l) => if c = s.cycle then l else x.taps.map s.nodeValue
    | none => x.taps.map s.nodeValue
  (l.zipIdx.map (fun (p : (Word × Bool) × Nat) => if p.1.2 then p.1.1 else x.last.getD p.2 0),
    l.any (fun p => !p.2))

/-! ### Sizes and rates (R366, R368) -/

/-- Bytes of one row. -/
def rowBytes (nodes : Nat) : Nat := 8 + 4 * nodes

/-- Bytes of a record. -/
def Record.size (x : Record) : Nat :=
  256 + if x.cfg.getLsbD 24 then 16 * x.events.length else x.rows.length * rowBytes x.taps.length

/-- Row period of a reel in SCLK cycles (R364): 80 ns is 32 of them. -/
def State.rowPeriod (s : State) (r : Nat) : Nat :=
  s.rd (REL.CFG.DECIM r) * (if s.on (REL.CFG.CLK r) then s.seq.period else 32)

/-- Write rate of a reel in bytes per second (R366). -/
def State.writeRate (s : State) (r : Nat) : Nat :=
  if s.on (REL.CFG.KIND r) then
    ((s.reel r).taps.map (fun w =>
      let n := w % 16
      32 * sec / Nat.max 1 (2 * s.halfPeriod (s.legCarrier n).1))).foldl (· + ·) 0
  else rowBytes (s.reel r).taps.length * 400000000 / Nat.max 1 (s.rowPeriod r)

/-- REL.STATUS.ARMED and REL.LOAD follow the armed reels. -/
def State.showReels (s : State) : State :=
  let on := (List.range 16).filter s.reelArmed
  let load := (on.map s.writeRate).foldl (· + ·) 0
  (s.wr REL.STATUS.ARMED (on.foldl (fun m r => m ||| 2 ^ r) 0)).wr REL.LOAD.VALUE (load / 1000000)

/-- The bytes of a full record of a reel (R368). -/
def State.fullRecord (s : State) (r : Nat) : Nat :=
  let rows := s.rd (REL.PRE.VALUE r) + 1 + s.rd (REL.POST.VALUE r)
  256 + if s.on (REL.CFG.KIND r) then
      -- the entries its write rate makes in that time
      s.writeRate r * rows * s.rowPeriod r / 400000000
    else rows * rowBytes (s.reel r).taps.length

/-- The bytes of the area of a reel. -/
def State.areaBytes (s : State) (r : Nat) : Nat := s.rd (REL.AREA.SIZE r) * 2 ^ 20

/-- State of a reel. -/
def State.reelTo (s : State) (r code : Nat) : State := (s.wr (REL.STATUS.STATE r) code).showReels

/-! ### Triggers (R369) -/

/-- The level test of a row: whether the condition fires, and whether it is armed afterwards. -/
def levelTest (down armed : Bool) (lvl hyst v : Dy) : Bool × Bool :=
  let (x, l) := if down then (dyNeg v, dyNeg lvl) else (v, lvl)
  if armed && !dyLt x l then (true, false)
  else (false, armed || (dyLt x l && !dyLt (dyAdd l (dyNeg hyst)) x))

/-- A value is zero. -/
def f32IsZero (w : Word) : Bool := decide ((f32Val w).m = 0)

/-- The triggers that fire in a row, as bits of TRIG.EN, and the reel with its conditions taken. -/
def State.reelFires (s : State) (r : Nat) (vals : List Word) : Nat × Reel :=
  let x := s.reel r
  let n := s.rd (REL.TRIG.NODE r)
  let down := s.on (REL.TRIG.DIR r)
  let en := s.rd (REL.TRIG.EN r)
  let v := vals.getD n 0
  let held := decide (n < vals.length)
  let (lv, armed) := levelTest down x.lvl (f32Val (s.word (REL.LEVEL.VALUE r).addr))
    (f32Val (s.word (REL.HYST.VALUE r).addr)) (f32Val v)
  let old := f32IsZero (x.last.getD n 0)
  let edge := decide (n < x.last.length) && (if down then !old && f32IsZero v else old && !f32IsZero v)
  let cue := x.cueReq.any (fun c => decide (c < s.cycle))
  let c := b2n (held && lv) + 2 * b2n (held && edge) + 4 * b2n x.fault + 8 * b2n cue
  (c &&& en, { x with
    lvl := held && armed, fault := false, cueReq := if cue then none else x.cueReq, last := vals })

/-! ### Records (R368, R370) -/

/-- Discards the oldest records until the others and a new one fit; none where one that is read or exported
would go. -/
def makeRoom (area need : Nat) : List Record → Option (List Record)
  | [] => some []
  | x :: xs =>
    if ((x :: xs).map Record.size).foldl (· + ·) 0 + need ≤ area then some (x :: xs)
    else if x.reading.isSome || x.exporting then none
    else makeRoom area need xs

/-- The record in progress of a reel. -/
def State.recordOf (s : State) (r : Nat) : Record :=
  let x := s.reel r
  let p := s.rowPeriod r * sclk
  let rows := x.rows.reverse
  let lo := (rows.head?.map (·.at')).getD 0
  let hi := (x.rows.head?.map (·.at')).getD 0
  { reel := r, taps := x.taps, cfg := s.word (REL.CFG.DECIM r).addr, trigTime := x.trigTime,
    trigRow := x.trigRow, cause := s.rd (REL.STATUS.CAUSE r), short := x.short, period := s.rowPeriod r,
    rows := rows,
    events := (x.events.reverse.filter (fun e => decide (lo < e.1 + p) && decide (e.1 ≤ hi))).map (·.2) }

/-- A reel begins filling its pre rows (R370). -/
def State.reelFill (s : State) (r : Nat) : State :=
  let hi := ((s.reel r).rows.head?.map (·.at')).getD 0
  (s.modReel r (fun x => { x with
    rows := [], left := 0, ended := false, waits := false, lvl := false, cueReq := none, fault := false,
    events := x.events.filter (fun e => decide (hi < e.1)) })).reelTo r
    (if s.rd (REL.PRE.VALUE r) = 0 then 3 else 2)

/-- A record that ended is handed to the export (R371, R372): up to four wait. -/
def State.toExport (s : State) (x : Record) : State :=
  if s.hist.exports.length < 4 then s.modHist (fun h => { h with exports := h.exports ++ [x] })
  else s.set REL.STATUS.REC_LOST

/-- A record ends and is stored (R370). -/
def State.recordEnd (s : State) (r : Nat) : State :=
  let x := s.reel r
  if !x.ended then s
  else
    let rec' := s.recordOf r
    let out := s.on (REL.CFG.REC r)
    let used := (x.records.map Record.size).foldl (· + ·) 0
    let stop (s : State) (waits : Bool) : State :=
      ((s.modReel r (fun x => { x with ended := false, waits := waits, rows := [] })).set (REL.STATUS.FULL r)).reelTo r 5
    let keep (s : State) (l : List Record) : State :=
      let exp := out && decide (s.hist.exports.length < 4) && !s.on MEM.STATUS.EMMC_ABSENT
      let s := (s.modReel r (fun x => { x with records := l ++ [{ rec' with exporting := exp }] })).inc (REL.STATUS.RECORDS r)
      let s := if out then s.toExport rec' else s
      if s.on (REL.CFG.SINGLE r) || x.disarm then
        (s.modReel r (fun x => { x with ended := false, disarm := false, rows := [] })).reelTo r 1
      else s.reelFill r
    if used + rec'.size ≤ s.areaBytes r then keep s x.records
    else if s.on (REL.CFG.OVERWRITE r) then
      match makeRoom (s.areaBytes r) rec'.size x.records with
      | some l => keep s l
      | none => stop s true
    else stop s false

/-- REEL_RECORD_END (R370). -/
def execReelRecordEnd (t : Time) (r : Fin 16) (s : State) : Host.Outcome State Fault Refusal :=
  s.during t (fun s => s.recordEnd r)

/-! ### Rows (R364 to R369) -/

/-- The flags of a row at the row instant. -/
def State.rowFlags (s : State) (r : Nat) (heldNode : Bool) (mism : Nat) : Nat :=
  let clk := s.on (REL.CFG.CLK r)
  b2n (clk && s.seq.wasOverran) + 2 * b2n (clk && s.seq.wasLate)
    + 4 * b2n (decide (mism ≠ (s.reel r).mism)) + 8 * b2n s.band.fault + 16 * b2n heldNode
    + 32 * b2n (s.reel r).gap

/-- Datapath mismatches counted so far (R46, R122). -/
def State.mismatches (s : State) : Nat := s.rd (FLT.CLASS_CNT.COUNT 5) + s.rd (FLT.CLASS_CNT.COUNT 6)

/-- A row in the post rows (R369). -/
def State.postRow (s : State) (r : Nat) (row : Row) (c : Nat) : State :=
  let x := s.reel r
  let again := decide (c ≠ 0) && s.on (REL.CFG.RETRIG r)
  let s := if c = 0 then s
    else if again then s.wr (REL.STATUS.CAUSE r) (s.rd (REL.STATUS.CAUSE r) ||| c)
    else s.set (REL.STATUS.IGNORED r)
  let left := if again then s.rd (REL.POST.VALUE r) else x.left - 1
  let rows := row :: x.rows
  let full := !s.on (REL.CFG.KIND r) && decide (s.areaBytes r < 256 + (rows.length + 1) * rowBytes x.taps.length)
  s.modReel r (fun x => { x with rows := rows, left := left, ended := decide (left = 0) || full })

/-- The row that fires starts a record (R368, R369). -/
def State.triggerRow (s : State) (r : Nat) (row : Row) (c : Nat) : State :=
  let x := s.reel r
  let pre := s.rd (REL.PRE.VALUE r)
  let short := decide (x.rows.length < pre)
  let post := s.rd (REL.POST.VALUE r)
  let s := (s.wr (REL.STATUS.CAUSE r) c).modReel r (fun x => { x with
    rows := row :: x.rows.take pre, trigTime := s.tai, trigRow := row.no, short := short, left := post,
    ended := decide (post = 0) })
  (if short then s.set (REL.STATUS.PRE_SHORT r) else s).reelTo r 4

/-- A row of the pre window. -/
def State.preRow (s : State) (r : Nat) (row : Row) : State :=
  let pre := s.rd (REL.PRE.VALUE r)
  let rows := (row :: (s.reel r).rows).take pre
  let lo := (rows.getLast?.map (·.at')).getD row.at'
  let p := s.rowPeriod r * sclk
  (s.modReel r (fun x => { x with
    rows := rows, events := x.events.filter (fun e => decide (lo < e.1 + p)) })).reelTo r
    (if pre ≤ rows.length then 3 else 2)

/-- A row instant of an armed reel: a row is taken, or dropped where the buffer is full (R366), with the event
entries of its interval, and triggers are tested. -/
def State.reelRow (s : State) (r : Nat) (drop : Bool) : State :=
  let no := (s.reel r).rowNo
  let s := s.modReel r (fun x => { x with rowNo := (x.rowNo + 1) % 2 ^ 32 })
  if drop then
    let p := s.rowPeriod r * sclk
    (s.set (REL.STATUS.DROP r)).modReel r (fun x => { x with
      gap := true, events := x.events.filter (fun e => decide (e.1 + p ≤ s.now)) })
  else
    let (vals, heldNode) := s.nodeRow r
    let m := s.mismatches
    let row : Row := { no := no, at' := s.now, flags := s.rowFlags r heldNode m, vals := vals }
    let (c, x) := s.reelFires r vals
    let s := s.modReel r (fun _ => { x with gap := false, mism := m })
    if s.rd (REL.STATUS.STATE r) = 4 then s.postRow r row c
    else if c = 0 then s.preRow r row
    else s.triggerRow r row c

/-- The row instant that lies in this SCLK cycle (R364): with CLK 0 a strobe of the 80 ns grid, by its instant; with
CLK 1 the tick, by its frame. DECIM strobes or ticks lie between two rows; the first row after arming takes the
first. -/
def State.rowInstant (s : State) (r : Nat) : Option Nat :=
  let x := s.reel r
  let n := s.rd (REL.CFG.DECIM r)
  if s.on (REL.CFG.CLK r) then
    let f := s.rd SEQ.FRAMECNT.COUNT
    let due := x.rowRef.all (fun last => decide (n ≤ (f + 2 ^ 32 - last) % 2 ^ 32))
    if s.seq.ticked && decide (s.seq.tickCycle = s.cycle) && due then some f else none
  else
    let c := s.cycle * sclk
    let d := (((s.clk.strobe : Int) - c).emod 2048).toNat
    let due := x.rowRef.all (fun last => decide (last + n * 2048 ≤ c + d))
    if decide (d < sclk) && due then some (c + d) else none

/-- REEL_ROW (R364, R366, R369): a row instant of an armed reel; `drop` tells that the writer's buffer is full. -/
def execReelRow (t : Time) (r : Fin 16) (drop : Bool) (s : State) : Host.Outcome State Fault Refusal :=
  s.during t (fun s =>
    match s.rowInstant r with
    | none => s
    | some i =>
      let s := s.recordEnd r
      if s.reelArmed r then (s.modReel r (fun x => { x with rowRef := some i })).reelRow r drop else s)

/-! ### Disturbance records (R371, R372) -/

/-- The image of a record in its area (R364, R365, R368). -/
def Record.image (x : Record) : List Byte :=
  let head := ((Config.reelHeader ([x.reel] ++ x.taps ++ [x.trigTime, x.trigRow, x.cause, b2n x.short, x.period]))
    ++ List.replicate 256 0).take 256
  head ++ (if x.cfg.getLsbD 24 then x.events.flatten
    else x.rows.flatMap (fun w => leBytes 4 w.no ++ leBytes 4 w.flags ++ w.vals.flatMap (fun v => leBytes 4 v.toNat)))

/-- The record of a reel that an exported or read record is. -/
def Record.same (x y : Record) : Bool := decide (x.reel = y.reel ∧ x.trigRow = y.trigRow ∧ x.trigTime = y.trigTime)

/-- A stopped reel rearms once no record of it is read or exported (R370). -/
def State.rearmWaiting (s : State) (r : Nat) : State :=
  let x := s.reel r
  if x.waits && !x.records.any (fun y => y.reading.isSome || y.exporting) then
    (s.wr (REL.STATUS.FULL r) 0).reelFill r
  else s

/-- Bytes of the Records area: what the areas of R360 leave of the capacity. -/
def State.recordsArea (s : State) : Nat :=
  let mib := s.mem.cap * 1024
  (mib - mib * 3 / 100 - 2448) * 2 ^ 20

/-- Discards the oldest files until the rest fits the Records area (R372). -/
def fitFiles (area : Nat) : List (Nat × Nat × List Byte) → List (Nat × Nat × List Byte)
  | [] => []
  | f :: fs => if ((f :: fs).map (fun x => x.2.2.length)).foldl (· + ·) 0 ≤ area then f :: fs else fitFiles area fs

/-- RECORD_EXPORTED (R371, R372): the oldest waiting record reaches the archive as a file. -/
def execRecordExported (t : Time) (s : State) : Host.Outcome State Fault Refusal :=
  s.during t (fun s =>
    match s.hist.exports with
    | [] => s
    | x :: rest =>
      if s.on MEM.STATUS.EMMC_ABSENT then s
      else
        let n := (s.nvm.recLast + 1) % 2 ^ 32
        -- the announced UTC offset and leap flags, which no register holds
        let (utc, s) := s.draw
        let f := Config.cffFile x.image s.bus.model [s.rd PTP.STATUS.TRACEABLE, utc.toNat]
        let s := s.modHist (fun h => { h with
          exports := rest, files := fitFiles s.recordsArea (h.files ++ [(n, x.trigTime, f)]) })
        let s := ({ s with nvm := { s.nvm with recLast := n } }).wr REL.REC.VALUE n
        let s := s.modReel x.reel (fun y => { y with
          records := y.records.map (fun z => if z.same x then { z with exporting := false } else z) })
        s.rearmWaiting x.reel)

/-- RECORD_READ_TIMEOUT (R391): records whose last read is 10 s back are no longer protected. -/
def execRecordReadTimeout (t : Time) (s : State) : Host.Outcome State Fault Refusal :=
  s.during t (fun s =>
    let lapse (x : Record) : Record := match x.reading with
    | some t0 => if t0 + 10 * sec ≤ s.now then { x with reading := none } else x
    | none => x
    s.each (List.range 16) (fun s r =>
    (s.modReel r (fun x => { x with records := x.records.map lapse })).rearmWaiting r))

/-! ### Dailies (R373, R374) -/

/-- One sample joins the digest of a point: of quality invalid it is only counted. -/
def PointSum.take (p : PointSum) (v : Dy) (q : Nat) : PointSum :=
  if q % 4 = 1 then { p with bad := p.bad + 1 }
  else if p.n = 0 then { p with n := 1, lo := v, hi := v, sum := v }
  else { p with n := p.n + 1, lo := if dyLt v p.lo then v else p.lo, hi := if dyLt p.hi v then v else p.hi,
                sum := dyAdd p.sum v }

/-- A part joins a longer digest of a point: extremes over the parts, the mean weighted by the counts. -/
def PointSum.merge (p d : PointSum) : PointSum :=
  if d.n = 0 then { p with bad := p.bad + d.bad }
  else if p.n = 0 then { d with bad := p.bad + d.bad }
  else { n := p.n + d.n, bad := p.bad + d.bad, lo := if dyLt d.lo p.lo then d.lo else p.lo,
         hi := if dyLt p.hi d.hi then d.hi else p.hi, sum := dyAdd p.sum d.sum }

/-- The tick latches the selected points (R373). -/
def State.dailiesLatch (s : State) : State :=
  s.modHist (fun h => { h with latch := h.sel.map (fun i => match s.bus.points[i]? with
    | some p => (s.pointValue p, s.pointQuality p)
    | none => (⟨0, 0⟩, 1)) })

/-- DAILIES_SAMPLE (R373): at a millisecond boundary of TAI. -/
def execDailiesSample (t : Time) (s : State) : Host.Outcome State Fault Refusal :=
  s.during t (fun s =>
    let m := s.tai / 1000000
    if s.hist.lastMs = some m then s
    else s.modHist (fun h => { h with
      lastMs := some m
      cur := h.cur.upd 0 (fun d => { d with
        parts := d.parts + 1
        points := h.latch.zipIdx.map (fun (p : (Dy × Nat) × Nat) => (d.points.getD p.2 {}).take p.1.1 p.1.2) }) }))

/-- The fixed content of a digest at the end of its period (R373), with what the dailies count per context (R334):
losses of traceable time, and each context's losses of supervision and source changes. -/
def State.digestFixed (s : State) : List Nat :=
  (List.range 12).map (fun n => s.rd (BND.CH.CNT.EXECUTED n))
    ++ [(s.word SEQ.LATE_CNT.LATE.addr).toNat, (s.word TRP.FIRST.SRC.addr).toNat, s.rd64 TRP.FIRST_TIME.TAI_NS]
    ++ (List.range 14).map (fun n => s.rd (ISL.TEMP.VALUE n))
    ++ (List.range 8).map (fun n => s.rd (MOD.HK_VAL.VALUE n)) ++ s.mtr.acc.map mwh
    ++ s.bus.traceLosses :: s.bus.ctxs.flatMap (fun c => [c.idx, c.losses, c.changes])

/-- A digest joins the next longer one. -/
def Digest.merge (d e : Digest) : Digest :=
  { start := if d.parts = 0 then e.start else d.start, gap := d.gap || e.gap, parts := d.parts + 1,
    points := if d.points.isEmpty then e.points else d.points.zipWith PointSum.merge e.points, fixed := e.fixed }

/-- Length of a digest period in ns (R373). -/
def digestSpan (k : Nat) : Nat := if k = 0 then 10 ^ 9 else if k = 1 then 60 * 10 ^ 9 else 86400 * 10 ^ 9

/-- DAILIES_DIGEST (R373, R374): a period of 1 s (0), 1 min (1) or 1 day (2) of TAI has ended since the last digest;
3,600, 245,760 and 16,384 digests are kept. -/
def execDailiesDigest (t : Time) (k : Fin 3) (s : State) : Host.Outcome State Fault Refusal :=
  s.during t (fun s =>
    let p := s.tai / digestSpan k
    if s.hist.ended.get k 0 = p then s
    else
    let s := s.start (.bgDigest k)
    let d := s.hist.cur.get k {}
    let start := (p - 1) * digestSpan k
    let d : Digest :=
    if k = 0 then { d with start := start, fixed := s.digestFixed }
    else { d with start := start, gap := d.gap || decide (d.parts < if k = 1 then 60 else 1440) }
    let fileIt := !s.on MEM.STATUS.EMMC_ABSENT
    s.modHist (fun h =>
    let cur := h.cur.upd k (fun _ => {})
    let cur := if k = 2 then cur else cur.upd (k + 1) (fun e => e.merge d)
    { h with
      cur := cur
      ended := h.ended.upd k (fun _ => p)
      secs := if k = 0 then (d :: h.secs).take 3600 else h.secs
      mins := if k = 1 && fileIt then (d :: h.mins).take 245760 else h.mins
      days := if k = 2 && fileIt then (d :: h.days).take 16384 else h.days }))

/-- The image of a digest (R374). -/
def Digest.image (d : Digest) : List Byte :=
  Config.digestImage ([(d.start : Int), b2n d.gap] ++ d.fixed.map (fun (x : Nat) => (x : Int))
    ++ d.points.flatMap (fun p =>
      let m := if p.n = 0 then (0 : F32) else f32OfRat false ((dyRat p.sum).1) ((dyRat p.sum).2 * p.n)
      [(p.n : Int), p.bad, (f32OfDy false p.lo).toNat, (f32OfDy false p.hi).toNat, m.toNat]))

end Sys2Proof.Machine
end

