-- ==== Sys2Proof/Machine/ReelCues.lean ====
section
/-!
DEFINITION. The cues of reels, records and dailies (spec/19_cues.md R391; spec/18_reels_and_dailies.md R366
to R374).
-/
namespace Sys2Proof.Machine
open Reg

/-- Bytes of a reply page: at most 4,072 from an offset. -/
def page (l : List Byte) (off : Nat) : List Byte := (l.drop off).take 4072

/-- A conflict with a reel's state: condition 1, armed (R367). -/
def State.armedConflict (s : State) : Ans := .fail csSTATE (s.code * 256 + 1)

/-- Two half-open ranges overlap. -/
def overlaps (a n b m : Nat) : Bool := decide (0 < n ∧ 0 < m ∧ a < b + m ∧ b < a + n)

/-- REEL_ALLOCATE (cue 0x0700, R367). -/
def execReelAllocate (t : Time) (c : Cue) (s : State) : Host.Outcome State Fault Refusal :=
  s.during t (fun s =>
    s.runCue 0x0700 c (firstBad (fieldsOf c [1, 2, 2]) [(decide (c.u 0 1 < 16), 0)]) (fun s =>
    let r := c.u 0 1
    let base := c.u 1 2
    let size := c.u 3 2
    let others := (List.range 16).filter (fun k => decide (k ≠ r))
    let sum := (others.map (fun k => s.rd (REL.AREA.SIZE k))).foldl (· + ·) size
    if s.reelArmed r then (s, s.armedConflict)
    else if 2048 < sum then (s, .fail csRESOURCE 1)
    else if others.any (fun k => overlaps base size (s.rd (REL.AREA.BASE k)) (s.rd (REL.AREA.SIZE k))) then
      (s, .fail csRESOURCE 2)
    else if overlaps base size (s.rd GAF.EXT_WIN.BASE) (s.rd GAF.EXT_WIN.SIZE) then (s, .fail csRESOURCE 3)
    else if 6144 < base + size then (s, .fail csRESOURCE 4)
    else
      let s := s.cueReg (REL.AREA.SIZE r).addr (BitVec.ofNat 32 (base * 65536 + size))
      let s := (s.modReel r (fun x => { x with records := [], waits := false })).wr (REL.STATUS.FULL r) 0
      (s.reelTo r (if size = 0 then 0 else 1), .ok [])))

/-- The tap words of a configure cue. -/
def tapsOf (c : Cue) : List Nat := (List.range (c.u 1 4 / 65536 % 32 + 1)).map (fun i => c.u (25 + 2 * i) 2)

/-- A tap word names a node that a reel of the kind takes (R363). -/
def tapOk (event : Bool) (w : Nat) : Bool :=
  match w / 2 ^ 13 with
  | 0 | 1 => !event && decide (w % 64 < 40)
  | 2 => !event && decide (w / 16 % 16 < 12) && decide (w % 16 < 4)
  | 3 => !event
  | 4 => !event
  | 5 => !event && decide (w % 64 < 40)
  | 6 => event && decide (w % 16 < 12)
  | _ => false

/-- REEL_CONFIGURE (cue 0x0701, R391): a tap of the reserved class is refused with BAD_LENGTH (R363). -/
def execReelConfigure (t : Time) (c : Cue) (s : State) : Host.Outcome State Fault Refusal :=
  s.during t (fun s =>
    let taps := tapsOf c
    let event := (c.u 1 4).testBit 24
    let len := badLen c.payload.length 0 ([1, 4, 4, 4, 4, 4, 4] ++ taps.map (fun _ => 2))
    let reserved := taps.any (fun w => decide (w / 2 ^ 13 = 7))
    let badTap := (taps.zipIdx.find? (fun p => !tapOk event p.1)).map (fun p => 25 + 2 * p.2)
    let bad := (firstBad len [(decide (c.u 0 1 < 16), 0), (decide (0 < c.u 1 2), 1),
      (decide (c.u 13 4 / 256 % 32 < taps.length), 13)]).or (if reserved then none else badTap)
    s.runCue 0x0701 c bad (fun s =>
    let r := c.u 0 1
    if reserved then
      (s, .fail csLENGTH (min 65535 (20 + c.payload.length + if c.auth then 16 else 0)))
    else if s.reelArmed r then (s, s.armedConflict)
    else
      let w (off : Nat) : Word := BitVec.ofNat 32 (c.u off 4)
      let s := s.cueReg (REL.CFG.DECIM r).addr (w 1 &&& 0x1F3FFFFF)
      let s := (s.cueReg (REL.PRE.VALUE r).addr (w 5)).cueReg (REL.POST.VALUE r).addr (w 9)
      let s := s.cueReg (REL.TRIG.EN r).addr (w 13 &&& 0x1F1F)
      let s := (s.cueReg (REL.LEVEL.VALUE r).addr (w 17)).cueReg (REL.HYST.VALUE r).addr (w 21)
      let old := (s.reel r).taps
      let image (l : List Nat) : List Byte := l.flatMap (leBytes 2)
      let s := if old = taps then s else s.logObj (obTaps r) (image old) (image taps)
      ((s.modReel r (fun x => { x with taps := taps, conf := true })).showReels, .ok [])))

/-- Reels of a mask. -/
def maskReels (m : Nat) : List Nat := (List.range 16).filter (fun r => m.testBit r)

/-- A reel arms (R369): rows are counted from here. -/
def State.armReel (s : State) (r : Nat) : State :=
  let s := s.modReel r (fun x => { x with
    rowNo := 0, rowRef := none, held := none, last := [], gap := false, disarm := false, rows := [], events := [], mism := s.mismatches })
  (s.wr (REL.STATUS.FULL r) 0).reelFill r

/-- REEL_ARM (cue 0x0702, R366, R368): the armed reels' write rates stay within 800 MB/s, and each area
holds a full record. -/
def execReelArm (t : Time) (c : Cue) (s : State) : Host.Outcome State Fault Refusal :=
  s.during t (fun s =>
    s.runCue 0x0702 c (fieldsOf c [2]) (fun s =>
    let new := (maskReels (c.u 0 2)).filter (fun r => !s.reelArmed r)
    let on := (List.range 16).filter (fun r => s.reelArmed r || new.contains r)
    if 800000000 < (on.map s.writeRate).foldl (· + ·) 0 then (s, .fail csRESOURCE 1)
    else if new.any (fun r => !(s.reel r).conf || decide (s.areaBytes r < s.fullRecord r)) then (s, .fail csRESOURCE 2)
    else
      let old := s.rd REL.STATUS.ARMED
      let s := s.each new State.armReel
      let now := s.rd REL.STATUS.ARMED
      (if old = now then s else s.logCue (tgReg REL.STATUS.ARMED.addr) (old * 65536) (now * 65536), .ok [])))

/-- A disarm reaches a reel (R369): during the post rows, or where a trigger fires in the row it takes effect
in, it waits for the record's end. -/
def State.disarmReel (s : State) (r : Nat) : State :=
  let x := s.reel r
  let st := s.rd (REL.STATUS.STATE r)
  let fires := decide ((b2n x.fault * 4 + b2n (x.cueReq.any (fun c => decide (c < s.cycle))) * 8) &&& s.rd (REL.TRIG.EN r) ≠ 0)
  if st = 4 ∨ ((st = 2 ∨ st = 3) ∧ fires = true) then s.modReel r (fun x => { x with disarm := true })
  else if 2 ≤ st then
    ((s.modReel r (fun x => { x with rows := [], waits := false })).wr (REL.STATUS.FULL r) 0).reelTo r 1
  else s

/-- REEL_DISARM (cue 0x0703, R369). -/
def execReelDisarm (t : Time) (c : Cue) (s : State) : Host.Outcome State Fault Refusal :=
  s.during t (fun s =>
    s.runCue 0x0703 c (fieldsOf c [2]) (fun s =>
    let old := s.rd REL.STATUS.ARMED
    let s := s.each (maskReels (c.u 0 2)) State.disarmReel
    let now := s.rd REL.STATUS.ARMED
    (if old = now then s else s.logCue (tgReg REL.STATUS.ARMED.addr) (old * 65536) (now * 65536), .ok [])))

/-- REEL_TRIGGER (cue 0x0704, R369): the trigger fires at the first row instant after the cue completes. -/
def execReelTrigger (t : Time) (c : Cue) (s : State) : Host.Outcome State Fault Refusal :=
  s.during t (fun s =>
    s.runCue 0x0704 c (fieldsOf c [2]) (fun s =>
    (s.each ((maskReels (c.u 0 2)).filter s.reelArmed) (fun s r => s.modReel r (fun x => { x with cueReq := some s.cycle })),
      .ok [])))

/-- REEL_READ (cue 0x0705, R391): a record counts as being read from a read at offset 0 until its last byte
has been read. -/
def execReelRead (t : Time) (c : Cue) (s : State) : Host.Outcome State Fault Refusal :=
  s.during t (fun s =>
    s.runCue 0x0705 c (firstBad (fieldsOf c [1, 4, 4]) [(decide (c.u 0 1 < 16), 0)]) (fun s =>
    let r := c.u 0 1
    let k := c.u 1 4
    let off := c.u 5 4
    match (s.reel r).records[k]? with
    | none => (s, .fail csFAILED 2)
    | some x =>
      let data := x.image
      let last := decide (data.length ≤ off + 4072)
      let mark := if last then none
        else if off = 0 ∨ x.reading.isSome = true then some s.now else none
      let s := s.modReel r (fun y => { y with records := updAt y.records k (fun z => { z with reading := mark }) })
      (s.rearmWaiting r, .ok (page data off))))

/-- RECORD_LIST (cue 0x0710, R391): up to 254 exported records from a number on. -/
def execRecordList (t : Time) (c : Cue) (s : State) : Host.Outcome State Fault Refusal :=
  s.during t (fun s =>
    s.runCue 0x0710 c (fieldsOf c [4]) (fun s =>
    let l := (s.hist.files.filter (fun f => decide (c.u 0 4 ≤ f.1))).take 254
    (s, .ok (l.flatMap (fun f => leBytes 4 f.1 ++ leBytes 8 f.2.1 ++ leBytes 4 f.2.2.length)))))

/-- RECORD_READ (cue 0x0711, R391). -/
def execRecordRead (t : Time) (c : Cue) (s : State) : Host.Outcome State Fault Refusal :=
  s.during t (fun s =>
    s.runCue 0x0711 c (fieldsOf c [4, 4]) (fun s =>
    match s.hist.files.find? (fun f => decide (f.1 = c.u 0 4)) with
    | some f => (s, .ok (page f.2.2 (c.u 4 4)))
    | none => (s, .fail csFAILED 2)))

/-- RECORD_DELETE (cue 0x0712, R372). -/
def execRecordDelete (t : Time) (c : Cue) (s : State) : Host.Outcome State Fault Refusal :=
  s.during t (fun s =>
    s.runCue 0x0712 c (fieldsOf c [4]) (fun s =>
    match s.hist.files.find? (fun f => decide (f.1 = c.u 0 4)) with
    | some f =>
      ((s.modHist (fun h => { h with files := h.files.filter (fun g => decide (g.1 ≠ f.1)) })).logObj obRecord f.2.2 [],
        .ok [])
    | none => (s, .fail csFAILED 2)))

/-- DAILIES_SELECT (cue 0x0730, R373): up to 256 points of the point table. -/
def execDailiesSelect (t : Time) (c : Cue) (s : State) : Host.Outcome State Fault Refusal :=
  s.during t (fun s =>
    let n := c.u 0 2
    let pts := (List.range n).map (fun i => c.u (2 + 4 * i) 4)
    let ok (i : Nat) : Bool := decide (i < s.bus.points.length)
    let bad := (firstBad (badLen c.payload.length 0 (2 :: pts.map (fun _ => 4))) [(decide (n ≤ 256), 0)]).or
      ((pts.zipIdx.find? (fun p => !ok p.1)).map (fun p => 2 + 4 * p.2))
    s.runCue 0x0730 c bad (fun s =>
    let image (l : List Nat) : List Byte := l.flatMap (leBytes 4)
    let s := if s.hist.sel = pts then s else s.logObj obDailies (image s.hist.sel) (image pts)
    let s := s.modHist (fun h => { h with sel := pts, latch := [], cur := h.cur.map (fun d => { d with points := [] }) })
    (s.cueReg REL.DLY.VALUE.addr (BitVec.ofNat 32 n), .ok [])))

/-- DAILIES_READ (cue 0x0731, R391). -/
def execDailiesRead (t : Time) (c : Cue) (s : State) : Host.Outcome State Fault Refusal :=
  s.during t (fun s =>
    s.runCue 0x0731 c (firstBad (fieldsOf c [1, 8, 2]) [(decide (c.u 0 1 < 3), 0)]) (fun s =>
    let k := c.u 0 1
    let l := if k = 0 then s.hist.secs else if k = 1 then s.hist.mins else s.hist.days
    match l.find? (fun d => decide (d.start = c.u 1 8)) with
    | some d => (s, .ok (page d.image (c.u 9 2)))
    | none => (s, .fail csFAILED 2)))

end Sys2Proof.Machine
end

