-- ==== Sys2Proof/Machine/Stock.lean ====
section
/-!
DEFINITION. The stock script (spec/08_outer_loops.md R173 to R193): the image, and what one frame of each of its
scenes computes. Its shots are not in the specification, so a frame is given as a whole (log entry 62): each
value is formed in binary32 from the words the chapter names, and every word of the state-word map, every port and
every STORE target takes what the chapter's formulas give.
-/
namespace Sys2Proof.Machine
open Reg

/-! ### The image (R173, R191, R192) -/

/-- Script id of the stock image (R173). -/
abbrev stockId : Word := 0x8820

abbrev scQUIET : Nat := 0
abbrev scENERGIZE : Nat := 1
abbrev scRUN : Nat := 2
abbrev scRECOVER : Nat := 3
abbrev scTEST : Nat := 4
abbrev scSTOP : Nat := 5

/-- A rational as binary32. -/
def f32Lit (n : Int) (d : Nat) : F32 := f32OfRat false n d

/-- The scene table of R173. -/
def stockScenes : List SceneEntry :=
  [ { first := 0, len := 420, flags := 0, worst := 452 }, { first := 420, len := 2410, flags := 0, worst := 2596 },
    { first := 2830, len := 2410, flags := 0, worst := 2596 }, { first := 5240, len := 2410, flags := 2, worst := 2596 },
    { first := 7650, len := 1200, flags := 1, worst := 1290 }, { first := 8850, len := 300, flags := 0, worst := 320 },
    { first := 9150, len := 120, flags := 0, worst := 126 }, { first := 9270, len := 80, flags := 0, worst := 84 } ]
  ++ List.replicate 56 { first := 0, len := 0, flags := 0, worst := 0 }

/-- The coefficients of R191; NARROW is 0.0. -/
def stockCoefs : SMap Word :=
  [ (0x010, f32Lit 2000 1), (0x011, f32Lit 200 1), (0x012, f32Lit 50 1), (0x013, f32Lit 5000 1), (0x014, f32Lit 20 1),
    (0x015, f32Lit 2 1), (0x016, f32Lit 5 1), (0x018, f32Lit 2 1), (0x019, f32Lit 400 1), (0x01A, f32Lit 20 1),
    (0x01B, f32Lit 2 100), (0x01D, f32Lit 10 100), (0x01E, f32Lit 1 100) ]

/-- The table: the one-hot weights of R183, then the volt-var curve and the thermal derating, whose points the
specification does not give (FREE VALUE, log entry 62). -/
def stockTable : SMap Word :=
  [(0, f32Lit 1 1), (17, f32Lit 1 1), (34, f32Lit 1 1), (51, f32Lit 1 1)]
    ++ (List.range 401).map (fun i => (64 + i, Config.stockTable (64 + i)))
    ++ (List.range 201).map (fun i => (1024 + i, Config.stockTable (1024 + i)))

/-- The stock image as a bank: every coefficient of R191 tunable; words 0x0600 to 0x07FF carry (R192). -/
def stockBank : Bank :=
  { valid := true, id := stockId, version := Config.stockHeader 0, rollback := Config.stockHeader 1, pMin := 2885,
    worst := 2596, forced := [5, 6, 7], scenes := stockScenes, k := stockCoefs
    tunable := [0, 0, 0x7F, 0x7F] ++ List.replicate 508 0
    carry := List.replicate 64 0xFF ++ List.replicate 768 0, table := stockTable
    res := [0, 0, 0, 0, 0, 0, 0, 0, 0, 0, 1, 1], digest := Config.stockDigest }

/-- The slate word of the hottest island temperature, in °C (R187): the specification does not give its place
(DESIGN CHOICE, log entry 62). -/
abbrev slateHot : Nat := 0x0150

/-- The active image is the stock one. -/
def State.stock (s : State) : Bool := decide (s.activeBank.id = stockId)

/-! ### Setpoints (R190) -/

/-- A setpoint of the stock script: its word, range in units of 1/den, the default in the same unit. -/
structure StockSp where
  word : Nat
  lo   : Int
  hi   : Int
  den  : Nat
  dflt : Int
  deriving DecidableEq, Repr

/-- The setpoints of R190; PF_SET's range is that of its magnitude. -/
def stockSps : List StockSp :=
  [ ⟨0, 60, 105, 100, 96⟩, ⟨1, 0, 3, 1, 0⟩, ⟨2, -60, 60, 100, 0⟩, ⟨3, 10, 100, 100, 100⟩, ⟨4, 90, 110, 100, 100⟩,
    ⟨5, 0, 1, 1, 0⟩, ⟨6, 0, 60, 100, 48⟩, ⟨7, 0, 110, 100, 110⟩, ⟨8, 0, 110, 100, 110⟩, ⟨9, 1, 10000, 1000, 100⟩,
    ⟨10, 1, 10000, 1000, 100⟩, ⟨11, 1, 100, 100, 20⟩, ⟨12, 1, 12, 100, 5⟩, ⟨13, 0, 1, 1, 0⟩, ⟨14, 10, 150, 100, 110⟩,
    ⟨15, 0, 10, 100, 2⟩, ⟨16, 0, 20, 100, 5⟩, ⟨17, 1, 1000, 10, 20⟩, ⟨18, 5, 100, 1000, 20⟩ ]
  ++ (List.range 8).map (fun k => ⟨24 + k, 0, 110, 100, 110⟩)
  ++ [⟨32, -110, 110, 100, 0⟩, ⟨33, -110, 110, 100, 0⟩]

/-- A value held in the range of a setpoint. -/
def StockSp.clamp (p : StockSp) (x : F32) : F32 :=
  let lo := f32Lit p.lo p.den; let hi := f32Lit p.hi p.den
  if p.word = 3 then
    let m := f32Lim (f32Abs x) lo hi
    if f32Neg x && decide ((f32Val x).m ≠ 0) then f32Flip m else m
  else f32Lim x lo hi

/-- A setpoint as the script uses it (R190). -/
def State.sp (s : State) (n : Nat) : F32 :=
  match stockSps.find? (fun p => decide (p.word = n)) with
  | some p => p.clamp (s.sw (0x0400 + n))
  | none => s.sw (0x0400 + n)

/-- A setpoint lies outside its range in this frame: OLP.FLAGS.SP_CLAMP (R190). -/
def State.spClamped (s : State) : Bool :=
  stockSps.any (fun p => decide (f32Val (p.clamp (s.sw (0x0400 + p.word))) ≠ f32Val (s.sw (0x0400 + p.word))))

/-! ### Integrators (R175 to R179) -/

/-- a / b in the two steps of RECIP and MUL. -/
def f32Div (a b : F32) : F32 := f32Mul a (f32Recip b)

/-- An outer-loop integrator: its bounds block and lane, its value word, its gain (R175, R191, R192). -/
structure StockLoop where
  blk  : Nat
  lane : Nat
  val  : Nat
  gain : Nat
  deriving DecidableEq, Repr

abbrev loopDC : StockLoop := ⟨0x0600, 0, 0x0610, 0x010⟩
abbrev loopNP : StockLoop := ⟨0x0600, 1, 0x0611, 0x011⟩
abbrev loopV  : StockLoop := ⟨0x0600, 2, 0x0612, 0x012⟩
abbrev loopFC : StockLoop := ⟨0x0600, 3, 0x0613, 0x013⟩
/-- I_FV of feed k. -/
def loopFV (k : Nat) : StockLoop := ⟨0x0620 + 0x20 * (k / 4), k % 4, 0x0630 + 0x20 * (k / 4) + k % 4, 0x019⟩
/-- v_plim of feed k. -/
def loopPL (k : Nat) : StockLoop := ⟨0x0660 + 0x20 * (k / 4), k % 4, 0x0670 + 0x20 * (k / 4) + k % 4, 0x01A⟩

/-- The posture word is FAULT (R179). -/
def State.stockFault (s : State) : Bool := decide ((f32Val (s.sw 0x00C4)).m ≠ 0)

/-- The INT shot of a loop (R175): its input is the error times Δt times (1 − posture). In the conditional mode
an integrator whose loop was losing or limited in the frame before stands (R178); in FAULT it holds (R179). -/
def State.stockInt (s : State) (cond : Bool) (l : StockLoop) (err : F32) : State :=
  let b := l.blk + l.lane
  if s.stockFault || (cond && decide (f32Val (s.sw (b + 8)) ≠ f32Val (s.sw (b + 12)))) then s
  else
    let a := f32Mul (f32Mul err (s.sw 0x00C2)) (f32Sub (f32Lit 1 1) (s.sw 0x00C4))
    s.putSw l.val (f32Min (f32Max2 (f32Fma (s.coef l.gain) a (s.sw l.val)) (s.sw b)) (s.sw (b + 4)))

/-- The bound of a loop cut off on one side (R176, R177): its integrator's present value, or the narrowed bound,
held within the configured bounds. -/
def State.stockBound (s : State) (l : StockLoop) (lo hi cut : F32) : F32 :=
  let i := s.sw l.val
  let narrow := decide (f32Val (s.coef 0x01C) = f32Val (f32Lit 1 1))
  let m := s.coef 0x01B
  f32Lim (if !narrow then i
    else if f32Neg cut then f32Sub (f32Sub i cut) m else f32Add (f32Sub i cut) m) lo hi

/-- After selection (R175 to R179): raw and used output are written, and the bounds of the next INT. `cut` is raw
less used: positive where the loop is cut off from above. -/
def State.stockBounds (s : State) (cond : Bool) (l : StockLoop) (raw used lo hi : F32) : State :=
  let b := l.blk + l.lane
  let s := (s.putSw (b + 8) raw).putSw (b + 12) used
  if s.stockFault then s
  else
    let cut := f32Sub raw used
    (s.putSw b (if !cond && f32Lt raw used then s.stockBound l lo hi cut else lo)).putSw (b + 4)
      (if !cond && f32Lt used raw then s.stockBound l lo hi cut else hi)

/-! ### Inputs (R180) -/

/-- The newest control sample, in the slate, of the channel a band channel measures. -/
def State.stockCh (s : State) (n : Nat) : F32 := s.sw (s.rd (BND.CH.CFG.SRC n))
/-- Half voltages of the link (R181, R182): BND.CH[11] measures them. -/
def State.stockUp (s : State) : F32 := s.stockCh 11
def State.stockLo (s : State) : F32 := s.sw (s.rd (BND.CH.CFG.SRC_B 11))
/-- V_DC in pu of V_DC,r (R181). -/
def State.stockVdc (s : State) : F32 := f32Add s.stockUp s.stockLo
/-- P and Q filtered, and |V+| floored at 0.1 (R180). -/
def State.stockP (s : State) : F32 := s.sw 0x06D0
def State.stockV (s : State) : F32 := s.sw 0x06D2

/-- Stage 1 (R180): P and Q from the grid currents Park-transformed at the slate angle, low-passed with k_PQ; |V+|
floored, and filtered for the volt-var curve (word 0x06D4, log entry 62). -/
def State.stockPowers (s : State) : State :=
  let a := f32Val (s.stockCh 0); let b := f32Val (s.stockCh 1); let c := f32Val (s.stockCh 2)
  let al := f32Scale false (dyAdd (dyMul ⟨2, 0⟩ a) (dyNeg (dyAdd b c))) 1 3
  let be := f32OverRoot3 (s.stockCh 1) (s.stockCh 2)
  let co := s.sw 0x00AF; let si := s.sw 0x00B0
  let d := f32Cross al co be si
  let q := f32Cross (f32Flip al) si be co
  let vd := s.sw 0x00AD; let vq := s.sw 0x00AE
  let k := s.coef 0x01E
  let s := s.putSw 0x06D0 (f32Lpf (s.sw 0x06D0) k (f32Cross vd d vq q))
  let s := s.putSw 0x06D1 (f32Lpf (s.sw 0x06D1) k (f32Cross vq d (f32Flip vd) q))
  (s.putSw 0x06D2 (f32Max2 (s.sw 0x00A9) (f32Lit 1 10))).putSw 0x06D4 (f32Lpf (s.sw 0x06D4) k (s.sw 0x00A9))

/-! ### Reactive reference (R183, R184) -/

/-- w of R184: 1 while Q08 is fed, falling to 0 at an age of 6 ms. -/
def State.stockW (s : State) : F32 :=
  f32Lim (f32Mul (f32Lit 1000 1) (f32Sub (f32Lit 6 1000) (s.sw 0x0070))) 0 (f32Lit 1 1)

/-- V_m of R184. -/
def State.stockVm (s : State) : F32 :=
  let v := s.sw 0x00A9
  f32Fma (f32Mul (s.sp 5) s.stockW) (f32Sub (s.sw 0x0030) v) v

/-- The volt-var curve at a voltage (R183): linear between the points, the end values outside. -/
def State.stockCurve (s : State) (v : F32) : F32 :=
  let x := f32Lim (f32Mul (f32Sub v (f32Lit 8 10)) (f32Lit 1000 1)) 0 (f32Lit 400 1)
  let n := (f32Floor x).toNat
  if 400 ≤ n then s.tab 464
  else f32Fma (f32Sub (s.tab (65 + n)) (s.tab (64 + n))) (f32Sub x (f32OfInt n)) (s.tab (64 + n))

/-- Q_m of the four modes (R183); `raw` is the voltage loop's output. -/
def State.stockQ (s : State) (raw : F32) (m : Nat) : F32 :=
  if m = 0 then s.sp 2
  else if m = 1 then
    let pf := s.sp 3
    let p := f32Abs pf
    let q := f32Div (f32Mul s.stockP (f32Sqrt (f32Sub (f32Lit 1 1) (f32Mul p p)))) p
    if f32Neg pf then f32Flip q else q
  else if m = 2 then s.stockCurve (s.sw 0x06D4)
  else raw

/-- The blend of R183: the weights are loaded from the one-hot tables at floor(Q_MODE). A mode of weight 0 adds
nothing and one of weight 1 its own value. -/
def State.stockQref (s : State) (raw : F32) : F32 :=
  let n := (f32Floor (s.sp 1)).toNat
  (List.range 4).foldl (fun q m => f32Fma (s.tab (16 * m + n)) (s.stockQ raw m) q) 0

/-- Stage 2: the voltage loop integrates and the modes are blended. The result is Q_ref before the limits, with the
voltage loop's output. -/
def State.stockReactive (s : State) (cond : Bool) : F32 × F32 × State :=
  let s := s.putSw 0x06D3 s.stockVm
  let e := f32Sub (s.sp 4) (s.sw 0x06D3)
  let s := s.stockInt cond loopV e
  let raw := f32Fma (s.coef 0x016) e (s.sw loopV.val)
  (s.stockQref raw, raw, s)

/-! ### Export permission and limits (R185, R187) -/

/-- The curtailment ramp (R185, candidate 0). -/
def State.stockCurt (s : State) : State :=
  let p := s.sw 0x06CB; let t := s.sp 7; let dt := s.sw 0x00C2
  s.putSw 0x06CB (if f32Lt t p then f32Max2 (f32Sub p (f32Mul (s.sp 10) dt)) t
    else f32Min (f32Fma (s.sp 9) dt p) t)

/-- Frequency-watt (R185, candidate 1): the latch and P_pre. -/
def State.stockFw (s : State) : State :=
  let f := s.sw 0x00B3
  let top := f32Add (f32OfInt s.ratedHz) (s.sp 11)
  let on := decide ((f32Val (s.sw 0x06CA)).m ≠ 0)
  if !on && f32Lt top f then (s.putSw 0x06CA (f32Lit 1 1)).putSw 0x06C9 s.stockP
  else if on && f32Lt f (f32Sub top (f32Lit 2 100)) then s.putSw 0x06CA 0
  else s

/-- Candidate 1's value. -/
def State.stockFwCap (s : State) : F32 :=
  if (f32Val (s.sw 0x06CA)).m = 0 then f32Lit 15 10
  else
    let fr := f32OfInt s.ratedHz
    f32Sub (s.sw 0x06C9) (f32Div (f32Sub (f32Sub (s.sw 0x00B3) fr) (s.sp 11)) (f32Mul (s.sp 12) fr))

/-- I_th: the derating table at the hottest island temperature of the slate (R187); the word's place is log
entry 62's. -/
def State.stockIth (s : State) : F32 :=
  s.tab (1024 + (clampInt 0 200 (f32Floor (s.sw slateHot))).toNat)

/-- √(max(0, a² − b²)). -/
def f32Leg (a b : F32) : F32 := f32Sqrt (f32Max2 0 (f32Sub (f32Mul a a) (f32Mul b b)))

/-- Limits x to ±m. -/
def f32Sym (x m : F32) : F32 := f32Lim x (f32Flip m) m

/-- The reactive current of the Q-first priority (R187). -/
def State.stockQfirst (s : State) (qref ilim : F32) : F32 :=
  f32Sym (f32Div qref s.stockV) (f32Min ilim (f32Div (s.sp 6) s.stockV))

/-- Stages 3 and 4 up to P_cap (R185 to R187): I_th, I_lim, the candidates, and their least value. -/
def State.stockExport (s : State) (scene : Nat) (qref : F32) : State :=
  let s := s.stockCurt.stockFw
  let s := s.putSw 0x06E3 s.stockIth
  let ilim := if scene = scENERGIZE then s.sp 16 else f32Min (s.sp 14) (s.sw 0x06E3)
  let s := s.putSw 0x06E2 ilim
  let room := if (f32Val (s.sp 13)).m = 0 then ilim else f32Leg ilim (s.stockQfirst qref ilim)
  let spare := f32OfQ 0x7FFFFFFF
  let cs := [ s.sw 0x06CB, s.stockFwCap, f32Fma (s.sp 9) (s.sw 0x00C2) s.stockP, f32Mul s.stockV room, s.sw 0x0140,
              s.sp 8, spare, spare ]
  let s := cs.zipIdx.foldl (fun (s : State) e => s.putSw (0x06C0 + e.2) e.1) s
  s.putSw 0x06C8 (cs.foldl f32Min spare)

/-! ### DC link and neutral point (R181, R182) -/

/-- The DC-link loop; I1D_used goes to word 0x06E4. -/
def State.stockDc (s : State) (cond : Bool) : State :=
  let e := f32Sub s.stockVdc (s.sp 0)
  let s := s.stockInt cond loopDC e
  let raw := f32Fma (s.coef 0x014) e (s.sw loopDC.val)
  let lo := f32Flip (f32Div (s.sp 15) s.stockV)
  let used := f32Max2 (f32Min raw (f32Div (s.sw 0x06C8) s.stockV)) lo
  (s.stockBounds cond loopDC raw used lo (f32Lit 15 10)).putSw 0x06E4 used

/-- The neutral-point loop; z goes to word 0x06E6. Its raw output is KP_NP × ΔV + I_NP, and where z saturates its
used output is that limited to Z_MAX (log entry 62). -/
def State.stockNp (s : State) (cond : Bool) : State :=
  let dv := f32Sub s.stockUp s.stockLo
  let zm := s.coef 0x01D
  let s := s.stockInt cond loopNP dv
  let raw := f32Fma (s.coef 0x015) dv (s.sw loopNP.val)
  let sp := f32Sym (f32Mul (f32Lit 1000000 1) s.stockP) (f32Lit 1 1)
  let z0 := f32Flip (f32Mul sp raw)
  let z := f32Sym z0 zm
  let used := if f32Val z = f32Val z0 then raw else f32Sym raw zm
  (s.stockBounds cond loopNP raw used (f32Flip zm) zm).putSw 0x06E6 z

/-- Q_lim, the final Q_ref and I1Q (R187), and the voltage loop's used output: the reference that survives. -/
def State.stockQlimit (s : State) (cond : Bool) (qref raw : F32) : State :=
  let il := s.sw 0x06E2
  let room := if (f32Val (s.sp 13)).m = 0 then f32Leg il (s.sw 0x06E4) else il
  let qlim := f32Mul s.stockV room
  let q := f32Sym qref (f32Min qlim (s.sp 6))
  let s := (((s.putSw 0x06E1 qlim).putSw 0x06E0 q).putSw 0x06E5 (f32Div q s.stockV))
  s.stockBounds cond loopV raw q (f32Flip (s.sp 6)) (s.sp 6)

/-! ### Feeds (R188) -/

/-- The feed current limit the script publishes and clamps to: the profile's (R108). -/
def State.stockFeedLim (s : State) : F32 := f32Lit (s.rd BND.FEED_ILIM.PROF : Nat) 1000

/-- One feed (R188, R198): the power limit, the selection, and the voltage loop. -/
def State.stockFeed (s : State) (cond : Bool) (k : Nat) : State :=
  let w := 0x0100 + 8 * k
  let pmax := s.sp (24 + k)
  let plim := f32Min pmax (f32Mul pmax (f32Sub (f32Lit 1 1) (s.sw loopFC.val)))
  let s := s.stockInt cond (loopPL k) (f32Sub (s.sw (w + 2)) plim)
  let vp := s.sw (loopPL k).val
  let vref := f32Max2 (s.sw (w + 3)) vp
  let s := s.stockBounds cond (loopPL k) vp vref 0 (f32Lit 105 100)
  let e := f32Sub (s.sw w) vref
  let live := f32Val (s.sw (w + 5)) == f32Val (f32OfInt 2) || f32Val (s.sw (w + 5)) == f32Val (f32OfInt 3)
  let s := if live then s.stockInt cond (loopFV k) e else s.putSw (loopFV k).val (s.sw (w + 1))
  let raw := f32Fma (s.coef 0x018) e (s.sw (loopFV k).val)
  let lim := s.stockFeedLim
  let used := f32Sym raw lim
  let s := s.stockBounds cond (loopFV k) raw used (f32Flip lim) lim
  ((s.putSw (0x0700 + k) vref).putSw (0x0708 + k) plim).putSw (0x0710 + k) used

/-- Stage 6 (R188): the curtailment integrator x, then each feed. -/
def State.stockFeeds (s : State) (cond : Bool) : State :=
  let e := f32Sub (f32Sub s.stockVdc (s.sp 0)) (s.sp 18)
  let s := s.stockInt cond loopFC e
  let x := s.sw loopFC.val
  let s := s.stockBounds cond loopFC x x 0 (f32Lit 1 1)
  s.each (List.range 8) (fun s k => s.stockFeed cond k)

/-! ### Publication and status (R185, R189, R193) -/

/-- Stages a value for a port or a STORE target. -/
def State.stage (s : State) (port : Bool) (n : Nat) (v : F32) : State :=
  s.modSeq (fun q => if port then { q with pub := (n, v) :: q.pub } else { q with sto := (n, v) :: q.sto })

/-- A target with its rate (R189): the word of its previous value is 0x0720 + j. -/
def State.stockPub (s : State) (j : Nat) (port rate : Nat) (v : F32) : State :=
  let r := f32Max2 (f32Div (f32Abs (f32Sub v (s.sw (0x0720 + j)))) (s.sw 0x00C2)) (f32Lit 1 1)
  ((s.stage true port v).stage true rate r).putSw (0x0720 + j) v

/-- Stage 7 (R189): I1D, I1Q, the zero sequence, the negative sequence at 0, the feeds' currents. -/
def State.stockTargets (s : State) (d q z : F32) (feed : Nat → F32) : State :=
  let s := ((s.stockPub 0 0x000 0x002 d).stockPub 1 0x001 0x003 q).stockPub 2 0x020 0x021 z
  let s := ((s.stage true 0x010 0).stage true 0x011 0).stage true 0x012 (f32Lit 1 1)
  s.each (List.range 8) (fun s k => s.stockPub (3 + k) (0x030 + 0x010 * k) (0x031 + 0x010 * k) (feed k))

/-- Both ILIM ports: the grid's, and each feed's. -/
def State.stockIlims (s : State) (grid feed : F32) : State :=
  (s.stage true 0x022 grid).each (List.range 8) (fun s k => s.stage true (0x032 + 0x010 * k) feed)

/-- OLP.FLAGS as the script forms it (R193). -/
def State.stockFlags (s : State) (cut : Bool) : F32 :=
  let pl := (List.range 8).foldl (fun m k =>
    if f32Lt (s.sw (0x0103 + 8 * k)) (s.sw (loopPL k).val) then m + 2 ^ (8 + k) else m) 0
  let b (i : Nat) (x : Bool) : Nat := if x then 2 ^ i else 0
  let d := s.sw 0x06E4; let q := s.sw 0x06E5; let il := s.sw 0x06E2
  f32OfInt (pl + b 7 (f32Lt 0 (s.sw loopFC.val)) + b 6 (f32Lt (s.sw 0x06E3) (s.sp 14))
    + b 5 (decide ((f32Val (s.sw 0x06CA)).m ≠ 0))
    + b 4 (decide ((f32Val (s.sp 5)).m ≠ 0) && f32Lt s.stockW (f32Lit 1 1))
    + b 3 (!f32Lt (f32Add (f32Mul d d) (f32Mul q q)) (f32Mul (f32Mul il il) (f32Lit 99999 100000))) + b 2 cut
    + b 1 (decide (f32Val (s.sw 0x0608) ≠ f32Val (s.sw 0x060C))) + b 0 s.spClamped : Nat)

/-- Stage 8: the STORE targets of OLP. -/
def State.stockStore (s : State) (cut : Bool) : State :=
  let s := s.each (List.range 8) (fun s j => s.stage false j (s.sw (0x06C0 + j)))
  let s := (((s.stage false 8 (s.sw 0x06C8)).stage false 9 (s.sw 0x06E2)).stage false 10 (s.sw 0x06E0)).stage false 11
    (s.sw 0x06E1)
  let s := (s.stage false 12 (s.sw 0x06E6)).stage false 13 (s.sw loopFC.val)
  let s := s.each (List.range 8) (fun s k =>
    (s.stage false (0x10 + k) (s.sw (0x0700 + k))).stage false (0x18 + k) (s.sw (0x0708 + k)))
  s.stage false 0x20 (s.stockFlags cut)

/-! ### The scenes (R173) -/

/-- ENERGIZE, RUN and RECOVER; TEST with its fixed references in place of the DC-link and reactive stages. -/
def State.stockControl (s : State) (scene : Nat) : State :=
  let cond := decide (scene ≠ scRUN)
  let test := decide (scene = scTEST)
  let s := s.stockPowers
  let (qref, raw, s) := if test then (s.sp 33, 0, s) else s.stockReactive cond
  let s := s.stockExport scene qref
  let s := if test then s.putSw 0x06E4 (s.sp 32) else s.stockDc cond
  let s := s.stockNp cond
  let s := if test then (s.putSw 0x06E0 (f32Mul (s.sp 33) s.stockV)).putSw 0x06E5 (s.sp 33)
    else s.stockQlimit cond qref raw
  let s := s.stockFeeds cond
  let s := s.stockTargets (s.sw 0x06E4) (s.sw 0x06E5) (s.sw 0x06E6) (fun k => s.sw (0x0710 + k))
  let s := s.stockIlims (s.sw 0x06E2) s.stockFeedLim
  let s := s.each (List.range 8) (fun s k =>
    (s.stage true (0x180 + 0x010 * k) (s.sw (0x0700 + k))).stage true (0x181 + 0x010 * k) (s.sw (0x0708 + k)))
  s.stockStore (!test && decide (f32Val qref ≠ f32Val (s.sw 0x06E0)))

/-- QUIET: every outer-loop integrator takes 0, every feed voltage integrator the feed's current; zero targets, ILIM
0; the fields of OLP read 0 (R193). -/
def State.stockQuiet (s : State) : State :=
  let s := (loopDC :: loopNP :: loopV :: loopFC :: (List.range 8).map loopPL).foldl
    (fun (s : State) l => s.putSw l.val 0) s
  let s := s.each (List.range 8) (fun s k => s.putSw (loopFV k).val (s.sw (0x0101 + 8 * k)))
  let s := (s.stockTargets 0 0 0 (fun _ => 0)).stockIlims 0 0
  s.each (List.range 0x21) (fun s t => if t = 14 ∨ t = 15 then s else s.stage false t 0)

/-- STOP: every current target moves toward 0 at STOP_RATE. -/
def State.stockStop (s : State) : State :=
  let step := f32Mul (s.sp 17) (s.sw 0x00C2)
  let near (j : Nat) : F32 :=
    let v := s.sw (0x0720 + j)
    if f32Lt 0 v then f32Max2 (f32Sub v step) 0 else f32Min (f32Add v step) 0
  s.stockTargets (near 0) (near 1) (near 2) (fun k => near (3 + k))

/-- PILOT and HALT: zeros on every port that stage 7 publishes, and DUMP_EN 0. -/
def State.stockZero (s : State) : State :=
  let s := [0x000, 0x001, 0x002, 0x003, 0x010, 0x011, 0x012, 0x020, 0x021, 0x022, 0x0B2].foldl
    (fun (s : State) p => s.stage true p 0) s
  let s := s.each (List.range 8) (fun s k =>
    ((((s.stage true (0x030 + 0x010 * k) 0).stage true (0x031 + 0x010 * k) 0).stage true (0x032 + 0x010 * k) 0).stage
      true (0x180 + 0x010 * k) 0).stage true (0x181 + 0x010 * k) 0)
  (List.range 11).foldl (fun (s : State) j => s.putSw (0x0720 + j) 0) s

/-- What the shots of one frame of a scene of the stock script do (R173). -/
def State.stockScene (s : State) (scene : Nat) : State :=
  if scene = scQUIET then s.stockQuiet
  else if scene ≤ scTEST then s.stockControl scene
  else if scene = scSTOP then s.stockStop
  else s.stockZero

end Sys2Proof.Machine
end

