-- ==== Sys2Proof/Machine/SysCues.lean ====
section
/-!
DEFINITION. The system cues (spec/19_cues.md R388; spec/13_operating_states.md R274, R285 to R287;
spec/21_faults_and_availability.md R418 to R421).
-/
namespace Sys2Proof.Machine
open Reg

/-! ### Sessions (R381, R388, R393) -/

/-- The management connection a waiting cue came on. -/
def State.arrivedOn (s : State) (c : Cue) : Option Nat :=
  (s.cue.inbox.find? (fun x => decide (x.entry.session = c.session.toNat ∧ x.entry.seq = c.seq.toNat
    ∧ x.entry.crc = c.crc.toNat))).bind (·.conn)

/-- The path of a cue's origin class (R381). -/
def pathOf (cls : Nat) : CuePath :=
  if cls = 3 then .mgmt else if cls = 4 then .mms else if cls = 5 then .director else if cls = 7 then .test else .host

/-- Key of a host session (R406): HKDF of the slot key, the session number as salt. -/
def sessionKey (slotKey : List Byte) (id : Nat) : List Byte :=
  Config.hkdf slotKey (leBytes 4 id) [77, 76, 68, 45, 56, 56, 50, 48, 32, 99, 117, 101]

/-- A management session's connection (R376): the session it holds. -/
def State.bindConn (s : State) (k : Nat) (id : Option Nat) : State :=
  s.modCue (fun q => { q with conns := q.conns.upd k (fun x => x.map (fun y => { y with session := id })) })

/-- A management session resumes on a connection, and its replies are sent in ascending sequence order
(R393). -/
def State.resumeOn (s : State) (id k : Nat) : State :=
  let key := match s.cue.conns.get k none with | some x => Config.tlsExporter x.serial true | none => []
  let s := (s.modSess id (fun x => { x with closed := none, conn := some k, key := key })).bindConn k (some id)
  let owed := (s.cue.entries.filter (fun e => decide (e.session = id) && e.delivered.isNone && !e.pending))
  (owed.mergeSort (fun a b => decide (a.seq ≤ b.seq))).foldl
    (fun (s : State) e => s.send e e.status e.detail e.data true) s

/-- The rules of a session open: resumption of a held session with the same certificate or host key slot, or
a new session. -/
def State.openBody (c : Cue) (conn : Option Nat) (s : State) : State × Ans :=
  let id := c.u 0 4
  let slot := c.u 4 1
  let path := pathOf c.cls.toNat
  let link := conn.bind (fun k => s.cue.conns.get k none)
  let slotOf : Option Nat := if path = .host ∧ slot < 8 then some slot else none
  if id ≠ 0 then
    match s.sess id with
    | some x =>
      let same := decide (x.path = path) && (match path with
        | .host => decide (x.slot = slotOf) && x.closed.isNone
        | .mgmt => decide (link.map (·.cert) = some x.cert)
        | _ => true)
      if same then (s, .ok (leBytes 4 id ++ leBytes 1 (s.rolesOf id))) else (s, .fail csFAILED 2)
    | none => (s, .fail csFAILED 2)
  else
    let key := slotOf.bind (fun k => ((s.cue.slots.get k {}).cur).map (·.bytes))
    if slotOf.isSome && key.isNone then (s, .fail csFAILED 2)
    else
      let n := s.cue.nextSession
      let x : Sess :=
        { id := n, path := path, slot := slotOf, conn := conn, cert := (link.map (·.cert)).getD 0,
          roles := match path with | .mgmt => (link.map (·.roles)).getD 0 | .host => 7 | _ => 2
          key := match link, key with
            | some y, _ => Config.tlsExporter y.serial true
            | none, some b => sessionKey b n
            | none, none => [] }
      let s := s.modCue (fun q => { q with sessions := q.sessions ++ [x], nextSession := n + 1 })
      let s := match conn with | some k => s.bindConn k (some n) | none => s
      (s, .ok (leBytes 4 n ++ leBytes 1 (s.rolesOf n)))

/-- SESSION_OPEN (cue 0x0001). The reply on a management connection goes to that connection; a session resumed
there has its owed replies sent after it. -/
def execSessionOpen (t : Time) (c : Cue) (s : State) : Host.Outcome State Fault Refusal :=
  s.during t (fun s =>
    let conn := if c.cls = 3 then s.arrivedOn c else none
    let slot := c.u 4 1
    let s := s.modCue (fun q => { q with openOn := conn })
    let before := s.sess (c.u 0 4)
    let bad := firstBad (fieldsOf c [4, 1]) [(decide (slot < 8 ∨ slot = 255), 4)]
    let s := s.runCue 0x0001 c bad (State.openBody c conn)
    let s := s.modCue (fun q => { q with openOn := none })
    match conn, before with
    | some k, some x =>
      let held := (s.cue.conns.get k none).any (fun y => decide (some y.cert = before.map (·.cert)))
      if x.path = .mgmt ∧ held = true ∧ bad = none then s.resumeOn x.id k else s
    | _, _ => s)

/-- A management session leaves its connection. -/
def State.dropClosed (s : State) : State :=
  s.modCue (fun q => { q with
    sessions := q.sessions.map (fun x => if x.closed.isSome then { x with conn := none, frag := none } else x)
    conns := q.conns.map (fun o => o.map (fun y =>
      if q.sessions.any (fun x => decide (some x.id = y.session) && x.closed.isSome) then { y with session := none } else y)) })

/-- SESSION_CLOSE (cue 0x0002): sessions 0 and 1 stand from the start and stay. -/
def execSessionClose (t : Time) (c : Cue) (s : State) : Host.Outcome State Fault Refusal :=
  s.during t (fun s => (s.runCue 0x0002 c (fieldsOf c []) (fun s =>
    (if c.session.toNat ≤ 1 then s
     else s.modSess c.session.toNat (fun x => { x with closed := some s.now }), .ok []))).dropClosed)

/-! ### Identity (R388) -/

/-- The bank that booted. -/
def State.bootBank (s : State) : List FwImage := if s.on SEC.BOOT.BANK then s.nvm.bankB else s.nvm.bankA

/-- IDENTIFY (cue 0x0003). -/
def execIdentify (t : Time) (c : Cue) (s : State) : Host.Outcome State Fault Refusal :=
  s.during t (fun s =>
    s.runCue 0x0003 c (fieldsOf c []) (fun s =>
    let ver (i : Nat) : Nat := (s.bootBank.getD i {}).version
    (s, .ok (leBytes 4 0x8820 ++ leBytes 1 (s.rd SYS.STEP.DIGIT) ++ leBytes 8 (s.rd64 SYS.SERIAL.SERIAL)
      ++ leBytes 4 (ver 0) ++ leBytes 4 (ver 2) ++ leBytes 4 (ver 3) ++ leBytes 4 s.activeBank.id.toNat
      ++ leBytes 1 s.code ++ leBytes 1 (s.rd SEC.STATUS.LIFECYCLE)))))

/-! ### State, scene, reset, halt -/

/-- The active image defines a scene (R49). -/
def State.hasScene (s : State) (n : Nat) : Bool :=
  s.activeBank.valid && (match s.activeBank.scenes[n]? with | some e => decide (0 < e.len) | none => false)

/-- SEQ.MODE.SCENE as a tick of this cycle latches it: a selection of the cycle itself is for the next tick (R30,
R49). -/
def State.selected (s : State) : Nat :=
  match s.seq.sceneNew with
  | some (c, was) => if s.cycle ≤ c then was else s.rd SEQ.MODE.SCENE
  | none => s.rd SEQ.MODE.SCENE

/-- A scene is selected (R49): it counts from the next tick after this cycle. -/
def State.selectScene (s : State) (n : Nat) : State :=
  let a := SEQ.MODE.SCENE.addr
  let was := s.selected
  (s.cueReg a (putField (s.word a) SEQ.MODE.SCENE n)).modSeq (fun q => { q with sceneNew := some (s.cycle, was) })

/-- The rules of a scene select (R49). -/
def State.sceneBody (n : Nat) (s : State) : State × Ans :=
  if s.hasScene n then (s.selectScene n, .ok []) else (s, .fail csSTATE (s.code * 256 + 1))

/-- The scene of the stock image that the director wants in a state (R173, R174): RECOVER in RUN from the return to
NORMAL posture until the slate reports the recovery complete. TEST stands where an engineer selected it. -/
def State.sceneFor (s : State) (code : Nat) : Option Nat :=
  let w (a : Nat) : Bool := decide (mapGet (fun _ => (0 : Word)) s.seq.st a ≠ 0)
  let scene := s.rd SEQ.MODE.SCENE
  if code ≤ stSYNC then some scQUIET
  else if scene = scTEST then none
  else if code = stENERGIZE then some scENERGIZE
  else if code ≠ stRUN then none
  else if w 0x00C4 then (if scene = scRUN ∨ scene = scRECOVER then none else some scRUN)
  else if w 0x0141 then some scRUN
  else if scene = scRUN then some scRECOVER
  else if scene = scRECOVER then none else some scRUN

/-- The director's scene-select for a state, with the stock image (R174). -/
def State.followScene (s : State) (code : Nat) : State :=
  if !s.stock then s
  else match s.sceneFor code with
    | some n => if n = s.rd SEQ.MODE.SCENE then s else s.directorCue 0x0011 [BitVec.ofNat 8 n] (State.sceneBody n)
    | none => s

/-- STATE_REQUEST (cue 0x0010, R274): checked at arrival, pending until the tick. The director's is followed by its
scene-select (R174). -/
def execStateRequest (t : Time) (c : Cue) (s : State) : Host.Outcome State Fault Refusal :=
  s.during t (fun s =>
    s.runCue 0x0010 c (firstBad (fieldsOf c [1]) [(decide (c.u 0 1 ≤ 11), 0)]) (fun s =>
    let target := c.u 0 1
    if s.rd SYS.STATE.REQ ≠ 0xF then (s, .fail csBUSY 1)
    else
      let f := s.requestFails target
      match f with
      | some n => ((s.noteMatch target f).set SYS.SEQ_STAT.REQ_REFUSED, .fail csSTATE (s.code * 256 + n))
      | none =>
        ((s.wr SYS.STATE.REQ target).modSys (fun y => { y with reqCycle := s.cycle }), .pend .state)) |> (fun n =>
      if c.cls = 5 ∧ s.rd SYS.STATE.REQ = 0xF ∧ n.rd SYS.STATE.REQ ≠ 0xF then n.followScene (n.rd SYS.STATE.REQ) else n))

/-- SCENE_SELECT (cue 0x0011, R49). -/
def execSceneSelect (t : Time) (c : Cue) (s : State) : Host.Outcome State Fault Refusal :=
  s.during t (fun s => s.runCue 0x0011 c (fieldsOf c [1]) (State.sceneBody (c.u 0 1)))

/-- RESET (cue 0x0012, R287): BUSY while the discharge runs; the reset starts when its reply has gone, or
100 ms after. -/
def execReset (t : Time) (c : Cue) (s : State) : Host.Outcome State Fault Refusal :=
  s.during t (fun s =>
    s.runCue 0x0012 c (firstBad (fieldsOf c [2]) [(decide (c.u 0 2 = 0xA55A), 0)]) (fun s =>
    if s.on TRP.GOV_STAT.DIS_RUN then (s, .fail csBUSY 4)
    else if s.cue.resetBy.isSome then (s, .fail csBUSY 1)
    else
      let admin := (s.cueRoles c).testBit 2
      ((s.start .resetQueued).modCue (fun q => { q with resetBy := some (admin, c.session.toNat, c.seq.toNat) }), .ok [])))

/-- HALT (cue 0x0013, R285): the state is entered at the tick. -/
def execHalt (t : Time) (c : Cue) (s : State) : Host.Outcome State Fault Refusal :=
  s.during t (fun s =>
    s.runCue 0x0013 c (firstBad (fieldsOf c [2]) [(decide (c.u 0 2 = 0xA55A), 0)]) (fun s =>
    let s := if c.cls.toNat = orDIRECTOR then s else { s with avail := { s.avail with told := true } }
    (s.modSys (fun y => { y with wantHalt := setBit y.wantHalt 3 true }), .ok [])))

/-! ### Feeds and pins -/

/-- One feed is cleared (R199): FAULT to OFF, RETRIES 0, its fault latch cleared. -/
def State.feedClear (s : State) (k : Nat) : State :=
  if s.feedSt k = fsFAULT then
    let s := (s.feedTo k fsOFF).stop (.feedRetry k)
    (s.wr (FED.STATE.RETRIES k) 0).modFeed k (fun f => { f with cause := 0 })
  else s

/-- FEED_CLEAR (cue 0x0016, R199). -/
def execFeedClear (t : Time) (c : Cue) (s : State) : Host.Outcome State Fault Refusal :=
  s.during t (fun s =>
    s.runCue 0x0016 c (fieldsOf c [1]) (fun s =>
    (s.each ((List.range 8).filter (fun k => (c.u 0 1).testBit k)) State.feedClear, .ok [])))

/-- An AUX output is in use (R146): its unit enabled, its compare source not zero; with COMP, B is the complement of A. -/
def State.auxInUse (s : State) (i : Nat) : Bool :=
  let n := 10 + i / 2
  s.on (PWM.CU.CFG.ENABLE n) && decide
    (if i % 2 = 0 then s.rd (PWM.CU.CMPA_ACT.VALUE n) ≠ 0
     else if s.on (PWM.CU.CFG.COMP n) then s.rd (PWM.CU.CMPA_ACT.VALUE n) < s.prd n * 64
     else s.rd (PWM.CU.CMPB_ACT.VALUE n) ≠ 0)

/-- Pads follow PINSEL (R146, R291): a function that lost its pad drives it no longer, and a GPIO output shows its level. -/
def State.padsFollow (s : State) : State :=
  let s := s.wr PWM.OUT.AUX (s.rd PWM.OUT.AUX &&& s.rd PWM.PINSEL.AUX)
  let s := if s.on PWM.PINSEL.CLAP_OUT then s else { s with clap := { s.clap with out := none } }.wr PWM.OUT.CLAP_OUT 0
  let d := s.rd SYS.GPIO_DIR.OE &&& (0xFFFF ^^^ s.pwmPads)
  s.wr SYS.GPIO_IN.LEVEL ((s.rd SYS.GPIO_OUT.LEVEL &&& d) ||| (s.rd SYS.GPIO_IN.LEVEL &&& (0xFFFF ^^^ d)))

/-- PIN_ASSIGN (cue 0x0017, R146): a pad whose present owner ranks above GPIO and uses it is not given up; a function of
the control rank takes a pad from its GPIO, the last in rank, at any time. -/
def execPinAssign (t : Time) (c : Cue) (s : State) : Host.Outcome State Fault Refusal :=
  s.during t (fun s =>
    s.runCue 0x0017 c (firstBad (fieldsOf c [1]) [(decide (c.u 0 1 < 64), 0)]) (fun s =>
    let a := PWM.PINSEL.AUX.addr
    let o := (s.word a).toNat
    let n := c.u 0 1
    let leaves (i : Nat) : Bool := o.testBit i && !n.testBit i
    let taken := (List.range 4).any (fun i => leaves i && s.auxInUse i)
      || (leaves 4 && s.on PWM.CLAP.OUT_EN) || (leaves 5 && s.on PWM.CLAP.IN_EN)
    if taken then (s, .fail csRESOURCE 1) else ((s.cueReg a (BitVec.ofNat 32 n)).padsFollow, .ok [])))

/-! ### Fault collector (R418 to R421) -/

/-- The 16 bytes of an entry (R418). -/
def FaultEntry.bytes (e : FaultEntry) : List Byte :=
  leBytes 8 e.time.toNat ++ leBytes 2 e.index ++ leBytes 1 e.cls ++ leBytes 1 e.react ++ leBytes 1 e.times
    ++ leBytes 1 (b2n e.acked + 2 * b2n (maskedClass e.cls) + 4 * b2n (deviceCaused e.cls e.detail))
    ++ leBytes 2 e.detail

/-- Steps from an index forward to another, modulo 65,536. -/
def indexGap (a b : Nat) : Nat := (b + 65536 - a % 65536) % 65536

/-- An index names an entry that exists or existed: it lies before the next one (R420, R421). -/
def State.faultMade (s : State) (i : Nat) : Bool :=
  let d := indexGap i (s.rd FLT.INDEX.NEXT)
  decide (0 < d ∧ d ≤ 32768)

/-- FAULT_READ (cue 0x0018, R421). -/
def execFaultRead (t : Time) (c : Cue) (s : State) : Host.Outcome State Fault Refusal :=
  s.during t (fun s =>
    s.runCue 0x0018 c
    (firstBad (fieldsOf c [2, 1]) [(decide (1 ≤ c.u 2 1 ∧ c.u 2 1 ≤ 254), 2)]) (fun s =>
      let first := c.u 0 2
      let l := s.faults.reverse.filter (fun e => decide (indexGap first e.index < c.u 2 1))
      if s.faultMade first && !s.faults.any (fun e => decide (e.index = first)) then (s, .fail csFAILED 2)
      else (s, .ok (l.flatMap FaultEntry.bytes))))

/-- FAULT_ACKNOWLEDGE (cue 0x0019, R420). -/
def execFaultAcknowledge (t : Time) (c : Cue) (s : State) : Host.Outcome State Fault Refusal :=
  s.during t (fun s =>
    s.runCue 0x0019 c (firstBad (fieldsOf c [2]) [(s.faultMade (c.u 0 2), 0)]) (fun s =>
    let ack (e : FaultEntry) : FaultEntry :=
      if indexGap e.index (c.u 0 2) < 32768 then { e with acked := true } else e
    (({ s with faults := s.faults.map ack }).refreshFaults, .ok [])))

end Sys2Proof.Machine
end

