-- ==== Sys2Proof/Machine/CueArrive.lean ====
section
/-!
DEFINITION. Cues and replies on their transports (spec/19_cues.md R375 to R385, R393): the checks up to a
cue's acceptance, fragments, connections and retention.
-/
namespace Sys2Proof.Machine
open Reg

/-! ### Layout (R377) -/

/-- The cue that the bytes of a transaction spell. -/
def cueOf (b : List Byte) : Cue :=
  let n := leAt b 6 2
  { cls := BitVec.ofNat 8 (leAt b 11 1), sender := BitVec.ofNat 24 (leAt b 8 3), session := BitVec.ofNat 32 (leAt b 12 4),
    seq := BitVec.ofNat 16 (leAt b 4 2), flags := BitVec.ofNat 8 (leAt b 1 1), crc := BitVec.ofNat 32 (leAt b (16 + n) 4),
    payload := (b.drop 16).take n }

/-- Bytes a cue takes: header, payload, CRC, and the tag of an authenticated one. -/
def cueBytes (b : List Byte) : Nat := 20 + leAt b 6 2 + if (leAt b 1 1).testBit 2 then 16 else 0

/-- The version byte and the length field are good (R375, R376). -/
def headOk (b : List Byte) : Bool := decide (leAt b 0 1 = 1 ∧ leAt b 6 2 ≤ 4080)

/-! ### Checks to the sequence (R380, R383) -/

/-- The reply to a cue that fails before it is authenticated: its header echoed as received. -/
def State.rejectRaw (s : State) (c : Cue) (op status detail : Nat) : State :=
  let e := { entryOf c op status detail [] false with auth := false }
  ((s.send e status detail [] false).refreshQueue).logRefused c op status detail

/-- The session of a cue on its path: open, and on its connection where it has one. -/
def State.cueSession (s : State) (c : Cue) (path : CuePath) (conn : Option Nat) : Option Sess :=
  match s.sess c.session.toNat with
  | some x => if x.path = path ∧ x.closed.isNone = true ∧ x.conn = conn then some x else none
  | none => none

/-- The tag of a cue verifies (R378). -/
def tagOk (x : Sess) (c : Cue) (b : List Byte) : Bool :=
  let n := 20 + leAt b 6 2
  !x.key.isEmpty
    && decide (leAt b n 16 = (Config.gmac x.key
      (tagIv c.session.toNat 0 (extWrap x.wrapIn x.lastIn c.seq.toNat) c.seq.toNat) (b.take n)).toNat)

/-- A CRC or authentication failure: counted, and AUTH_ERR for a host cue (R380). -/
def State.authErr (s : State) (path : CuePath) (f : Field) : State :=
  let s := s.sat f
  if path = .host then s.set HOST.STATUS.AUTH_ERR else s

/-! ### Fragments (R384) -/

/-- The assembly of a session is dropped. -/
def State.dropFrag (s : State) (id : Nat) : State := s.modSess id (fun x => { x with frag := none })

/-- A fragment refused before its own checks takes the assembly of its session with it (R384). -/
def State.lostFrag (s : State) (c : Cue) : State :=
  if c.flags.getLsbD 3 then s.dropFrag c.session.toNat else s

/-- The refusal of a fragment: the assembly goes with it. -/
def State.refuseFrag (s : State) (c : Cue) (op status detail : Nat) : State :=
  (s.dropFrag c.session.toNat).refuseCue c op status detail []

/-- What a fragment finds wrong (R384): the detail of BAD_FRAGMENT. -/
def State.fragBad (s : State) (x : Sess) (c : Cue) (op limit : Nat) : Option Nat :=
  let off := c.u 0 4
  let total := c.u 4 4
  let n := c.payload.length - 8
  let late (f : Frag) : Bool := f.dead || decide (f.lastAt + 10 * sec < s.now)
  if limit = 0 then some 3
  else
    let size (first : Option Nat) : Option Nat :=
      if limit < total ∨ (first.isSome ∧ first ≠ some total) ∨ total < off + n
        ∨ (c.flags.getLsbD 4 ∧ off + n < total) then some 2 else none
    match x.frag with
    | none => if off ≠ 0 then some 1 else size none
    | some f =>
      if late f then (if off ≠ 0 then some 5 else size none)
      else if off = 0 then some 4
      else if f.op ≠ op then some 6
      else if off ≠ f.data.length then some 1
      else size (some f.total)

/-- An accepted cue waits for its execution. -/
def State.enqueue (s : State) (c : Cue) (op : Nat) (host : Bool) (conn : Option Nat) : State :=
  (s.modCue (fun q => { q with
    inbox := q.inbox ++ [{ cue := c, entry := entryOf c op csPENDING 0 [] true, host := host, conn := conn }] })).refreshQueue

/-- A fragment (R384): the first is checked for role and state; the last one's assembly waits as one cue.
DESIGN CHOICE (log entry 16; R54's "any refusal" against R385's "changes nothing"): an image load that is refused at a
fragment by its header, origin, role or state leaves a valid standby bank valid; only an accepted first fragment, which
begins a load, makes it not valid. -/
def State.takeFrag (s : State) (x : Sess) (c : Cue) (op : Nat) (sp : OpSpec) (host : Bool) (conn : Option Nat) :
    State :=
  let roles := s.cueRoles c
  let off := c.u 0 4
  if c.payload.length < 8 then s.refuseFrag c op csPAYLOAD (if c.payload.length < 4 then 0 else 4)
  else match s.fragBad x c op sp.frag with
    | some d => s.refuseFrag c op csFRAGMENT d
    | none =>
      if off = 0 ∧ !s.originAllows c.cls.toNat op then s.refuseFrag c op csORIGIN c.cls.toNat
      else if off = 0 ∧ sp.roles &&& roles = 0 then s.refuseFrag c op csROLE roles
      else if op = 0x0200 ∧ s.on SEQ.STATUS.SWAP_PENDING = true then s.refuseFrag c op csSTATE (s.code * 256 + 1)
      else match if off = 0 then s.stateRefuses op sp else none with
        | some (st, d) => s.refuseFrag c op st d
        | none =>
          let data := (if off = 0 then [] else (x.frag.map (·.data)).getD []) ++ c.payload.drop 8
          -- while an image load is in progress the standby bank is not valid (R54)
          let s := if op = 0x0200 then s.modStandby (fun y => { y with valid := false }) else s
          if c.flags.getLsbD 4 then
            (s.dropFrag c.session.toNat).enqueue { c with payload := data } op host conn
          else
            let s := s.modSess c.session.toNat (fun y => { y with
              frag := some { op := op, total := c.u 4 4, data := data, lastAt := s.now } })
            if c.flags.getLsbD 1 then s.answer c op csPENDING 0 [] else s

/-! ### Acceptance -/

/-- The checks of R380 from the CRC to the opcode, on one path. -/
def State.arrive (s : State) (b : List Byte) (path : CuePath) (conn : Option Nat) : State :=
  let c := cueOf b
  let op := leAt b 2 2
  let n := 16 + leAt b 6 2
  let host := decide (path = .host)
  let x? := s.cueSession c path conn
  if c.crc ≠ crc32 (b.take n) then (s.authErr path HOST.AUTH_CNT.CRC_FAIL).rejectRaw c op csCRC 0
  else
    let authed := match x? with | some x => tagOk x c b | none => false
    let need := match x? with | some x => x.slot.isSome | none => false
    if (c.auth || need) && !(c.auth && authed) then (s.authErr path HOST.AUTH_CNT.AUTH_FAIL).rejectRaw c op csAUTH 0
    else if pathOf c.cls.toNat ≠ path ∨ c.cls = 1 ∨ c.cls = 6 ∨ s.originAllows c.cls.toNat op = false then
      (if x?.isSome then s.lostFrag c else s).rejectRaw c op csORIGIN c.cls.toNat
    else match x? with
      | none => if op = 0x0001 then s.enqueue c op host conn else s.rejectRaw c op csFAILED 2
      | some x =>
        let same (e : Entry) : Bool := decide (e.session = x.id ∧ e.seq = c.seq.toNat ∧ e.crc = c.crc.toNat)
        match s.cue.entries.find? same with
        | some e =>
          if e.pending then (s.send e csPENDING 0 [] false).refreshQueue
          else (s.send e e.status e.detail e.data true).refreshQueue
        | none =>
          if s.cue.inbox.any (fun i => same i.entry) then s.answerOnly c op csPENDING 0
          else if x.seen.any (fun y => decide (y.1 = c.seq.toNat)) then
            ((s.lostFrag c).answerOnly c op csSEQUENCE 0).logRefused c op csSEQUENCE 0
          else
            let s := s.noteSeq c
            match opSpec op with
            | none => (s.lostFrag c).refuseCue c op csOPCODE 0 []
            | some sp => if c.flags.getLsbD 3 then s.takeFrag x c op sp host conn else s.enqueue c op host conn

/-- CUE_IN (R375): the bytes after the command byte. While pair A is absent every cue is answered BUSY (R394). -/
def execCueIn (t : Time) (b : List Byte) (s : State) : Host.Outcome State Fault Refusal :=
  s.during t (fun s =>
    let c := cueOf b
    let op := leAt b 2 2
    if s.code < stBOOT then s
    else if s.rd HOST.STATUS.IN_FREE = 0 then s.set HOST.STATUS.IN_OVF
    else if s.bitOf SYS.HOLD.ACTIVE 0 then s.rejectRaw c op csBUSY 3
    else if b.length ≠ cueBytes b ∨ headOk b = false then s.rejectRaw c op csLENGTH (min 65535 b.length)
    else s.arrive b .host none)

/-- REPLY_OUT (R375): the oldest reply owed to the host port; `whole` tells that chip select rose after its last
byte. -/
def execReplyOut (t : Time) (whole : Bool) (s : State) : Host.Outcome State Fault Refusal :=
  s.during t (fun s =>
    if s.code < stBOOT then s
    else match s.cue.out with
      | [] => s.modCue (fun q => { q with hostTx := [0, 0] })
      | m :: rest =>
        let s := s.modCue (fun q => { q with hostTx := leBytes 2 m.bytes.length ++ m.bytes })
        if !whole then s
        else
          (s.modCue (fun q => { q with
            out := rest
            entries := q.entries.map (fun e => if m.final ∧ e.session = m.session ∧ e.seq = m.seq ∧ e.pending = false
              then { e with delivered := some s.now } else e) })).refreshQueue)

/-! ### Management port (R376, R393) -/

/-- A management connection closes; the replies of its session are kept. -/
def State.closeConn (s : State) (k : Nat) : State :=
  (s.modCue (fun q => { q with
    conns := q.conns.upd k (fun _ => none)
    inbox := q.inbox.filter (fun i => decide (i.conn ≠ some k))
    sessions := q.sessions.map (fun x =>
      if x.conn = some k then { x with conn := none, frag := none, closed := some s.now } else x) })).stop (.mgmtIdle k)

/-- MGMT_CUE (R376): bytes on a management connection, with the certificate and roles of its client. A
connection not yet held opens with them. -/
def execMgmtCue (t : Time) (k : Fin 4) (cert : BitVec 32) (roles : BitVec 3) (b : List Byte) (s : State) : Host.Outcome State Fault Refusal :=
  s.during t (fun s =>
    let c := cueOf b
    let op := leAt b 2 2
    if s.code < stBOOT ∨ s.bitOf SYS.HOLD.ACTIVE 0 then s
    else
      let s := if (s.cue.conns.get k none).isSome then s
        else s.modCue (fun q => { q with
          conns := q.conns.upd k (fun _ => some { cert := cert.toNat, roles := roles.toNat, serial := q.connCount })
          connCount := q.connCount + 1 })
      let first := match s.cue.conns.get k none with | some y => y.first | none => true
      let s := (s.start (.mgmtIdle k)).modCue (fun q => { q with
        conns := q.conns.upd k (fun o => o.map (fun y => { y with first := false })) })
      if b.length < 16 ∨ headOk b = false then s.closeConn k
      else if b.length < cueBytes b then s
      else
        let here (s : State) (o : Option Nat) : State := s.modCue (fun q => { q with openOn := o })
        if first && decide (op ≠ 0x0001) then (here ((here s (some k.val)).rejectRaw c op csORIGIN c.cls.toNat) none).closeConn k
        else if (s.cueSession c .mgmt (some k.val)).isSome then s.arrive (b.take (cueBytes b)) .mgmt (some k.val)
        else here ((here s (some k.val)).arrive (b.take (cueBytes b)) .mgmt (some k.val)) none)

/-- MGMT_IDLE_TIMEOUT (R376). -/
def execMgmtIdleTimeout (t : Time) (k : Fin 4) (s : State) : Host.Outcome State Fault Refusal :=
  s.during t (fun s => if s.due (.mgmtIdle k) (300 * sec) then s.closeConn k else s)

/-- MGMT_CONNECTION_CLOSED (R393). -/
def execMgmtConnectionClosed (t : Time) (k : Fin 4) (s : State) : Host.Outcome State Fault Refusal :=
  s.during t (fun s => s.closeConn k)

/-! ### Time (R384, R393) -/

/-- FRAGMENT_TIMEOUT (R384): assemblies without a fragment for more than 10 s are discarded. -/
def execFragmentTimeout (t : Time) (s : State) : Host.Outcome State Fault Refusal :=
  s.during t (fun s =>
    s.modCue (fun q => { q with sessions := q.sessions.map (fun x =>
    match x.frag with
    | some f => if f.lastAt + 10 * sec < s.now then { x with frag := some { f with data := [], dead := true } } else x
    | none => x) }))

/-- SESSION_REPLY_EXPIRY (R393): closed sessions leave 60 s after their close with their replies, delivered
replies 60 s after their delivery. -/
def execSessionReplyExpiry (t : Time) (s : State) : Host.Outcome State Fault Refusal :=
  s.during t (fun s =>
    let gone (x : Sess) : Bool := match x.closed with
    | some t0 => decide (t0 + 60 * sec ≤ s.now) && decide (1 < x.id)
    | none => false
    let ids := (s.cue.sessions.filter gone).map (·.id)
    ((s.modCue (fun q => { q with
    sessions := q.sessions.filter (fun x => !gone x)
    entries := q.entries.filter (fun e => !ids.contains e.session) })).prune).refreshQueue)

end Sys2Proof.Machine
end

