-- ==== Sys2Proof/Machine/RegCues.lean ====
section
/-!
DEFINITION. Register, script and setpoint cues (spec/19_cues.md R389; spec/02_frame_and_script.md R54 to
R56; spec/22_register_index.md R430) and the MMS operate (spec/15_process_bus.md R332).
-/
namespace Sys2Proof.Machine
open Reg

/-! ### Registers -/

/-- A word of the window is aligned and inside it (R10). -/
def addrOk (a : Nat) : Bool := decide (a % 4 = 0 ∧ a < 0x20000)

/-- Bits of an access code at an address. -/
def seldBits (a : Nat) (f : RegRow → Nat) : Word := match rowOf a with | some r => BitVec.ofNat 32 (f r) | none => 0

/-- REGISTER_READ (cue 0x0100): CUE fields read their value. -/
def execRegisterRead (t : Time) (c : Cue) (s : State) : Host.Outcome State Fault Refusal :=
  s.during t (fun s =>
    s.runCue 0x0100 c
    (firstBad (fieldsOf c [4, 2]) [(addrOk (c.u 0 4), 0),
      (decide (1 ≤ c.u 4 2 ∧ c.u 4 2 ≤ 1019 ∧ c.u 0 4 + 4 * c.u 4 2 ≤ 0x20000), 4)]) (fun s =>
    let (ws, s) := s.readWords 1 (c.u 0 4) (c.u 4 2)
    (s, .ok (ws.flatMap le32))))

/-- One masked write of a cue, with its log entry, and the word read back. -/
def State.cueWrite (s : State) (a : Nat) (m v : Word) : Word × State :=
  let s := if isWide a then { s with lowW := mapPut (fun _ => 0) s.lowW (snapKey 1 a) v } else s
  let o := s.word a
  let s := s.maskWrite a m v
  let n := s.word a
  let s := if o = n then s else s.logCue (tgReg a) o.toNat n.toNat
  s.regRead 1 a

/-- A masked write of the director's (R24): outside RWS registers, whose shadows wait by themselves, it takes effect
at the first tick after its cue completes. -/
def State.directWrite (s : State) (a : Nat) (m v : Word) : Word × State :=
  if seldBits a (·.mRws) ≠ 0 then s.cueWrite a m v
  else
    let w : PendWrite := { space := .direct, addr := a, val := v, cycle := s.cycle, mask := m, op := s.cue.actor.op }
    let s : State := { s with pend := s.pend ++ [w] }
    s.regRead 1 a

/-- The writes of one cue in list order (R385), unless one names a SEAL field (R13). -/
def State.cueWrites (s : State) (l : List (Nat × Word × Word)) : State × Ans :=
  if l.any (fun w => decide (w.2.1 &&& seldBits w.1 (·.mSeal) ≠ 0)) then (s, .fail csSEALED 0)
  else
    let (s, out) := l.foldl (fun (p : State × List Byte) w =>
      let s := p.1
      let (x, s) := if s.cue.actor.origin = orDIRECTOR then s.directWrite w.1 w.2.1 w.2.2 else s.cueWrite w.1 w.2.1 w.2.2
      (s, p.2 ++ le32 x)) (s, [])
    (s, .ok out)

/-- One (address, mask, value) of a payload at an offset, and its payload check: a CUE field is refused. -/
def writeAt (c : Cue) (o : Nat) : Nat × Word × Word :=
  (c.u o 4, BitVec.ofNat 32 (c.u (o + 4) 4), BitVec.ofNat 32 (c.u (o + 8) 4))
def writeBad (c : Cue) (o : Nat) : Option Nat :=
  let (a, m, _) := writeAt c o
  if !addrOk a then some o else if m &&& seldBits a (·.mCue) ≠ 0 then some (o + 4) else none

/-- REGISTER_WRITE (cue 0x0101). -/
def execRegisterWrite (t : Time) (c : Cue) (s : State) : Host.Outcome State Fault Refusal :=
  s.during t (fun s =>
    s.runCue 0x0101 c ((fieldsOf c [4, 4, 4]).or (writeBad c 0)) (fun s => s.cueWrites [writeAt c 0]))

/-- REGISTER_WRITE_LIST (cue 0x0102). -/
def execRegisterWriteList (t : Time) (c : Cue) (s : State) : Host.Outcome State Fault Refusal :=
  s.during t (fun s =>
    let n := c.u 0 2
    let at' := (List.range n).map (fun i => 2 + 12 * i)
    let bad := (firstBad (badLen c.payload.length 0 (2 :: at'.map (fun _ => 12))) [(decide (1 ≤ n ∧ n ≤ 339), 0)]).or
      (at'.findSome? (writeBad c))
    s.runCue 0x0102 c bad (fun s => s.cueWrites (at'.map (writeAt c))))

/-! ### Script (R54 to R56) -/

/-- A conflict by its first condition. -/
def State.conflict (s : State) (n : Nat) : Ans := .fail csSTATE (s.code * 256 + n)

/-- IMAGE_LOAD (cue 0x0200, R54): a load that ends in a refusal leaves the standby bank not valid. -/
def execImageLoad (t : Time) (c : Cue) (s : State) : Host.Outcome State Fault Refusal :=
  s.during t (fun s =>
    s.runCue 0x0200 c none (fun s =>
    if s.on SEQ.STATUS.SWAP_PENDING then (s, s.conflict 1)
    else
      let n := imageCheck s.nvm.anchor (s.nvm.cnt.getD 1 0) c.payload
      if n ≠ 0 then (s.modStandby (fun b => { b with valid := false }), .fail csCHECK n)
      else
        let old := shaBytes s.standbyBank.digest
        let b := imageBank c.payload
        ((s.modStandby (fun _ => b)).logObj obScript old (shaBytes b.digest), .ok [])))

/-- The refusals of a swap in the order of R55; none where it may proceed. -/
def State.swapFails (s : State) (scene : Nat) : Option Nat :=
  let b := s.standbyBank
  let has := match b.scenes[scene]? with | some e => decide (0 < e.len) | none => false
  firstFail [b.valid, has, decide (b.pMin ≤ s.seq.period) && decide (b.pMin ≤ s.rd SEQ.PERIOD.CYCLES),
    !s.on SEQ.MODE.FORCED]

/-- SWAP (cue 0x0201, R55): pending until the tick. -/
def execSwap (t : Time) (c : Cue) (s : State) : Host.Outcome State Fault Refusal :=
  s.during t (fun s =>
    s.runCue 0x0201 c (fieldsOf c [1]) (fun s =>
    if s.on SEQ.STATUS.SWAP_PENDING then (s, .fail csBUSY 1)
    else match s.swapFails (c.u 0 1) with
      | some n => (s, s.conflict n)
      | none =>
        ((s.set SEQ.STATUS.SWAP_PENDING).modSeq (fun q => { q with swapScene := c.u 0 1, swapAt := s.cycle }),
          .pend .swap)))

/-- A write that waits for the tick (R30): the last one of its word and cycle stands. -/
def State.pendSet (s : State) (sp : PendSpace) (a : Nat) (v : Word) : State :=
  { s with pend := s.pend.filter (fun w => decide (¬(w.space = sp ∧ w.addr = a ∧ w.cycle = s.cycle)))
      ++ [{ space := sp, addr := a, val := v, cycle := s.cycle }] }

/-- The value a word will have once every waiting write is in. -/
def State.lastPend (s : State) (sp : PendSpace) (a : Nat) (now : Word) : Word :=
  s.pend.foldl (fun (v : Word) w => if w.space = sp ∧ w.addr = a then w.val else v) now

/-- Words of a payload from an offset, with their targets from `first` on. -/
def wordsAt (c : Cue) (first off n : Nat) : List (Nat × Word) :=
  (List.range n).map (fun i => (first + i, BitVec.ofNat 32 (c.u (off + 4 * i) 4)))

/-- A tunable bit of the active bank (R56). -/
def State.tunable (s : State) (k : Nat) : Bool := (s.activeBank.tunable.getD (k / 8) 0).getLsbD (k % 8)

/-- COEFFICIENT_WRITE (cue 0x0202, R56). -/
def execCoefficientWrite (t : Time) (c : Cue) (s : State) : Host.Outcome State Fault Refusal :=
  s.during t (fun s =>
    let n := c.u 2 2
    let bad := firstBad (badLen c.payload.length 0 (2 :: 2 :: (List.range n).map (fun _ => 4)))
      [(decide (c.u 0 2 < 4096), 0), (decide (c.u 0 2 + n ≤ 4096), 2)]
    s.runCue 0x0202 c bad (fun s =>
    let l := wordsAt c (c.u 0 2) 4 n
    if s.on SEQ.STATUS.SWAP_PENDING then (s, s.conflict 1)
    else if l.any (fun w => !s.tunable w.1) then (s, .fail csSEALED 2)
    else
      (l.foldl (fun (s : State) w =>
        let o := s.lastPend .coef w.1 (s.coef w.1)
        let s := s.pendSet .coef w.1 w.2
        if o = w.2 then s else s.logCue (tgObj (obCoef w.1)) o.toNat w.2.toNat) s, .ok [])))

/-- TABLE_WRITE (cue 0x0203, R389): into the active bank. -/
def execTableWrite (t : Time) (c : Cue) (s : State) : Host.Outcome State Fault Refusal :=
  s.during t (fun s =>
    let n := c.u 4 4
    let bad := firstBad (if c.payload.length = 8 + 4 * n then none
      else badLen c.payload.length 0 [4, 4, 4 * n])
      [(decide (c.u 0 4 < 65536), 0), (decide (c.u 0 4 + n ≤ 65536), 4)]
    s.runCue 0x0203 c bad (fun s =>
    ((wordsAt c (c.u 0 4) 8 n).foldl (fun (s : State) w =>
      let o := s.lastPend .table w.1 (s.tab w.1)
      let s := s.pendSet .table w.1 w.2
      if o = w.2 then s else s.logCue (tgObj (obTable w.1)) o.toNat w.2.toNat) s, .ok [])))

/-- What SCRIPT_STATUS tells of a bank. -/
def Bank.status (b : Bank) : List Byte :=
  le32 b.id ++ le32 b.version ++ leBytes 2 b.pMin ++ leBytes 2 b.worst ++ leBytes 1 (b2n b.valid)

/-- SCRIPT_STATUS (cue 0x0204). -/
def execScriptStatus (t : Time) (c : Cue) (s : State) : Host.Outcome State Fault Refusal :=
  s.during t (fun s =>
    s.runCue 0x0204 c (fieldsOf c []) (fun s =>
    (s, .ok (s.seq.bank0.status ++ s.seq.bank1.status))))

/-! ### Setpoints (R40, R389) -/

/-- A setpoint shadow is written: it is copied at the first tick after this cycle (R30, R40). -/
def State.putSetpoint (s : State) (i : Nat) (v : Word) : State :=
  let a := 0x0400 + i
  let o := mapGet (fun _ => (0 : Word)) s.seq.setp a
  let s := (s.modSeq (fun q => { q with setp := mapPut (fun _ => 0) q.setp a v })).pendSet .setpoint a v
  if o = v then s else s.logCue (tgWord a) o.toNat v.toNat

/-- SETPOINT_WRITE (cue 0x0300). -/
def execSetpointWrite (t : Time) (c : Cue) (s : State) : Host.Outcome State Fault Refusal :=
  s.during t (fun s =>
    let n := c.u 2 2
    let bad := firstBad (badLen c.payload.length 0 (2 :: 2 :: (List.range n).map (fun _ => 4)))
      [(decide (c.u 0 2 < 512), 0), (decide (c.u 0 2 + n ≤ 512), 2)]
    s.runCue 0x0300 c bad (fun s =>
    ((wordsAt c (c.u 0 2) 4 n).foldl (fun (s : State) w => s.putSetpoint w.1 w.2) s, .ok [])))

/-- SETPOINT_READ (cue 0x0301). -/
def execSetpointRead (t : Time) (c : Cue) (s : State) : Host.Outcome State Fault Refusal :=
  s.during t (fun s =>
    s.runCue 0x0301 c
    (firstBad (fieldsOf c [2, 2]) [(decide (c.u 0 2 < 512), 0), (decide (c.u 0 2 + c.u 2 2 ≤ 512), 2)]) (fun s =>
      (s, .ok ((List.range (c.u 2 2)).flatMap (fun i =>
        le32 (mapGet (fun _ => 0) s.seq.setp (0x0400 + c.u 0 2 + i)))))))

/-- FEED_FIXED_VOLTAGE_WRITE (cue 0x0302, R211, R212). -/
def execFeedFixedVoltageWrite (t : Time) (c : Cue) (s : State) : Host.Outcome State Fault Refusal :=
  s.during t (fun s =>
    let v := c.u 1 2
    let bad := firstBad (fieldsOf c [1, 2, 2, 2, 1, 1])
      [(decide (c.u 0 1 < 8), 0), (decide (v = 0 ∨ (3000 ≤ v ∧ v ≤ 9500)), 1), (decide (c.u 3 2 ≤ 1500), 3),
     (decide (c.u 5 2 ≤ 1500), 5)]
    s.runCue 0x0302 c bad (fun s =>
    let k := c.u 0 1
    let fix : Word := BitVec.ofNat 32 (v * 65536 + c.u 7 1 * 256 + c.u 8 1)
    let lim : Word := BitVec.ofNat 32 (c.u 3 2 * 65536 + c.u 5 2)
    let (_, s) := s.cueWrite (FED.FIX.VFIX k).addr allBits fix
    let (_, s) := s.cueWrite (FED.FIX_LIM.IDIS k).addr allBits lim
    (s, .ok [])))

/-! ### MMS (R332) -/

/-- Number of the session that stands for an MMS association. -/
def mmsSession (i : Nat) : Nat := 0xFFFF0000 + i

/-- (value − offset) / scale as a ratio; 0 where the scale is 0. -/
def Point.rawRat (p : Point) (v : F32) : Int × Nat :=
  let d := dyRat (dyAdd (f32Val v) (dyNeg (f32Val (BitVec.ofNat 32 (p.u 12 4)))))
  let k := dyRat (f32Val (BitVec.ofNat 32 (p.u 8 4)))
  let q : Int := d.1 * k.2
  if k.1 = 0 then (0, 1) else (if k.1 < 0 then -q else q, d.2 * k.1.natAbs)

/-- MMS_OPERATE (R332): an association of a client with roles operates a point, by its attribute handle. On a
control-writable point it becomes a cue of class 4, a masked register write or a setpoint write, of
(value − offset) / scale to nearest with ties to even, saturated (R8). -/
def execMmsOperate (t : Time) (assoc : Fin 8) (roles : BitVec 3) (handle : BitVec 32) (v : BitVec 32) (s : State) : Host.Outcome State Fault Refusal :=
  s.during t (fun s =>
    let id := mmsSession assoc
    match s.bus.points.find? (fun p => decide (p.u 20 4 = handle.toNat)) with
    | none => s
    | some p =>
      if p.u 26 2 % 2 = 0 then s
      else
        let x : Sess := { id := id, path := .mms, roles := roles.toNat }
        let next := ((s.sess id).map (fun y => y.lastIn + 1)).getD 1
        let s := s.modCue (fun q => { q with
          sessions := q.sessions.filter (fun y => decide (y.id ≠ id)) ++ [{ x with lastIn := next % 65536 }] })
        let cue (l : List Byte) : Cue :=
          { cls := 4, sender := BitVec.ofNat 24 assoc, session := BitVec.ofNat 32 id, seq := BitVec.ofNat 16 next,
            flags := 0, crc := 0, payload := l }
        if p.u 4 1 = 0 then
          let a := p.u 0 4 + p.u 5 1 / 32 * 4
          let n := p.u 6 1
          let signed := (p.u 7 1).testBit 0
          let top : Int := 2 ^ (if signed then n - 1 else n) - 1
          let q := p.rawRat v
          let r := clampInt (if signed then -(2 ^ (n - 1)) else 0) top (rneDiv q.1 q.2)
          let f : Field := ⟨a, p.u 5 1 % 32, n⟩
          let w := (BitVec.ofInt 32 r <<< f.lo) &&& f.mask
          let c := cue (leBytes 4 a ++ le32 f.mask ++ le32 w)
          s.runCue 0x0101 c (writeBad c 0) (fun s => s.cueWrites [writeAt c 0])
        else
          let i := p.u 0 4 - 0x0400
          let q := p.rawRat v
          let w := satWord (rneDiv (q.1 * 65536) q.2)
          let c := cue (leBytes 2 i ++ leBytes 2 1 ++ le32 w)
          s.runCue 0x0300 c none (fun s => (s.putSetpoint i w, .ok [])))

end Sys2Proof.Machine
end

