-- ==== Sys2Proof/Machine/MeterCues.lean ====
section
/-!
DEFINITION. Measurement, calibration and profile cues (spec/19_cues.md R390; spec/03_measurement_chain.md
R72 to R76; spec/12_trip_network.md R271; spec/14_metering_and_quality.md R296 to R310).
-/
namespace Sys2Proof.Machine
open Reg

/-! ### Reads -/

/-- ENERGY_SNAPSHOT (cue 0x0400, R296): the ten visible values of one instant, and the time. -/
def execEnergySnapshot (t : Time) (c : Cue) (s : State) : Host.Outcome State Fault Refusal :=
  s.during t (fun s =>
    s.runCue 0x0400 c (fieldsOf c []) (fun s =>
    (s, .ok (s.visible.flatMap (leBytes 8) ++ leBytes 8 s.tai))))

/-- HARMONIC_READ (cue 0x0401, R308, R309). -/
def execHarmonicRead (t : Time) (c : Cue) (s : State) : Host.Outcome State Fault Refusal :=
  s.during t (fun s =>
    s.runCue 0x0401 c
    (firstBad (fieldsOf c [1, 1]) [(decide (c.u 0 1 < 16), 0), (decide (c.u 1 1 < 4), 1)]) (fun s =>
      let r := ((s.mtr.pqCh.get (c.u 0 1) {}).res).getD (c.u 1 1) {}
      (s, .ok ((List.range 101).flatMap (fun h => le32 (r.g.getD h 0))
        ++ (List.range 100).flatMap (fun h => le32 (r.ig.getD h 0)) ++ leBytes 8 r.start))))

/-- SUPRAHARMONIC_SPECTRUM (cue 0x0402, R310). -/
def execSupraharmonicSpectrum (t : Time) (c : Cue) (s : State) : Host.Outcome State Fault Refusal :=
  s.during t (fun s =>
    s.runCue 0x0402 c (firstBad (fieldsOf c [1]) [(decide (c.u 0 1 < 8), 0)]) (fun s =>
    (s, .ok ((List.range 740).flatMap (fun b =>
      le32 (if s.slotLive (c.u 0 1) then (s.mtr.sup.get (c.u 0 1) {}).spec.getD b 0 else 0))))))

/-- SETTLEMENT_BLOCK_READ (cue 0x0720, R302): blocks from a sequence number on. -/
def execSettlementBlockRead (t : Time) (c : Cue) (s : State) : Host.Outcome State Fault Refusal :=
  s.during t (fun s =>
    s.runCue 0x0720 c
    (firstBad (fieldsOf c [4, 1]) [(decide (1 ≤ c.u 4 1 ∧ c.u 4 1 ≤ 11), 4)]) (fun s =>
      let l := (s.mtr.stored ++ s.mtr.signed).dropWhile (fun b => decide (leAt b 8 4 ≠ c.u 0 4))
      if l.isEmpty then (s, .fail csFAILED 2) else (s, .ok (l.take (c.u 4 1)).flatten)))

/-! ### Calibration (R72 to R76) -/

/-- The metrology seal stands on a METER channel (R76). -/
def State.metroLocked (s : State) (n : Nat) : Bool :=
  s.on MOD.CTRL.METRO_SEALED && s.on (MOD.CH.STATUS.METER n)

/-- A zero or span starts on a channel: refused under the seal, or while one runs there; a background visit of
the channel is abandoned (R73, R77). -/
def State.calStart (s : State) (n : Nat) (k : CalKind) (x : BitVec 32) : State × Ans :=
  if s.metroLocked n then (s, .fail csSEALED 1)
  else if (s.chan n).cal.isSome then (s, .fail csFAILED 6)
  else
    let s := s.bgMonitor n
    ((s.modChan n (fun c => { c with cal := some { kind := k, x := x } })).refreshCal, .pend (.cal n))

/-- ZERO (cue 0x0410). -/
def execZero (t : Time) (c : Cue) (s : State) : Host.Outcome State Fault Refusal :=
  s.during t (fun s =>
    s.runCue 0x0410 c (firstBad (fieldsOf c [1]) [(decide (c.u 0 1 < 40), 0)])
    (fun s => s.calStart (c.u 0 1) .zero 0))

/-- SPAN (cue 0x0411). -/
def execSpan (t : Time) (c : Cue) (s : State) : Host.Outcome State Fault Refusal :=
  s.during t (fun s =>
    s.runCue 0x0411 c
    (firstBad (fieldsOf c [1, 1, 4]) [(decide (c.u 0 1 < 40), 0), (decide (c.u 1 1 < 2), 1)])
    (fun s => s.calStart (c.u 0 1) (if c.u 1 1 = 0 then .dc else .ac) (BitVec.ofNat 32 (c.u 2 4))))

/-- A coefficient that a cue writes: in effect at the next tick (R74), logged where it changes. -/
def State.cueCoef (s : State) (a : Nat) (v : Word) : State :=
  let o := s.word a
  let s := s.pendReg a v
  if o = v then s else s.logCue (tgReg a) o.toNat v.toNat

/-- CALIBRATION_SET (cue 0x0412): NOM_GAIN, which also sets GAIN, FDELAY and METER. -/
def execCalibrationSet (t : Time) (c : Cue) (s : State) : Host.Outcome State Fault Refusal :=
  s.during t (fun s =>
    let d := (BitVec.ofNat 16 (c.u 5 2)).toInt
    let bad := firstBad (fieldsOf c [1, 4, 2, 1])
      [(decide (c.u 0 1 < 40), 0), (decide (-4096 ≤ d ∧ d ≤ 4096), 5), (decide (c.u 7 1 < 2), 7)]
    s.runCue 0x0412 c bad (fun s =>
    let n := c.u 0 1
    if s.metroLocked n then (s, .fail csSEALED 1)
    else
      let g : Word := BitVec.ofNat 32 (c.u 1 4)
      let s := (s.cueReg (MOD.CH.NOM_GAIN.VALUE n).addr g).cueCoef (MOD.CH.GAIN.VALUE n).addr g
      let s := s.cueCoef (MOD.CH.FDELAY.DELAY n).addr (BitVec.ofNat 32 (BitVec.ofInt 14 d).toNat)
      let a := (MOD.CH.STATUS.METER n).addr
      ((s.cueReg a (putField (s.word a) (MOD.CH.STATUS.METER n) (c.u 7 1))).refreshSealed, .ok [])))

/-- The coefficients of a channel as a calibration set holds them (R72); a sealed channel's as the set in NOR holds
them (R76). -/
def State.calCoefs (s : State) (n : Nat) : Word × Word × Word × Word × Bool :=
  let now := (s.word (MOD.CH.OFFSET.VALUE n).addr, s.word (MOD.CH.GAIN.VALUE n).addr, s.word (MOD.CH.NOM_GAIN.VALUE n).addr,
    s.word (MOD.CH.FDELAY.DELAY n).addr, s.on (MOD.CH.STATUS.METER n))
  if s.metroLocked n then (match s.nvm.cal with | some x => x.chans.getD n now | none => now) else now

/-- The calibration set to store (R72): the coefficients, signed under the device identity key. -/
def State.calSet (s : State) (v : Nat) : CalSet :=
  let x : CalSet := { version := v, chans := (List.range 40).map s.calCoefs }
  { x with sig := ownBlock x.image }

/-- Changes the record of what outlives power. -/
def State.modNvm (s : State) (f : Nvm → Nvm) : State := { s with nvm := f s.nvm }

/-- A monotonic counter of the security core rises to a value, and its register follows (R400). -/
def State.raiseCnt (s : State) (j v : Nat) : State :=
  let n := Nat.max v (s.nvm.cnt.getD j 0)
  (s.modNvm (fun x => { x with cnt := updAt x.cnt j (fun _ => n) })).wr (SEC.CNT.VALUE j) n

/-- CALIBRATION_STORE (cue 0x0413): the set's version is the next of its counter. -/
def execCalibrationStore (t : Time) (c : Cue) (s : State) : Host.Outcome State Fault Refusal :=
  s.during t (fun s =>
    s.runCue 0x0413 c (fieldsOf c []) (fun s =>
    let v := (s.nvm.cnt.getD 3 0 + 1) % 2 ^ 32
    let set := s.calSet v
    let old := match s.nvm.cal with | some x => x.image | none => []
    let s := (s.modNvm (fun x => { x with cal := some set })).raiseCnt 3 v
    (s.logObj obCalSet old set.image, .ok (leBytes 4 v))))

/-- METROLOGY_SEAL (cue 0x0414, R76). -/
def execMetrologySeal (t : Time) (c : Cue) (s : State) : Host.Outcome State Fault Refusal :=
  s.during t (fun s =>
    s.runCue 0x0414 c (firstBad (fieldsOf c [2]) [(decide (c.u 0 2 = 0xA55A), 0)]) (fun s =>
    let l := (List.range 40).filter (fun n => s.on (MOD.CH.STATUS.METER n))
    let a := MOD.CTRL.METRO_SEALED.addr
    let s := s.cueReg a (putField (s.word a) MOD.CTRL.METRO_SEALED 1)
    let s := (s.each l (fun s n => s.set (MOD.CH.STATUS.SEALED n))).modNvm (fun x => { x with metro := true })
    (s.refreshSealed, .ok (leBytes 8 (l.foldl (fun m n => m + 2 ^ n) 0)))))

/-! ### Profile (R271, R272) -/

/-- PROFILE_READ (cue 0x0500): the applied profile or the candidate. -/
def execProfileRead (t : Time) (c : Cue) (s : State) : Host.Outcome State Fault Refusal :=
  s.during t (fun s =>
    s.runCue 0x0500 c (firstBad (fieldsOf c [1, 4]) [(decide (c.u 0 1 < 2), 0)]) (fun s =>
    match if c.u 0 1 = 0 then s.nvm.applied else s.nvm.profile with
    | some b => (s, .ok (page b (c.u 1 4)))
    | none => (s, .fail csFAILED 2)))

/-- PROFILE_STORE (cue 0x0501): a candidate that passes the checks is held in NOR for the next boot. -/
def execProfileStore (t : Time) (c : Cue) (s : State) : Host.Outcome State Fault Refusal :=
  s.during t (fun s =>
    s.runCue 0x0501 c none (fun s =>
    let n := s.profileCheck c.payload
    if n ≠ 0 then (s, .fail csCHECK n)
    else
      let old := s.nvm.profile.getD []
      ((s.modNvm (fun x => { x with profile := some c.payload })).logObj obProfile old c.payload, .ok [])))

/-- SEAL_FLAG (cue 0x0502): held in NOR with the profile, effective at the next boot. -/
def execSealFlag (t : Time) (c : Cue) (s : State) : Host.Outcome State Fault Refusal :=
  s.during t (fun s =>
    s.runCue 0x0502 c (firstBad (fieldsOf c [1]) [(decide (c.u 0 1 < 2), 0)]) (fun s =>
    let o := b2n s.nvm.sealFlag
    let n := c.u 0 1
    let s := s.modNvm (fun x => { x with sealFlag := decide (n = 1) })
    (if o = n then s else s.logCue (tgObj obSealFlag) o n, .ok [])))

end Sys2Proof.Machine
end

