-- ==== Sys2Proof/Machine/NetCues.lean ====
section
/-!
DEFINITION. Network cues (spec/19_cues.md R391; spec/15_process_bus.md R317, R328, R330).
-/
namespace Sys2Proof.Machine
open Reg

/-! ### Accepted writes at the tick (R30, R317) -/

/-- The accepted writes of contexts whose cue completed in a cycle that `take` admits come into effect. -/
def State.applyCtxs (s : State) (take : Nat → Bool) : State :=
  let l := s.bus.pendCtx.filter (fun w => take w.1)
  let s := s.modBus (fun b => { b with pendCtx := b.pendCtx.filter (fun w => !take w.1) })
  l.foldl (fun (s : State) w => (s.putCtx w.2.1 w.2.2).devicesLost w.2.1) s

/-- The accepted writes of the fused set. -/
def State.applyQs (s : State) (take : Nat → Bool) : State :=
  let l := s.bus.pendQ.filter (fun w => take w.1)
  let s := s.modBus (fun b => { b with pendQ := b.pendQ.filter (fun w => !take w.1) })
  l.foldl (fun (s : State) w =>
    let q := w.2.1
    let s := (s.setWord (STR.Q.CFG.EN q).addr w.2.2.1).setWord (STR.Q.THR.THR q).addr w.2.2.2
    let s := (s.setWord (STR.Q.STAT.IN_USE q).addr 0).setWord (STR.Q.DIFF.VALUE q).addr 0
    s.modBus (fun b => { b with q := b.q.upd q (fun _ => {}) })) s

/-- A new point table and data model; every MMS association closes (R330). -/
def State.applyModel (s : State) (take : Nat → Bool) : State :=
  let p := match s.bus.pendPts with | some w => if take w.1 then some w.2 else none | none => none
  let m := match s.bus.pendModel with | some w => if take w.1 then some w.2 else none | none => none
  if p.isNone && m.isNone then s
  else
    let s := match p with
      | some l => s.modBus (fun b => { b with
          points := l.map (fun r => { record := r }), scanAt := 0, pendPts := none })
      | none => s
    let s := match m with
      | some d => s.modBus (fun b => { b with model := d, pendModel := none })
      | none => s
    s.modCue (fun q => { q with sessions := q.sessions.filter (fun x => decide (x.path ≠ .mms)) })

/-- Every accepted write of the network that a tick takes. -/
def State.applyNet (s : State) (take : Nat → Bool) : State :=
  ((s.applyCtxs take).applyQs take).applyModel take

/-! ### Contexts (R317) -/

/-- The block a context will have once every accepted write is in. -/
def State.nextBlock (s : State) (i : Nat) : Option (List Byte) :=
  match s.bus.pendCtx.reverse.find? (fun w => decide (w.2.1 = i)) with
  | some w => w.2.2
  | none => (s.ctx i).map (·.block)

/-- Contexts of a kind besides one, once every accepted write is in. -/
def State.othersOf (s : State) (kind i : Nat) : Nat :=
  ((List.range 256).filter (fun j => decide (j ≠ i) && (match s.nextBlock j with
    | some b => decide (leAt b 1 1 = kind)
    | none => false))).length

/-- The applied profile names a context (R317). -/
def State.ctxNamed (s : State) (i : Nat) : Bool := !(s.devicesOf i).isEmpty

/-- A context write or its freeing is accepted and waits for the tick. -/
def State.acceptCtx (s : State) (i : Nat) (b : Option (List Byte)) : State :=
  let old := (s.nextBlock i).getD []
  let s := s.modBus (fun x => { x with pendCtx := x.pendCtx ++ [(s.cycle, i, b)] })
  if old = b.getD [] then s else s.logObj (obContext i) old (b.getD [])

/-- CONTEXT_WRITE (cue 0x0610). -/
def execContextWrite (t : Time) (c : Cue) (s : State) : Host.Outcome State Fault Refusal :=
  s.during t (fun s =>
    s.runCue 0x0610 c (ctxBad c.payload) (fun s =>
    let i := c.u 0 1
    let k := c.u 1 1
    let changed := match s.nextBlock i with | some b => decide (leAt b 1 1 ≠ k) | none => decide (k ≠ 3)
    if s.ctxNamed i && changed then (s, .fail csSEALED 3)
    else if kindLimit k ≤ s.othersOf k i then (s, .fail csRESOURCE 1)
    else (s.acceptCtx i (some c.payload), .ok [])))

/-- CONTEXT_FREE (cue 0x0611). -/
def execContextFree (t : Time) (c : Cue) (s : State) : Host.Outcome State Fault Refusal :=
  s.during t (fun s =>
    s.runCue 0x0611 c (fieldsOf c [1]) (fun s =>
    let i := c.u 0 1
    if s.ctxNamed i then (s, .fail csSEALED 3) else (s.acceptCtx i none, .ok [])))

/-- CONTEXT_READ (cue 0x0612): a context that is not held reads as no block and counts of 0. -/
def execContextRead (t : Time) (c : Cue) (s : State) : Host.Outcome State Fault Refusal :=
  s.during t (fun s =>
    s.runCue 0x0612 c (fieldsOf c [1]) (fun s =>
    (s, match s.ctx (c.u 0 1) with
      | some x => .ok (x.block ++ leBytes 4 x.accepted ++ leBytes 4 x.discarded ++ leBytes 4 x.losses
          ++ leBytes 4 x.authFails ++ leBytes 4 x.seqErrs)
      | none => .fail csFAILED 2)))

/-! ### Fused set (R326, R328) -/

/-- A source code names a channel or a member that can exist, its neighbours too for KIND 1. -/
def codeOk (kind code : Nat) : Bool :=
  decide (code < 2 ^ 14) && (sourceCodes kind code).all (fun c =>
    if isSv c then decide (svCtx c = svCtx code) && decide (svMember c < 24) && isSv code
    else decide (c < 40))

/-- FUSED_SET_WRITE (cue 0x0620). -/
def execFusedSetWrite (t : Time) (c : Cue) (s : State) : Host.Outcome State Fault Refusal :=
  s.during t (fun s =>
    let flags := c.u 1 1
    let kind := flags / 4 % 4
    let pri := c.u 2 2
    let xck := c.u 4 2
    let thr := c.u 6 2
    let hyst := c.u 8 2
    let bad := firstBad (fieldsOf c [1, 1, 2, 2, 2, 2])
      [(decide (c.u 0 1 < 64), 0), (decide (flags < 16 ∧ kind ≤ 1), 1), (codeOk kind pri, 2),
     (decide (xck = 0x3FFF) || codeOk kind xck, 4), (decide (thr = 0 ∨ hyst < thr), 8)]
    s.runCue 0x0620 c bad (fun s =>
    let q := c.u 0 1
    let cfg : Word := BitVec.ofNat 32 (flags % 2 * 2 ^ 31 + flags / 2 % 2 * 2 ^ 30 + kind * 2 ^ 28 + xck * 2 ^ 14 + pri)
    let th : Word := BitVec.ofNat 32 (hyst * 65536 + thr)
    let old := match s.bus.pendQ.reverse.find? (fun w => decide (w.2.1 = q)) with
      | some w => w.2.2
      | none => (s.word (STR.Q.CFG.EN q).addr, s.word (STR.Q.THR.THR q).addr)
    let s := s.modBus (fun b => { b with pendQ := b.pendQ ++ [(s.cycle, q, cfg, th)] })
    (if old = (cfg, th) then s else s.logObj (obFused q) (le32 old.1 ++ le32 old.2) (le32 cfg ++ le32 th), .ok [])))

/-- SOURCE_SELECT (cue 0x0621, R328): taken or rejected at the tick. -/
def execSourceSelect (t : Time) (c : Cue) (s : State) : Host.Outcome State Fault Refusal :=
  s.during t (fun s =>
    s.runCue 0x0621 c (firstBad (fieldsOf c [1, 1])
    [(decide (c.u 0 1 < 64), 0), (decide (c.u 1 1 ≤ 1), 1)]) (fun s =>
      let q := c.u 0 1
      let b := decide (c.u 1 1 = 1)
      let f := s.bus.q.get q {}
      let old := match f.sel with | some (x, _) => x | none => s.on (STR.Q.STAT.IN_USE q)
      let s := s.modBus (fun x => { x with q := x.q.upd q (fun f => { f with sel := some (b, s.cycle) }) })
      (if old = b then s else s.logCue (tgReg (STR.Q.STAT.IN_USE q).addr) (b2n old) (b2n b), .ok [])))

/-! ### Point table and data model (R330) -/

/-- Every bit of a field, which may reach into the word above, is among the bits a code gives. -/
def fieldWithin (a lo n : Nat) (f : RegRow → Nat) : Bool :=
  let m (x : Nat) : Nat := match rowOf x with | some r => f r | none => 0
  let w := m a + m (a + 4) * 2 ^ 32
  (List.range n).all (fun i => w.testBit (lo + i))

/-- A point record by itself: its fields in range, a readable register field, a writable target where it is
control-writable. -/
def recordGood (r : List Byte) : Bool :=
  let a := leAt r 0 4
  let kind := leAt r 4 1
  let lo := leAt r 5 1
  let n := leAt r 6 1
  let q := leAt r 24 2
  let flags := leAt r 26 2
  let readable (x : RegRow) : Nat := x.mRw ||| x.mW1c ||| x.mRws ||| x.mSeal ||| x.mCue ||| x.mRo
  decide (kind ≤ 2) && decide (lo < 64 ∧ 1 ≤ n ∧ lo + n ≤ 64) && decide (leAt r 7 1 / 2 ≤ 5)
    && (decide (q < 64) || (decide (0x100 ≤ q) && decide (q < 0x128)) || decide (q = 0xFFFF))
    && decide (flags ≤ 1) && decide (leAt r 28 4 = 0)
    && (if kind = 0 then addrOk a && fieldWithin a lo n readable
        else if kind = 1 then decide (a < 8192)
        else decide (a < 2 ^ 14 ∧ a % 256 ≤ 202))
    && (decide (flags = 0) || (decide (kind = 0) && fieldWithin a lo n (fun x => x.mRw ||| x.mRws))
        || (decide (kind = 1) && decide (0x400 ≤ a) && decide (a < 0x600)))

/-- Index of the first failing record: by itself, by a handle beyond the model, by a handle used before. -/
def firstBadRecord (leaves : Nat) : Nat → List Nat → List (List Byte) → Option Nat
  | _, _, [] => none
  | i, seen, r :: rs =>
    let h := leAt r 20 4
    if recordGood r && decide (h < leaves) && !seen.contains h then firstBadRecord leaves (i + 1) (h :: seen) rs
    else some i

/-- The data model that holds once every accepted load is in. -/
def State.nextModel (s : State) : List Byte :=
  match s.bus.pendModel with | some w => w.2 | none => s.bus.model

/-- POINT_TABLE_LOAD (cue 0x0630). -/
def execPointTableLoad (t : Time) (c : Cue) (s : State) : Host.Outcome State Fault Refusal :=
  s.during t (fun s =>
    let n := c.u 0 4
    let len := c.payload.length
    let bad := firstBad (if len < 4 then some 0 else none)
      [(decide (n ≤ 131072), 0), (decide (len = 4 + 32 * n), if len < 4 + 32 * n then 4 + (len - 4) / 32 * 32 else 4 + 32 * n)]
    s.runCue 0x0630 c bad (fun s =>
    let rs := (List.range n).map (fun i => slice c.payload (4 + 32 * i) 32)
    match firstBadRecord ((Config.sclLeaves s.nextModel).getD 0) 0 [] rs with
    | some i => (s, if i < 65536 then .fail csCHECK i else .fail csCHECK 0xFFFF (leBytes 4 i))
    | none =>
      let old := (match s.bus.pendPts with | some w => w.2 | none => s.bus.points.map Point.record).flatten
      let s := s.modBus (fun b => { b with pendPts := some (s.cycle, rs) })
      (if old = rs.flatten then s else s.logObj obPoints old rs.flatten, .ok [])))

/-- DATA_MODEL_LOAD (cue 0x0631). -/
def execDataModelLoad (t : Time) (c : Cue) (s : State) : Host.Outcome State Fault Refusal :=
  s.during t (fun s =>
    s.runCue 0x0631 c (if (Config.sclLeaves c.payload).isSome then none else some 0) (fun s =>
    let old := s.nextModel
    let s := s.modBus (fun b => { b with pendModel := some (s.cycle, c.payload) })
    (if old = c.payload then s else s.logObj obModel old c.payload, .ok [])))

/-! ### Network image (R317) -/

/-- The network image as accepted so far. -/
def State.imageNow (s : State) : NetImage :=
  let s := s.applyNet (fun _ => true)
  { ctxs := s.bus.ctxs.map (·.block)
    q := (List.range 64).map (fun q => (s.word (STR.Q.CFG.EN q).addr, s.word (STR.Q.THR.THR q).addr))
    points := s.bus.points.map (·.record)
    model := s.bus.model
    regs := [NET.CTRL.MODE.addr, PTP.CTRL.EN.addr].map (fun a => (a, s.word a)) }

/-- Bytes of a network image. -/
def NetImage.bytes (i : NetImage) : List Byte :=
  Config.netImage i.ctxs (i.q.flatMap (fun x => [x.1.toNat, x.2.toNat]) ++ i.regs.map (fun x => x.2.toNat))
    i.points i.model

/-- NETWORK_IMAGE_STORE (cue 0x0640). -/
def execNetworkImageStore (t : Time) (c : Cue) (s : State) : Host.Outcome State Fault Refusal :=
  s.during t (fun s =>
    s.runCue 0x0640 c (fieldsOf c []) (fun s =>
    let old := match s.nvm.image with | some i => i.bytes | none => []
    let new := s.imageNow
    let s := s.modNvm (fun x => { x with image := some new })
    (if old = new.bytes then s else s.logObj obImage old new.bytes, .ok [])))

end Sys2Proof.Machine
end

