-- ==== Sys2Proof/Machine/Pairs.lean ====
section
/-!
DEFINITION. The core pairs: restarts, the director's policy cycle, updates (spec/13_operating_states.md R284,
R288; spec/19_cues.md R394; spec/21_faults_and_availability.md R417).
-/
namespace Sys2Proof.Machine
open Reg

/-- A core pair runs: 0 pair A, 1 pair B. -/
def State.pairRuns (s : State) (p : Nat) : Bool := bit s.sys.pairRunning p

/-- The cue that pair A was executing did not commit (R394): its answer is BUSY, detail 5, once the pair
runs again. -/
def State.interrupt (s : State) : State :=
  match s.cue.inbox with
  | [] => s
  | i :: rest =>
    let e : Entry := { i.entry with status := csBUSY, detail := 5, pending := false }
    let s := (s.modCue (fun q => { q with inbox := rest })).store e
    s.logRefused i.cue e.op csBUSY 5

/-- A pair stops, and hold-over begins (R284). Without pair A the management connections close (R288). -/
def State.stopPair (s : State) (p : Nat) : State :=
  let s := s.modSys (fun y => { y with pairRunning := setBit y.pairRunning p false })
  let s := s.holdStart p
  if p = 0 then (s.each (List.range 4) State.closeConn).refreshQueue else s

/-- A pair fails and restarts from its verified image under hold-over (R288, R417). -/
def State.failPair (s : State) (p : Nat) : State := (if p = 0 ∧ s.pairRuns 0 = true then s.interrupt else s).stopPair p

/-- Replays the final replies owed to the sessions that `who` names, by session and ascending sequence
(R288, R394). -/
def State.replayOwed (s : State) (who : Nat → Bool) : State :=
  let owed := s.cue.entries.filter (fun e => e.delivered.isNone && !e.pending && who e.session)
  let s := s.modCue (fun q => { q with out := q.out.filter (fun m => !(m.final && who m.session)) })
  ((owed.mergeSort (fun a b => decide (a.session < b.session ∨ (a.session = b.session ∧ a.seq ≤ b.seq)))).foldl
    (fun (s : State) e => s.send e e.status e.detail e.data true) s).refreshQueue

/-- A pair runs again: pair A replays the replies owed, pair B those owed to the director. The hold-over ends
at the director's next policy cycle. -/
def State.pairUp (s : State) (p : Nat) : State :=
  let s := s.modSys (fun y => { y with pairRunning := setBit y.pairRunning p true })
  if p = 0 then (s.wrBit SYS.HOLD.ACTIVE 0 false).replayOwed (fun n => decide (n ≠ 1))
  else s.replayOwed (fun n => decide (n = 1))

/-- LOCKSTEP_MISMATCH (R288, class 0x14): the detail is the pair. -/
def execLockstepMismatch (t : Time) (p : Fin 2) (s : State) : Host.Outcome State Fault Refusal :=
  s.during t (fun s => if s.pairRuns p then (s.detect 0x14 p rcRESTART).failPair p else s)

/-- PAIR_RESTART_DONE (R394). -/
def execPairRestartDone (t : Time) (p : Fin 2) (s : State) : Host.Outcome State Fault Refusal :=
  s.during t (fun s => if s.pairRuns p || decide (s.sys.updating = some p.val) then s else s.pairUp p)

/-- CHECKER_TEST (R417): one round, once per second; `fail` tells which checkers did not flag it, laid out as FLT.CHK.FAIL. A
band-law or sequencer checker asserts source 32, a pair's checker restarts the pair. -/
def execCheckerTest (t : Time) (fail : BitVec 4) (s : State) : Host.Outcome State Fault Refusal :=
  s.during t (fun s =>
    if !s.due .checker sec then s
    else
    let s := ((s.start .checker).wr FLT.CHK.FAIL fail.toNat).inc FLT.CHK.PASSES
    if fail = 0 then s
    else
      (s.set FLT.STATUS.CHK_FAIL).each ((List.range 4).filter (fun i => fail.toNat.testBit i)) (fun s i =>
        if i < 2 then (s.pulseSrc 32).detect 0x1C i (s.tripReact 32)
        else (s.detect 0x1C i rcRESTART).failPair (i - 2)))

/-! ### Update and policy cycle (R24, R284, R288, R400) -/

/-- The image an update package of kind FIRMWARE carries. -/
def Package.image (k : Package) : FwImage :=
  { digest := sha384 k.body, version := k.version, rollback := k.rollback }

/-- Place of a firmware target among the images of a bank: stage one, security core, pair A, pair B. -/
def imageSlot (target : Nat) : Nat := if target = 2 then 1 else 2 + target

/-- An image is written to the bank that did not boot (R288). -/
def State.writeBank (s : State) (i : Nat) (x : FwImage) : State :=
  s.modNvm (fun n => if s.on SEC.BOOT.BANK then { n with bankA := updAt n.bankA i (fun _ => x) }
    else { n with bankB := updAt n.bankB i (fun _ => x) })

/-- UPDATE_IMAGE_RUNNING (R288): the updated pair runs its new image. -/
def execUpdateImageRunning (t : Time) (s : State) : Host.Outcome State Fault Refusal :=
  s.during t (fun s =>
    match s.sys.updating, s.nvm.pkg with
    | some p, some k =>
      if s.pairRuns p then s
      else
        (s.modNvm (fun n => if k.kind = 0 then { n with runs := updAt n.runs (imageSlot p) (fun _ => k.image) }
          else { n with policy := sha384 k.body })).pairUp p
    | _, _ => s)

/-- The update's hold-over ends: the firmware counter rises, PREF names the new bank, the cue completes. -/
def State.updateDone (s : State) : State :=
  match s.sys.updating, s.nvm.pkg with
  | some p, some k =>
    let s := (s.modSys (fun y => { y with updating := none })).raiseCnt 0 k.rollback
    let b := b2n (!s.on SEC.BOOT.BANK)
    let s := if k.kind = 0 then (s.modNvm (fun n => { n with pref := b })).wr SEC.BOOT.PREF b else s
    let s := s.modNvm (fun n => { n with stage := .done })
    let a : Nat × Nat := match s.cue.deferred.find? (fun x => decide (x.1 = DeferKind.update)) with
      | some (_, id, seq) =>
        match s.cue.entries.find? (fun e => decide (e.session = id ∧ e.seq = seq)) with
        | some e => (e.tag / 2 ^ 24, actingRole roE (s.rolesOf id))
        | none => (orBOOT, 0)
      | none => (orBOOT, 0)
    (s.logIt a.1 a.2 false false 0x0A01 (tgObj (obFirmware p)) 0 (shaPrefix k.digest 4)).finishCue .update csOK 0 []
  | _, _ => s

/-- Re-interleaving (R213): where the set of feeds in START or RUN has changed and their periods agree, each takes
its phase position. -/
def State.interleave (s : State) : State :=
  let l := (List.range 8).filter (fun k => decide (s.feedSt k = fsSTART ∨ s.feedSt k = fsRUN))
  let m := l.foldl (fun m k => m + 2 ^ k) 0
  let per := 2 * s.prd (l.headD 0 + 1)
  if m = s.sys.dirFeeds then s
  else
    let s := s.modSys (fun y => { y with dirFeeds := m })
    if !s.on FED.CTRL.REINTERLEAVE || l.any (fun k => decide (2 * s.prd (k + 1) ≠ per)) then s
    else
      let ws : List (Nat × Word × Word) := l.zipIdx.map (fun (e : Nat × Nat) =>
        let f := PWM.CU.PHASE.POS (e.1 + 1)
        let pos := (s.rd FED.CTRL.POS_BASE + (rneDiv ((e.2 * per : Nat) : Int) l.length).toNat) % Nat.max 1 per
        (f.addr, f.mask, putField 0 f pos))
      if ws.isEmpty then s
      else
        s.directorCue 0x0102 (leBytes 2 ws.length ++ ws.flatMap (fun w => leBytes 4 w.1 ++ le32 w.2.1 ++ le32 w.2.2))
          (fun s => s.cueWrites ws)

/-- Carrier periods that follow the target switching frequencies (R129): where the target of a band-law unit has changed
since the director last set its period, PRD is written for a carrier of that frequency, and committed. -/
def State.retune (s : State) : State :=
  let tgt (n : Nat) : Nat := s.rdE (BND.CH.ADAPT.TGT_FREQ (if n = 0 then 0 else n + 2))
  let ns := (List.range 9).filter (fun n => s.bandMode n && s.on (PWM.CU.CFG.ENABLE n)
    && decide (s.sys.dirTgt.getD n 0 ≠ tgt n))
  if ns.isEmpty then s
  else
    let ws : List (Nat × Word × Word) := ns.flatMap (fun n =>
      let f := PWM.CU.PRD.SHADOW n
      let g := PWM.CU.COMMIT.GO n
      let p := (clampInt 16 65535 (rneDiv 2000000 (Nat.max 1 (tgt n * 2 ^ s.rd (PWM.CU.CFG.PRESC n))))).toNat
      [(f.addr, f.mask, putField 0 f p), (g.addr, g.mask, 1)])
    let s := s.modSys (fun y => { y with dirTgt := (List.range 9).map (fun n =>
      if ns.contains n then tgt n else y.dirTgt.getD n 0) })
    s.directorCue 0x0102 (leBytes 2 ws.length ++ ws.flatMap (fun w => leBytes 4 w.1 ++ le32 w.2.1 ++ le32 w.2.2))
      (fun s => s.cueWrites ws)

/-- The step of R86 for a short-circuit ratio in Q15.16, by the bands that the boundaries 2, 5 and 10 part, from the
band it is in: a rise past a boundary needs 10 % more than it, a fall 10 % less. -/
def scrBand (scr : Nat) (b : Nat) : Nat :=
  let bound (i : Nat) : Nat := ([2, 5, 10].getD i 0) * 65536
  let up := (List.range 3).filter (fun i => decide (b ≤ i) && decide (11 * bound i < 10 * scr))
  let dn := (List.range 3).filter (fun i => decide (i < b) && decide (10 * scr < 9 * bound i))
  match up.getLast?, dn.head? with
  | some i, _ => i + 1
  | none, some i => i
  | none, none => b

/-- The director's choice of STEP (R86): from the step's own band, or from the lowest for a step outside the
table. -/
def State.chooseStep (s : State) : State :=
  let steps := [1, 3, 4, 5]
  let now := s.rd SYN.CTRL.STEP
  let scr := s.rd ISD.SCR.VALUE
  let next := steps.getD (scrBand scr (steps.findIdx (fun x => decide (x = now)) % 4)) now
  if !s.on SYN.CTRL.BW_AUTO || !s.on ISD.STATUS.Z_VALID || decide (next = now) then s
  else
    let f := SYN.CTRL.STEP
    let w : Nat × Word × Word := (f.addr, f.mask, putField 0 f next)
    s.directorCue 0x0101 (leBytes 4 w.1 ++ le32 w.2.1 ++ le32 w.2.2) (fun s => s.cueWrites [w])

/-- DIRECTOR_POLICY_CYCLE (R24, R284): an evaluation starts, 10 ms after the start of the one before, and completes.
With both pairs running it ends a hold-over; outside one the director re-interleaves the feeds, writes the
synchronizer's step and selects the scene of the state. The other cues a policy issues are commands of their own. -/
def execDirectorPolicyCycle (t : Time) (s : State) : Host.Outcome State Fault Refusal :=
  s.during t (fun s =>
    if s.code ≤ stBOOT ∨ s.pairRuns 1 = false then s
    else if s.running .directorEval && !s.due .directorEval (10 * ms) then s
    else
      let s := (s.start .directorEval).wrBit SYS.HOLD.ACTIVE 1 false
      if s.pairRuns 0 && s.running .holdover then s.holdEnd.updateDone
      else if s.pairRuns 0 then s.interleave.retune.chooseStep.followScene s.code
      else s)

end Sys2Proof.Machine
end

