-- ==== Sys2Proof/Machine/SecCues.lean ====
section
/-!
DEFINITION. The security core: keys, lifecycle, update packages, the continuity log's spill and seals, security
violations, and their cues (spec/20_security_and_continuity.md R396 to R412; spec/19_cues.md R392).
-/
namespace Sys2Proof.Machine
open Reg

/-! ### Violations (R407) -/

/-- A security violation: its bit, a log entry, PILOT_LIGHT at the tick. -/
def State.violation (s : State) (b : Nat) : State :=
  let o := s.rd SEC.VIOL.CAUSE
  let n := setBit o b true
  let s := (s.wr SEC.VIOL.CAUSE n).logEvent evVIOL (tgObj obViolation) o n
  (s.detect 0x28 b (if stPILOT ≤ s.code then rcReport else rcPILOT)).modSys (fun y => { y with wantPilot := setBit y.wantPilot 5 true })

/-- TAMPER_INPUT (R412): the pad has been high for 100 µs; the latch sets in every state. In DARK the violation
follows at boot. -/
def execTamperInput (t : Time) (s : State) : Host.Outcome State Fault Refusal :=
  s.during t (fun s =>
    if s.nvm.tamper then s
    else
      let s := s.modNvm (fun n => { n with tamper := true })
      if s.sys.dark then s else (s.set SEC.STATUS.TAMPER).violation 0)

/-- DEBUG_ACCESS (R404): served in full in PROVISION; in INTEGRATE the port serves cues alone; in FIELD and
RETIRED a security violation. -/
def execDebugAccess (t : Time) (d : DebugOp) (s : State) : Host.Outcome State Fault Refusal :=
  s.duringMem t (fun s =>
    let l := s.nvm.lifecycle
    if s.sys.dark then s
    else if l = 0 then
      match d with
      | .cert i der => s.modNvm (fun n => { n with certs := updAt n.certs i (fun _ => der) })
      | .halt p => s.modSys (fun y => { y with pairRunning := setBit y.pairRunning p false })
      | .poke a v => s.modMem (fun m => { m with dram := mapPut (fun _ => 0) m.dram a.toNat v })
    else if l = 1 then s
    else s.violation 1)

/-- DIGEST_CHECK (R407): `good` tells that every loaded object still has its digest. -/
def execDigestCheck (t : Time) (good : Bool) (s : State) : Host.Outcome State Fault Refusal :=
  s.during t (fun s => if good then s else s.violation 2)

/-- SECURITY_CORE_FAULT (R285, class 0x29). -/
def execSecurityCoreFault (t : Time) (s : State) : Host.Outcome State Fault Refusal :=
  s.during t (fun s =>
    (s.detect 0x29 noDetail rcHALT).modSys (fun y => { y with wantHalt := setBit y.wantHalt 1 true }))

/-- VBAT_LOSS (R411, R412): below 2.0 V with VMAIN absent the VBAT domain keeps nothing. What the RTC counts
from is left open: a free value. -/
def execVbatLoss (t : Time) (s : State) : Host.Outcome State Fault Refusal :=
  s.during t (fun s =>
    if !s.sys.dark then s
    else
      let (v, s) := s.draw
      { s with
        nvm := { s.nvm with logCnt := 0, tamper := false, vbatLost := true }
        time := { s.time with rtc := v.toNat, rtcAt := s.now } })

/-! ### The log's archive and seals (R409, R410) -/

/-- Entries of the ring with their indices. -/
def State.ringed (s : State) : List (Nat × LogEntry) :=
  let first := s.rd64 LOG.NEXT.INDEX - s.log.ring.length
  (List.range s.log.ring.length).zipWith (fun i e => (first + i, e)) s.log.ring

/-- The chain over a run of entries from a head hash: whether every entry carries its hash, and the head after
them. -/
def chainOver : BitVec 384 → List (Nat × LogEntry) → Bool × BitVec 384
  | h, [] => (true, h)
  | h, (i, e) :: l =>
    let n := chainHash h e i
    let (ok, top) := chainOver n l
    (ok && decide (e.chain = BitVec.ofNat 64 (shaPrefix n 8)), top)

/-- Entries the continuity-log area holds: 1 GiB (R360). -/
def archiveRoom : Nat := 2 ^ 25

/-- Every entry not yet spilled goes to the archive; the chain is checked from the last spilled head where no
entry was lost between. A full area gives up its oldest group of 256. -/
def State.spill (s : State) (intact : Bool) : State :=
  let from' := s.firstUnspilled
  let l := s.ringed.filter (fun e => decide (from' ≤ e.1))
  match l.head?, l.getLast? with
  | some f, some last =>
    let chk := chainOver s.log.spillHead l
    let ok := intact && (chk.1 || decide (f.1 ≠ from'))
    let all := s.log.archive ++ l
    let all := if archiveRoom < all.length then
        (match all.head? with | some e => all.filter (fun x => decide (e.1 / 256 < x.1 / 256)) | none => all)
      else all
    let s := { s with log := { s.log with archive := all, spillHead := s.log.head, spillAny := true } }
    let s := (s.wr64 LOG.SPILLED.INDEX last.1).modNvm (fun n => { n with spilled := last.1 + 1 })
    if ok then s else s.violation 3
  | _, _ => s

/-- LOG_SPILL (R409): `intact` tells that the entries read as they were written. Without an archive nothing
spills (R410). -/
def execLogSpill (t : Time) (intact : Bool) (s : State) : Host.Outcome State Fault Refusal :=
  s.during t (fun s =>
    if s.on MEM.STATUS.EMMC_ABSENT || decide (s.code ≤ stBOOT) then s else (s.spill intact).start .bgSpill)

/-- LOG_SEAL_SIGNED (R409): the security core has signed the oldest group that waits; a spill goes with it. Without the
identity key (R401, R403) nothing is signed. -/
def execLogSealSigned (t : Time) (s : State) : Host.Outcome State Fault Refusal :=
  s.during t (fun s =>
    match (if s.nvm.identity then s.log.sealWait else []) with
    | [] => s
    | (k, h) :: rest =>
      let sig := Config.sign (shaBytes (sha384 (leBytes 8 k ++ shaBytes h)))
      let s := { s with log := { s.log with sealWait := rest, seals := s.log.seals ++ [(k, h, sig)] } }
      let s := (s.wr LOG.SEALED.VALUE k).wrB LOG.STATUS.SEAL_PEND (!rest.isEmpty)
      if s.on MEM.STATUS.EMMC_ABSENT then s else s.spill true)

/-- The 32 bytes of an entry (R408). -/
def LogEntry.image (e : LogEntry) : List Byte := e.bytes ++ leBytes 8 e.chain.toNat

/-- An entry of the continuity log that is held, in the ring or the archive. -/
def State.logEntry (s : State) (i : Nat) : Option LogEntry :=
  let first := s.rd64 LOG.NEXT.INDEX - s.log.ring.length
  if first ≤ i then s.log.ring[i - first]?
  else (s.log.archive.find? (fun e => decide (e.1 = i))).map (·.2)

/-- LOG_READ (cue 0x0900, R410): entries that do not exist yet are left out. -/
def execLogRead (t : Time) (c : Cue) (s : State) : Host.Outcome State Fault Refusal :=
  s.during t (fun s =>
    s.runCue 0x0900 c
    (firstBad (fieldsOf c [8, 2]) [(decide (1 ≤ c.u 8 2 ∧ c.u 8 2 ≤ 127), 8)]) (fun s =>
      let n := min (c.u 8 2) (s.rd64 LOG.NEXT.INDEX - c.u 0 8)
      let l := (List.range n).map (fun i => s.logEntry (c.u 0 8 + i))
      if n = 0 || l.any (·.isNone) then (s, .fail csFAILED 2)
      else (s, .ok (l.flatMap (fun o => match o with | some e => e.image | none => [])))))

/-- Bytes of a signature or hash, most significant first (R396). -/
def sigBytes (x : BitVec 768) : List Byte := beBytes 96 x.toNat

/-- LOG_SEAL_READ (cue 0x0901, R409). -/
def execLogSealRead (t : Time) (c : Cue) (s : State) : Host.Outcome State Fault Refusal :=
  s.during t (fun s =>
    s.runCue 0x0901 c (fieldsOf c [8]) (fun s =>
    match s.log.seals.find? (fun x => decide (x.1 = c.u 0 8)) with
    | some (_, h, sig) => (s, .ok (shaBytes h ++ sigBytes sig))
    | none => (s, .fail csFAILED 2)))

/-- LOG_HEAD (cue 0x0902). -/
def execLogHead (t : Time) (c : Cue) (s : State) : Host.Outcome State Fault Refusal :=
  s.during t (fun s =>
    s.runCue 0x0902 c (fieldsOf c []) (fun s =>
    (s, .ok (leBytes 8 (s.rd64 LOG.NEXT.INDEX) ++ shaBytes s.log.head))))

/-! ### Identity (R401, R402) -/

/-- A digest in a report; an absent object's reads as zeros. -/
def digestOf (o : Option (List Byte)) : List Byte :=
  match o with | some b => shaBytes (sha384 b) | none => List.replicate 48 0

/-- Bytes 0 to 463 of the attestation report. -/
def State.report (s : State) (nonce : List Byte) : List Byte :=
  let img (i : Nat) : List Byte := shaBytes (s.nvm.runs.getD i {}).digest
  let flags := b2n (s.on SEC.STATUS.TAMPER) + 2 * b2n (s.on SEC.STATUS.VBAT_LOST)
    + 4 * b2n (s.on MOD.CTRL.METRO_SEALED) + 8 * b2n (s.on TRP.PROF_STAT.SEALED)
    + 16 * b2n (s.on PTP.STATUS.TRACEABLE)
  leBytes 4 0x41545354 ++ leBytes 8 (s.rd64 SYS.SERIAL.SERIAL) ++ leBytes 1 s.nvm.lifecycle ++ leBytes 1 s.code
    ++ leBytes 2 flags ++ nonce ++ leBytes 8 s.tai
    ++ img 0 ++ img 1 ++ img 2 ++ img 3 ++ shaBytes s.nvm.policy ++ shaBytes s.activeBank.digest
    ++ digestOf s.nvm.applied ++ digestOf (s.nvm.image.map NetImage.bytes)
    ++ (List.range 4).flatMap (fun j => leBytes 4 (s.nvm.cnt.getD j 0)) ++ leBytes 8 (s.rd64 LOG.NEXT.INDEX)

/-- ATTEST (cue 0x0800): refused in RETIRED (R403). -/
def execAttest (t : Time) (c : Cue) (s : State) : Host.Outcome State Fault Refusal :=
  s.during t (fun s =>
    s.runCue 0x0800 c (fieldsOf c [32]) (fun s =>
    if s.nvm.lifecycle = 3 then (s, s.conflict 0)
    else
      let r := s.report c.payload
      (s, .ok (r ++ sigBytes (Config.sign r)))))

/-- CERTIFICATE_READ (cue 0x0801). -/
def execCertificateRead (t : Time) (c : Cue) (s : State) : Host.Outcome State Fault Refusal :=
  s.during t (fun s =>
    s.runCue 0x0801 c (firstBad (fieldsOf c [1, 2]) [(decide (c.u 0 1 < 3), 0)]) (fun s =>
    let b := s.nvm.certs.getD (c.u 0 1) []
    if b.length ≤ c.u 1 2 then (s, .fail csFAILED 2) else (s, .ok (page b (c.u 1 2)))))

/-! ### Keys (R392, R406) -/

/-- The key slots of a target: a context, or a host slot from 0x0100 on. -/
def State.keysOf (s : State) (target : Nat) : KeySlot :=
  if target < 256 then s.ctxKeys target else s.cue.slots.get (target - 256) {}

/-- Changes the key slots of a target. -/
def State.putKeys (s : State) (target : Nat) (k : KeySlot) : State :=
  if target < 256 then s.modBus (fun b => { b with keys := (target, k) :: b.keys.filter (fun x => decide (x.1 ≠ target)) })
  else s.modCue (fun q => { q with slots := q.slots.upd (target - 256) (fun _ => k) })

/-- A key target exists. -/
def targetOk (n : Nat) : Bool := decide (n < 264)

/-- Bytes of a key for the log. -/
def keyImage (o : Option Key) : List Byte :=
  match o with | some k => leBytes 1 k.id ++ k.bytes ++ leBytes 8 k.till | none => []

/-- The key-encryption key of a cue's session (R406). -/
def State.kek (s : State) (c : Cue) : List Byte :=
  match s.sess c.session.toNat with
  | some x =>
    if x.path = .mgmt then
      (match x.conn.bind (fun k => s.cue.conns.get k none) with
        | some y => Config.tlsExporter y.serial false
        | none => [])
    else if x.slot.isSome then x.key
    else List.replicate 32 0
  | none => []

/-- KEY_LOAD (cue 0x0810): a key that does not unwrap is a bad field at its offset. -/
def execKeyLoad (t : Time) (c : Cue) (s : State) : Host.Outcome State Fault Refusal :=
  s.during t (fun s =>
    let key := Config.unwrapKey (s.kek c) (slice c.payload 4 40)
    let good := match key with | some k => decide (k.length = 32) | none => false
    let bad := firstBad (fieldsOf c [2, 1, 1, 48]) [(targetOk (c.u 0 2), 0), (decide (c.u 2 1 < 2), 2), (good, 4)]
    s.runCue 0x0810 c bad (fun s =>
    match key with
    | none => (s, .fail csPAYLOAD 4)
    | some b =>
      let old := s.keysOf (c.u 0 2)
      let k : Key := { id := c.u 3 1, bytes := b, till := c.u 44 8 }
      let cur := decide (c.u 2 1 = 0)
      let s := s.putKeys (c.u 0 2) (if cur then { old with cur := some k } else { old with next := some k })
      (s.logObj (obKey (c.u 0 2)) (keyImage (if cur then old.cur else old.next)) (keyImage (some k)), .ok [])))

/-- KEY_ACTIVATE (cue 0x0811): next becomes current. -/
def execKeyActivate (t : Time) (c : Cue) (s : State) : Host.Outcome State Fault Refusal :=
  s.during t (fun s =>
    s.runCue 0x0811 c (firstBad (fieldsOf c [2]) [(targetOk (c.u 0 2), 0)]) (fun s =>
    let k := s.keysOf (c.u 0 2)
    if k.next.isNone then (s, .fail csFAILED 2)
    else
      ((s.putKeys (c.u 0 2) { k with cur := k.next, next := none }).logObj (obKey (c.u 0 2)) (keyImage k.cur)
        (keyImage k.next), .ok [])))

/-- HOST_SLOT_ROLES (cue 0x0812): KEYED tells that a host slot has roles. -/
def execHostSlotRoles (t : Time) (c : Cue) (s : State) : Host.Outcome State Fault Refusal :=
  s.during t (fun s =>
    s.runCue 0x0812 c
    (firstBad (fieldsOf c [1, 1]) [(decide (c.u 0 1 < 8), 0), (decide (c.u 1 1 < 8), 1)]) (fun s =>
      let k := c.u 0 1
      let old := (s.cue.slots.get k {}).roles
      let s := s.modCue (fun q => { q with slots := q.slots.upd k (fun x => { x with roles := c.u 1 1 }) })
      let s := s.wrB HOST.STATUS.KEYED (s.cue.slots.list.any (fun x => decide (x.roles ≠ 0)))
      (if old = c.u 1 1 then s else s.logCue (tgObj (obSlotRoles k)) old (c.u 1 1), .ok [])))

/-! ### Lifecycle (R403) -/

/-- The lifecycle state changes. -/
def State.toLifecycle (s : State) (n : Nat) : State :=
  (s.modNvm (fun x => { x with lifecycle := n })).wr SEC.STATUS.LIFECYCLE n

/-- Every stream and host key is erased. -/
def State.eraseKeys (s : State) : State :=
  let s := s.modBus (fun b => { b with keys := [] })
  s.modCue (fun q => { q with slots := q.slots.map (fun x => { x with cur := none, next := none }) })

/-- LIFECYCLE (cue 0x0820). -/
def execLifecycle (t : Time) (c : Cue) (s : State) : Host.Outcome State Fault Refusal :=
  s.during t (fun s =>
    s.runCue 0x0820 c
    (firstBad (fieldsOf c [1, 2]) [(decide (c.u 0 1 < 4), 0), (decide (c.u 1 2 = 0xA55A), 1)]) (fun s =>
      let o := s.nvm.lifecycle
      let n := c.u 0 1
      let cfg := ssCFG.testBit s.code
      let fails : Option Nat :=
        if o = 0 ∧ n = 1 then firstFail [s.nvm.certs.all (fun b => !b.isEmpty)]
        else if o = 1 ∧ n = 2 then firstFail [s.nvm.anchor.isSome, cfg]
        else if (o = 1 ∨ o = 2) ∧ n = 3 then firstFail [cfg]
        else some 0
      match fails with
      | some f => (s, s.conflict f)
      | none =>
        let s := s.toLifecycle n
        let s := if n = 3 then (s.modNvm (fun x => { x with identity := false })).eraseKeys.wr SEC.STATUS.IDENTITY 0
          else s
        (s.logCue (tgObj obLifecycle) o n, .ok [])))

/-! ### Update packages (R288, R398) -/

/-- The body and the signature block of a package. -/
def pkgBody (b : List Byte) : List Byte := slice b 64 (leAt b 8 4)

/-- Number of the first failed check of a package, 0 for none (R398). -/
def State.pkgCheck (s : State) (b : List Byte) : Nat :=
  let kind := leAt b 4 1
  let tgt := leAt b 5 1
  let so := 64 + leAt b 8 4
  let dev := leAt b 20 8
  let suits := if kind = 0 then decide (tgt ≤ 2) else if kind = 1 then decide (tgt = 1)
    else if kind = 2 then decide (tgt = 2) else decide (kind = 3 ∧ tgt = 3)
  if !(decide (leAt b 0 4 = 0x55504B47) && decide (so + 104 ≤ b.length)
      && decide (b.length = so + 104 + leAt b (so + 6) 2) && zeros (slice b 6 2) && zeros (slice b 28 36) && suits) then 1
  else if !sigBlockOk (if kind = 1 then [1] else [0]) s.nvm.anchor (b.take so) (b.drop so) then 2
  else if leAt b 16 4 < s.nvm.cnt.getD 0 0 then 3
  else if !((decide (dev = 0) && decide (kind < 2)) || decide (dev = s.rd64 SYS.SERIAL.SERIAL ∧ dev ≠ 0)) then 4
  else 0

/-- An update, or a hold-over, runs (R288). -/
def State.updateBusy (s : State) : Bool := s.sys.updating.isSome || s.running .holdover

/-- UPDATE_LOAD (cue 0x0A00, R398). -/
def execUpdateLoad (t : Time) (c : Cue) (s : State) : Host.Outcome State Fault Refusal :=
  s.during t (fun s =>
    s.runCue 0x0A00 c none (fun s =>
    if s.updateBusy then (s, .fail csBUSY 1)
    else
      let n := s.pkgCheck c.payload
      if n ≠ 0 then (s, .fail csCHECK n)
      else
        let b := c.payload
        let so := 64 + leAt b 8 4
        let k : Package :=
          { kind := leAt b 4 1, target := leAt b 5 1, version := leAt b 12 4, rollback := leAt b 16 4,
            body := pkgBody b, digest := sha384 (b.take so) }
        let old := match s.nvm.pkg with | some x => shaPrefix x.digest 4 | none => 0
        ((s.modNvm (fun x => { x with pkg := some k, stage := .loaded })).logCue (tgObj obPackage) old
          (shaPrefix k.digest 4), .ok [])))

/-- A SERVICE package acts (R398, R403): the metrology seal goes, or FIELD returns to INTEGRATE with every stream
and host key erased. Its log entry names VENDOR_SERVICE. -/
def State.service (s : State) (body : List Byte) : State :=
  let s := s.modCue (fun q => { q with actor := { q.actor with role := 4 } })
  if Config.serviceSeal body then
    let a := MOD.CTRL.METRO_SEALED.addr
    let s := s.cueReg a (putField (s.word a) MOD.CTRL.METRO_SEALED 0)
    ((s.each (List.range 40) (fun s n => s.wr (MOD.CH.STATUS.SEALED n) 0)).modNvm
      (fun x => { x with metro := false })).refreshSealed
  else if s.nvm.lifecycle = 2 then ((s.toLifecycle 1).eraseKeys).logCue (tgObj obLifecycle) 2 1
  else s

/-- UPDATE_START (cue 0x0A01, R288): a FIRMWARE or POLICY package stops its pair under hold-over; an ANCHOR or
SERVICE package, and one for the security core, takes effect at once. -/
def execUpdateStart (t : Time) (c : Cue) (s : State) : Host.Outcome State Fault Refusal :=
  s.during t (fun s =>
    s.runCue 0x0A01 c (firstBad (fieldsOf c [1]) [(decide (c.u 0 1 < 2), 0)]) (fun s =>
    let p := c.u 0 1
    if s.updateBusy then (s, .fail csBUSY 1)
    else match s.nvm.pkg, s.nvm.stage with
      | some k, .loaded =>
        if k.kind ≤ 1 ∧ k.target ≤ 1 then
          if k.target ≠ p then (s, .fail csPAYLOAD 0)
          else
            let s := if k.kind = 0 then s.writeBank (imageSlot p) k.image else s
            let s := (s.modNvm (fun x => { x with stage := .running })).logCue (tgObj obPackage) 1 2
            let s := s.modSys (fun y => { y with updating := some p })
            (s, .pend .update)
        else
          let s := if k.kind = 0 then { s.writeBank 1 k.image with avail := { s.avail with outside := true } }
            else if k.kind = 2 then
              let a := Config.anchorOf k.body
              let old := match s.nvm.anchor with | some x => shaPrefix x 4 | none => 0
              ((s.modNvm (fun x => { x with anchor := some a })).set SEC.STATUS.ANCHOR).logCue (tgObj obPackage) old
                (shaPrefix a 4)
            else s.service k.body
          (s.modNvm (fun x => { x with stage := .done }), .ok [])
      | _, _ => (s, .fail csFAILED 2)) |> fun s =>
        -- the pair stops once the cue has its pending reply
        match s.sys.updating with
        | some p => if s.pairRuns p && !s.running .holdover then s.stopPair p else s
        | none => s)

/-- The number UPDATE_STATUS gives a stage. -/
def UpdStage.code : UpdStage → Nat
  | .none => 0 | .loaded => 1 | .running => 2 | .done => 3 | .rolledBack => 4

/-- UPDATE_STATUS (cue 0x0A02). -/
def execUpdateStatus (t : Time) (c : Cue) (s : State) : Host.Outcome State Fault Refusal :=
  s.during t (fun s =>
    s.runCue 0x0A02 c (fieldsOf c []) (fun s =>
    let s := s.showHoldover
    let left := if s.running .holdover then s.rd SYS.HOLD.LEFT else 0
    (s, .ok ((match s.nvm.pkg with | some k => shaBytes k.digest | none => List.replicate 48 0)
      ++ leBytes 1 s.nvm.stage.code ++ leBytes 2 left))))

end Sys2Proof.Machine
end

