-- ==== Sys2Proof/Machine/Boot.lean ====
section
/-!
DEFINITION. Supplies, reset and boot (spec/13_operating_states.md R276, R282, R287; spec/23_electrical_and_package.md
R439, R440; spec/20_security_and_continuity.md R399 to R412; spec/12_trip_network.md R253, R271; spec/22_register_index.md
R425).
-/
namespace Sys2Proof.Machine
open Reg

/-! ### What a reset leaves (R418, R425, R440) -/

/-- Fields of the window that follow pads, whatever the device does. -/
def padFields : List Field :=
  [SYS.AUXIO.BRK_AUX, SYS.AUXIO.DCD_AUX, SYS.AUXIO.PCH_AUX, SYS.GPIO_IN.LEVEL,
   NET.STATUS.PA_LINK, NET.STATUS.PB_LINK, NET.STATUS.MGMT_LINK]

/-- Fields of the fault ring, which outlive the warm reset (R418). -/
def ringFields : List Field :=
  [FLT.STATUS.PENDING, FLT.STATUS.LOST_NOW, FLT.STATUS.IRQ0, FLT.INDEX.ACK, FLT.INDEX.NEXT, FLT.LAST.DETAIL,
   FLT.LAST.REACTION, FLT.LAST.CLASS]

/-- Carries fields of one state's registers into another. -/
def State.keepFields (s from' : State) (fs : List Field) : State := fs.foldl (fun (s : State) f => s.wr f (from'.rd f)) s

/-- An island across a reset of the primary: its inputs stand, its link is to train, its switch is off. An
island whose link was up has lost it and latched (R163, R440). -/
def Island.across (i : Island) (now : Time) : Island :=
  { latched := i.latched || i.linked, oc := i.oc, sc := i.sc, uvlo := i.uvlo, warn := i.warn, ot := i.ot,
    goodSince := i.goodSince, goodDown := now, goodUp := now, cfg := i.cfg, lost := i.lost || i.linked
    measAt := i.measAt }

/-- The metering engine across a reset: journal and stored blocks stay in the archive; the numbering and the
hash chain of the blocks go on from the last stored one (R301, R303). -/
def Mtr.across (m : Mtr) : Mtr :=
  let last := m.stored.getLast?
  { journal := m.journal, stored := m.stored,
    nextSeq := match last with | some b => leAt b 8 4 + 1 | none => 1
    prevHash := match last with | some b => sha384 (b.take 248) | none => 0 }

/-- The machine after a reset (R425): every register at its reset word; what NOR, the security core, the
archive and the VBAT domain hold, and the levels of pads, stand. -/
def State.cold (s : State) : State :=
  let z : State := State.reset
  let n : State :=
    { z with
      pending := s.pending, now := s.now, free := s.free, nvm := s.nvm
      time := { s.time with tai := 0, taiAt := s.now }
      log := { z.log with archive := s.log.archive, seals := s.log.seals, spillHead := s.log.spillHead,
                          spillAny := s.log.spillAny }
      mem := { z.mem with cap := s.mem.cap, spare := s.mem.spare, pool := s.mem.pool }
      mtr := s.mtr.across
      hist := { z.hist with files := s.hist.files, mins := s.hist.mins, days := s.hist.days }
      bus := { z.bus with keys := s.bus.keys }
      cue := { z.cue with slots := s.cue.slots, connCount := s.cue.connCount }
      isl := s.isl.map (fun i => i.across s.now)
      meas := { z.meas with ch := z.meas.ch.map (fun c => { c with since := s.now, sinceS := s.now })
                            rsm := { z.meas.rsm with tk := s.now }
                            hk := { z.meas.hk with at' := s.now } }
      cu := z.cu.map (fun u => { u with org := s.now })
      band := { z.band with deltaT := s.now }
      isd := { z.isd with phAt := s.now }
      trip := { z.trip with xtrip := s.trip.xtrip }
      clk := { z.clk with ten := s.clk.ten, strobe := s.now }
      sys := { z.sys with vana := s.sys.vana, vioc := s.sys.vioc, vioc18 := s.sys.vioc18, cleared := s.sys.cleared } }
  -- every GPIO is an input with its pull-down again (R291)
  let driven := s.pwmPads ||| (s.rd SYS.GPIO_DIR.OE &&& (0xFFFF ^^^ s.pwmPads))
  let n := n.keepFields s padFields
  n.wr SYS.GPIO_IN.LEVEL (n.rd SYS.GPIO_IN.LEVEL &&& (0xFFFF ^^^ (driven &&& (0xFFFF ^^^ s.rd PWM.PINSEL.CLAP_IN * 2 ^ 9))))

/-- The machine after the warm reset of the reset cue: the fault ring and DRAM stand too (R418, R425). -/
def State.warm (s : State) : State :=
  let n : State := { s.cold with faults := s.faults }
  ({ n with mem := { n.mem with dram := s.mem.dram, poisoned := s.mem.poisoned } }).keepFields s ringFields

/-- The VBAT domain's log counter has followed the log (R411, R412). -/
def State.keepCounter (s : State) : State :=
  if s.sys.dark || decide (s.code ≤ stBOOT) then s
  else { s with nvm := { s.nvm with logCnt := s.rd64 LOG.NEXT.INDEX } }

/-- An island as power goes: the primary's frames stop, and the island is left to its own heartbeat. -/
def Island.unlink (i : Island) : Island :=
  { i with txq := [], wire := none, upq := [], upWire := none, echoes := [], muted := true, offAllowed := false,
           joined := false, cfgTodo := [], training := true }

/-- BROWN_OUT (R276, R439, R440): only the VBAT domain keeps its supply. -/
def execBrownOut (t : Time) (s : State) : Host.Outcome State Fault Refusal :=
  s.duringMem t (fun s =>
    let s := s.keepCounter
    if s.sys.dark then s
    else
      let n := s.cold
      { n with isl := s.isl.map Island.unlink, sys := { n.sys with dark := true } }.wr SYS.STATE.CODE stDARK)

/-- POWER_ON_RESET (R276, R440): every rail is in range and the reset is released; VIOC is sensed (R344). -/
def execPowerOnReset (t : Time) (vioc18 : Bool) (s : State) : Host.Outcome State Fault Refusal :=
  s.duringMem t (fun s =>
    let s := (s.keepCounter).cold
    s.modSys (fun y => { y with vana := true, vioc := true, vioc18 := vioc18 }))

/-! ### VANA and VIOC (R439) -/

/-- An on-module channel without its supply: invalid as for a missing clock (R78, R79). -/
def State.noClock (s : State) (n : Nat) : State :=
  let s := ((s.set (MOD.CH.STATUS.NOCLK_NOW n)).set (MOD.CH.STATUS.NOCLK n))
  if s.on (MOD.CH.CFG.ENABLE n) then s.monitorLoss n 0x0A else s

/-- Enabled comparators are in alarm as at power-up (R253): the output stays until the input was safe. -/
def State.cmpPowerUp (s : State) : State :=
  let on := (List.range 24).filter (fun n => s.on (CMP.CFG.EN n))
  let mask := on.foldl (fun m n => m + 2 ^ n) 0
  (s.modTrip (fun x => { x with raw := mask, boot := mask })).start .profileApplied

/-- VANA_BROWN_OUT (R439): VANA falls below its level, or rises above it. -/
def execVanaBrownOut (t : Time) (low : Bool) (s : State) : Host.Outcome State Fault Refusal :=
  s.during t (fun s =>
    if s.sys.dark || decide (low = !s.sys.vana) then s
    else
      let s := s.modSys (fun y => { y with vana := !low })
      if low then
        let s := s.each (List.range 16) State.noClock
        let on := (List.range 24).filter (fun n => s.on (CMP.CFG.EN n))
        (s.modTrip (fun x => { x with raw := on.foldl (fun m n => setBit m n true) x.raw })).each on
          (fun s n => if s.cmpMasked n then s else s.cmpOut n true)
      else s.cmpPowerUp)

/-- VIOC_BROWN_OUT (R439): VIOC falls below its level, or rises above it. -/
def execViocBrownOut (t : Time) (low : Bool) (s : State) : Host.Outcome State Fault Refusal :=
  s.during t (fun s => if s.sys.dark then s else s.modSys (fun y => { y with vioc := !low }))

/-- CKO0 to CKO3 are gated low: before the first alignment and without SCLK (R344), or with VIOC low (R439). -/
def State.ckoLow (s : State) : Bool := s.clk.gated || !s.sys.vioc

/-! ### Reset (R287) -/

/-- The reply of the reset cue was delivered. -/
def State.replyGone (s : State) (id seq : Nat) : Bool :=
  match s.cue.entries.find? (fun e => decide (e.session = id ∧ e.seq = seq)) with
  | some e => e.delivered.isSome
  | none => true

/-- RESET_START (R287): the reply was delivered, or 100 ms have passed since it was queued. A SECURITY_ADMIN
clears the violations and the tamper latch (R407). -/
def execResetStart (t : Time) (s : State) : Host.Outcome State Fault Refusal :=
  s.duringMem t (fun s =>
    match s.cue.resetBy with
    | none => s
    | some (admin, id, seq) =>
      if !s.replyGone id seq && !s.due .resetQueued (100 * ms) then s
      else
        let tag := match s.cue.entries.find? (fun e => decide (e.session = id ∧ e.seq = seq)) with
          | some e => e.tag / 2 ^ 24
          | none => orHOST
        let s := s.logIt tag (if admin then 3 else 2) false false evSTATE (tgState stBOOT) s.code stBOOT
        let s := if admin then
            { s with sys := { s.sys with cleared := s.rd SEC.VIOL.CAUSE }, nvm := { s.nvm with tamper := false } }
          else s
        s.keepCounter.warm)

/-! ### Boot (R271, R399, R411, R425) -/

/-- The images of a bank of NOR. -/
def Nvm.bank (n : Nvm) (b : Nat) : List FwImage := if b = 1 then n.bankB else n.bankA

/-- A bank boots: its images verify, and none is below the firmware counter (R399, R400). -/
def Nvm.bankOk (n : Nvm) (bad : BitVec 4) (b : Nat) : Bool :=
  !bad.getLsbD b && (n.bank b).all (fun i => decide (n.cnt.getD 0 0 ≤ i.rollback))

/-- The bank that boots: the preferred one, or the other; none where both fail. -/
def Nvm.bootFrom (n : Nvm) (bad : BitVec 4) : Option Nat :=
  if n.bankOk bad n.pref then some n.pref
  else if n.bankOk bad (1 - n.pref) then some (1 - n.pref) else none

/-- The security core fills its registers (R425). -/
def State.bootSecurity (s : State) (bank : Nat) : State :=
  let s := if s.nvm.lifecycle = 0 then s.modNvm (fun n => { n with identity := true }) else s
  let n := s.nvm
  let s := ((s.wr SEC.STATUS.LIFECYCLE n.lifecycle).wrB SEC.STATUS.IDENTITY n.identity).wrB SEC.STATUS.TAMPER n.tamper
  let s := (s.wrB SEC.STATUS.VBAT_LOST n.vbatLost).wrB SEC.STATUS.ANCHOR n.anchor.isSome
  let s := ((s.wr SEC.BOOT.BANK bank).wr SEC.BOOT.PREF n.pref).wrB SEC.BOOT.FALLBACK (decide (bank ≠ n.pref))
  let s := s.each (List.range 4) (fun s j => s.wr (SEC.CNT.VALUE j) (n.cnt.getD j 0))
  s.modNvm (fun x => { x with runs := x.bank bank })

/-- The continuity log resumes (R411): the next index from the VBAT counter, or after the last spilled one
where the domain lost power; the chain from the last spilled head; the resume entry. -/
def State.bootLog (s : State) : State :=
  let n := s.nvm
  let next := if n.vbatLost then n.spilled else n.logCnt
  let s := { s with log := { s.log with ring := [], head := s.log.spillHead } }
  let s := (s.wr64 LOG.NEXT.INDEX next).wr64 LOG.SPILLED.INDEX (n.spilled - 1)
  let s := s.wr LOG.SEALED.VALUE (match s.log.seals.getLast? with | some x => x.1 | none => 0)
  let s := s.satAdd LOG.LOST.VALUE (next - n.spilled)
  s.logIt orBOOT 0 false false evRESUME (tgObj obBoot) n.spilled next

/-- The archive device found at boot: its capacity in GiB, its spare pool of 3 % (R360, R361). -/
def State.bootArchive (s : State) (gib : Nat) : State :=
  let s := if s.mem.cap = gib then s
    else
      let pool := gib * 2 ^ 18 * 3 / 100
      s.modMem (fun m => { m with cap := gib, pool := pool, spare := pool })
  let s := s.wr MEM.EMMC_STAT.CAP gib
  if gib < 8 then (s.set MEM.STATUS.EMMC_ABSENT).detect 0x23 noDetail rcReport else s.refreshSpare

/-- Boot code writes a register; a word that changes is logged (R21, R22). -/
def State.bootWord (s : State) (a : Nat) (f : State → State) : State :=
  let o := s.word a
  let s := f s
  let n := s.word a
  if o = n then s else s.logIt orBOOT 0 false false evREGWRITE (tgReg a) o.toNat n.toNat

/-- One record of the applied profile is written (R271). -/
def State.applyRecord (s : State) (r : Nat × Word) : State := s.bootWord r.1 (fun s => s.putSeal r)

/-- The profile held in NOR is checked and applied (R271, R272); the GOOSE contexts its topology names are
those of a network image that verified (R235, R317). -/
def State.bootProfile (s : State) (imageBad : Bool) : State :=
  match s.nvm.profile with
  | none => (s.set TRP.PROF_STAT.PROF_BAD).wr TRP.PROF_STAT.CHECK 1
  | some b =>
    let look := if imageBad then s.modNvm (fun n => { n with image := none }) else s
    let k := look.profileCheck b
    if k ≠ 0 then (s.set TRP.PROF_STAT.PROF_BAD).wr TRP.PROF_STAT.CHECK k
    else
      let s := (profileRecords b).foldl State.applyRecord s
      let s := (s.wr TRP.PROF_ID.VALUE (leAt b 12 4)).wr TRP.PROF_VER.VALUE (leAt b 16 4)
      let s := (s.raiseCnt 2 (leAt b 20 4)).modNvm (fun n => { n with applied := some b })
      s.wrB TRP.PROF_STAT.SEALED s.nvm.sealFlag

/-- A coefficient takes its value at once, shadow and effect alike. -/
def State.putBoth (s : State) (a : Nat) (v : Word) : State :=
  { s.setWord a v with eff := mapPut resetWord s.eff a v }

/-- Calibration coefficients of NOR (R75, R76). DESIGN CHOICE (log entry 22; R75 names no other default): the METER flags
and NOM_GAIN are taken from the set even where it fails verification, as GAIN's default is NOM_GAIN. -/
def State.bootCal (s : State) (bad : Bool) : State :=
  let put (s : State) (f : Field) (v : Word) : State := s.bootWord f.addr (fun s => s.putBoth f.addr v)
  let s := match s.nvm.cal with
    | some x =>
      let bad := bad || !x.ok
      x.chans.zipIdx.foldl (fun (s : State) (e : (Word × Word × Word × Word × Bool) × Nat) =>
        let (c, n) := e
        let s := s.bootWord (MOD.CH.NOM_GAIN.VALUE n).addr (fun s => s.setWord (MOD.CH.NOM_GAIN.VALUE n).addr c.2.2.1)
        let s := if bad then put s (MOD.CH.GAIN.VALUE n) c.2.2.1
          else put (put (put s (MOD.CH.OFFSET.VALUE n) c.1) (MOD.CH.GAIN.VALUE n) c.2.1) (MOD.CH.FDELAY.DELAY n) c.2.2.2.1
        s.wrB (MOD.CH.STATUS.METER n) c.2.2.2.2) (if bad then s.set MOD.STATUS.CALSET_BAD else s)
    | none => s.set MOD.STATUS.CALSET_BAD
  let s := s.wrB MOD.CTRL.METRO_SEALED s.nvm.metro
  (s.each (List.range 40) (fun s n =>
    (s.wrB (MOD.CH.STATUS.SEALED n) (s.nvm.metro && s.on (MOD.CH.STATUS.METER n))).refreshDelays n)).refreshSealed

/-- The network image (R317): a missing or refused one leaves both ports disabled. -/
def State.bootNetwork (s : State) (bad : Bool) : State :=
  match s.nvm.image with
  | none => s.set NET.STATUS.IMG_BAD
  | some i =>
    if bad then s.set NET.STATUS.IMG_BAD
    else
      let s := i.regs.foldl (fun (s : State) x => s.bootWord x.1 (fun s => s.setWord x.1 x.2)) s
      let s := if s.on PTP.CTRL.EN then s.wr PTP.STATUS.STATE 1 else s
      let s := i.ctxs.foldl (fun (s : State) b => s.putCtx (leAt b 0 1) (some b)) s
      let s := i.q.zipIdx.foldl (fun (s : State) e =>
        (s.bootWord (STR.Q.CFG.EN e.2).addr (fun s => s.setWord (STR.Q.CFG.EN e.2).addr e.1.1)).bootWord
          (STR.Q.THR.THR e.2).addr (fun s => s.setWord (STR.Q.THR.THR e.2).addr e.1.2)) s
      s.modBus (fun b => { b with points := i.points.map (fun r => { record := r }), model := i.model })

/-- Comparators at boot (R253), and the trip inputs that read low (R257). -/
def State.bootTrips (s : State) : State :=
  let s := s.cmpPowerUp
  let s := s.each ((List.range 24).filter s.trip.boot.testBit) (fun s n =>
    (s.wrBit CMP.ALARM.CMP n true).putSrc n true |>.start (.cmpLast n))
  s.each ((List.range 4).filter s.trip.xtrip.testBit) (fun s n => s.assertSrc (24 + n))

/-- The accumulators resume from the journaled latch, which opens the first block (R303). -/
def State.bootMeter (s : State) : State :=
  match s.mtr.journal with
  | none => s
  | some (t, v) =>
    let s := (s.set MTR.STATUS.RESTART).modMtr (fun m => { m with
      acc := v.map (fun x => x * 2 ^ 32), block := some { time := t, vals := v, flags := 64 } })
    s.each (List.range 10) (fun s j => s.wr64 (MTR.ACC.MWH j) (v.getD j 0))

/-- Resource bytes of the active image show in PWM.CU[n].CFG.SRC (R52, R128); the outputs of a unit that goes out of
service drop (R147). -/
def State.takeResources (s : State) : State :=
  s.each (List.range 12) (fun s n =>
    let was := s.inService n
    let s := s.wr (PWM.CU.CFG.SRC n) (s.activeBank.res.getD n 2)
    (if was && !s.inService n then s.unitOff n else s).showRunning n)

/-- Initial values of the active image: into every working word, or those whose carry bit is 0 (R55). -/
def State.initWords (s : State) (all : Bool) : State :=
  let b := s.activeBank
  let takes (a : Nat) : Bool :=
    decide (0x0600 ≤ a) && (all || !(b.carry.getD ((a - 0x0600) / 8) 0).getLsbD ((a - 0x0600) % 8))
  s.modSeq (fun q => { q with
    st := (b.init.filter (fun e => takes e.1)).foldl (fun m e => mapPut (fun _ => 0) m e.1 e.2)
      (q.st.filter (fun e => !takes e.1)) })

/-- The image that runs shows in SEQ.IMAGE. -/
def State.showImage (s : State) : State :=
  (s.setWord SEQ.IMAGE_ID.ID.addr s.activeBank.id).setWord SEQ.IMAGE_VER.VERSION.addr s.activeBank.version

/-- The script image found in NOR becomes the active bank where it passes the checks of R53; where NOR holds none,
the stock image that the device ships with does (R173, log entry 62). -/
def State.bootScript (s : State) (image : List Byte) : State :=
  let take (b : Bank) : State := ((s.modActive (fun _ => b)).takeResources.initWords true).showImage
  if image.isEmpty then take stockBank
  else if imageCheck s.nvm.anchor (s.nvm.cnt.getD 1 0) image ≠ 0 then s
  else take (imageBank image)

/-- Defaults of the stock script's setpoints, Q15.16 (R190). -/
def setpointDefaults : List (Nat × Word) := stockSps.map (fun p => (p.word, q16 p.dflt p.den))

/-- The value the director writes to a setpoint: the default, unless its policy tables hold another (R190). -/
def State.setpointStart (s : State) (w : Nat × Word) : Word :=
  if s.nvm.policy = 0 then w.2 else (Config.policySetpoint s.nvm.policy w.1).getD w.2

/-- Entry to SEALED: the director writes the setpoints by its cues, one for each run of words (R190, R276). -/
def State.writeDefaults (s : State) : State :=
  [(0, 19), (24, 10)].foldl (fun (s : State) (r : Nat × Nat) =>
    let l := (setpointDefaults.filter (fun w => decide (r.1 ≤ w.1 ∧ w.1 < r.1 + r.2))).map (fun w => (w.1, s.setpointStart w))
    s.directorCue 0x0300 (leBytes 2 r.1 ++ leBytes 2 r.2 ++ l.flatMap (fun w => le32 w.2)) (fun s =>
      (l.foldl (fun (s : State) w => s.putSetpoint w.1 w.2) s, .ok []))) s

/-- Security events of a boot: the VBAT loss, the clearing by a reset cue, the tamper latch (R407, R411). -/
def State.bootEvents (s : State) : State :=
  let s := if s.sys.cleared = 0 then s
    else
      (s.logIt orBOOT 3 false false evVIOL (tgObj obViolation) s.sys.cleared 0).modSys
        (fun y => { y with cleared := 0 })
  let s := if s.nvm.vbatLost then (s.detect 0x27 noDetail rcReport).modNvm (fun n => { n with vbatLost := false })
    else s
  if s.nvm.tamper then s.violation 0 else s

/-- A host slot has roles (R392). -/
def State.keyed (s : State) : Bool := s.cue.slots.list.any (fun k => decide (k.roles ≠ 0))

/-- The periods of the background activities begin, and that of the checker test (R33, R417). -/
def State.startBackground (s : State) : State :=
  s.startAll ([.scrubS, .scrubD, .bgWear, .bgSpill, .checker] ++ (List.range 21).map TimerKey.bgLine
    ++ (List.range 16).map TimerKey.bgChan ++ (List.range 3).map TimerKey.bgDigest)

/-- The boot of a bank, up to the state it enters (R271, R276, R399, R425). -/
def State.bootBankRun (s : State) (bank : Nat) (bad : BitVec 4) (gib : Nat) (image : List Byte) : State :=
  let s := (s.bootSecurity bank).bootLog
  let s := s.logIt orBOOT 0 false false evBOOT (tgObj obBoot) s.nvm.pref bank
  let s := if bank = s.nvm.pref then s else s.detect 0x26 noDetail rcReport
  let s := (s.bootArchive gib).bootProfile (bad.getLsbD 3)
  let s := ((s.bootCal (bad.getLsbD 2)).bootNetwork (bad.getLsbD 3)).bootMeter.bootTrips
  let s := (s.bootScript image).wrB HOST.STATUS.KEYED s.keyed
  let s := ((s.start .directorEval).isolate.bootEvents).startBackground
  if s.nvm.applied.isSome && s.nvm.sealFlag then (s.moveTo stSEALED orBOOT 0 false).writeDefaults
  else s.moveTo stCOMMISSION orBOOT 0 false

/-- BOOT_COMPLETE (R271, R399): `bad` tells what does not verify: the images of bank A, of bank B, the
calibration set, the network image; `gib` is the capacity of the archive device, 0 for none; `image` the
script image in NOR, empty for none. -/
def execBootComplete (t : Time) (bad : BitVec 4) (gib : BitVec 8) (image : List Byte) (s : State) : Host.Outcome State Fault Refusal :=
  s.during t (fun s =>
    if s.code ≠ stBOOT ∨ s.sys.dark = true then s
    else
      let s := s.modNvm (fun n => { n with applied := none })
      match s.nvm.bootFrom bad with
      | some b => s.bootBankRun b bad gib.toNat image
      | none =>
        let s := (s.bootSecurity s.nvm.pref).bootLog
        ((s.set SEC.BOOT.FALLBACK).detect 0x26 noDetail rcHALT).enterHalt 4)

end Sys2Proof.Machine
end

