-- ==== Sys2Proof/Machine/Publish.lean ====
section
/-!
DEFINITION. Sampled values the device publishes of its own channels (spec/15_process_bus.md R321).
-/
namespace Sys2Proof.Machine
open Reg

/-- The instant a PTP time belongs to, in fine edge steps. -/
def State.instantOf (s : State) (tai : Nat) : Int :=
  (s.time.taiAt : Int) + rneDiv (((tai : Int) - s.time.tai) * 128) 5

/-- One member at a sample instant (R321): the second Farrow stage at the instant shifted by FDELAY, and
whether its channel is valid. -/
def State.publishMember (s : State) (n tai : Nat) : Dy × Bool :=
  let (p, q) := s.delayStep n
  let d := (BitVec.ofNat 14 (s.rdE (MOD.CH.FDELAY.DELAY n))).toInt
  match s.around n (s.instantOf tai + rneDiv (d * p) q) (s.chan n).meter with
  | some (x0, x1, x2, x3, mu) =>
    (s.farrowVal n x0 x1 x2 x3 mu,
      x0.ok && x1.ok && x2.ok && x3.ok && s.on (MOD.CH.STATUS.VALID_M n))
  | none => ((s.chan n).out, false)

/-- The last whole frame whose sample instants have passed: smpCnt of its first ASDU, and the TAI second
its instants count from. A frame holds 2 ASDUs at 4,800 samples/s and 6 at 14,400. -/
def frameDue (tai rate : Nat) : Nat × Nat × Nat :=
  let n := if rate = 4800 then 2 else 6
  let sec := tai / 10 ^ 9
  let g := (tai % 10 ^ 9 * rate / 10 ^ 9 + 1) / n
  if g = 0 then (rate - n, sec - 1, n) else ((g - 1) * n, sec, n)

/-- SV_PUBLISH (R321): a frame of a publication context is formed once its last sample instant has
passed, and is sent. -/
def execSvPublish (t : Time) (ctx : BitVec 8) (s : State) : Host.Outcome State Fault Refusal :=
  s.during t (fun s =>
    match s.ctx ctx.toNat with
    | some c =>
      let rate := c.u 18 2
      let (first, sec, n) := frameDue s.tai rate
      let atOf (k : Nat) : Nat := sec * 10 ^ 9 + (rneDiv ((k * 10 ^ 9 : Nat) : Int) rate).toNat
      let last := atOf (first + n - 1)
      if c.kind = 2 ∧ c.lastAt ≠ some last then
        let asdus := (List.range n).map (fun j =>
          (List.range (c.u 3 1)).map (fun m =>
            let (v, ok) := s.publishMember (c.member 1 m 0 1) (atOf (first + j))
            (first + j, v, ok)))
        ((s.modCtx ctx.toNat (fun c =>
          { c with smpCnt := (first + n) % rate, lastAt := some last, lastTx := asdus.flatten,
                   synch := if s.on PTP.STATUS.TRACEABLE then 2 else 0 })).tagFrame ctx.toNat).netSend
      else s
    | none => s)

end Sys2Proof.Machine
end

