-- ==== Sys2Proof/Machine/Sample.lean ====
section
/-!
DEFINITION. A control sample becomes valid and reaches every user of it (spec/03_measurement_chain.md R60,
R62; spec/05_band_law.md R104 to R123; spec/09_feeds_and_tracking.md R199 to R203;
spec/12_trip_network.md R263).
-/
namespace Sys2Proof.Machine
open Reg

/-- Feeds measure their voltage on this channel (FED.CFG.VSRC) or their current (BND.CH.CFG.SRC). -/
def State.feedSamples (s : State) (ch tPrev : Nat) : State :=
  s.each (List.range 8) (fun s k =>
    let s := if s.rd (FED.CFG.VSRC k) = ch then s.feedVolt k ch tPrev else s
    if s.rd (BND.CH.CFG.SRC (k + 3)) = ch ∧ s.on (BND.CH.CFG.ENABLE (k + 3)) = true then s.feedCurrent k ch
    else s)

/-- The band channels measured on a channel decide in channel order (R104). -/
def State.bandSample (s : State) (ch : Nat) (mismatch : Bool) : State :=
  let s := s.each (List.range 11) (fun s l =>
    if s.rd (BND.CH.CFG.SRC l) = ch ∧ s.on (BND.CH.CFG.ENABLE l) = true then s.bandCurrent l ch mismatch else s)
  if s.on (BND.CH.CFG.ENABLE 11) then
    let s := if s.rd (BND.CH.CFG.SRC 11) = ch then s.bandDump 11 ch mismatch else s
    if s.rd (BND.CH.CFG.SRC_B 11) = ch then s.bandDump 12 ch mismatch else s
  else s

/-- MCLK clocks by which the control window of a channel lies behind that of band channel 0: the number of the lowest
enabled band channel that measures on it (R104). -/
def State.windowOffset (s : State) (ch : Nat) : Nat :=
  ((List.range 12).find? (fun b => s.on (BND.CH.CFG.ENABLE b) && (decide (s.rd (BND.CH.CFG.SRC b) = ch)
    || (decide (b = 11) && decide (s.rd (BND.CH.CFG.SRC_B b) = ch))))).getD 0

/-- A sample of a channel may become valid now: on the module, 5 ns after the end of a control window, whose phase the
strobe of R343 and the offset of R104 fix; a bitstream keeps its own clock. -/
def State.windowEnds (s : State) (ch : Nat) : Bool :=
  !onModule ch || decide (((s.now : Int) - s.clk.strobe - (mclk * (s.windowOffset ch + 1) : Nat)).emod
    (ctlOsr s ch * mclk : Nat) = 0)

/-- CONTROL_SAMPLE_VALID (R60): the bits `r` of a control window (State.takeBits) complete it, and the filter's sample
becomes valid; `mismatch`: the two decision units differ on it (R123). -/
def execControlSampleValid (t : Time) (n : Fin 40) (r : BitVec 64) (mismatch : Bool) (s : State) : Host.Outcome State Fault Refusal :=
  s.during t (fun s =>
    if !s.on (MOD.CH.CFG.ENABLE n) || !s.windowEnds n then s
    else
      let s := s.holdRows
      let tPrev := (s.chan n).cur.cycle * sclk
      let s := s.takeBits n r
      let s := (s.takeControl n (s.ctlRaw n)).windowTake n
      let s := (s.histTake n).compareNew (fun c => !isSv c && decide (c % 64 = n.val))
      let s := if s.rd (BND.CH.CFG.SRC 11) = n.val then s.governorSample n true else s
      let s := if s.rd (BND.CH.CFG.SRC_B 11) = n.val then s.governorSample n false else s
      ((((s.trackPrecharge.feedSamples n tPrev).probeCheck).bandSample n mismatch).trackStop).showControl n)

/-! ### Monitors that invalidate (R78, R79) -/

/-- Samples of a channel that became valid in this SCLK cycle are invalid already (R79): the control sample holds the
value before it, and the band channels see it so; the metering and supraharmonic samples lose their mark. -/
def State.spoil (s : State) (n : Nat) : State :=
  let s := s.modChan n (fun c =>
    { c with
      meter := match c.meter with
        | m :: l => { m with ok := m.ok && decide (m.at' / sclk ≠ s.cycle) } :: l
        | [] => []
      supOk := c.supOk && decide (c.newS ≠ 0) })
  let c := s.chan n
  if c.cur.ok && decide (c.cur.cycle = s.cycle) then
    let s := s.modChan n (fun c =>
      { c with cur := { c.prev with ok := false, cycle := s.cycle }, win := { c.win with ok := false } })
    let s := s.modBus (fun b => { b with hist := b.hist.map (fun h =>
      if h.1 = n then (h.1, match h.2 with | x :: l => { x with ok := x.ok && decide (x.cyc ≠ s.cycle) } :: l | [] => []) else h) })
    ((s.bandSample n false).trackStop).showControl n
  else s

/-- STUCK_BITSTREAM (R78): no transition for 256 bit clocks on an enabled channel. -/
def execStuckBitstream (t : Time) (n : Fin 40) (s : State) : Host.Outcome State Fault Refusal :=
  s.during t (fun s =>
    if !s.on (MOD.CH.CFG.ENABLE n) || s.on (MOD.CH.STATUS.STUCK_NOW n) || !s.still n then s
    else ((((s.set (MOD.CH.STATUS.STUCK_NOW n)).set (MOD.CH.STATUS.STUCK n))).monitorLoss n 0x09).spoil n)

/-- MISSING_CLOCK (R59, R78): no clock edge or Manchester transition for 4 bit times (no rate), or a bit rate measured
over 16 of them, in kHz, that is in error. A rate without error ends the condition. -/
def execMissingClock (t : Time) (m : ClockCheck) (s : State) : Host.Outcome State Fault Refusal :=
  let n := m.n
  s.during t (fun s =>
    if !s.on (MOD.CH.CFG.ENABLE n) then s
    else
      let bad := match m.rate with | some r => !onModule n && rateError s n r.toNat | none => true
      let s := if m.rate.isSome then s.modChan n (fun c => { c with rateBad := bad }) else s
      let now := s.on (MOD.CH.STATUS.NOCLK_NOW n)
      if bad && !now then
        ((((s.set (MOD.CH.STATUS.NOCLK_NOW n)).set (MOD.CH.STATUS.NOCLK n))).monitorLoss n 0x0A).spoil n
      else if !bad && now && (s.sys.vana || !onModule n) then (s.wr (MOD.CH.STATUS.NOCLK_NOW n) 0).monitorOver n
      else s)

end Sys2Proof.Machine
end

