-- ==== Sys2Proof/Machine/Shots.lean ====
section
/-!
DEFINITION. The shots of the sequencer (spec/02_frame_and_script.md R42 to R48, R51): issue timing,
each opcode's result, the datapath's own checks, and END.
-/
namespace Sys2Proof.Machine
open Reg

/-- A subnormal pattern becomes a zero of its sign (R43). -/
def f32Flush (x : F32) : F32 := if x.extractLsb' 23 8 = 0 then x &&& 0x80000000 else x

/-- The shot path of one opcode: state words written and whether a domain condition arose (R43). -/
structure ShotResult where
  writes : List (Nat × F32)
  domain : Bool := false
  deriving DecidableEq, Repr

/-- A result per enabled lane. -/
def perLane (w : Shot) (f : Nat → F32) : ShotResult :=
  { writes := w.on.map (fun i => (w.dst.toNat + i, f32Flush (f i))) }

/-- INT on one lane (R44): the limited sum, or `d` unchanged in conditional mode while the loop did
not win. -/
def intLane (s : State) (w : Shot) (i : Nat) : F32 :=
  let b := w.srcB.toNat + i
  let d := s.sw (w.dst.toNat + i)
  if w.m0 && f32Val (s.sw (b + 8)) != f32Val (s.sw (b + 12)) then d
  else
    let lo := f32Flush (s.sw b); let hi := f32Flush (s.sw (b + 4))
    let x := dyAdd (f32Val d) (dyMul (f32Val (s.coef (w.kix i))) (f32Val (s.sw (w.srcA.toNat + i))))
    let xr := f32OfDy (f32Neg d && (f32Neg (s.coef (w.kix i)) != f32Neg (s.sw (w.srcA.toNat + i)))) x
    f32Min (f32Max2 xr lo) hi

/-- LOAD index (R44): floor(a) clamped, and whether it was out of range. -/
def loadIndex (s : State) (w : Shot) (i : Nat) : Nat × Bool :=
  let top := 65535 - 16 * w.coef.toNat
  let n := f32Floor (s.sw (w.srcA.toNat + i))
  (16 * w.coef.toNat + (clampInt 0 top n).toNat, decide (n < 0) || decide ((top : Int) < n))

/-- The result of an opcode on the state before it (R42, R44). -/
def ShotOp.result (op : ShotOp) (s : State) (w : Shot) : ShotResult :=
  let a (i : Nat) := s.sw (w.srcA.toNat + i)
  let b (i : Nat) := s.sw (w.srcB.toNat + i)
  let d (i : Nat) := s.sw (w.dst.toNat + i)
  let k (i : Nat) := s.coef (w.kix i)
  match op with
  | .mov => perLane w (fun i => if w.m0 then k i else a i)
  | .add => perLane w (fun i => f32Add (a i) (b i))
  | .sub => perLane w (fun i => f32Sub (a i) (b i))
  | .mul => perLane w (fun i => f32Mul (a i) (if w.m0 then k i else b i))
  | .fma => perLane w (fun i => f32Fma (a i) (k i) (b i))
  | .min => perLane w (fun i => f32Min (a i) (b i))
  | .max => perLane w (fun i => f32Max2 (a i) (b i))
  | .lim => perLane w (fun i =>
      if w.m0 then f32Lim (a i) (b i) (s.sw (w.srcB.toNat + i + 4))
      else f32Lim (a i) (s.coef w.coef.toNat) (s.coefOr (w.coef.toNat + 1)))
  | .int => perLane w (intLane s w)
  | .lpf => perLane w (fun i => f32Lpf (d i) (k i) (a i))
  | .dif =>
    { writes := (perLane w (fun i => f32Dif (k i) (a i) (b i))).writes
        ++ w.on.map (fun i => (w.srcB.toNat + i, f32Flush (a i))) }
  | .abs => perLane w (fun i => f32Abs (a i))
  | .sqrt => { perLane w (fun i => f32Sqrt (a i)) with
      domain := w.on.any (fun i => decide ((f32Val (a i)).m < 0)) }
  | .recip => { perLane w (fun i => f32Recip (a i)) with
      domain := w.on.any (fun i => decide ((f32Val (a i)).m = 0)) }
  | .sincos =>
    { writes := w.on.flatMap (fun i =>
        [(w.dst.toNat + i, f32WithinUlp (Config.sincosPick (a i) false).toNat (cosTurn (f32Turn (a i)))),
         (w.dst.toNat + i + 4,
          f32WithinUlp (Config.sincosPick (a i) true).toNat (sinTurn (f32Turn (a i))))]) }
  | .clarke =>
    let va := f32Val (a 0); let vb := f32Val (a 1); let vc := f32Val (a 2)
    let na := f32Neg (a 0); let nb := f32Neg (a 1); let nc := f32Neg (a 2)
    let dst := w.dst.toNat
    { writes :=
        [(dst, f32Scale (na && !nb && !nc) (dyAdd (dyMul ⟨2, 0⟩ va) (dyNeg (dyAdd vb vc))) 1 3),
         (dst + 1, f32OverRoot3 (a 1) (a 2)),
         (dst + 2, f32Scale (na && nb && nc) (dyAdd va (dyAdd vb vc)) 1 3)] }
  | .park =>
    { writes := [(w.dst.toNat, f32Cross (a 0) (b 0) (a 1) (b 1)),
                 (w.dst.toNat + 1, f32Cross (f32Flip (a 0)) (b 1) (a 1) (b 0))] }
  | .ipark =>
    { writes := [(w.dst.toNat, f32Cross (a 0) (b 0) (f32Flip (a 1)) (b 1)),
                 (w.dst.toNat + 1, f32Cross (a 0) (b 1) (a 1) (b 0))] }
  | .load =>
    { perLane w (fun i => s.tab (loadIndex s w i).1) with
      domain := w.on.any (fun i => (loadIndex s w i).2) }
  | .store | .pub => { writes := [] }

/-- Latency L (R44); LOAD's is what the scene bus gave it. -/
def ShotOp.latency (op : ShotOp) (lat : Nat) : Nat :=
  match op with
  | .sqrt | .recip | .sincos => 4
  | .load => lat
  | _ => 1

/-- The scene that runs in this frame. -/
def State.sceneEntry (s : State) : SceneEntry := s.activeBank.scenes.getD (s.rd SEQ.MODE.ACTIVE) {}

/-- The word the sequencer fetches next: the scene's shot after those issued in this frame (R45, R49). -/
def State.nextShot (s : State) : BitVec 64 :=
  mapGet (fun _ => 0) s.activeBank.shots (s.sceneEntry.first + s.seq.issued)

/-- The command is the shot the sequencer fetches (R49); END is no opcode of a result. -/
def State.fetches (s : State) (op : Option ShotOp) (w : Shot) : Bool :=
  let x := s.nextShot
  (match op with | some o => decide (shotOpOf (shotCode x) = some o) | none => decide (shotCode x = 0x3F))
    && decide (shotFields x = w)

/-- The cycle from the tick at which a shot issues (R45): one after the previous shot, and once
every word it reads or writes is free. -/
def issueCycle (q : Seq) (words : List Nat) : Nat :=
  (q.busy.filter (fun e => words.contains e.1)).foldl (fun m e => max m e.2) (q.lastIssue + 1)

/-- The pilot-light cause bit is requested for the next tick (R283). -/
def State.pilotCause (s : State) (bit : Nat) : State :=
  s.modSys (fun y => { y with wantPilot := setBit y.wantPilot bit true })

/-- One more overrun (R31, R51): counted, source 33 for 1 µs, and pilot-light mode at the third in
a row. -/
def State.countOverrun (s : State) : State :=
  let s := ((s.set SEQ.STATUS.OVERRUN).sat SEQ.LATE_CNT.OVERRUNS).sat SEQ.STATUS.OVR_RUN
  let s := (s.modSeq (fun q => { q with overran := true })).reelEvent s.now 255 5 0
  let s := s.pulseSrc 33
  let s := s.detect 0x07 noDetail (s.tripReact 33)
  if s.rd SEQ.STATUS.OVR_RUN = 3 then (s.pilotCause 1).detect 0x07 noDetail rcPILOT else s

/-- The frame ends and nothing it staged commits (R46). -/
def State.killFrame (s : State) : State :=
  s.modSeq (fun q => { q with phase := .killed, pub := [], sto := [] })

/-- The two datapath results differ (R46): the frame ends, MISMATCH sets, source 32 asserts for
1 µs, and the second consecutive frame enters pilot-light mode. -/
def State.killMismatch (s : State) : State :=
  let s := (s.killFrame.set SEQ.STATUS.MISMATCH).pulseSrc 32
  let s := s.detect 0x05 noDetail (s.tripReact 32)
  let n := s.seq.mismatchRun + 1
  let s := s.modSeq (fun q => { q with mismatchRun := n })
  if n = 2 then (s.pilotCause 0).detect 0x05 noDetail rcPILOT else s

/-- An illegal or uncorrectable shot (R46): the frame ends as an overrun. -/
def State.killIllegal (s : State) : State :=
  (s.killFrame.set SEQ.STATUS.SHOT_ILLEGAL).countOverrun.modSeq
    (fun q => { q with mismatchRun := 0 })

/-- The state after a good legal shot issues at cycle `c` with latency `l`: its words are written
unless it would still be in flight at the tick (R51), and are busy until `c + l`.
DESIGN CHOICE (log entry 15; the spec is silent on both): a result whose latency ends exactly in the tick cycle is
written, and a result of latency above 1 that is in flight when a later shot ends the frame by a mismatch or as illegal
(R46) is written, as it was at its issue. -/
def State.applyShot (s : State) (op : ShotOp) (w : Shot) (c l : Nat) : State :=
  let r := op.result s w
  let s := if c + l ≤ s.seq.period then r.writes.foldl (fun s e => s.putSw e.1 e.2) s else s
  let s := if r.domain then s.set SEQ.STATUS.DOMAIN else s
  let vals := w.on.map (fun i => (w.coef.toNat + i, s.sw (w.srcA.toNat + i)))
  s.modSeq (fun q =>
    { q with
      pub := if op = .pub then vals.reverse ++ q.pub else q.pub
      sto := if op = .store then vals.reverse ++ q.sto else q.sto
      lastIssue := c, issued := q.issued + 1
      busy := r.writes.map (fun e => (e.1, c + l)) ++ q.busy
      lastReady := max q.lastReady (c + l) })

/-- One shot of the running frame (R44 to R46, R49). A shot whose issue cycle would reach the tick does not issue,
nor does any after it: the tick stops them (R45, R51). Outside a running frame, and where the scene holds another
shot at this place, no shot issues (log entry 14). -/
def State.shot (s : State) (op : ShotOp) (w : Shot) (chk : ShotCheck) (lat : Nat) : State :=
  if s.seq.phase != .running then s
  else if chk = .uncorrectable then (s.detect 0x02 noDetail rcReport).killIllegal
  else if !s.fetches (some op) w then s
  else if !op.legal s.activeBank.res w then s.killIllegal
  else
    let c := issueCycle s.seq (op.reads w ++ op.writes w)
    if s.seq.period ≤ c then s.modSeq (fun q => { q with lastIssue := c })
    else if chk = .mismatch then s.killMismatch
    else s.applyShot op w c (op.latency lat)

/-- MOV (R44): d = a, or d = k with M0. -/
def execMov (w : Shot) (c : ShotCheck) (s : State) : Host.Outcome State Fault Refusal :=
  s.doing (fun s => s.shot .mov w c 1)
/-- ADD (R44): d = a + b. -/
def execAdd (w : Shot) (c : ShotCheck) (s : State) : Host.Outcome State Fault Refusal :=
  s.doing (fun s => s.shot .add w c 1)
/-- SUB (R44): d = a − b. -/
def execSub (w : Shot) (c : ShotCheck) (s : State) : Host.Outcome State Fault Refusal :=
  s.doing (fun s => s.shot .sub w c 1)
/-- MUL (R44): d = a × b, or a × k with M0. -/
def execMul (w : Shot) (c : ShotCheck) (s : State) : Host.Outcome State Fault Refusal :=
  s.doing (fun s => s.shot .mul w c 1)
/-- FMA (R44): d = a × k + b, rounded once. -/
def execFma (w : Shot) (c : ShotCheck) (s : State) : Host.Outcome State Fault Refusal :=
  s.doing (fun s => s.shot .fma w c 1)
/-- MIN (R44). -/
def execMin (w : Shot) (c : ShotCheck) (s : State) : Host.Outcome State Fault Refusal :=
  s.doing (fun s => s.shot .min w c 1)
/-- MAX (R44). -/
def execMax (w : Shot) (c : ShotCheck) (s : State) : Host.Outcome State Fault Refusal :=
  s.doing (fun s => s.shot .max w c 1)
/-- LIM (R44). -/
def execLim (w : Shot) (c : ShotCheck) (s : State) : Host.Outcome State Fault Refusal :=
  s.doing (fun s => s.shot .lim w c 1)
/-- INT (R44). -/
def execInt (w : Shot) (c : ShotCheck) (s : State) : Host.Outcome State Fault Refusal :=
  s.doing (fun s => s.shot .int w c 1)
/-- LPF (R44). -/
def execLpf (w : Shot) (c : ShotCheck) (s : State) : Host.Outcome State Fault Refusal :=
  s.doing (fun s => s.shot .lpf w c 1)
/-- DIF (R44). -/
def execDif (w : Shot) (c : ShotCheck) (s : State) : Host.Outcome State Fault Refusal :=
  s.doing (fun s => s.shot .dif w c 1)
/-- ABS (R44). -/
def execAbs (w : Shot) (c : ShotCheck) (s : State) : Host.Outcome State Fault Refusal :=
  s.doing (fun s => s.shot .abs w c 1)
/-- SQRT (R44): 0 and DOMAIN for a < 0. -/
def execSqrt (w : Shot) (c : ShotCheck) (s : State) : Host.Outcome State Fault Refusal :=
  s.doing (fun s => s.shot .sqrt w c 4)
/-- RECIP (R44): the largest value and DOMAIN for a = 0. -/
def execRecip (w : Shot) (c : ShotCheck) (s : State) : Host.Outcome State Fault Refusal :=
  s.doing (fun s => s.shot .recip w c 4)
/-- SINCOS (R44). -/
def execSincos (w : Shot) (c : ShotCheck) (s : State) : Host.Outcome State Fault Refusal :=
  s.doing (fun s => s.shot .sincos w c 4)
/-- CLARKE (R44). -/
def execClarke (w : Shot) (c : ShotCheck) (s : State) : Host.Outcome State Fault Refusal :=
  s.doing (fun s => s.shot .clarke w c 1)
/-- PARK (R44). -/
def execPark (w : Shot) (c : ShotCheck) (s : State) : Host.Outcome State Fault Refusal :=
  s.doing (fun s => s.shot .park w c 1)
/-- IPARK (R44). -/
def execIpark (w : Shot) (c : ShotCheck) (s : State) : Host.Outcome State Fault Refusal :=
  s.doing (fun s => s.shot .ipark w c 1)
/-- LOAD (R44, R45): table memory over the scene bus, latency up to 14 SCLK cycles as the bus gives it. No other
latency occurs: log entry 15. -/
def execLoad (w : Shot) (c : ShotCheck) (lat : Nat) (s : State) :
    Host.Outcome State Fault Refusal :=
  if 1 ≤ lat ∧ lat ≤ 14 then s.doing (fun s => s.shot .load w c lat) else .fault .illFormed
/-- STORE (R44): stages a for STORE target C + i. -/
def execStore (w : Shot) (c : ShotCheck) (s : State) : Host.Outcome State Fault Refusal :=
  s.doing (fun s => s.shot .store w c 1)
/-- PUB (R44): stages a for port C + i. -/
def execPub (w : Shot) (c : ShotCheck) (s : State) : Host.Outcome State Fault Refusal :=
  s.doing (fun s => s.shot .pub w c 1)

/-- END retires at cycle `r` of the frame (R31): normally by 0.9 P, late after that. -/
def State.retire (s : State) (r : Nat) : State :=
  let s := s.modSeq (fun q => { q with phase := .ended, lastIssue := r - 1, mismatchRun := 0 })
  let s := ((s.wr SEQ.END_CYC.LAST r).wr SEQ.END_CYC.MAX (max (s.rd SEQ.END_CYC.MAX) r)).wr SEQ.STATUS.OVR_RUN 0
  if 9 * s.seq.period < 10 * r then
    let s := (s.modSeq (fun q => { q with late := true })).reelEvent s.now 255 6 0
    ((s.set SEQ.STATUS.BUDGET_LATE).sat SEQ.LATE_CNT.LATE).detect 0x08 noDetail rcReport
  else s

/-- The frame runs a scene of the stock image none of whose shots has issued: the specification does not list its
shots, so its END stands for the whole scene (log entry 62). -/
def State.stockFrame (s : State) : Bool := s.stock && decide (s.seq.issued = 0) && !s.fetches none ⟨0, 0, 0, 0, 0, 0⟩

/-- END (R31, R44, R45): issues once every earlier result is written, retires one cycle later. It ends the frame
normally by 0.9 P, late after that, and not at all once the tick is reached. A frame of the stock script retires at
the worst-case cycle of its scene (R173). -/
def State.endFrame (s : State) (w : Shot) (chk : ShotCheck) : State :=
  if s.seq.phase != .running then s
  else if chk = .uncorrectable then (s.detect 0x02 noDetail rcReport).killIllegal
  else if s.stockFrame then
    let r := s.sceneEntry.worst
    if chk = .mismatch then s.killMismatch
    else if s.seq.period ≤ r then s
    else (s.stockScene (s.rd SEQ.MODE.ACTIVE)).retire r
  else if !s.fetches none w then s
  else if w ≠ ⟨0, 0, 0, 0, 0, 0⟩ then s.killIllegal
  else
    let c := max (s.seq.lastIssue + 1) s.seq.lastReady
    if s.seq.period ≤ c + 1 then s.modSeq (fun q => { q with lastIssue := c })
    else if chk = .mismatch then s.killMismatch
    else s.retire (c + 1)

/-- END. -/
def execEndShot (w : Shot) (c : ShotCheck) (s : State) : Host.Outcome State Fault Refusal :=
  s.doing (fun s => s.endFrame w c)

end Sys2Proof.Machine
end

