-- ==== Sys2Proof/Machine/Tick.lean ====
section
/-!
DEFINITION. The tick (spec/01_architecture.md R29 to R36; spec/02_frame_and_script.md R37 to R56;
spec/08_outer_loops.md R186, R193; spec/21_faults_and_availability.md R422, R423).
-/
namespace Sys2Proof.Machine
open Reg

/-! ### The frame that ends, and its commit (R31, R47, R193) -/

/-- A frame still running at the tick overruns (R31, R51): what it staged is discarded. -/
def State.closeRunning (s : State) : State :=
  if s.seq.phase ≠ .running then s
  else s.countOverrun.modSeq (fun q => { q with pub := [], sto := [], mismatchRun := 0 })

/-- The value a frame staged last for an index. -/
def stagedAt (l : List (Nat × Word)) (p : Nat) : Option Word := (l.find? (fun e => decide (e.1 = p))).map (·.2)

/-- One committed STORE target (R193): Q15.16, or a saturated integer for OLP.FLAGS; a target without a
register has no effect. -/
def State.commitStore (s : State) (t : Nat) (v : Word) : State :=
  let a := 0xC000 + 4 * t
  if (rowOf a).isSome then
    s.setWord a (if t = 0x20 then BitVec.ofNat 32 (clampInt 0 65535 (f32ToInt v 0)).toNat else f32ToQ v)
  else s

/-- OLP.WIN follows the candidates (R186). -/
def State.refreshWin (s : State) : State :=
  let c (j : Nat) : Int := s.rdI (OLP.P_CAND.VALUE j)
  let w := (List.range 8).foldl (fun (m : Nat) j => if c j < c m then j else m) 0
  let s := if w = s.rd OLP.WIN.P_WIN then s else s.inc OLP.WIN.CHANGES
  s.wr OLP.WIN.P_WIN w

/-- The outputs of a frame that ended normally or late commit (R47). -/
def State.commitFrame (s : State) : State :=
  let s := if s.seq.phase ≠ .ended then s
    else
      let pub := s.seq.pub
      let sto := s.seq.sto
      let s := pub.reverse.foldl (fun (s : State) e =>
        s.modSeq (fun q => { q with ports := mapPut (fun _ => 0) q.ports e.1 (f32ToQ e.2) })) s
      let s := sto.reverse.foldl (fun (s : State) e => s.commitStore e.1 e.2) s
      let units := (List.range 12).filter (fun n => pub.any (fun e => decide (0x0C0 + 0x10 * n ≤ e.1 ∧ e.1 < 0x0D0 + 0x10 * n)))
      s.each units (fun s n => s.portShadows n (fun p => (stagedAt pub p).map (fun v => (f32ToQ v).toInt)))
  s.refreshWin

/-! ### Writes that reach this tick (R30, R36, R40, R55, R56) -/

/-- One waiting write takes effect. -/
def State.takeWrite (s : State) (w : PendWrite) : State :=
  match w.space with
  | .reg => { s with eff := mapPut resetWord s.eff w.addr w.val }
  | .setpoint => s.putSw w.addr (f32OfQ w.val)
  | .coef => s.modActive (fun b => { b with k := mapPut (fun _ => 0) b.k w.addr w.val })
  | .direct => ((s.asDirector w.op).cueWrite w.addr w.mask w.val).2.actNone
  | .table => s.modActive (fun b => { b with table := mapPut (fun _ => 0) b.table w.addr w.val })

/-- Writes completed before the tick cycle take effect; those of the tick cycle wait (R30). -/
def State.takeWrites (s : State) : State :=
  let now := s.cycle
  let l := s.pend.filter (fun w => decide (w.cycle < now))
  let s := { s with pend := s.pend.filter (fun w => decide (now ≤ w.cycle)) }
  let s := l.foldl State.takeWrite s
  s.modSeq (fun q => { q with period := s.rdE SEQ.PERIOD.CYCLES })

/-- A pending swap takes effect (R55, R400): banks, scene, initial values, the script counter, the log entry
and the reply of its cue. -/
def State.takeSwap (s : State) : State :=
  if !s.on SEQ.STATUS.SWAP_PENDING || decide (s.cycle ≤ s.seq.swapAt) then s
  else
    let old := s.activeBank.digest
    let s := (s.wrB SEQ.STATUS.BANK (!s.on SEQ.STATUS.BANK)).wr SEQ.STATUS.SWAP_PENDING 0
    let s := (s.wr SEQ.MODE.SCENE s.seq.swapScene).modSeq (fun q => { q with sceneNew := none })
    let s := (s.initWords false).takeResources.showImage
    let s := s.raiseCnt 1 s.activeBank.rollback.toNat
    let s := s.actFor .swap
    let s := (s.logCue (tgObj obSwap) (shaPrefix old 4) (shaPrefix s.activeBank.digest 4)).actNone
    s.finishCue .swap csOK 0 []

/-! ### The slate (R38, R101) -/

/-- Writes slate words from an address on. -/
def State.putWords (s : State) (a : Nat) (l : List F32) : State :=
  l.zipIdx.foldl (fun (s : State) (e : F32 × Nat) => s.putSw (a + e.2) e.1) s

/-- The newest control sample of a channel that became valid before the tick cycle (R30). -/
def State.slateSample (s : State) (n : Nat) : F32 :=
  (s.frameSample n).val

/-- Age of a quantity in the slate: 0 for a local source (R38). -/
def State.slateAge (s : State) (q : Nat) : F32 :=
  if s.on (STR.Q.CFG.EN q) && isSv (s.qInUse q) then s.qAge q else 0

/-- Time, angle and frame count of the tick, and the frequency the angle is extended with (R37, R38, R100). -/
def State.slateHead (s : State) (first : Bool) : State :=
  let s := if first then s.wr SEQ.FRAMECNT.COUNT 0 else s.inc SEQ.FRAMECNT.COUNT
  let (f, ok, th) := s.slateAngle
  let s := (s.wr64 SEQ.SLATE_TIME.TAI_NS s.tai).wr SEQ.SLATE_ANGLE.THETA th
  s.modSync (fun y => { y with slateF := f, slateOk := ok })

/-- Channels, fused quantities, grid angle and synchronizer outputs. -/
def State.slateInputs (s : State) : State :=
  let s := s.putWords 0x0000 ((List.range 40).map s.slateSample)
  let s := s.putWords 0x0028 ((List.range 64).map (fun q => (s.bus.q.get q {}).val))
  let s := s.putWords 0x0068 ((List.range 64).map s.slateAge)
  let s := s.putSw 0x00A8 (f32OfDy false ⟨(s.rd SEQ.SLATE_ANGLE.THETA / 256 : Nat), -24⟩)
  s.putWords 0x00A9 s.slateSync

/-- The hottest island temperature, in °C (R187). -/
def State.hotTemp (s : State) : F32 :=
  (List.range 14).foldl (fun m n => f32Max2 m (f32OfQ (s.word (ISL.TEMP.VALUE n).addr))) (f32OfQ (s.word (ISL.TEMP.VALUE 0).addr))

/-- Frame, time, state, posture, scene, and the summaries of feeds, ride-through and temperature. -/
def State.slateRest (s : State) : State :=
  let tai := s.rd64 SEQ.SLATE_TIME.TAI_NS
  let s := s.putWords 0x00C0
    [ f32OfInt (s.rd SEQ.FRAMECNT.COUNT % 2 ^ 24 : Nat), f32OfRat false (tai % 10 ^ 9 : Nat) (10 ^ 9),
      f32OfRat false (s.seq.period : Nat) (4 * 10 ^ 8), f32OfInt (s.code : Nat), f32OfInt (b2n s.band.fault : Nat),
      f32OfInt (s.rd SEQ.MODE.ACTIVE : Nat) ]
  let s := (List.range 8).foldl (fun (s : State) k => s.putWords (0x0100 + 8 * k) (s.feedWords k)) s
  (s.putWords 0x0140 s.frtWords).putSw slateHot s.hotTemp

/-! ### The scene (R49, R50) -/

/-- The scene this tick runs: the forced scene of the state while FORCED is set, else SEQ.MODE.SCENE. -/
def State.sceneNow (s : State) : Nat :=
  if s.on SEQ.MODE.FORCED then s.activeBank.forced.getD (s.code - stSTOPPING) 0 else s.selected

/-- In QUIET the script-written fields of OLP read 0 (R193). -/
def State.quietOlp (s : State) (n : Nat) : State :=
  if s.stock && decide (n = scQUIET) then
    { s with regs := s.regs.filter (fun e => decide (¬(0xC000 ≤ e.1 ∧ e.1 < 0xC800))) }
  else s

/-- The new frame begins. -/
def State.openFrame (s : State) : State :=
  let n := s.sceneNow
  let run := s.hasScene n
  ((s.quietOlp n).wr SEQ.MODE.ACTIVE n).modSeq (fun q => { q with
    phase := if run then .running else .none, pub := [], sto := [], lastIssue := 1, issued := 0, busy := [], lastReady := 0,
    wasLate := q.late, wasOverran := q.overran, late := false, overran := false, tickCycle := s.cycle, ticked := true })

/-! ### Availability (R422, R423) -/

/-- The conversion function is available. -/
def State.available (s : State) : Bool := decide (s.code = stRUN) && !s.bitOf TRP.TGT.TRIPPED 0

/-- A housekeeping value in Q15.16 lies within a range in 1/100. -/
def State.hkWithin (s : State) (k lo hi : Nat) : Bool :=
  decide ((lo : Int) * 65536 ≤ s.rdI (MOD.HK_VAL.VALUE k) * 100 ∧ s.rdI (MOD.HK_VAL.VALUE k) * 100 ≤ (hi : Int) * 65536)

/-- PORTS, REDUND and RATINGS of FLT.AVAIL.COND, then UPDATE. -/
def State.availCond (s : State) : Bool × Bool × Bool × Bool :=
  ( (decide (s.rd NET.CTRL.MODE = 1) || decide (s.rd NET.CTRL.MODE = 2)) && s.on NET.STATUS.PA_LINK
      && s.on NET.STATUS.PB_LINK && !s.on NET.STATUS.RING_OPEN,
    (List.range 64).all (fun q => !(s.on (STR.Q.CFG.EN q) && s.on (STR.Q.CFG.CTRL q))
      || (s.on (STR.Q.STAT.PRI_VALID q) && s.on (STR.Q.STAT.XCK_VALID q))),
    s.hkWithin 1 475 550 && s.hkWithin 2 475 525
      && decide (s.rdI (MOD.HK_VAL.VALUE 5) ≤ 125 * 65536) && decide (s.rdI (MOD.HK_VAL.VALUE 6) ≤ 125 * 65536),
    !s.avail.outside )

/-- A trip source is device-caused: mismatch, overrun, link loss, clock loss (R413, R257). -/
def deviceSource (n : Nat) : Bool := decide (32 ≤ n) && decide (n ≤ 35)

/-- The first cause of an outage found now is device-caused (R423): the first trip since the last tick, else
the entry that forced the state. -/
def State.outageByDevice (s : State) : Bool :=
  let src := s.rd TRP.FIRST.SRC
  let trip := s.on TRP.FIRST.VALID && decide (s.avail.last / fclk < s.trip.firstClk)
  let c := s.code
  if trip || decide (c = stRUN) then deviceSource src
  else if c = stSTOPPING then decide (s.sys.stopCause = .holdover)
  else if c = stPILOT then
    let p := s.rd SYS.CAUSE.PL
    p.testBit 0 || p.testBit 1 || p.testBit 4 || (p.testBit 2 && deviceSource src)
  else if c = stHALT then (s.rd SYS.CAUSE.HALT).testBit 0 || (s.rd SYS.CAUSE.HALT).testBit 1
  else false

/-- Time since the last tick that an open outage counts (R423). -/
def State.outageTime (s : State) : Nat :=
  if !s.on ISD.STATUS.RECON_OK || decide (s.rd SYN.STATUS.STATE ≠ syLOCKED) || s.avail.told then 0
  else s.now - s.avail.last

/-- An outage closes: its time joins the account of its kind. -/
def State.closeOutage (s : State) : State :=
  let a := s.avail
  let n := a.acc / ms
  let s := s.wr FLT.AVAIL.OPEN 0
  if a.clean then (s.satAdd FLT.OUTAGE.MS n).sat FLT.OUTAGE_CNT.COUNTED
  else (s.satAdd FLT.OUTAGE_X.MS n).sat FLT.OUTAGE_CNT.EXCLUDED

/-- The account at a tick. -/
def State.availTick (s : State) : State :=
  let (p, r, g, u) := s.availCond
  let s := s.wr FLT.AVAIL.COND (b2n p + 2 * b2n r + 4 * b2n g + 8 * b2n u)
  let s := if p && r && g then { s with avail := { s.avail with outside := false } } else s
  let ok := p && r && g && u
  let s := if s.on FLT.AVAIL.OPEN then
      let n := s.outageTime
      { s with avail := { s.avail with acc := s.avail.acc + n, clean := s.avail.clean && ok } }
    else s
  let s := if s.available then
      let s := if s.on FLT.AVAIL.OPEN then s.closeOutage else s
      { s with avail := { s.avail with was := true, told := false } }
    else if s.avail.was then
      let s := if s.outageByDevice then
          { s.set FLT.AVAIL.OPEN with avail := { s.avail with acc := 0, clean := ok } }
        else s
      { s with avail := { s.avail with was := false } }
    else s
  { s with avail := { s.avail with last := s.now } }

/-! ### The tick -/

/-- A tick is due: the device runs, and a frame period has passed since the last one (R29, R36, R37). -/
def State.tickDue (s : State) : Bool :=
  !s.sys.dark && decide (stBOOT < s.code) && !s.clk.stopped
    && (!s.seq.ticked || decide (s.seq.tickCycle + s.seq.period ≤ s.cycle))

/-- TICK (R29): the frame that ends commits or is discarded, writes and a swap take effect, the slate latches,
the state machine takes its transition, the next scene begins, and what L2 does once per frame follows. -/
def execTick (t : Time) (s : State) : Host.Outcome State Fault Refusal :=
  s.during t (fun s =>
    if !s.tickDue then s
    else
      let s := s.holdRows
      let first := !s.seq.ticked
      let cycles := if first then s.seq.period else s.cycle - s.seq.tickCycle
      let now := s.cycle
      let s := s.closeRunning.commitFrame.takeWrites.takeSwap.applyNet (fun c => decide (c < now))
      let s := (s.slateHead first).fuseTick.slateInputs.stateTick.openFrame
      let s := s.rampTick.bandTick cycles
      let s := ((s.feedTick cycles).frtTick cycles).liveTick s.qFix
      s.slateRest.scanTick.gooseTick.showHoldover.availTick.dailiesLatch)

end Sys2Proof.Machine
end

