-- ==== Sys2Proof/Machine/TripCues.lean ====
section
/-!
DEFINITION. The cues of the trip network (spec/12_trip_network.md R262, R264; spec/19_cues.md R388).
-/
namespace Sys2Proof.Machine
open Reg

/-- STANDBY, PILOT_LIGHT or HALT, where a trip reset reaches islands and forced latches (R262). -/
def State.deepReset (s : State) : Bool :=
  decide (s.code = stSTANDBY ∨ s.code = stPILOT ∨ s.code = stHALT)

/-- A latched island whose cause has gone (R262): no SC or OC level, supplies above their rising trip
thresholds. -/
def State.causeGone (s : State) (n : Nat) : Bool :=
  let i := s.island n
  i.latched && !i.sc && !i.oc && i.goodSince.isSome && s.on (ISL.STATUS.LINK_UP n)
    && !s.on (ISL.STATUS.OC_NOW n)

/-- The part of a trip reset after any training (R262): CLEAR is sent to the islands whose cause has gone, whose own fault
latch ends when they receive it (R166), then the latches the mask names clear. Answers the latches cleared. -/
def State.resetTrips (s : State) (mask : Nat) : State × Nat :=
  let deep := s.deepReset
  let names (n : Nat) : Bool := mask.testBit n
  let s := if deep && (names 28 || names 31 || names 34) then
      (s.each ((List.range 14).filter s.causeGone) State.sendClear).refreshLevels
    else s
  let before := s.rd TRP.LATCH_LO.SRC + s.rd TRP.LATCH_HI.SRC * 2 ^ 32
  let lock := s.on TRP.GOV_STAT.LOCK_GRID || s.on TRP.GOV_STAT.LOCK_DUMP
  let s := s.clearLatches mask (fun n => deep && !(decide (n = 36) && lock))
  let after := s.rd TRP.LATCH_LO.SRC + s.rd TRP.LATCH_HI.SRC * 2 ^ 32
  let s := if before = after then s
    else
      let s := if before % 2 ^ 32 = after % 2 ^ 32 then s
        else s.logCue (tgReg TRP.LATCH_LO.SRC.addr) (before % 2 ^ 32) (after % 2 ^ 32)
      if before / 2 ^ 32 = after / 2 ^ 32 then s
        else s.logCue (tgReg TRP.LATCH_HI.SRC.addr) (before / 2 ^ 32) (after / 2 ^ 32)
  (s, before ^^^ after)

/-- Islands whose link is lost and not yet up again (R164). -/
def State.lostLinks (s : State) : List Nat := (List.range 14).filter s.linkDown

/-- TRIP_RESET (cue 0x0014, R262): lost links named by source 34 are trained first; without any, the latches
clear at once. -/
def execTripReset (t : Time) (c : Cue) (s : State) : Host.Outcome State Fault Refusal :=
  s.during t (fun s =>
    s.runCue 0x0014 c
    (firstBad (fieldsOf c [8]) [(decide (c.u 0 8 < 2 ^ 40), 0)]) (fun s =>
      let mask := c.u 0 8
      if s.trip.resetMask.isSome then (s, .fail csBUSY 1)
      else if s.deepReset && mask.testBit 34 && !s.lostLinks.isEmpty then
        let s := s.each s.lostLinks (fun s n => s.modIsland n (fun i =>
          if i.muted then { i with training := true, linked := false } else i))
        ((s.modTrip (fun x => { x with resetMask := some (BitVec.ofNat 40 mask) })).start .releaseGrid,
          .pend .trip)
      else
        let (s, cl) := s.resetTrips mask
        (s, .ok (leBytes 8 cl))))

/-- TRIP_RESET_COMPLETE (R262): the training has ended, at most 100 µs after it started. -/
def execTripResetComplete (t : Time) (s : State) : Host.Outcome State Fault Refusal :=
  s.during t (fun s =>
    match s.trip.resetMask with
    | none => s
    | some m =>
      if s.lostLinks.isEmpty || s.due .releaseGrid (100 * us) then
        let s := (s.stop .releaseGrid).each s.lostLinks (fun s n =>
          s.modIsland n (fun i => { i with training := false }))
        let s := s.modTrip (fun x => { x with resetMask := none })
        let (s, cl) := (s.actFor .trip).resetTrips m.toNat
        s.actNone.finishCue .trip csOK 0 (leBytes 8 cl)
      else s)

/-- The lockout of one group ends, and the counts of its islands (R264). -/
def State.endLockout (s : State) (lock : Field) (isl : List Nat) : State :=
  let s := if s.on lock then s.logCue (tgReg lock.addr) 1 0 else s
  (s.wr lock 0).each isl (fun s n => (s.modIsland n (fun i => { i with scTimes := [] })).showI2t n)

/-- GOVERNOR_RESET (cue 0x0015, R264): in STANDBY, ends the lockouts of the named groups. -/
def execGovernorReset (t : Time) (c : Cue) (s : State) : Host.Outcome State Fault Refusal :=
  s.during t (fun s =>
    s.runCue 0x0015 c
    (firstBad (fieldsOf c [1]) [(decide (c.u 0 1 < 4), 0)]) (fun s =>
      let m := c.u 0 1
      let s := if m.testBit 0 then s.endLockout TRP.GOV_STAT.LOCK_GRID (List.range 12) else s
      let s := if m.testBit 1 then s.endLockout TRP.GOV_STAT.LOCK_DUMP dumpIslands else s
      (s.refreshGov, .ok [])))

end Sys2Proof.Machine
end

