-- ==== Sys2Proof/Machine/Dispatch.lean ====
section
/-!
DEFINITION. The dispatch: one arm per command, each one direct call of its meaning.
-/
namespace Sys2Proof.Machine

/-- The effect of a command on everything but the queue. -/
def exec (i : Instr) (s : State) : Host.Outcome State Fault Refusal :=
  match i with
  | .tick t => Sys2Proof.Machine.execTick t s
  | .mov w c => Sys2Proof.Machine.execMov w c s
  | .add w c => Sys2Proof.Machine.execAdd w c s
  | .sub w c => Sys2Proof.Machine.execSub w c s
  | .mul w c => Sys2Proof.Machine.execMul w c s
  | .fma w c => Sys2Proof.Machine.execFma w c s
  | .min w c => Sys2Proof.Machine.execMin w c s
  | .max w c => Sys2Proof.Machine.execMax w c s
  | .lim w c => Sys2Proof.Machine.execLim w c s
  | .int w c => Sys2Proof.Machine.execInt w c s
  | .lpf w c => Sys2Proof.Machine.execLpf w c s
  | .dif w c => Sys2Proof.Machine.execDif w c s
  | .abs w c => Sys2Proof.Machine.execAbs w c s
  | .sqrt w c => Sys2Proof.Machine.execSqrt w c s
  | .recip w c => Sys2Proof.Machine.execRecip w c s
  | .sincos w c => Sys2Proof.Machine.execSincos w c s
  | .clarke w c => Sys2Proof.Machine.execClarke w c s
  | .park w c => Sys2Proof.Machine.execPark w c s
  | .ipark w c => Sys2Proof.Machine.execIpark w c s
  | .load w c lat => Sys2Proof.Machine.execLoad w c lat s
  | .store w c => Sys2Proof.Machine.execStore w c s
  | .pub w c => Sys2Proof.Machine.execPub w c s
  | .endShot w c => Sys2Proof.Machine.execEndShot w c s
  | .periodWrite t v => Sys2Proof.Machine.execPeriodWrite t v s
  | .directorPolicyCycle t => Sys2Proof.Machine.execDirectorPolicyCycle t s
  | .directorAbsent t => Sys2Proof.Machine.execDirectorAbsent t s
  | .holdoverExpiry t => Sys2Proof.Machine.execHoldoverExpiry t s
  | .controlSampleValid t n r mismatch => Sys2Proof.Machine.execControlSampleValid t n r mismatch s
  | .meteringSampleValid t n r => Sys2Proof.Machine.execMeteringSampleValid t n r s
  | .supraSampleValid t n r => Sys2Proof.Machine.execSupraSampleValid t n r s
  | .resamplerOutput t place => Sys2Proof.Machine.execResamplerOutput t place s
  | .stuckBitstream t n => Sys2Proof.Machine.execStuckBitstream t n s
  | .missingClock t m => Sys2Proof.Machine.execMissingClock t m s
  | .overrange t n => Sys2Proof.Machine.execOverrange t n s
  | .channelRecover t n => Sys2Proof.Machine.execChannelRecover t n s
  | .pathSettled t n path => Sys2Proof.Machine.execPathSettled t n path s
  | .supraSlotWrite t hi v => Sys2Proof.Machine.execSupraSlotWrite t hi v s
  | .bgCalVisit t n stage => Sys2Proof.Machine.execBgCalVisit t n stage s
  | .calAverageDone t n => Sys2Proof.Machine.execCalAverageDone t n s
  | .hkOutput t ramps => Sys2Proof.Machine.execHkOutput t ramps s
  | .syncSample t => Sys2Proof.Machine.execSyncSample t s
  | .lowVoltageEntry t => Sys2Proof.Machine.execLowVoltageEntry t s
  | .localRecovery t => Sys2Proof.Machine.execLocalRecovery t s
  | .syncLock t => Sys2Proof.Machine.execSyncLock t s
  | .syncRange t => Sys2Proof.Machine.execSyncRange t s
  | .syncHoldExpiry t => Sys2Proof.Machine.execSyncHoldExpiry t s
  | .borrowMismatch t => Sys2Proof.Machine.execBorrowMismatch t s
  | .jumpDetect t => Sys2Proof.Machine.execJumpDetect t s
  | .realignClear t => Sys2Proof.Machine.execRealignClear t s
  | .realignFail t => Sys2Proof.Machine.execRealignFail t s
  | .thetaWrap t => Sys2Proof.Machine.execThetaWrap t s
  | .fselRateChange t => Sys2Proof.Machine.execFselRateChange t s
  | .extrapolationQuery t tq => Sys2Proof.Machine.execExtrapolationQuery t tq s
  | .thetaRSlewDone t => Sys2Proof.Machine.execThetaRSlewDone t s
  | .returnRampStart t l => Sys2Proof.Machine.execReturnRampStart t l s
  | .returnRampEnd t l => Sys2Proof.Machine.execReturnRampEnd t l s
  | .softRampDone t g => Sys2Proof.Machine.execSoftRampDone t g s
  | .carrierValley t n => Sys2Proof.Machine.execCarrierValley t n s
  | .carrierPeak t n => Sys2Proof.Machine.execCarrierPeak t n s
  | .carrierMidCount t n => Sys2Proof.Machine.execCarrierMidCount t n s
  | .commitGo t n => Sys2Proof.Machine.execCommitGo t n s
  | .shadowWrite t n w v => Sys2Proof.Machine.execShadowWrite t n w v s
  | .directCompareEdge t n => Sys2Proof.Machine.execDirectCompareEdge t n s
  | .feedEdgeExecute t k => Sys2Proof.Machine.execFeedEdgeExecute t k s
  | .fsnTransition t k rise => Sys2Proof.Machine.execFsnTransition t k rise s
  | .deadtimeRelease t w => Sys2Proof.Machine.execDeadtimeRelease t w s
  | .wickNotchEnd t k wks => Sys2Proof.Machine.execWickNotchEnd t k wks s
  | .wickLowFiltered t k => Sys2Proof.Machine.execWickLowFiltered t k s
  | .delayLineCalibration t line back => Sys2Proof.Machine.execDelayLineCalibration t line back s
  | .clapIn t high => Sys2Proof.Machine.execClapIn t high s
  | .virtualClap t => Sys2Proof.Machine.execVirtualClap t s
  | .clapLost t => Sys2Proof.Machine.execClapLost t s
  | .linkSlot t n => Sys2Proof.Machine.execLinkSlot t n s
  | .ping t n seq => Sys2Proof.Machine.execPing t n seq s
  | .edgeArm t n seq on imm off => Sys2Proof.Machine.execEdgeArm t n seq on imm off s
  | .cancel t n seq off => Sys2Proof.Machine.execCancel t n seq off s
  | .stateOff t n seq => Sys2Proof.Machine.execStateOff t n seq s
  | .outerConfirm t n seq => Sys2Proof.Machine.execOuterConfirm t n seq s
  | .clear t n seq => Sys2Proof.Machine.execClear t n seq s
  | .linkCfg t n seq item value => Sys2Proof.Machine.execLinkCfg t n seq item value s
  | .idle t n seq echo => Sys2Proof.Machine.execIdle t n seq echo s
  | .edgeDone t n seq res back => Sys2Proof.Machine.execEdgeDone t n seq res back s
  | .vceTime t n seq rise back => Sys2Proof.Machine.execVceTime t n seq rise back s
  | .faultFrame t n seq bits => Sys2Proof.Machine.execFaultFrame t n seq bits s
  | .softDone t n seq back => Sys2Proof.Machine.execSoftDone t n seq back s
  | .meas t n seq kind val => Sys2Proof.Machine.execMeas t n seq kind val s
  | .nak t n seq failed => Sys2Proof.Machine.execNak t n seq failed s
  | .linkResendTimeout t n seq => Sys2Proof.Machine.execLinkResendTimeout t n seq s
  | .linkDoubleFail t n atIsland cfgTwice => Sys2Proof.Machine.execLinkDoubleFail t n atIsland cfgTwice s
  | .islandHeartbeatExpiry t n => Sys2Proof.Machine.execIslandHeartbeatExpiry t n s
  | .linkLossDetect t n => Sys2Proof.Machine.execLinkLossDetect t n s
  | .linkTrained t n => Sys2Proof.Machine.execLinkTrained t n s
  | .islandEdgeExecute t n => Sys2Proof.Machine.execIslandEdgeExecute t n s
  | .islandScDetect t n => Sys2Proof.Machine.execIslandScDetect t n s
  | .islandOcDetect t n => Sys2Proof.Machine.execIslandOcDetect t n s
  | .blankingEnd t n => Sys2Proof.Machine.execBlankingEnd t n s
  | .innerScTimeout t n => Sys2Proof.Machine.execInnerScTimeout t n s
  | .softOffEnd t n => Sys2Proof.Machine.execSoftOffEnd t n s
  | .islandUvWarn t n => Sys2Proof.Machine.execIslandUvWarn t n s
  | .islandUvlo t n => Sys2Proof.Machine.execIslandUvlo t n s
  | .islandSupplyRecovery t n warning => Sys2Proof.Machine.execIslandSupplyRecovery t n warning s
  | .vceTransition t n rise => Sys2Proof.Machine.execVceTransition t n rise s
  | .islandMeasReport t n kind val => Sys2Proof.Machine.execIslandMeasReport t n kind val s
  | .islandOt t n => Sys2Proof.Machine.execIslandOt t n s
  | .feedModeWrite t k v => Sys2Proof.Machine.execFeedModeWrite t k v s
  | .feedStart t k => Sys2Proof.Machine.execFeedStart t k s
  | .feedReferenceReached t k => Sys2Proof.Machine.execFeedReferenceReached t k s
  | .feedLowPower t k => Sys2Proof.Machine.execFeedLowPower t k s
  | .feedCurrentGone t k => Sys2Proof.Machine.execFeedCurrentGone t k s
  | .feedOvervolt t k => Sys2Proof.Machine.execFeedOvervolt t k s
  | .feedReverse t k => Sys2Proof.Machine.execFeedReverse t k s
  | .feedRetry t k => Sys2Proof.Machine.execFeedRetry t k s
  | .feedRetriesReset t k => Sys2Proof.Machine.execFeedRetriesReset t k s
  | .fixWrite t k v => Sys2Proof.Machine.execFixWrite t k v s
  | .fixWatchdogExpiry t k => Sys2Proof.Machine.execFixWatchdogExpiry t k s
  | .rippleWindowEnd t k => Sys2Proof.Machine.execRippleWindowEnd t k s
  | .sweepWindow t k => Sys2Proof.Machine.execSweepWindow t k s
  | .sweepPathDone t k => Sys2Proof.Machine.execSweepPathDone t k s
  | .relocationDone t k => Sys2Proof.Machine.execRelocationDone t k s
  | .frtEntry t => Sys2Proof.Machine.execFrtEntry t s
  | .jumpHoldExpiry t => Sys2Proof.Machine.execJumpHoldExpiry t s
  | .frtReturn t => Sys2Proof.Machine.execFrtReturn t s
  | .frtHandover t => Sys2Proof.Machine.execFrtHandover t s
  | .envelopeExit t => Sys2Proof.Machine.execEnvelopeExit t s
  | .zvTimeExit t => Sys2Proof.Machine.execZvTimeExit t s
  | .topoDecision t => Sys2Proof.Machine.execTopoDecision t s
  | .supvHoldExpiry t dev => Sys2Proof.Machine.execSupvHoldExpiry t dev s
  | .passiveWindowPickup t w => Sys2Proof.Machine.execPassiveWindowPickup t w s
  | .probeChipBoundary t => Sys2Proof.Machine.execProbeChipBoundary t s
  | .zPublish t => Sys2Proof.Machine.execZPublish t s
  | .reconDelayExpiry t => Sys2Proof.Machine.execReconDelayExpiry t s
  | .comparatorChange t n v => Sys2Proof.Machine.execComparatorChange t n v s
  | .comparatorUnresolved t n => Sys2Proof.Machine.execComparatorUnresolved t n s
  | .selftestGo t n => Sys2Proof.Machine.execSelftestGo t n s
  | .selftestSchedule t => Sys2Proof.Machine.execSelftestSchedule t s
  | .selftestStepEnd t out => Sys2Proof.Machine.execSelftestStepEnd t out s
  | .testLate t n => Sys2Proof.Machine.execTestLate t n s
  | .xtripInput t n => Sys2Proof.Machine.execXtripInput t n s
  | .tripPulseEnd t overrun => Sys2Proof.Machine.execTripPulseEnd t overrun s
  | .innerDelayExpiry t => Sys2Proof.Machine.execInnerDelayExpiry t s
  | .brkPulseEnd t => Sys2Proof.Machine.execBrkPulseEnd t s
  | .latchClearWrite t mask => Sys2Proof.Machine.execLatchClearWrite t mask s
  | .tripResetComplete t => Sys2Proof.Machine.execTripResetComplete t s
  | .scEventAged t n => Sys2Proof.Machine.execScEventAged t n s
  | .dischargeStart t => Sys2Proof.Machine.execDischargeStart t s
  | .dischargeConfirm t closed => Sys2Proof.Machine.execDischargeConfirm t closed s
  | .dischargeDone t => Sys2Proof.Machine.execDischargeDone t s
  | .dischargeLate t => Sys2Proof.Machine.execDischargeLate t s
  | .eRemUpdate t => Sys2Proof.Machine.execERemUpdate t s
  | .brownOut t => Sys2Proof.Machine.execBrownOut t s
  | .vanaBrownOut t low => Sys2Proof.Machine.execVanaBrownOut t low s
  | .viocBrownOut t low => Sys2Proof.Machine.execViocBrownOut t low s
  | .powerOnReset t vioc18 => Sys2Proof.Machine.execPowerOnReset t vioc18 s
  | .bootComplete t bad gib image => Sys2Proof.Machine.execBootComplete t bad gib image s
  | .prechargeVoltageHeld t => Sys2Proof.Machine.execPrechargeVoltageHeld t s
  | .dcdAuxClosed t => Sys2Proof.Machine.execDcdAuxClosed t s
  | .prechargeTimeout t => Sys2Proof.Machine.execPrechargeTimeout t s
  | .dcdConfirmTimeout t => Sys2Proof.Machine.execDcdConfirmTimeout t s
  | .brkAuxClosed t => Sys2Proof.Machine.execBrkAuxClosed t s
  | .gridRelease t => Sys2Proof.Machine.execGridRelease t s
  | .brkCloseTimeout t => Sys2Proof.Machine.execBrkCloseTimeout t s
  | .stopCurrentLow t => Sys2Proof.Machine.execStopCurrentLow t s
  | .stopTimeout t => Sys2Proof.Machine.execStopTimeout t s
  | .brkAuxOpened t open' => Sys2Proof.Machine.execBrkAuxOpened t open' s
  | .resetStart t => Sys2Proof.Machine.execResetStart t s
  | .updateImageRunning t => Sys2Proof.Machine.execUpdateImageRunning t s
  | .lockstepMismatch t p => Sys2Proof.Machine.execLockstepMismatch t p s
  | .gpioInputChange t level => Sys2Proof.Machine.execGpioInputChange t level s
  | .mtrSnapGo t => Sys2Proof.Machine.execMtrSnapGo t s
  | .energyPulseStart t m => Sys2Proof.Machine.execEnergyPulseStart t m s
  | .energyPulseEnd t m => Sys2Proof.Machine.execEnergyPulseEnd t m s
  | .settlementLatch t => Sys2Proof.Machine.execSettlementLatch t s
  | .blockSigned t ok => Sys2Proof.Machine.execBlockSigned t ok s
  | .blockStored t ok => Sys2Proof.Machine.execBlockStored t ok s
  | .phseqChange t => Sys2Proof.Machine.execPhseqChange t s
  | .neutralMissing t => Sys2Proof.Machine.execNeutralMissing t s
  | .pqWindowEnd t => Sys2Proof.Machine.execPqWindowEnd t s
  | .supraDftDone t j => Sys2Proof.Machine.execSupraDftDone t j s
  | .hsrForward t h badFcs ptpEvent residence => Sys2Proof.Machine.execHsrForward t h badFcs ptpEvent residence s
  | .redundancySupervisionSend t => Sys2Proof.Machine.execRedundancySupervisionSend t s
  | .ringOpen t => Sys2Proof.Machine.execRingOpen t s
  | .portLinkLoss t p => Sys2Proof.Machine.execPortLinkLoss t p s
  | .ptpSync t port off => Sys2Proof.Machine.execPtpSync t port off s
  | .ptpAnnounce t port domain gm q prio every => Sys2Proof.Machine.execPtpAnnounce t port domain gm q prio every s
  | .ptpPdelay t port ns => Sys2Proof.Machine.execPtpPdelay t port ns s
  | .ptpAnnounceTimeout t => Sys2Proof.Machine.execPtpAnnounceTimeout t s
  | .traceableHoldExpiry t => Sys2Proof.Machine.execTraceableHoldExpiry t s
  | .svFrame t h good asdus => Sys2Proof.Machine.execSvFrame t h good asdus s
  | .svSupervisionLoss t ctx => Sys2Proof.Machine.execSvSupervisionLoss t ctx s
  | .gooseMessage t h good m => Sys2Proof.Machine.execGooseMessage t h good m s
  | .gooseSupervisionLoss t ctx => Sys2Proof.Machine.execGooseSupervisionLoss t ctx s
  | .svPublish t ctx => Sys2Proof.Machine.execSvPublish t ctx s
  | .gooseRetransmit t ctx => Sys2Proof.Machine.execGooseRetransmit t ctx s
  | .mmsOperate t assoc roles handle v => Sys2Proof.Machine.execMmsOperate t assoc roles handle v s
  | .pllLock t refTen => Sys2Proof.Machine.execPllLock t refTen s
  | .unlock t stopped => Sys2Proof.Machine.execUnlock t stopped s
  | .clockLossHalt t => Sys2Proof.Machine.execClockLossHalt t s
  | .clockInputLost t => Sys2Proof.Machine.execClockInputLost t s
  | .clockInputResume t ref other => Sys2Proof.Machine.execClockInputResume t ref other s
  | .clockHoldoverExpiry t => Sys2Proof.Machine.execClockHoldoverExpiry t s
  | .relockStart t => Sys2Proof.Machine.execRelockStart t s
  | .dividerAlignment t => Sys2Proof.Machine.execDividerAlignment t s
  | .alignGo t => Sys2Proof.Machine.execAlignGo t s
  | .strobePhaseMeasure t ps => Sys2Proof.Machine.execStrobePhaseMeasure t ps s
  | .gafferCutoff t arb req locked => Sys2Proof.Machine.execGafferCutoff t arb req locked s
  | .gafferStarvation t req wait => Sys2Proof.Machine.execGafferStarvation t req wait s
  | .extAccess t reqs arb => Sys2Proof.Machine.execExtAccess t reqs arb s
  | .dramRetrain t => Sys2Proof.Machine.execDramRetrain t s
  | .dramRetrainDone t => Sys2Proof.Machine.execDramRetrainDone t s
  | .sramUncorrectable t a => Sys2Proof.Machine.execSramUncorrectable t a s
  | .dramBlockPoisoned t block => Sys2Proof.Machine.execDramBlockPoisoned t block s
  | .scrubPass t dram done ce again => Sys2Proof.Machine.execScrubPass t dram done ce again s
  | .backgroundPeriodMissed t which => Sys2Proof.Machine.execBackgroundPeriodMissed t which s
  | .emmcBlockWrite t fails => Sys2Proof.Machine.execEmmcBlockWrite t fails s
  | .wearManagementPass t erases groups => Sys2Proof.Machine.execWearManagementPass t erases groups s
  | .reelRow t r drop => Sys2Proof.Machine.execReelRow t r drop s
  | .reelRecordEnd t r => Sys2Proof.Machine.execReelRecordEnd t r s
  | .recordExported t => Sys2Proof.Machine.execRecordExported t s
  | .recordReadTimeout t => Sys2Proof.Machine.execRecordReadTimeout t s
  | .dailiesSample t => Sys2Proof.Machine.execDailiesSample t s
  | .dailiesDigest t k => Sys2Proof.Machine.execDailiesDigest t k s
  | .cueIn t b => Sys2Proof.Machine.execCueIn t b s
  | .replyOut t whole => Sys2Proof.Machine.execReplyOut t whole s
  | .regWrite t a vs whole => Sys2Proof.Machine.execRegWrite t a vs whole s
  | .regRead t a n late => Sys2Proof.Machine.execRegRead t a n late s
  | .registerFieldWrite t a v => Sys2Proof.Machine.execRegisterFieldWrite t a v s
  | .mgmtCue t k cert roles b => Sys2Proof.Machine.execMgmtCue t k cert roles b s
  | .mgmtIdleTimeout t k => Sys2Proof.Machine.execMgmtIdleTimeout t k s
  | .fragmentTimeout t => Sys2Proof.Machine.execFragmentTimeout t s
  | .sessionReplyExpiry t => Sys2Proof.Machine.execSessionReplyExpiry t s
  | .sessionOpen t c => Sys2Proof.Machine.execSessionOpen t c s
  | .sessionClose t c => Sys2Proof.Machine.execSessionClose t c s
  | .identify t c => Sys2Proof.Machine.execIdentify t c s
  | .stateRequest t c => Sys2Proof.Machine.execStateRequest t c s
  | .sceneSelect t c => Sys2Proof.Machine.execSceneSelect t c s
  | .reset t c => Sys2Proof.Machine.execReset t c s
  | .halt t c => Sys2Proof.Machine.execHalt t c s
  | .tripReset t c => Sys2Proof.Machine.execTripReset t c s
  | .governorReset t c => Sys2Proof.Machine.execGovernorReset t c s
  | .feedClear t c => Sys2Proof.Machine.execFeedClear t c s
  | .pinAssign t c => Sys2Proof.Machine.execPinAssign t c s
  | .faultRead t c => Sys2Proof.Machine.execFaultRead t c s
  | .faultAcknowledge t c => Sys2Proof.Machine.execFaultAcknowledge t c s
  | .registerRead t c => Sys2Proof.Machine.execRegisterRead t c s
  | .registerWrite t c => Sys2Proof.Machine.execRegisterWrite t c s
  | .registerWriteList t c => Sys2Proof.Machine.execRegisterWriteList t c s
  | .imageLoad t c => Sys2Proof.Machine.execImageLoad t c s
  | .swap t c => Sys2Proof.Machine.execSwap t c s
  | .coefficientWrite t c => Sys2Proof.Machine.execCoefficientWrite t c s
  | .tableWrite t c => Sys2Proof.Machine.execTableWrite t c s
  | .scriptStatus t c => Sys2Proof.Machine.execScriptStatus t c s
  | .setpointWrite t c => Sys2Proof.Machine.execSetpointWrite t c s
  | .setpointRead t c => Sys2Proof.Machine.execSetpointRead t c s
  | .feedFixedVoltageWrite t c => Sys2Proof.Machine.execFeedFixedVoltageWrite t c s
  | .energySnapshot t c => Sys2Proof.Machine.execEnergySnapshot t c s
  | .harmonicRead t c => Sys2Proof.Machine.execHarmonicRead t c s
  | .supraharmonicSpectrum t c => Sys2Proof.Machine.execSupraharmonicSpectrum t c s
  | .zero t c => Sys2Proof.Machine.execZero t c s
  | .span t c => Sys2Proof.Machine.execSpan t c s
  | .calibrationSet t c => Sys2Proof.Machine.execCalibrationSet t c s
  | .calibrationStore t c => Sys2Proof.Machine.execCalibrationStore t c s
  | .metrologySeal t c => Sys2Proof.Machine.execMetrologySeal t c s
  | .profileRead t c => Sys2Proof.Machine.execProfileRead t c s
  | .profileStore t c => Sys2Proof.Machine.execProfileStore t c s
  | .sealFlag t c => Sys2Proof.Machine.execSealFlag t c s
  | .contextWrite t c => Sys2Proof.Machine.execContextWrite t c s
  | .contextFree t c => Sys2Proof.Machine.execContextFree t c s
  | .contextRead t c => Sys2Proof.Machine.execContextRead t c s
  | .fusedSetWrite t c => Sys2Proof.Machine.execFusedSetWrite t c s
  | .sourceSelect t c => Sys2Proof.Machine.execSourceSelect t c s
  | .pointTableLoad t c => Sys2Proof.Machine.execPointTableLoad t c s
  | .dataModelLoad t c => Sys2Proof.Machine.execDataModelLoad t c s
  | .networkImageStore t c => Sys2Proof.Machine.execNetworkImageStore t c s
  | .reelAllocate t c => Sys2Proof.Machine.execReelAllocate t c s
  | .reelConfigure t c => Sys2Proof.Machine.execReelConfigure t c s
  | .reelArm t c => Sys2Proof.Machine.execReelArm t c s
  | .reelDisarm t c => Sys2Proof.Machine.execReelDisarm t c s
  | .reelTrigger t c => Sys2Proof.Machine.execReelTrigger t c s
  | .reelRead t c => Sys2Proof.Machine.execReelRead t c s
  | .recordList t c => Sys2Proof.Machine.execRecordList t c s
  | .recordRead t c => Sys2Proof.Machine.execRecordRead t c s
  | .recordDelete t c => Sys2Proof.Machine.execRecordDelete t c s
  | .settlementBlockRead t c => Sys2Proof.Machine.execSettlementBlockRead t c s
  | .dailiesSelect t c => Sys2Proof.Machine.execDailiesSelect t c s
  | .dailiesRead t c => Sys2Proof.Machine.execDailiesRead t c s
  | .attest t c => Sys2Proof.Machine.execAttest t c s
  | .certificateRead t c => Sys2Proof.Machine.execCertificateRead t c s
  | .keyLoad t c => Sys2Proof.Machine.execKeyLoad t c s
  | .keyActivate t c => Sys2Proof.Machine.execKeyActivate t c s
  | .hostSlotRoles t c => Sys2Proof.Machine.execHostSlotRoles t c s
  | .lifecycle t c => Sys2Proof.Machine.execLifecycle t c s
  | .logRead t c => Sys2Proof.Machine.execLogRead t c s
  | .logSealRead t c => Sys2Proof.Machine.execLogSealRead t c s
  | .logHead t c => Sys2Proof.Machine.execLogHead t c s
  | .updateLoad t c => Sys2Proof.Machine.execUpdateLoad t c s
  | .updateStart t c => Sys2Proof.Machine.execUpdateStart t c s
  | .updateStatus t c => Sys2Proof.Machine.execUpdateStatus t c s
  | .tamperInput t => Sys2Proof.Machine.execTamperInput t s
  | .debugAccess t d => Sys2Proof.Machine.execDebugAccess t d s
  | .digestCheck t good => Sys2Proof.Machine.execDigestCheck t good s
  | .logSpill t intact => Sys2Proof.Machine.execLogSpill t intact s
  | .logSealSigned t => Sys2Proof.Machine.execLogSealSigned t s
  | .checkerTest t fail => Sys2Proof.Machine.execCheckerTest t fail s
  | .islandOcClear t n => Sys2Proof.Machine.execIslandOcClear t n s
  | .islandOtClear t n => Sys2Proof.Machine.execIslandOtClear t n s
  | .xtripRelease t n => Sys2Proof.Machine.execXtripRelease t n s
  | .linkCrcError t n atIsland w => Sys2Proof.Machine.execLinkCrcError t n atIsland w s
  | .portLinkUp t p => Sys2Proof.Machine.execPortLinkUp t p s
  | .mgmtConnectionClosed t k => Sys2Proof.Machine.execMgmtConnectionClosed t k s
  | .pairRestartDone t p => Sys2Proof.Machine.execPairRestartDone t p s
  | .securityCoreFault t => Sys2Proof.Machine.execSecurityCoreFault t s
  | .vbatLoss t => Sys2Proof.Machine.execVbatLoss t s

end Sys2Proof.Machine
end

