-- ==== Sys2Proof/WellFormed.lean ====
section
/-!
DEFINITION. Which commands the outside of the block can present: what the types of their operands do not say
already.
-/
namespace Sys2Proof

/-- A LOAD takes 1 to 14 SCLK cycles (R44, R45). -/
def loadLatencyOk (lat : Nat) : Bool := decide (1 ≤ lat) && decide (lat ≤ 14)

/-- One transfer per request line (R347). -/
def requestsOk (reqs : List ExtReq) : Bool := decide ((reqs.map (·.req)).Nodup)

/-- Words a read transaction did not get in time are words of that read (R427). -/
def lateWordsOk (n : BitVec 16) (late : List Nat) : Bool := late.all (fun i => decide (i < n.toNat))

/-- A frame of sampled values holds at least one ASDU (R318). -/
def frameOk (asdus : List SvAsdu) : Bool := decide (0 < asdus.length)

/-- A well-formed command: one that the block's surroundings can present. -/
def Instr.wellFormed : Instr → Bool
  | .load _ _ lat => loadLatencyOk lat
  | .extAccess _ reqs _ => requestsOk reqs
  | .regRead _ _ n late => lateWordsOk n late
  | .svFrame _ _ _ asdus => frameOk asdus
  | .tick _ | .mov _ _ | .add _ _ | .sub _ _ | .mul _ _ | .fma _ _ | .min _ _ | .max _ _ | .lim _ _ | .int _ _
  | .lpf _ _ | .dif _ _ | .abs _ _ | .sqrt _ _ | .recip _ _ | .sincos _ _ | .clarke _ _ | .park _ _
  | .ipark _ _ | .store _ _ | .pub _ _ | .endShot _ _ | .periodWrite _ _ | .directorPolicyCycle _
  | .directorAbsent _ | .holdoverExpiry _ | .controlSampleValid _ _ _ _ | .meteringSampleValid _ _ _ | .resamplerOutput _ _
  | .supraSampleValid _ _ _ | .stuckBitstream _ _ | .missingClock _ _ | .overrange _ _ | .channelRecover _ _
  | .pathSettled _ _ _ | .supraSlotWrite _ _ _ | .bgCalVisit _ _ _ | .calAverageDone _ _ | .hkOutput _ _
  | .syncSample _ | .lowVoltageEntry _ | .localRecovery _ | .syncLock _ | .syncRange _ | .syncHoldExpiry _
  | .borrowMismatch _ | .jumpDetect _ | .realignClear _ | .realignFail _ | .thetaWrap _ | .fselRateChange _
  | .extrapolationQuery _ _ | .thetaRSlewDone _ | .returnRampStart _ _ | .returnRampEnd _ _ | .softRampDone _ _
  | .carrierValley _ _ | .carrierPeak _ _ | .carrierMidCount _ _ | .commitGo _ _ | .shadowWrite _ _ _ _
  | .directCompareEdge _ _ | .feedEdgeExecute _ _ | .fsnTransition _ _ _ | .deadtimeRelease _ _
  | .wickNotchEnd _ _ _ | .wickLowFiltered _ _ | .delayLineCalibration _ _ _ | .clapIn _ _ | .virtualClap _
  | .clapLost _ | .linkSlot _ _ | .ping _ _ _ | .edgeArm _ _ _ _ _ _ | .cancel _ _ _ _ | .stateOff _ _ _
  | .outerConfirm _ _ _ | .clear _ _ _ | .linkCfg _ _ _ _ _ | .idle _ _ _ _ | .edgeDone _ _ _ _ _
  | .vceTime _ _ _ _ _ | .faultFrame _ _ _ _ | .softDone _ _ _ _ | .meas _ _ _ _ _ | .nak _ _ _ _
  | .linkResendTimeout _ _ _ | .linkDoubleFail _ _ _ _ | .islandHeartbeatExpiry _ _ | .linkLossDetect _ _
  | .linkTrained _ _ | .islandEdgeExecute _ _ | .islandScDetect _ _ | .islandOcDetect _ _ | .blankingEnd _ _
  | .innerScTimeout _ _ | .softOffEnd _ _ | .islandUvWarn _ _ | .islandUvlo _ _ | .islandSupplyRecovery _ _ _
  | .vceTransition _ _ _ | .islandMeasReport _ _ _ _ | .islandOt _ _ | .feedModeWrite _ _ _ | .feedStart _ _
  | .feedReferenceReached _ _ | .feedLowPower _ _ | .feedCurrentGone _ _ | .feedOvervolt _ _ | .feedReverse _ _
  | .feedRetry _ _ | .feedRetriesReset _ _ | .fixWrite _ _ _ | .fixWatchdogExpiry _ _ | .rippleWindowEnd _ _
  | .sweepWindow _ _ | .sweepPathDone _ _ | .relocationDone _ _ | .frtEntry _ | .jumpHoldExpiry _
  | .frtReturn _ | .frtHandover _ | .envelopeExit _ | .zvTimeExit _ | .topoDecision _ | .supvHoldExpiry _ _
  | .passiveWindowPickup _ _ | .probeChipBoundary _ | .zPublish _ | .reconDelayExpiry _
  | .comparatorChange _ _ _ | .comparatorUnresolved _ _ | .selftestGo _ _ | .selftestSchedule _
  | .selftestStepEnd _ _ | .testLate _ _ | .xtripInput _ _ | .tripPulseEnd _ _ | .innerDelayExpiry _
  | .brkPulseEnd _ | .latchClearWrite _ _ | .tripResetComplete _ | .scEventAged _ _ | .dischargeStart _
  | .dischargeConfirm _ _ | .dischargeDone _ | .dischargeLate _ | .eRemUpdate _ | .brownOut _
  | .vanaBrownOut _ _ | .viocBrownOut _ _ | .powerOnReset _ _ | .bootComplete _ _ _ _ | .prechargeVoltageHeld _
  | .dcdAuxClosed _ | .prechargeTimeout _ | .dcdConfirmTimeout _ | .brkAuxClosed _ | .gridRelease _
  | .brkCloseTimeout _ | .stopCurrentLow _ | .stopTimeout _ | .brkAuxOpened _ _ | .resetStart _
  | .updateImageRunning _ | .lockstepMismatch _ _ | .gpioInputChange _ _ | .mtrSnapGo _ | .energyPulseStart _ _
  | .energyPulseEnd _ _ | .settlementLatch _ | .blockSigned _ _ | .blockStored _ _ | .phseqChange _
  | .neutralMissing _ | .pqWindowEnd _ | .supraDftDone _ _ | .hsrForward _ _ _ _ _
  | .redundancySupervisionSend _ | .ringOpen _ | .portLinkLoss _ _ | .ptpSync _ _ _
  | .ptpAnnounce _ _ _ _ _ _ _ | .ptpPdelay _ _ _ | .ptpAnnounceTimeout _ | .traceableHoldExpiry _
  | .svSupervisionLoss _ _ | .gooseMessage _ _ _ _ | .gooseSupervisionLoss _ _ | .svPublish _ _
  | .gooseRetransmit _ _ | .mmsOperate _ _ _ _ _ | .pllLock _ _ | .unlock _ _ | .clockLossHalt _
  | .clockInputLost _ | .clockInputResume _ _ _ | .clockHoldoverExpiry _ | .relockStart _ | .dividerAlignment _
  | .alignGo _ | .strobePhaseMeasure _ _ | .gafferCutoff _ _ _ _ | .gafferStarvation _ _ _ | .dramRetrain _
  | .dramRetrainDone _ | .sramUncorrectable _ _ | .dramBlockPoisoned _ _ | .scrubPass _ _ _ _ _
  | .backgroundPeriodMissed _ _ | .emmcBlockWrite _ _ | .wearManagementPass _ _ _ | .reelRow _ _ _
  | .reelRecordEnd _ _ | .recordExported _ | .recordReadTimeout _ | .dailiesSample _ | .dailiesDigest _ _
  | .cueIn _ _ | .replyOut _ _ | .regWrite _ _ _ _ | .registerFieldWrite _ _ _ | .mgmtCue _ _ _ _ _
  | .mgmtIdleTimeout _ _ | .fragmentTimeout _ | .sessionReplyExpiry _ | .sessionOpen _ _ | .sessionClose _ _
  | .identify _ _ | .stateRequest _ _ | .sceneSelect _ _ | .reset _ _ | .halt _ _ | .tripReset _ _
  | .governorReset _ _ | .feedClear _ _ | .pinAssign _ _ | .faultRead _ _ | .faultAcknowledge _ _
  | .registerRead _ _ | .registerWrite _ _ | .registerWriteList _ _ | .imageLoad _ _ | .swap _ _
  | .coefficientWrite _ _ | .tableWrite _ _ | .scriptStatus _ _ | .setpointWrite _ _ | .setpointRead _ _
  | .feedFixedVoltageWrite _ _ | .energySnapshot _ _ | .harmonicRead _ _ | .supraharmonicSpectrum _ _
  | .zero _ _ | .span _ _ | .calibrationSet _ _ | .calibrationStore _ _ | .metrologySeal _ _ | .profileRead _ _
  | .profileStore _ _ | .sealFlag _ _ | .contextWrite _ _ | .contextFree _ _ | .contextRead _ _
  | .fusedSetWrite _ _ | .sourceSelect _ _ | .pointTableLoad _ _ | .dataModelLoad _ _ | .networkImageStore _ _
  | .reelAllocate _ _ | .reelConfigure _ _ | .reelArm _ _ | .reelDisarm _ _ | .reelTrigger _ _ | .reelRead _ _
  | .recordList _ _ | .recordRead _ _ | .recordDelete _ _ | .settlementBlockRead _ _ | .dailiesSelect _ _
  | .dailiesRead _ _ | .attest _ _ | .certificateRead _ _ | .keyLoad _ _ | .keyActivate _ _
  | .hostSlotRoles _ _ | .lifecycle _ _ | .logRead _ _ | .logSealRead _ _ | .logHead _ _ | .updateLoad _ _
  | .updateStart _ _ | .updateStatus _ _ | .tamperInput _ | .debugAccess _ _ | .digestCheck _ _ | .logSpill _ _
  | .logSealSigned _ | .checkerTest _ _ | .islandOcClear _ _ | .islandOtClear _ _ | .xtripRelease _ _
  | .linkCrcError _ _ _ _ | .portLinkUp _ _ | .mgmtConnectionClosed _ _ | .pairRestartDone _ _
  | .securityCoreFault _ | .vbatLoss _ => true

end Sys2Proof
end

