-- ==== Sys2Proof/Safety.lean ====
section
/-!
DEFINITION. What a safe run is, in the terms the statements use: the invariant of the machine's data, and the
forms that a command's completion is stated in.
-/
namespace Sys2Proof.Machine
open Reg

/-- Every sparse map of the state is in its canonical form: keys rising, no entry at its default. -/
def State.mapsWf (s : State) : Bool :=
  mapWf resetWord s.regs && mapWf resetWord s.eff && mapWf (fun _ => (0 : Word)) s.seq.st
    && mapWf (fun _ => (0 : Word)) s.seq.setp && mapWf (fun _ => (0 : Word)) s.seq.ports
    && mapWf (fun _ => (0 : Byte)) s.mem.dram

/-! ### Shots -/

/-- A shot of the running frame that the datapath finds good issues and has its result before the frame period
ends (R45, R46, R51, R53). -/
def ShotRuns (s : State) (op : ShotOp) (w : Shot) (l : Nat) : Prop :=
  s.seq.phase = .running ∧ s.fetches (some op) w = true ∧ op.legal s.activeBank.res w = true ∧ 1 ≤ l ∧
    issueCycle s.seq (op.reads w ++ op.writes w) + l ≤ s.seq.period

/-- What a shot leaves alone: everything outside the sequencer and SEQ.STATUS, and of the sequencer the banks,
the setpoints, the committed ports and the frame's own state. -/
def ShotKeeps (s t : State) : Prop :=
  t = { s with seq := t.seq, regs := t.regs, hot := t.hot } ∧ (∀ a, a ≠ SEQ.STATUS.DOMAIN.addr → t.word a = s.word a) ∧
    t.seq.bank0 = s.seq.bank0 ∧ t.seq.bank1 = s.seq.bank1 ∧ t.seq.setp = s.seq.setp ∧
    t.seq.ports = s.seq.ports ∧ t.seq.phase = s.seq.phase ∧ t.seq.mismatchRun = s.seq.mismatchRun

/-- What a shot that writes one word per enabled lane does: each such word takes the lane's result, every other
word of state memory stands, nothing is staged (R42). -/
def LaneShot (c : Shot → ShotCheck → Instr) (op : ShotOp) (l : Nat) (f : State → Shot → Nat → F32) : Prop :=
  ∀ (s : State) (w : Shot), ShotRuns s op w l → ∃ t, exec (c w .good) s = .next t ∧
    (∀ i ∈ w.on, t.sw (w.dst.toNat + i) = f32Flush (f s w i)) ∧
    (∀ a, (∀ i ∈ w.on, a ≠ w.dst.toNat + i) → t.sw a = s.sw a) ∧
    t.seq.pub = s.seq.pub ∧ t.seq.sto = s.seq.sto ∧ ShotKeeps s t

/-- SEQ.STATUS.DOMAIN sets exactly where an enabled lane has a domain condition (R43, R44). -/
def DomainShot (c : Shot → ShotCheck → Instr) (op : ShotOp) (l : Nat) (p : State → Shot → Nat → Prop) : Prop :=
  ∀ (s : State) (w : Shot), ShotRuns s op w l → ∃ t, exec (c w .good) s = .next t ∧
    (t.on SEQ.STATUS.DOMAIN = true ↔ s.on SEQ.STATUS.DOMAIN = true ∨ ∃ i ∈ w.on, p s w i)

/-- The shots of R44 but END, each with its opcode; LOAD with its typical latency. -/
def shotTable : List ((Shot → ShotCheck → Instr) × ShotOp) :=
  [(.mov, .mov), (.add, .add), (.sub, .sub), (.mul, .mul), (.fma, .fma), (.min, .min), (.max, .max), (.lim, .lim),
   (.int, .int), (.lpf, .lpf), (.dif, .dif), (.abs, .abs), (.sqrt, .sqrt), (.recip, .recip), (.sincos, .sincos),
   (.clarke, .clarke), (.park, .park), (.ipark, .ipark), (fun w c => .load w c 6, .load), (.store, .store),
   (.pub, .pub)]

/-! ### Cues -/

/-- R380 to R387: a cue of an opcode gets past the checks of its origin, role and state, pair A runs, no earlier cue of
its session waits, and the reply queue has room. -/
def State.admits (s : State) (op : Nat) (c : Cue) : Bool :=
  !s.bitOf SYS.HOLD.ACTIVE 0 && !s.cueWaits c && decide (s.cue.entries.length < 256) && s.originAllows c.cls.toNat op
    && (match opSpec op with
        | none => false
        | some sp =>
          (decide (sp.roles = 0)
            || decide ((if op = 0x0012 ∧ s.bitOf SYS.CAUSE.PL 5 then roS else sp.roles) &&& s.cueRoles c ≠ 0))
          && (s.stateRefuses op sp).isNone)

/-- The newest entry of the reply queue answers a cue with a status, a detail and data (R379, R393). -/
def State.replied (s : State) (c : Cue) (op status detail : Nat) (data : List Byte) : Bool :=
  s.cue.entries.getLast?.any (fun e => decide (e.session = c.session.toNat ∧ e.seq = c.seq.toNat ∧ e.op = op
    ∧ e.status = status ∧ e.detail = detail ∧ e.data = data))

/-- A cue that is admitted and whose payload and conditions are good (`P`, over the machine at its instant) is
answered with a status and data, and leaves what `Q` says. -/
def CueDone (cmd : Time → Cue → Instr) (op status : Nat) (P : State → Cue → Prop)
    (data : State → Cue → List Byte) (Q : State → Cue → State → Prop) : Prop :=
  ∀ (s : State) (t : Time) (c : Cue), (s.at' t).admits op c = true → P (s.at' t) c →
    ∃ s', exec (cmd t c) s = .next s' ∧ s'.replied c op status 0 (data (s.at' t) c) = true ∧ Q (s.at' t) c s'

/-- A cue that meets a condition of its own is refused with a status and detail, and leaves what `Q` says. -/
def CueFails (cmd : Time → Cue → Instr) (op status : Nat) (P : State → Cue → Prop)
    (detail : State → Cue → Nat) (Q : State → Cue → State → Prop) : Prop :=
  ∀ (s : State) (t : Time) (c : Cue), (s.at' t).admits op c = true → P (s.at' t) c →
    ∃ s', exec (cmd t c) s = .next s' ∧ s'.replied c op status (detail (s.at' t) c) [] = true ∧ Q (s.at' t) c s'

/-- What answering a cue and its log entries may change of a state: the cue processor, the log, the fault
collector and registers. -/
def State.besides (s s' : State) : State :=
  { s with cue := s'.cue, regs := s'.regs, log := s'.log, faults := s'.faults, hot := s'.hot }

/-- What a cue that only reads leaves: nothing changes but the cue processor, HOST.QUEUE and HOST.STATUS. -/
def CueOnly (s : State) (_ : Cue) (s' : State) : Prop :=
  s' = { s with cue := s'.cue, regs := s'.regs } ∧
    ∀ a, a ≠ HOST.QUEUE.USED.addr → a ≠ HOST.STATUS.OUT_CNT.addr → s'.word a = s.word a

/-- A cue that only reads. -/
def CueRead (cmd : Time → Cue → Instr) (op : Nat) (P : State → Cue → Prop) (data : State → Cue → List Byte) :
    Prop := CueDone cmd op csOK P data CueOnly

/-- Every word below LOG, FLT and HOST stands, but those of a list: what an effect on registers, logged and
answered, leaves of the rest of the window. -/
def WordsStand (s s' : State) (but : List Nat) : Prop :=
  ∀ a, a < 0x1D000 → a ∉ but → s'.word a = s.word a

/-! ### Registers -/

/-- Registers that follow no clock and are not wider than a word: those of MOD, BND (but BND.THETA_R), ISL, CMP, OLP,
FED, STR and REL. -/
def plainBlock (a : Nat) : Bool :=
  [4, 5, 7, 9, 10, 12, 13, 22, 23, 27].contains (a / 4096) && decide (a ≠ BND.THETA_R.ANGLE.addr)

/-- What a read of a plain register shows (R12, R424): 0 where nothing is defined; WO fields as 0, and CUE fields
as 0 but to the cue processor (path 1). -/
def State.shown (s : State) (path a : Nat) : Word :=
  match rowOf a with
  | none => 0
  | some r => s.word a &&& ~~~ BitVec.ofNat 32 (r.mWo ||| if path = 1 then 0 else r.mCue)

/-- Registers whose every writable field is W1C, and whose writes have no further effect: SEQ.STATUS,
SEQ.END_CYC, STR.EVENT, REL.STATUS. -/
def clearWords : List Nat := [0x3008, 0x301C, 0x16004, 0x1B000]

/-- The W1C bits of a register (R12). -/
def w1cBits (a : Nat) : Word := match rowOf a with | some r => BitVec.ofNat 32 r.mW1c | none => 0

/-- The commands that may write DRAM (R349, R399, R439): every other leaves it. -/
def reachesDram : Instr → Bool
  | .extAccess .. => true
  | .debugAccess .. => true
  | .brownOut .. => true
  | .powerOnReset .. => true
  | .resetStart .. => true
  | _ => false

/-- The least period a write of SEQ.PERIOD may give (R36): that of the active image, and of the standby image as
well while a swap is pending. -/
def State.leastPeriod (s : State) : Nat :=
  if s.on SEQ.STATUS.SWAP_PENDING = true then max s.activeBank.pMin s.standbyBank.pMin
  else if s.activeBank.valid = true then s.activeBank.pMin else 0

end Sys2Proof.Machine
end

