-- ==== Sys2Proof/Certificates/Slice0/Obligations.lean ====
section
/-!
DEFINITION. The statements for the provers: what the commands of each family do, what they leave, and what every
step keeps.
-/
section Statements
open Sys2Proof Sys2Proof.Machine Sys2Proof.Machine.Reg

/-- R42, R44: the shots MOV, ADD, SUB, MUL, FMA, MIN, MAX, LIM and ABS complete in every state in which the running
frame fetches them: each enabled lane's destination word takes the value the rule gives from that lane's
operands, every other state word stands, nothing is staged, every register word but SEQ.STATUS stands, and so
does every component but the sequencer, whose banks, setpoints, ports and frame phase stand (LaneShot,
ShotKeeps). Model's choices it rests on: log entries 14, 15 and 16. -/
def Obligations.ShotsWriteTheLanesOfArithmetic : Prop :=
  LaneShot .mov .mov 1 (fun s w i => if w.m0 then s.coef (w.kix i) else s.sw (w.srcA.toNat + i)) ∧
  LaneShot .add .add 1 (fun s w i => f32Add (s.sw (w.srcA.toNat + i)) (s.sw (w.srcB.toNat + i))) ∧
  LaneShot .sub .sub 1 (fun s w i => f32Sub (s.sw (w.srcA.toNat + i)) (s.sw (w.srcB.toNat + i))) ∧
  LaneShot .mul .mul 1 (fun s w i => f32Mul (s.sw (w.srcA.toNat + i))
    (if w.m0 then s.coef (w.kix i) else s.sw (w.srcB.toNat + i))) ∧
  LaneShot .fma .fma 1 (fun s w i =>
    f32Fma (s.sw (w.srcA.toNat + i)) (s.coef (w.kix i)) (s.sw (w.srcB.toNat + i))) ∧
  LaneShot .min .min 1 (fun s w i => f32Min (s.sw (w.srcA.toNat + i)) (s.sw (w.srcB.toNat + i))) ∧
  LaneShot .max .max 1 (fun s w i => f32Max2 (s.sw (w.srcA.toNat + i)) (s.sw (w.srcB.toNat + i))) ∧
  LaneShot .lim .lim 1 (fun s w i =>
    if w.m0 then f32Lim (s.sw (w.srcA.toNat + i)) (s.sw (w.srcB.toNat + i)) (s.sw (w.srcB.toNat + i + 4))
    else f32Lim (s.sw (w.srcA.toNat + i)) (s.coef w.coef.toNat) (s.coefOr (w.coef.toNat + 1))) ∧
  LaneShot .abs .abs 1 (fun s w i => f32Abs (s.sw (w.srcA.toNat + i)))

/-- R42, R44: the shots INT, LPF, SQRT, RECIP and LOAD (at every latency up to 14 cycles) complete in the same way:
each enabled lane's destination word takes the value of the rule, and everything else is as for MOV. R43, R44:
SQRT, RECIP and LOAD complete with SEQ.STATUS.DOMAIN set exactly where it was set before or an enabled lane
takes the root of a negative word, the reciprocal of zero, or an index outside the table. Model's choices it
rests on: log entries 14, 15 and 16. -/
def Obligations.ShotsWriteTheLanesOfIntegrationAndTables : Prop :=
  LaneShot .int .int 1 (fun s w i =>
    if w.m0 = true ∧ f32Val (s.sw (w.srcB.toNat + i + 8)) ≠ f32Val (s.sw (w.srcB.toNat + i + 12)) then
      s.sw (w.dst.toNat + i)
    else
      f32Min (f32Max2
        (f32OfDy (f32Neg (s.sw (w.dst.toNat + i)) &&
            (f32Neg (s.coef (w.kix i)) != f32Neg (s.sw (w.srcA.toNat + i))))
          (dyAdd (f32Val (s.sw (w.dst.toNat + i)))
            (dyMul (f32Val (s.coef (w.kix i))) (f32Val (s.sw (w.srcA.toNat + i))))))
        (f32Flush (s.sw (w.srcB.toNat + i)))) (f32Flush (s.sw (w.srcB.toNat + i + 4)))) ∧
  LaneShot .lpf .lpf 1 (fun s w i =>
    f32Lpf (s.sw (w.dst.toNat + i)) (s.coef (w.kix i)) (s.sw (w.srcA.toNat + i))) ∧
  LaneShot .sqrt .sqrt 4 (fun s w i => f32Sqrt (s.sw (w.srcA.toNat + i))) ∧
  LaneShot .recip .recip 4 (fun s w i => f32Recip (s.sw (w.srcA.toNat + i))) ∧
  (∀ lat : Nat, lat ≤ 14 → LaneShot (fun w c => .load w c lat) .load lat (fun s w i =>
    s.tab (16 * w.coef.toNat +
      (clampInt 0 (65535 - 16 * w.coef.toNat : Nat) (f32Floor (s.sw (w.srcA.toNat + i)))).toNat))) ∧
  DomainShot .sqrt .sqrt 4 (fun s w i => (f32Val (s.sw (w.srcA.toNat + i))).m < 0) ∧
  DomainShot .recip .recip 4 (fun s w i => (f32Val (s.sw (w.srcA.toNat + i))).m = 0) ∧
  (∀ lat : Nat, lat ≤ 14 → DomainShot (fun w c => .load w c lat) .load lat (fun s w i =>
    f32Floor (s.sw (w.srcA.toNat + i)) < 0 ∨
      ((65535 - 16 * w.coef.toNat : Nat) : Int) < f32Floor (s.sw (w.srcA.toNat + i))))

/-- R44: the shots DIF, SINCOS, CLARKE, PARK and IPARK complete: DIF writes k × (a − b) and the new a into B, SINCOS
each of its two words within one unit in the last place of cosine and sine of its operand (which of the values
is free), CLARKE, PARK and IPARK the words of their transforms, each rounded once; every other state word,
register and component stands as for MOV. R44, R47: the shots PUB and STORE complete: each stages the words of
its enabled lanes, latest first, and changes no state word, no register and no committed port. Model's choices
it rests on: log entries 6, 14, 15 and 16. -/
def Obligations.ShotsWriteSeveralWordsOrStage : Prop :=
  (∀ (s : State) (w : Shot), ShotRuns s .dif w 1 → ∃ t, exec (.dif w .good) s = .next t ∧
    (∀ i ∈ w.on, t.sw (w.srcB.toNat + i) = f32Flush (s.sw (w.srcA.toNat + i))) ∧
    (∀ i ∈ w.on, (∀ j ∈ w.on, w.dst.toNat + i ≠ w.srcB.toNat + j) → t.sw (w.dst.toNat + i) =
      f32Flush (f32Dif (s.coef (w.kix i)) (s.sw (w.srcA.toNat + i)) (s.sw (w.srcB.toNat + i)))) ∧
    (∀ a, (∀ i ∈ w.on, a ≠ w.dst.toNat + i ∧ a ≠ w.srcB.toNat + i) → t.sw a = s.sw a) ∧ ShotKeeps s t) ∧
  (∀ (s : State) (w : Shot), ShotRuns s .sincos w 4 → ∃ t, exec (.sincos w .good) s = .next t ∧
    (∀ i ∈ w.on, (∃ p, t.sw (w.dst.toNat + i) =
        f32WithinUlp p (cosTurn (f32Turn (s.sw (w.srcA.toNat + i))))) ∧
      ∃ p, t.sw (w.dst.toNat + i + 4) = f32WithinUlp p (sinTurn (f32Turn (s.sw (w.srcA.toNat + i))))) ∧
    (∀ a, (∀ i ∈ w.on, a ≠ w.dst.toNat + i ∧ a ≠ w.dst.toNat + i + 4) → t.sw a = s.sw a) ∧ ShotKeeps s t) ∧
  (∀ (s : State) (w : Shot), ShotRuns s .clarke w 1 → ∃ t, exec (.clarke w .good) s = .next t ∧
    (let a := f32Val (s.sw w.srcA.toNat); let b := f32Val (s.sw (w.srcA.toNat + 1))
     let c := f32Val (s.sw (w.srcA.toNat + 2))
     let na := f32Neg (s.sw w.srcA.toNat); let nb := f32Neg (s.sw (w.srcA.toNat + 1))
     let nc := f32Neg (s.sw (w.srcA.toNat + 2))
     t.sw w.dst.toNat = f32Scale (na && !nb && !nc) (dyAdd (dyMul ⟨2, 0⟩ a) (dyNeg (dyAdd b c))) 1 3 ∧
     t.sw (w.dst.toNat + 1) = f32OverRoot3 (s.sw (w.srcA.toNat + 1)) (s.sw (w.srcA.toNat + 2)) ∧
     t.sw (w.dst.toNat + 2) = f32Scale (na && nb && nc) (dyAdd a (dyAdd b c)) 1 3) ∧
    (∀ a, a < w.dst.toNat ∨ w.dst.toNat + 3 ≤ a → t.sw a = s.sw a) ∧ ShotKeeps s t) ∧
  (∀ (s : State) (w : Shot), ShotRuns s .park w 1 → ∃ t, exec (.park w .good) s = .next t ∧
    (let x := s.sw w.srcA.toNat; let y := s.sw (w.srcA.toNat + 1)
     let c := s.sw w.srcB.toNat; let n := s.sw (w.srcB.toNat + 1)
     t.sw w.dst.toNat = f32Cross x c y n ∧ t.sw (w.dst.toNat + 1) = f32Cross (f32Flip x) n y c) ∧
    (∀ a, a < w.dst.toNat ∨ w.dst.toNat + 2 ≤ a → t.sw a = s.sw a) ∧ ShotKeeps s t) ∧
  (∀ (s : State) (w : Shot), ShotRuns s .ipark w 1 → ∃ t, exec (.ipark w .good) s = .next t ∧
    (let x := s.sw w.srcA.toNat; let y := s.sw (w.srcA.toNat + 1)
     let c := s.sw w.srcB.toNat; let n := s.sw (w.srcB.toNat + 1)
     t.sw w.dst.toNat = f32Cross x c (f32Flip y) n ∧ t.sw (w.dst.toNat + 1) = f32Cross x n y c) ∧
    (∀ a, a < w.dst.toNat ∨ w.dst.toNat + 2 ≤ a → t.sw a = s.sw a) ∧ ShotKeeps s t) ∧
  (∀ (s : State) (w : Shot), ShotRuns s .pub w 1 → ∃ t, exec (.pub w .good) s = .next t ∧
    t.seq.pub = (w.on.map (fun i => (w.coef.toNat + i, s.sw (w.srcA.toNat + i)))).reverse ++ s.seq.pub ∧
    t.seq.sto = s.seq.sto ∧ t.seq.st = s.seq.st ∧ t.regs = s.regs ∧ ShotKeeps s t) ∧
  (∀ (s : State) (w : Shot), ShotRuns s .store w 1 → ∃ t, exec (.store w .good) s = .next t ∧
    t.seq.sto = (w.on.map (fun i => (w.coef.toNat + i, s.sw (w.srcA.toNat + i)))).reverse ++ s.seq.sto ∧
    t.seq.pub = s.seq.pub ∧ t.seq.st = s.seq.st ∧ t.regs = s.regs ∧ ShotKeeps s t)

/-- R31, R45, R51: END completes where the running frame fetches it and it retires before the tick: at one cycle
after the later of the cycle behind the last issue and the cycle of the last result. The frame ends, END_CYC
shows the cycle and the maximum, OVR_RUN is 0, what was staged, the state words and the ports stand; up to 0.9 P
the late account stands, past 0.9 P the frame is late, BUDGET_LATE sets and LATE counts. Of a stock frame whose
shots the specification does not list, END completes at the worst-case cycle of its scene. Model's choices it
rests on: log entries 14 and 62. -/
def Obligations.EndEndsTheFrame : Prop :=
  (∀ (s : State) (r : Nat), s.seq.phase = .running → s.fetches none ⟨0, 0, 0, 0, 0, 0⟩ = true → r = max (s.seq.lastIssue + 1) s.seq.lastReady + 1 →
    r < s.seq.period → s.seq.period ≤ 20000 → ∃ t, exec (.endShot ⟨0, 0, 0, 0, 0, 0⟩ .good) s = .next t ∧
      t.seq.phase = .ended ∧ t.rd SEQ.END_CYC.LAST = r ∧
      t.rd SEQ.END_CYC.MAX = max (s.rd SEQ.END_CYC.MAX) r ∧ t.rd SEQ.STATUS.OVR_RUN = 0 ∧
      t.seq.pub = s.seq.pub ∧ t.seq.sto = s.seq.sto ∧ t.seq.st = s.seq.st ∧ t.seq.ports = s.seq.ports ∧
      (10 * r ≤ 9 * s.seq.period → t.seq.late = s.seq.late ∧ t.rd SEQ.LATE_CNT.LATE = s.rd SEQ.LATE_CNT.LATE ∧
        t.rd SEQ.STATUS.BUDGET_LATE = s.rd SEQ.STATUS.BUDGET_LATE ∧ t.faults = s.faults) ∧
      (9 * s.seq.period < 10 * r → t.seq.late = true ∧ t.rd SEQ.STATUS.BUDGET_LATE = 1 ∧
        t.rd SEQ.LATE_CNT.LATE = min 65535 (s.rd SEQ.LATE_CNT.LATE + 1))) ∧
  (∀ (s : State), s.seq.phase = .running → s.stockFrame = true → s.sceneEntry.worst < s.seq.period →
    s.seq.period ≤ 20000 →
    ∃ t, exec (.endShot ⟨0, 0, 0, 0, 0, 0⟩ .good) s = .next t ∧ t.seq.phase = .ended ∧
      t.rd SEQ.END_CYC.LAST = s.sceneEntry.worst ∧ t.rd SEQ.STATUS.OVR_RUN = 0 ∧ t.seq.ports = s.seq.ports)

/-- R46: every shot of R44 but END, in a state in which it would run and with two results that differ, completes:
the frame ends, what it staged is discarded, no state word and no committed port changes, MISMATCH sets, OVR_RUN
stands, and the second such frame in a row asks for pilot-light mode. R46, R51: every shot of R44 but END,
fetched with an uncorrectable error or illegal, completes: the frame ends, what it staged is discarded,
SHOT_ILLEGAL sets, the frame counts as an overrun, and the third in a row asks for pilot-light mode. Model's
choices it rests on: log entries 14 and 15. -/
def Obligations.BadShotsEndTheFrame : Prop :=
  (∀ e ∈ shotTable, ∀ (s : State) (w : Shot), ShotRuns s e.2 w 1 → ∃ t, exec (e.1 w .mismatch) s = .next t ∧
    t.seq = { s.seq with phase := .killed, pub := [], sto := [], mismatchRun := s.seq.mismatchRun + 1 } ∧
    t.rd SEQ.STATUS.MISMATCH = 1 ∧ t.rd SEQ.STATUS.OVR_RUN = s.rd SEQ.STATUS.OVR_RUN ∧
    (s.seq.mismatchRun = 1 → t.sys.wantPilot.testBit 0 = true)) ∧
  (∀ e ∈ shotTable, ∀ (s : State) (w : Shot) (c : ShotCheck), s.seq.phase = .running →
    c = .uncorrectable ∨ (s.fetches (some e.2) w = true ∧ e.2.legal s.activeBank.res w = false) →
    ∃ t, exec (e.1 w c) s = .next t ∧
      t.seq = { s.seq with phase := .killed, pub := [], sto := [], overran := true, mismatchRun := 0 } ∧
      t.rd SEQ.STATUS.SHOT_ILLEGAL = 1 ∧ t.rd SEQ.STATUS.OVERRUN = 1 ∧
      t.rd SEQ.STATUS.OVR_RUN = min 3 (s.rd SEQ.STATUS.OVR_RUN + 1) ∧
      t.rd SEQ.LATE_CNT.OVERRUNS = min 65535 (s.rd SEQ.LATE_CNT.OVERRUNS + 1) ∧
      (s.rd SEQ.STATUS.OVR_RUN = 2 → t.sys.wantPilot.testBit 1 = true))

/-- R60, R62: CONTROL_SAMPLE_VALID completes where the channel is enabled and a control window ends: the channel's
sample is that of the filter over the window's bits, v = (r − OFFSET − DRIFT) × GAIN, MOD.CH.CSAMPLE shows it in
Q15.16, and the sample before it is kept; on an invalid path the last valid value is held with the mark.
METERING_SAMPLE_VALID and SUPRA_SAMPLE_VALID complete where their window's bits are in: the sample of the path's
filter joins the history or the DFT with its mark and a running average takes it; no register and no other
channel changes. R59, R63, R78, R79: STUCK_BITSTREAM (no transition in the stream) and MISSING_CLOCK (no edge,
or a rate in error) complete on an enabled channel without the condition: the live and the sticky bit set, every
path is invalid, LOSS_CNT and the fault class rise. A measured rate without error ends the missing clock.
CHANNEL_RECOVER completes 4,096 bit clocks after the conditions ended: settling starts, no register changes.
PATH_SETTLED completes where the settling time has passed: the path's valid bit sets and nothing but that word
and MOD.INVALID changes. OVERRANGE completes where the filter count is reached: OVR_NOW and OVR set and OVR_CNT
rises, or OVR_NOW clears; the valid bits stand. Model's choices it rests on: log entries 5 and 22. -/
def Obligations.SamplesAndMonitors : Prop :=
  (∀ (s : State) (t : Time) (n : Fin 40) (r : BitVec 64) (m : Bool),
    s.on (MOD.CH.CFG.ENABLE n) = true → (s.at' t).windowEnds n = true → s.on (MOD.CH.STATUS.VALID_C n) = true →
    ∃ s', exec (.controlSampleValid t n r m) s = .next s' ∧
      s'.rd (MOD.CH.CSAMPLE.VALUE n) = (dyQ (s.corrected n (((s.at' t).takeBits n r).ctlRaw n))).toNat ∧
      (s'.chan n).cur.val = f32OfDy false (s.corrected n (((s.at' t).takeBits n r).ctlRaw n)) ∧
      (s'.chan n).cur.ok = true ∧ (s'.chan n).cur.cycle = max s.now t / 64 ∧ (s'.chan n).prev = (s.chan n).cur) ∧
  (∀ (s : State) (t : Time) (n : Fin 40) (r : BitVec 64) (m : Bool),
    s.on (MOD.CH.CFG.ENABLE n) = true → (s.at' t).windowEnds n = true → s.on (MOD.CH.STATUS.VALID_C n) = false →
    ∃ s', exec (.controlSampleValid t n r m) s = .next s' ∧
      s'.rd (MOD.CH.CSAMPLE.VALUE n) = (s.chan n).cur.q.toNat ∧ (s'.chan n).cur.val = (s.chan n).cur.val ∧
      (s'.chan n).cur.ok = false) ∧
  (∀ (s : State) (t : Time) (n : Fin 40) (r : BitVec 24), s.on (MOD.CH.CFG.ENABLE n) = true →
    mtrOsr s n ≤ (s.chan n).newM →
    ∃ s', exec (.meteringSampleValid t n r) s = .next s' ∧ s' = { s with now := max s.now t, meas := s'.meas } ∧
      (let late := (s.chan n).newM % mtrOsr s n
       let x := rounded n (s.pathRaw n 4 (mtrOsr s n) late) r
       let ok := s.on (MOD.CH.STATUS.VALID_M n)
       s'.meas.ch = s.meas.ch.upd n (fun c => { c with
         newM := late
         meter := ({ at' := max s.now t, val := s.corrected n x, raw := x, ok := ok } :: c.meter).take 200
         cal := c.cal.map (·.take x ok) }))) ∧
  (∀ (s : State) (t : Time) (n : Fin 16) (r : BitVec 24), (slotOf s n).isSome = true → 64 ≤ (s.chan n).newS →
    ∃ s', exec (.supraSampleValid t n r) s = .next s' ∧ s' = { s with now := max s.now t, meas := s'.meas } ∧
      (let late := (s.chan n).newS % 64
       let ok := s.on (MOD.CH.STATUS.VALID_S n)
       let v := if ok then s.corrected n (rounded n (s.pathRaw n 3 64 late) r) else (s.chan n).supra
       s'.meas = { s.meas with ch := s.meas.ch.upd n (fun c => { c with
         newS := late, supra := v, supWin := (dyFix v 40 :: c.supWin).take 15625, supOk := c.supOk && ok }) })) ∧
  (∀ (s : State) (t : Time) (n : Fin 40),
    s.on (MOD.CH.CFG.ENABLE n) = true → s.on (MOD.CH.STATUS.STUCK_NOW n) = false → s.still n = true →
    ∃ s', exec (.stuckBitstream t n) s = .next s' ∧ s'.rd (MOD.CH.STATUS.STUCK_NOW n) = 1 ∧
      s'.rd (MOD.CH.STATUS.STUCK n) = 1 ∧ s'.rd (MOD.CH.STATUS.VALID_C n) = 0 ∧
      s'.rd (MOD.CH.STATUS.VALID_M n) = 0 ∧ s'.rd (MOD.CH.STATUS.VALID_S n) = 0 ∧
      s'.rd (MOD.CH.EVCNT.LOSS_CNT n) = min 65535 (s.rd (MOD.CH.EVCNT.LOSS_CNT n) + 1) ∧
      s'.rd (FLT.CLASS_CNT.COUNT 0x09) = min (2 ^ 32 - 1) (s.rd (FLT.CLASS_CNT.COUNT 0x09) + 1)) ∧
  (∀ (s : State) (t : Time) (n : Fin 40) (rate : Option (BitVec 16)),
    s.on (MOD.CH.CFG.ENABLE n) = true → s.on (MOD.CH.STATUS.NOCLK_NOW n) = false →
    rate.all (fun r => !onModule n && rateError s n r.toNat) = true →
    ∃ s', exec (.missingClock t ⟨n, rate⟩) s = .next s' ∧ s'.rd (MOD.CH.STATUS.NOCLK_NOW n) = 1 ∧
      s'.rd (MOD.CH.STATUS.NOCLK n) = 1 ∧ s'.rd (MOD.CH.STATUS.VALID_C n) = 0 ∧
      s'.rd (MOD.CH.STATUS.VALID_M n) = 0 ∧ s'.rd (MOD.CH.STATUS.VALID_S n) = 0 ∧
      s'.rd (MOD.CH.EVCNT.LOSS_CNT n) = min 65535 (s.rd (MOD.CH.EVCNT.LOSS_CNT n) + 1) ∧
      s'.rd (FLT.CLASS_CNT.COUNT 0x0A) = min (2 ^ 32 - 1) (s.rd (FLT.CLASS_CNT.COUNT 0x0A) + 1)) ∧
  (∀ (s : State) (t : Time) (n : Fin 40) (r : BitVec 16),
    s.on (MOD.CH.CFG.ENABLE n) = true → s.on (MOD.CH.STATUS.NOCLK_NOW n) = true → onModule n = false →
    rateError s n r.toNat = false →
    ∃ s', exec (.missingClock t ⟨n, some r⟩) s = .next s' ∧ s'.rd (MOD.CH.STATUS.NOCLK_NOW n) = 0 ∧
      (s'.chan n).rateBad = false ∧ ∀ a, a ≠ (MOD.CH.STATUS.NOCLK_NOW n).addr → s'.word a = s.word a) ∧
  (∀ (s : State) (t : Time) (n : Fin 40), (s.chan n).lost = true → s.on (MOD.CH.STATUS.STUCK_NOW n) = false →
    s.on (MOD.CH.STATUS.NOCLK_NOW n) = false → elapsedBits (s.at' t) n (s.chan n).lostAt 4096 = true →
    ∃ s', exec (.channelRecover t n) s = .next s' ∧
      s' = { s with now := max s.now t, meas := { s.meas with ch := s.meas.ch.upd n (fun c =>
        { c with lost := false, since := max s.now t, sinceS := max s.now t }) } }) ∧
  (∀ (s : State) (t : Time) (n : Fin 40) (p : Fin 3), s.on (MOD.CH.CFG.ENABLE n) = true → (s.chan n).lost = false →
    pathSettle (s.at' t) n p = true →
    ∃ s', exec (.pathSettled t n p) s = .next s' ∧
      s'.rd (if p = 0 then MOD.CH.STATUS.VALID_C n else if p = 1 then MOD.CH.STATUS.VALID_M n
        else MOD.CH.STATUS.VALID_S n) = 1 ∧
      ∀ a, a ∉ [(MOD.CH.STATUS.VALID_C n).addr, MOD.INVALID_LO.CH.addr, MOD.INVALID_HI.CH.addr] →
        s'.word a = s.word a) ∧
  (∀ (s : State) (t : Time) (n : Fin 40), s.on (MOD.CH.CFG.ENABLE n) = true →
    s.on (MOD.CH.STATUS.OVR_NOW n) = false → s.rd (MOD.CH.MON_CFG.OVR_FILT n) + 1 ≤ (s.chan n).ovrUp →
    ∃ s', exec (.overrange t n) s = .next s' ∧ s'.rd (MOD.CH.STATUS.OVR_NOW n) = 1 ∧
      s'.rd (MOD.CH.STATUS.OVR n) = 1 ∧ s'.rd (MOD.CH.EVCNT.OVR_CNT n) = min 65535 (s.rd (MOD.CH.EVCNT.OVR_CNT n) + 1) ∧
      s'.rd (MOD.CH.STATUS.VALID_C n) = s.rd (MOD.CH.STATUS.VALID_C n) ∧
      s'.rd (MOD.CH.STATUS.VALID_M n) = s.rd (MOD.CH.STATUS.VALID_M n) ∧
      s'.rd (MOD.CH.STATUS.VALID_S n) = s.rd (MOD.CH.STATUS.VALID_S n)) ∧
  (∀ (s : State) (t : Time) (n : Fin 40), s.on (MOD.CH.CFG.ENABLE n) = true →
    s.on (MOD.CH.STATUS.OVR_NOW n) = true → s.rd (MOD.CH.MON_CFG.OVR_FILT n) + 1 ≤ (s.chan n).ovrDn →
    ∃ s', exec (.overrange t n) s = .next s' ∧ s'.rd (MOD.CH.STATUS.OVR_NOW n) = 0 ∧
      ∀ f ∈ [ MOD.CH.STATUS.OVR n, MOD.CH.STATUS.VALID_C n, MOD.CH.STATUS.VALID_M n, MOD.CH.STATUS.VALID_S n],
        s'.rd f = s.rd f)

/-- R65: SUPRA_SLOT_WRITE completes: a legal word of the supraharmonic slots is taken with its reserved bits 0 and
the other word stands; an illegal one sets CFG_ERR and changes no other word. R77: BG_CAL_VISIT completes at
each stage: the next channel of the pass connects and no register changes; after 4,096 samples the spare takes
its place, SPARE and SPARE_CH show it and the gain ratio is taken; after 4,096 more the mean becomes DRIFT and
the channel returns; a monitor on the spare ends the visit. R80: HK_OUTPUT completes at the end of a conversion
period: the first output after a switch is discarded, the next ones are summed, and the 2^(AVG+1)-th shows the
mean and switches the input. Model's choices it rests on: log entries 22 and 24. -/
def Obligations.SlotsCalibrationVisitsAndHousekeeping : Prop :=
  (∀ (s : State) (t : Time) (hi : Bool) (v : Word), slotsLegal v (slotsWith s hi v) = true →
    ∃ s', exec (.supraSlotWrite t hi v) s = .next s' ∧
      s'.word (if hi then 0x4014 else 0x4010) = v &&& 0xBFBFBFBF ∧
      s'.word (if hi then 0x4010 else 0x4014) = s.word (if hi then 0x4010 else 0x4014)) ∧
  (∀ (s : State) (t : Time) (hi : Bool) (v : Word), slotsLegal v (slotsWith s hi v) = false →
    ∃ s', exec (.supraSlotWrite t hi v) s = .next s' ∧ s'.rd MOD.STATUS.CFG_ERR = 1 ∧
      ∀ a, a ≠ MOD.STATUS.CFG_ERR.addr → s'.word a = s.word a) ∧
  (∀ (s : State) (t : Time) (n : Fin 16), s.on MOD.CTRL.BG_CAL_EN = true → s.meas.bg = none →
    s.bgDue = some n.val →
    ∃ s', exec (.bgCalVisit t n .connect) s = .next s' ∧
      s' = { s with now := max s.now t, meas := { s.meas with
        bg := some { ch := n }, bgNext := n, spSum := ⟨0, 0⟩, spCount := 0 } }) ∧
  (∀ (s : State) (t : Time) (n : Fin 16) (b : BgRun), s.meas.bg = some b → b.ch = n.val → b.sub = false →
    4096 ≤ b.count →
    ∃ s', exec (.bgCalVisit t n .substitute) s = .next s' ∧ s'.rd (MOD.CH.STATUS.SPARE n) = 1 ∧
      s'.rd MOD.STATUS.SPARE_CH = n ∧ s'.meas.bg = some { ch := n, sub := true } ∧
      (s'.chan n).ratio = b.ratioOf (s.chan n).ratio) ∧
  (∀ (s : State) (t : Time) (n : Fin 16) (b : BgRun), s.meas.bg = some b → b.ch = n.val → b.sub = true →
    4096 ≤ b.count →
    ∃ s', exec (.bgCalVisit t n .handBack) s = .next s' ∧ s'.meas.bg = none ∧
      s'.word (MOD.CH.DRIFT.VALUE n).addr = f32OfDy false ⟨b.sz.m, b.sz.e - 12⟩ ∧
      s'.rd (MOD.CH.STATUS.SPARE n) = 0 ∧ s'.rd MOD.STATUS.SPARE_CH = 0x3F ∧ s'.meas.bgNext = (n.val + 1) % 16) ∧
  (∀ (s : State) (t : Time) (n : Fin 16) (b : BgRun), s.meas.bg = some b →
    ∃ s', exec (.bgCalVisit t n .spareMonitor) s = .next s' ∧ s'.meas.bg = none ∧
      s'.rd (MOD.CH.STATUS.SPARE b.ch) = 0 ∧ s'.rd MOD.STATUS.SPARE_CH = 0x3F) ∧
  (∀ (s : State) (t : Time) (up dn : Word), s.meas.hk.at' + s.hkPeriod ≤ max s.now t →
    (s.rd MOD.HK_CTL.EN).testBit s.meas.hk.input = true → s.meas.hk.fresh = true →
    ∃ s', exec (.hkOutput t ⟨up, dn⟩) s = .next s' ∧
      s' = { s with now := max s.now t, meas := { s.meas with hk := { s.meas.hk with
        at' := max s.now t, up := up.toInt, fresh := false, count := 0, sum := 0
        shift := s.rd MOD.HK_CTL.AVG + 1 } } }) ∧
  (∀ (s : State) (t : Time) (up dn : Word), s.meas.hk.at' + s.hkPeriod ≤ max s.now t →
    (s.rd MOD.HK_CTL.EN).testBit s.meas.hk.input = true → s.meas.hk.fresh = false →
    s.meas.hk.count + 1 < 2 ^ s.meas.hk.shift →
    ∃ s', exec (.hkOutput t ⟨up, dn⟩) s = .next s' ∧
      s' = { s with now := max s.now t, meas := { s.meas with hk := { s.meas.hk with
        at' := max s.now t, up := up.toInt, count := s.meas.hk.count + 1
        sum := s.meas.hk.sum + (s.meas.hk.up + dn.toInt) } } }) ∧
  (∀ (s : State) (t : Time) (up dn : Word), s.meas.hk.at' + s.hkPeriod ≤ max s.now t →
    (s.rd MOD.HK_CTL.EN).testBit s.meas.hk.input = true → s.meas.hk.fresh = false →
    2 ^ s.meas.hk.shift ≤ s.meas.hk.count + 1 →
    ∃ s', exec (.hkOutput t ⟨up, dn⟩) s = .next s' ∧ s'.meas.hk.fresh = true ∧
      s'.meas.hk.input = hkNext (s.rd MOD.HK_CTL.EN) s.meas.hk.input ∧
      s'.rd (MOD.HK_VAL.VALUE s.meas.hk.input) =
        (satWord ((s.meas.hk.sum + (s.meas.hk.up + dn.toInt)) / (2 ^ s.meas.hk.shift : Nat))).toNat)

/-- R82, R87, R95, R99: SYNC_SAMPLE completes in every state. The sample of a window not yet taken counts as taken,
SYN.THETA shows the angle as it then stands, SYN.F_AR the loop's frequency (0 in OFF) and SYN.F_SEL the selected
estimate; the sample of a window already taken changes no register and not the loop. With ENABLE cleared the
sample enters OFF: ANGLE_VALID, FSEL and the three frequencies are 0. With ENABLE set it leaves OFF for ACQUIRE:
FSEL is 1 and f_pc 0. An invalid sample sets SRC_INVALID and, in ACQUIRE or LOCKED, holds the frequency.
SYN.VPOS and SYN.VNEG show the magnitudes. R95, R100: THETA_WRAP completes: the earliest passage of θ through
zero not yet taken is taken, and with a passage before it and the synchronizer not in OFF, SYN.F_PC is 10^15
over their distance in ns. EXTRAPOLATION_QUERY completes: within 25 ms of the slate the answer is θ_s +
round(f_s × (t − t_s) × 2^32 / 10^15) with the mark latched at t_s, and beyond it carries the invalid mark; a
query changes nothing else. Model's choices it rests on: log entries 9 and 25. -/
def Obligations.SyncSampleWrapsAndQueries : Prop :=
  (∀ (s : State) (t : Time), s.sync.lastWin ≠ some (winIndex (s.at' t).tai - 1) →
    ∃ s', exec (.syncSample t) s = .next s' ∧ s'.sync.lastWin = some (winIndex (s.at' t).tai - 1) ∧
      s'.rd SYN.THETA.VALUE = s'.sync.loc.angle (s.at' t).cycle / 2 ^ 16 % 2 ^ 32 ∧
      s'.rd SYN.F_AR.VALUE = (if s'.rd SYN.STATUS.STATE = syOFF then 0 else uHz s'.sync.loc.f % 2 ^ 32) ∧
      s'.rd SYN.F_SEL.VALUE = (if s'.rd SYN.STATUS.STATE = syOFF then 0
        else if s'.on SYN.STATUS.FSEL then s'.rd SYN.F_AR.VALUE else s'.rd SYN.F_PC.VALUE)) ∧
  (∀ (s : State) (t : Time), s.sync.lastWin = some (winIndex (s.at' t).tai - 1) →
    ∃ s', exec (.syncSample t) s = .next s' ∧ s'.regs = s.regs ∧ s'.sync.loc = s.sync.loc) ∧
  (∀ (s : State) (t : Time), s.sync.lastWin ≠ some (winIndex (s.at' t).tai - 1) → s.on SYN.CTRL.ENABLE = false →
    s.rd SYN.STATUS.STATE ≠ syOFF →
    ∃ s', exec (.syncSample t) s = .next s' ∧ s'.rd SYN.STATUS.STATE = syOFF ∧ s'.rd SYN.STATUS.ANGLE_VALID = 0 ∧
      s'.rd SYN.STATUS.FSEL = 0 ∧ s'.rd SYN.F_AR.VALUE = 0 ∧ s'.rd SYN.F_PC.VALUE = 0 ∧ s'.rd SYN.F_SEL.VALUE = 0) ∧
  (∀ (s : State) (t : Time), s.sync.lastWin ≠ some (winIndex (s.at' t).tai - 1) → s.on SYN.CTRL.ENABLE = true →
    s.rd SYN.STATUS.STATE = syOFF →
    ∃ s', exec (.syncSample t) s = .next s' ∧ s'.rd SYN.STATUS.STATE = syACQUIRE ∧ s'.rd SYN.STATUS.ANGLE_VALID = 0 ∧
      s'.rd SYN.STATUS.FSEL = 1 ∧ s'.rd SYN.F_PC.VALUE = 0) ∧
  (∀ (s : State) (t : Time), s.sync.lastWin ≠ some (winIndex (s.at' t).tai - 1) → s.on SYN.CTRL.ENABLE = true →
    s.rd SYN.STATUS.STATE = syACQUIRE ∨ s.rd SYN.STATUS.STATE = syLOCKED →
    ((s.at' t).syncIn (winIndex (s.at' t).tai - 1)).ok = false →
    ∃ s', exec (.syncSample t) s = .next s' ∧ s'.rd SYN.STATUS.SRC_INVALID = 1 ∧ s'.sync.loc.f = s.sync.loc.f ∧
      s'.rd SYN.STATUS.STATE = s.rd SYN.STATUS.STATE) ∧
  (∀ (s : State) (t : Time), s.sync.lastWin ≠ some (winIndex (s.at' t).tai - 1) → s.on SYN.CTRL.ENABLE = true →
    ∃ s', exec (.syncSample t) s = .next s' ∧ s'.word SYN.VPOS.VALUE.addr = satWord (dySqrtFix s'.sync.loc.posSq 16) ∧
      s'.word SYN.VNEG.VALUE.addr = satWord (dySqrtFix s'.sync.loc.negSq 16)) ∧
  (∀ (s : State) (t : Time) (tw : Nat) (rest : List Nat), s.sync.wraps ++ s.sync.loc.zeros (s.at' t).cycle = tw :: rest →
    ∃ s', exec (.thetaWrap t) s = .next s' ∧ s'.sync.wraps = rest) ∧
  (∀ (s : State) (t : Time) (tw t0 f0 : Nat) (rest : List Nat) (h : List (Nat × Nat)),
    s.sync.wraps ++ s.sync.loc.zeros (s.at' t).cycle = tw :: rest → s.rd SYN.STATUS.STATE ≠ syOFF →
    s.sync.wrapHist = (f0, t0) :: h → t0 < tw →
    ∃ s', exec (.thetaWrap t) s = .next s' ∧ s'.rd SYN.F_PC.VALUE =
        (rneDiv (10 ^ 15) (tw - t0)).toNat % 2 ^ 32) ∧
  (∀ (s : State) (t : Time) (tq : BitVec 64),
    ∃ s', exec (.extrapolationQuery t tq) s = .next s' ∧
      s' = { s with now := max s.now t, sync := { s.sync with answer := s'.sync.answer } } ∧
      (25000000 < ((tq.toNat : Int) - s.rd64 SEQ.SLATE_TIME.TAI_NS).natAbs → s'.sync.answer = some (0, false)) ∧
      (((tq.toNat : Int) - s.rd64 SEQ.SLATE_TIME.TAI_NS).natAbs ≤ 25000000 →
        s'.sync.answer = some (BitVec.ofInt 32 (((s.rd SEQ.SLATE_ANGLE.THETA : Nat) : Int) +
          rneDiv ((s.sync.slateF : Int) * ((tq.toNat : Int) - s.rd64 SEQ.SLATE_TIME.TAI_NS) * 2 ^ 32) (10 ^ 15)),
          s.sync.slateOk)))

/-- R87 to R90, R92, R97: SYNC_LOCK, LOW_VOLTAGE_ENTRY and LOCAL_RECOVERY complete where their row of R87 holds.
Lock takes ACQUIRE to LOCKED: ANGLE_VALID is 1, no word but SYN.STATUS changes. Low voltage takes LOCKED to
HOLD, or to BORROW where that is healthy and allowed: in HOLD frequency and angle are those of FILT + 1 samples
earlier carried on, the jump counter and REALIGN clear, f_sel is f_ar and HOLDS rises; in BORROW the frequency
is the remote tracker's and the step is reported with JUMP_SRC 1. Recovery takes HOLD and BORROW to LOCKED and
LOST to ACQUIRE, keeps the frequency and resets the hold-over timer; ANGLE_VALID is 1 in LOCKED, HOLD and BORROW
and 0 in ACQUIRE. R87, R89, R91 to R94, R97: SYNC_RANGE and SYNC_HOLD_EXPIRY complete where their row of R87
holds: the state is LOST, ANGLE_VALID 0, RANGE or HOLD_EXPIRED sets and class 0x18 is counted. JUMP_DETECT
completes where the counter of LOCKED has reached FILT + 1: JUMP and REALIGN set, the jump is counted, JUMP_SRC
is 2 after a recovery and 0 for the grid's, SYN.JUMP is the error of the first counted sample, JUMP_TIME its
time, and the filters take the present vector. REALIGN_CLEAR completes after 16 samples below 1 degree and
clears REALIGN alone; REALIGN_FAIL 1 ms after detection: its bit sets and class 0x18 is counted. BORROW_MISMATCH
sets, or clears, its bit after one second beyond, or within, the tolerance; no other word changes.
FSEL_RATE_CHANGE completes after 4 samples above the threshold: f_sel is f_ar. Model's choices it rests on: log
entries 5, 25 and 26. -/
def Obligations.SynchronizerStatesAndEvents : Prop :=
  (∀ (s : State) (t : Time), s.rd SYN.STATUS.STATE = syACQUIRE → s.on SYN.CTRL.ENABLE = true →
    2 ^ 32 ≤ s.sync.loc.lockArc → 81 * hz32 ≤ 2 * s.sync.loc.f → 2 * s.sync.loc.f ≤ 143 * hz32 →
    ∃ s', exec (.syncLock t) s = .next s' ∧ s'.rd SYN.STATUS.STATE = syLOCKED ∧
      s'.rd SYN.STATUS.ANGLE_VALID = 1 ∧ s'.sync.loc = s.sync.loc ∧
      ∀ a, a ≠ SYN.STATUS.STATE.addr → s'.word a = s.word a) ∧
  (∀ (s : State) (t : Time) (f : Int) (a : Nat), s.rd SYN.STATUS.STATE = syLOCKED →
    s.rd SYN.LOW.FILT + 1 ≤ s.sync.lowRun → (s.on SYN.STATUS.BORROW_OK && s.on SYN.CTRL.BORROW_EN) = false →
    s.sync.back[s.rd SYN.LOW.FILT + 1]? = some (f, a) →
    ∃ s', exec (.lowVoltageEntry t) s = .next s' ∧ s'.rd SYN.STATUS.STATE = syHOLD ∧
      s'.rd SYN.STATUS.ANGLE_VALID = 1 ∧ s'.rd SYN.STATUS.FSEL = 1 ∧ s'.rd SYN.STATUS.REALIGN = 0 ∧
      s'.rd SYN.COUNT.HOLDS = min 65535 (s.rd SYN.COUNT.HOLDS + 1) ∧ s'.sync.jumpN = 0 ∧ s'.sync.loc.f = f ∧
      (s.sync.loc.accAt ≤ (s.at' t).cycle → (s'.sync.loc.angle (s.at' t).cycle : Int) =
        ((a : Int) + incOf f * ((s.rd SYN.LOW.FILT + 1) * 4096 : Nat)).emod (2 ^ 48))) ∧
  (∀ (s : State) (t : Time), s.rd SYN.STATUS.STATE = syLOCKED → s.rd SYN.LOW.FILT + 1 ≤ s.sync.lowRun →
    (s.on SYN.STATUS.BORROW_OK && s.on SYN.CTRL.BORROW_EN) = true →
    ∃ s', exec (.lowVoltageEntry t) s = .next s' ∧ s'.rd SYN.STATUS.STATE = syBORROW ∧
      s'.rd SYN.STATUS.ANGLE_VALID = 1 ∧ s'.rd SYN.STATUS.FSEL = 1 ∧ s'.rd SYN.STATUS.REALIGN = 0 ∧
      s'.rd SYN.STATUS.JUMP_SRC = 1 ∧ s'.rd SYN.STATUS.JUMP = 1 ∧
      s'.rd SYN.COUNT.HOLDS = min 65535 (s.rd SYN.COUNT.HOLDS + 1) ∧ s'.sync.jumpN = 0 ∧
      s'.sync.loc.f = s.sync.rem.f) ∧
  (∀ (s : State) (t : Time), s.rd SYN.STATUS.STATE = syHOLD ∨ s.rd SYN.STATUS.STATE = syBORROW →
    s.rd SYN.LOW.FILT + 1 ≤ s.sync.highRun → s.on SYN.CTRL.ENABLE = true →
    ∃ s', exec (.localRecovery t) s = .next s' ∧ s'.rd SYN.STATUS.STATE = syLOCKED ∧
      s'.rd SYN.STATUS.ANGLE_VALID = 1 ∧ s'.rd SYN.STATUS.FSEL = 1 ∧ s'.sync.holdN = 0 ∧
      s'.rd SYN.HOLD_LEFT.MS = s.rd SYN.HOLD.TIME ∧ s'.sync.loc.f = s.sync.loc.f) ∧
  (∀ (s : State) (t : Time), s.rd SYN.STATUS.STATE = syLOST →
    s.rd SYN.LOW.FILT + 1 ≤ s.sync.highRun → s.on SYN.CTRL.ENABLE = true →
    ∃ s', exec (.localRecovery t) s = .next s' ∧ s'.rd SYN.STATUS.STATE = syACQUIRE ∧
      s'.rd SYN.STATUS.ANGLE_VALID = 0 ∧ s'.rd SYN.STATUS.FSEL = 1 ∧ s'.sync.holdN = 0 ∧
      s'.rd SYN.HOLD_LEFT.MS = s.rd SYN.HOLD.TIME ∧ s'.rd SYN.F_PC.VALUE = 0 ∧ s'.sync.loc.f = s.sync.loc.f) ∧
  (∀ (s : State) (t : Time), s.rd SYN.STATUS.STATE = syLOCKED → 16 ≤ s.sync.clampRun →
    s.sync.lowRun < s.rd SYN.LOW.FILT + 1 →
    ∃ s', exec (.syncRange t) s = .next s' ∧ s'.rd SYN.STATUS.STATE = syLOST ∧ s'.rd SYN.STATUS.RANGE = 1 ∧
      s'.rd SYN.STATUS.ANGLE_VALID = 0 ∧ s'.sync.loc.f = s.sync.loc.f ∧
      s'.rd (FLT.CLASS_CNT.COUNT 0x18) = min (2 ^ 32 - 1) (s.rd (FLT.CLASS_CNT.COUNT 0x18) + 1)) ∧
  (∀ (s : State) (t : Time), s.rd SYN.STATUS.STATE = syHOLD →
    s.rd SYN.HOLD.TIME * 100000 ≤ s.sync.holdN * 1024 → s.sync.highRun < s.rd SYN.LOW.FILT + 1 →
    ∃ s', exec (.syncHoldExpiry t) s = .next s' ∧ s'.rd SYN.STATUS.STATE = syLOST ∧
      s'.rd SYN.STATUS.HOLD_EXPIRED = 1 ∧ s'.rd SYN.STATUS.ANGLE_VALID = 0 ∧ s'.sync.loc.f = s.sync.loc.f ∧
      s'.rd (FLT.CLASS_CNT.COUNT 0x18) = min (2 ^ 32 - 1) (s.rd (FLT.CLASS_CNT.COUNT 0x18) + 1)) ∧
  (∀ (s : State) (t : Time), s.rd SYN.STATUS.STATE = syLOCKED → s.rd SYN.JUMP_CFG.FILT + 1 ≤ s.sync.jumpN →
    ∃ s', exec (.jumpDetect t) s = .next s' ∧ s'.rd SYN.STATUS.STATE = syLOCKED ∧ s'.rd SYN.STATUS.JUMP = 1 ∧
      s'.rd SYN.STATUS.REALIGN = 1 ∧ s'.rd SYN.STATUS.JUMP_SRC = (if s.sync.recovering then 2 else 0) ∧
      s'.rd SYN.COUNT.JUMPS = min 65535 (s.rd SYN.COUNT.JUMPS + 1) ∧
      s'.word SYN.JUMP.ANGLE.addr = BitVec.ofInt 32 (rneDiv s.sync.jumpFirst (2 ^ 32)) ∧
      s'.rd64 SYN.JUMP_TIME.TAI_NS = s.sync.jumpAt % 2 ^ 64 ∧ s'.sync.jumpN = 0 ∧ s'.sync.loc.f = s.sync.loc.f ∧
      s'.sync.loc.al = s.sync.alpha ∧ s'.sync.loc.be = s.sync.beta ∧ s'.sync.loc.qal = s.sync.beta ∧
      s'.sync.loc.qbe = dyNeg s.sync.alpha) ∧
  (∀ (s : State) (t : Time), s.on SYN.STATUS.REALIGN = true → 16 ≤ s.sync.realignRun →
    ∃ s', exec (.realignClear t) s = .next s' ∧ s'.rd SYN.STATUS.REALIGN = 0 ∧
      (∀ f ∈ [SYN.STATUS.STATE, SYN.STATUS.ANGLE_VALID, SYN.STATUS.FSEL, SYN.STATUS.JUMP, SYN.STATUS.REALIGN_FAIL],
        s'.rd f = s.rd f) ∧ ∀ a, a ≠ SYN.STATUS.REALIGN.addr → s'.word a = s.word a) ∧
  (∀ (s : State) (t : Time), s.on SYN.STATUS.REALIGN = true → (s.at' t).due .realign ms = true →
    ∃ s', exec (.realignFail t) s = .next s' ∧ s'.rd SYN.STATUS.REALIGN_FAIL = 1 ∧
      s'.rd SYN.STATUS.REALIGN = 1 ∧ s'.rd SYN.STATUS.STATE = s.rd SYN.STATUS.STATE ∧
      s'.rd (FLT.CLASS_CNT.COUNT 0x18) = min (2 ^ 32 - 1) (s.rd (FLT.CLASS_CNT.COUNT 0x18) + 1)) ∧
  (∀ (s : State) (t : Time) (t0 : Time), s.sync.beyond = some t0 → t0 + sec ≤ max s.now t →
    ∃ s', exec (.borrowMismatch t) s = .next s' ∧ s'.rd SYN.STATUS.BORROW_MISMATCH = 1 ∧
      ∀ a, a ≠ SYN.STATUS.BORROW_MISMATCH.addr → s'.word a = s.word a) ∧
  (∀ (s : State) (t : Time) (t0 : Time), s.sync.beyond = none → s.sync.within = some t0 → t0 + sec ≤ max s.now t →
    ∃ s', exec (.borrowMismatch t) s = .next s' ∧ s'.rd SYN.STATUS.BORROW_MISMATCH = 0 ∧
      ∀ a, a ≠ SYN.STATUS.BORROW_MISMATCH.addr → s'.word a = s.word a) ∧
  (∀ (s : State) (t : Time), 4 ≤ s.sync.rateRun → s.rd SYN.STATUS.STATE ≠ syOFF →
    ∃ s', exec (.fselRateChange t) s = .next s' ∧ s'.rd SYN.STATUS.FSEL = 1 ∧
      s'.rd SYN.F_AR.VALUE = uHz s.sync.loc.f % 2 ^ 32 ∧ s'.rd SYN.F_SEL.VALUE = s'.rd SYN.F_AR.VALUE ∧
      s'.sync.clean = false ∧ s'.rd SYN.STATUS.STATE = s.rd SYN.STATUS.STATE)

/-- R120, R121: THETA_R_SLEW_DONE completes where no difference to θ is left: ANG_SLEWING clears, THETA_R shows θ,
no other word changes. RETURN_RAMP_START completes for a leg that waits, at its carrier's zero: the ramp starts,
RET_CYC carrier periods long, and no register changes. RETURN_RAMP_END completes once that duration has passed:
the leg's return is over, RETURNING shows whether any leg still returns, and nothing else of the legs and no
other word changes. R116, R130: FEED_EDGE_EXECUTE completes where the instant of a standing edge has come: the
edge leaves the list, the other legs stand, EXECUTED rises (an edge that releases the feed is not counted), and
with the unit enabled, untripped and in no notch a two-level feed without COMP conducts by A alone, a
three-level one by both outputs at level 2 and by neither at level 0. R137: FSN_TRANSITION completes: the pad's
level is kept and, where the pending release awaits it, its instant. DEADTIME_RELEASE completes at the release
instant: the output turns on where the unit may drive it, and DT_MISS counts a release at DT_MAX without a
transition; at an island that accepts it the switch turns on. R139, R140: WICK_NOTCH_END completes W cycles
after the valley: the low side is off, and a WKS still low either asks for a notch at the next valley or, in a
notch it asked for, is a droop. WICK_LOW_FILTERED completes with H on: it asks for that notch; no register
changes. Model's choices it rests on: log entries 5 and 27. -/
def Obligations.BandLawEdgesAndReturns : Prop :=
  (∀ (s : State) (t : Time), (s.at' t).slewNow = 0 →
    ∃ s', exec (.thetaRSlewDone t) s = .next s' ∧ s'.rd BND.STATUS.ANG_SLEWING = 0 ∧
      s'.rd BND.THETA_R.ANGLE = (s.at' t).theta % 2 ^ 32 ∧
      ∀ a, a ≠ BND.STATUS.ANG_SLEWING.addr → a ≠ BND.THETA_R.ANGLE.addr → s'.word a = s.word a) ∧
  (∀ (s : State) (t : Time) (l : Fin 11), (s.leg l).ret = .waiting →
    s.phaseOf (s.legCarrier l).1 (s.legCarrier l).2 (max s.now t) % Nat.max 1 (s.halfPeriod (s.legCarrier l).1) =
      s.halfPeriod (s.legCarrier l).1 / 2 →
    ∃ s', exec (.returnRampStart t l) s = .next s' ∧ s'.regs = s.regs ∧
      s'.band = { s.band with legs := s.band.legs.upd l (fun b => { b with
        flat := false
        ret := .ramp (max s.now t) (s.rd BND.FAULT_CFG.RET_CYC * 2 * s.halfPeriod (s.legCarrier l).1) }) }) ∧
  (∀ (s : State) (t : Time) (l : Fin 11) (start dur : Nat), (s.leg l).ret = .ramp start dur →
    start + dur ≤ max s.now t →
    ∃ s', exec (.returnRampEnd t l) s = .next s' ∧
      s'.band = { s.band with legs := s.band.legs.upd l (fun b => { b with ret := .off }) } ∧
      s'.rd BND.STATUS.RETURNING = b2n ((List.range 11).any (fun i => decide ((s'.leg i).ret ≠ .off))) ∧
      ∀ a, a ≠ BND.STATUS.RETURNING.addr → s'.word a = s.word a) ∧
  (∀ (s : State) (t : Time) (k : Fin 8) (e : Edge),
    (s.leg (k.val + 3)).edges.reverse.find? (fun e => !e.withdrawn && decide (e.te ≤ max s.now t)) = some e →
    ∃ s', exec (.feedEdgeExecute t k) s = .next s' ∧ e ∉ (s'.leg (k.val + 3)).edges ∧
      (∀ l, l ≠ k.val + 3 → s'.leg l = s.leg l) ∧
      s'.rd (BND.CH.CNT.EXECUTED (k.val + 3)) = (s.rd (BND.CH.CNT.EXECUTED (k.val + 3)) + (if e.old = 3 then 0 else 1)) %
        2 ^ (BND.CH.CNT.EXECUTED (k.val + 3)).width) ∧
  (∀ (s : State) (t : Time) (k : Fin 8) (e : Edge),
    (s.leg (k.val + 3)).edges.reverse.find? (fun e => !e.withdrawn && decide (e.te ≤ max s.now t)) = some e →
    (s.unit (k.val + 1)).notch = none → s.mayDrive (k.val + 1) = true →
    ∃ s', exec (.feedEdgeExecute t k) s = .next s' ∧
      (s.on (BND.CH.CFG.LEVELS (k.val + 3)) = false → s.on (PWM.CU.CFG.COMP (k.val + 1)) = false →
        s'.padOn (k.val + 1) 0 = decide (e.new = 2)) ∧
      (s.on (BND.CH.CFG.LEVELS (k.val + 3)) = true → e.new = 2 →
        s'.padOn (k.val + 1) 0 = true ∧ s'.padOn (k.val + 1) 1 = true) ∧
      (s.on (BND.CH.CFG.LEVELS (k.val + 3)) = true → e.new = 0 →
        s'.padOn (k.val + 1) 0 = false ∧ s'.padOn (k.val + 1) 1 = false)) ∧
  (∀ (s : State) (t : Time) (k : Fin 8) (rise : Bool),
    ∃ s', exec (.fsnTransition t k rise) s = .next s' ∧ s'.regs = s.regs ∧
      s'.cu = s.cu.upd (k.val + 1) (fun u =>
        if u.rel.any (fun r => decide ((r.out = 1) = (rise = true))) then
          { u with fsn := rise, missRun := 0,
                   rel := u.rel.map (fun r => { r with tr := r.tr.or (some (max s.now t)) }) }
        else { u with fsn := rise })) ∧
  (∀ (s : State) (t : Time) (n : Fin 12) (r : Release), n ≠ 0 → n ≠ 9 → (s.unit n).rel = some r → r.out ≤ 1 →
    (s.releaseTime n r).1 ≤ max s.now t → (10 ≤ n.val → s.bitOf PWM.PINSEL.AUX (2 * (n.val - 10) + r.out) = true) →
    ∃ s', exec (.deadtimeRelease t (.unit n)) s = .next s' ∧ s'.padOn n r.out = s.mayDrive n ∧ (s'.unit n).rel = none ∧
      s'.rd (PWM.CU.STATUS.DT_MISS n) =
        min 65535 (s.rd (PWM.CU.STATUS.DT_MISS n) + (if (s.releaseTime n r).2 then 1 else 0))) ∧
  (∀ (s : State) (t : Time) (n : Fin 14) (r : Release), (s.island n).rel = some r →
    (s.islandRelease n r).1 ≤ max s.now t → (s.at' t).acceptsOn n = true →
    ∃ s', exec (.deadtimeRelease t (.island n)) s = .next s' ∧ (s'.island n).on = true ∧ (s'.island n).rel = none ∧
      s'.rd (PWM.CU.STATUS.DT_MISS (islandUnit n)) = min 65535 (s.rd (PWM.CU.STATUS.DT_MISS (islandUnit n)) +
        (if (s.islandRelease n r).2 then 1 else 0))) ∧
  (∀ (s : State) (t : Time) (k : Fin 8) (t0 : Time) (wks : Bool), (s.unit (k.val + 1)).notch = some t0 →
    t0 + sclk * s.rd (PWM.CU.WICK.W (k.val + 1)) ≤ max s.now t → (wks || !(s.unit (k.val + 1)).lowNotch) = true →
    ∃ s', exec (.wickNotchEnd t k wks) s = .next s' ∧ (s'.unit (k.val + 1)).notch = none ∧
      (s'.unit (k.val + 1)).wantNotch = !wks ∧
      s'.padOn (k.val + 1) (1 - s.rd (PWM.CU.WICK.OUT (k.val + 1))) = false) ∧
  (∀ (s : State) (t : Time) (k : Fin 8) (t0 : Time), (s.unit (k.val + 1)).notch = some t0 →
    t0 + sclk * s.rd (PWM.CU.WICK.W (k.val + 1)) ≤ max s.now t → (s.unit (k.val + 1)).lowNotch = true →
    ∃ s', exec (.wickNotchEnd t k false) s = .next s' ∧ s'.rd (PWM.CU.STATUS.WICK_DROOP (k.val + 1)) = 1 ∧
      s'.padOn (k.val + 1) 0 = false ∧ s'.padOn (k.val + 1) 1 = false ∧
      s'.rd (FLT.CLASS_CNT.COUNT 0x1E) = min (2 ^ 32 - 1) (s.rd (FLT.CLASS_CNT.COUNT 0x1E) + 1)) ∧
  (∀ (s : State) (t : Time) (k : Fin 8), s.on (PWM.CU.WICK.EN (k.val + 1)) = true →
    s.padOn (k.val + 1) (s.rd (PWM.CU.WICK.OUT (k.val + 1))) = true →
    ∃ s', exec (.wickLowFiltered t k) s = .next s' ∧ s'.regs = s.regs ∧
      s'.cu = s.cu.upd (k.val + 1) (fun u => { u with wantNotch := true }))

/-- R127, R132, R133: CARRIER_VALLEY and CARRIER_PEAK complete for an enabled unit at their point of the carrier:
where the unit reloads there, a standing commit of an earlier cycle moves PRD, CMPA and CMPB into force together
and is spent, and without a commit the three stand (paired mode); the valley of a CU9 that the governor holds
takes the governor's duty (R266). At the peak and at CARRIER_MID_COUNT, CNT.DOWN shows the direction the counter
has. SHADOW_WRITE completes: the shadow takes the value and the one in force stands, but a period under 16 is
not taken and sets CFG_ERR alone (R149). COMMIT_GO completes: the commit stands; with a reload in the same cycle
GO_P shows it. R131, R136: DIRECT_COMPARE_EDGE completes for a unit in direct mode that may drive: an
independent output of a feed or auxiliary unit conducts where its compare calls for it in an interval of at
least MIN_PULSE, and until its pulse has that length; a complementary pair too short to serve leaves both
outputs off with DUTY_CONFLICT; a grid leg of CU0 takes the level its outputs call for (level O first from OFF),
and CU9's halves theirs, each at the instant 160 ns ahead. R141: DELAY_LINE_CALIBRATION completes in an idle
window: SPARE_FOR names the line, or none after the hand-back, alone. R142 to R144: CLAP_IN (10 ns of high level
on an enabled pad) and VIRTUAL_CLAP (at its instant) complete with a clap: CLAP_LOST_NOW is 0, and an idle
follower's carrier restarts at POS. R145: CLAP_LOST completes after the wait: both its bits set. Model's choices
it rests on: log entries 5 and 28. -/
def Obligations.CarrierUnitsDelayLinesAndClapper : Prop :=
  (∀ (s : State) (t : Time) (n : Fin 12), s.on (PWM.CU.CFG.ENABLE n) = true → s.phaseOf n 0 (max s.now t) = 0 →
    s.govHolds n = false → s.reloadsAt n false = true → s.on (PWM.CU.CFG.FREE n) = false →
    (s.unit n).commit = true → (s.unit n).commitAt ≠ (s.at' t).cycle → (s.unit n).commitLast ≠ (s.at' t).cycle →
    (s.unit n).wr = [] →
    ∃ s', exec (.carrierValley t n) s = .next s' ∧
      s'.rd (PWM.CU.PRD.ACTIVE n) = s.rd (PWM.CU.PRD.SHADOW n) ∧
      s'.rd (PWM.CU.CMPA_ACT.VALUE n) = (s.word (PWM.CU.CMPA.COUNT n).addr).toNat % 2 ^ 22 ∧
      s'.rd (PWM.CU.CMPB_ACT.VALUE n) = (s.word (PWM.CU.CMPB.COUNT n).addr).toNat % 2 ^ 22 ∧
      s'.rd (PWM.CU.COMMIT.GO_P n) = 0 ∧ (s'.unit n).commit = false) ∧
  (∀ (s : State) (t : Time) (n : Fin 12), s.on (PWM.CU.CFG.ENABLE n) = true → s.phaseOf n 0 (max s.now t) = 0 →
    s.govHolds n = false → s.on (PWM.CU.CFG.FREE n) = false → (s.unit n).commit = false →
    ∃ s', exec (.carrierValley t n) s = .next s' ∧
      ∀ f ∈ [PWM.CU.PRD.ACTIVE n, PWM.CU.CMPA_ACT.VALUE n, PWM.CU.CMPB_ACT.VALUE n], s'.rd f = s.rd f) ∧
  (∀ (s : State) (t : Time), s.on (PWM.CU.CFG.PROT_HOLD 9) = true → s.phaseOf 9 0 (max s.now t) = 0 →
    ∃ s', exec (.carrierValley t 9) s = .next s' ∧ s'.trip.govA = s.govDuty true ∧ s'.trip.govB = s.govDuty false) ∧
  (∀ (s : State) (t : Time) (n : Fin 12), s.on (PWM.CU.CFG.ENABLE n) = true →
    s.phaseOf n 0 (max s.now t) = s.halfPeriod n → s.govHolds n = false → s.reloadsAt n true = true →
    s.on (PWM.CU.CFG.FREE n) = false → (s.unit n).commit = true → (s.unit n).commitAt ≠ (s.at' t).cycle →
    (s.unit n).commitLast ≠ (s.at' t).cycle → (s.unit n).wr = [] →
    ∃ s', exec (.carrierPeak t n) s = .next s' ∧
      s'.rd (PWM.CU.PRD.ACTIVE n) = s.rd (PWM.CU.PRD.SHADOW n) ∧
      s'.rd (PWM.CU.CMPA_ACT.VALUE n) = (s.word (PWM.CU.CMPA.COUNT n).addr).toNat % 2 ^ 22 ∧
      s'.rd (PWM.CU.CMPB_ACT.VALUE n) = (s.word (PWM.CU.CMPB.COUNT n).addr).toNat % 2 ^ 22 ∧
      s'.rd (PWM.CU.COMMIT.GO_P n) = 0 ∧ (s'.unit n).commit = false) ∧
  (∀ (s : State) (t : Time) (n : Fin 12), s.on (PWM.CU.CFG.ENABLE n) = true →
    s.phaseOf n 0 (max s.now t) = s.halfPeriod n →
    ∃ s', exec (.carrierPeak t n) s = .next s' ∧
      s'.rd (PWM.CU.CNT.DOWN n) = b2n (decide (s'.prd n < s'.position n (max s.now t)))) ∧
  (∀ (s : State) (t : Time) (n : Fin 12), s.on (PWM.CU.CFG.ENABLE n) = true →
    s.phaseOf n 0 (max s.now t) % Nat.max 1 (s.halfPeriod n) = s.halfPeriod n / 2 →
    ∃ s', exec (.carrierMidCount t n) s = .next s' ∧
      s'.rd (PWM.CU.CNT.DOWN n) = b2n (decide (s'.prd n < s'.position n (max s.now t))) ∧
      ∀ f ∈ [PWM.CU.PRD.ACTIVE n, PWM.CU.CMPA_ACT.VALUE n, PWM.CU.CMPB_ACT.VALUE n], s'.rd f = s.rd f) ∧
  (∀ (s : State) (t : Time) (n : Fin 12) (v : Word), 16 ≤ v.toNat % 65536 →
    ∃ s', exec (.shadowWrite t n .prd v) s = .next s' ∧ s'.rd (PWM.CU.PRD.SHADOW n) = v.toNat % 65536 ∧
      s'.rd (PWM.CU.PRD.ACTIVE n) = s.rd (PWM.CU.PRD.ACTIVE n)) ∧
  (∀ (s : State) (t : Time) (n : Fin 12) (v : Word), v.toNat % 65536 < 16 →
    ∃ s', exec (.shadowWrite t n .prd v) s = .next s' ∧ s'.rd PWM.STATUS.CFG_ERR = 1 ∧ s'.cu = s.cu ∧
      ∀ a, a ≠ PWM.STATUS.CFG_ERR.addr → s'.word a = s.word a) ∧
  (∀ (s : State) (t : Time) (n : Fin 12) (v : Word),
    ∃ s', exec (.shadowWrite t n .cmpa v) s = .next s' ∧
      (s'.word (PWM.CU.CMPA.COUNT n).addr).toNat = v.toNat % 2 ^ 22 ∧
      s'.rd (PWM.CU.CMPA_ACT.VALUE n) = s.rd (PWM.CU.CMPA_ACT.VALUE n)) ∧
  (∀ (s : State) (t : Time) (n : Fin 12) (v : Word),
    ∃ s', exec (.shadowWrite t n .cmpb v) s = .next s' ∧
      (s'.word (PWM.CU.CMPB.COUNT n).addr).toNat = v.toNat % 2 ^ 22 ∧
      s'.rd (PWM.CU.CMPB_ACT.VALUE n) = s.rd (PWM.CU.CMPB_ACT.VALUE n)) ∧
  (∀ (s : State) (t : Time) (n : Fin 12),
    ∃ s', exec (.commitGo t n) s = .next s' ∧
      s'.cu = s.cu.upd n (fun u => { u with
        commit := true, commitAt := if u.commit then u.commitAt else (s.at' t).cycle, commitLast := (s.at' t).cycle }) ∧
      (if (s.unit n).reload = (s.at' t).cycle then s'.rd (PWM.CU.COMMIT.GO_P n) = 1 else s'.regs = s.regs)) ∧
  (∀ (s : State) (t : Time) (n : Fin 12), n ≠ 0 → n ≠ 9 → s.rd (PWM.CU.CFG.SRC n) = 1 → s.mayDrive n = true →
    s.on (PWM.CU.CFG.COMP n) = false → (10 ≤ n.val → s.rd PWM.PINSEL.AUX = 15) →
    ∃ s', exec (.directCompareEdge t n) s = .next s' ∧
      s'.padOn n 0 = (s.directOne n 0 0 (max s.now t) ||
        (s.padOn n 0 && decide (max s.now t < s.closeAt n (s.unit n).openA (max s.now t)))) ∧
      s'.padOn n 1 = (s.directOne n 1 0 (max s.now t) ||
        (s.padOn n 1 && decide (max s.now t < s.closeAt n (s.unit n).openB (max s.now t))))) ∧
  (∀ (s : State) (t : Time) (n : Fin 12), n ≠ 0 → n ≠ 9 → s.rd (PWM.CU.CFG.SRC n) = 1 → s.mayDrive n = true →
    s.on (PWM.CU.CFG.COMP n) = true → (10 ≤ n.val → s.rd PWM.PINSEL.AUX = 15) →
    s.directPair n 0 (max s.now t) = none →
    ∃ s', exec (.directCompareEdge t n) s = .next s' ∧ s'.padOn n 0 = false ∧ s'.padOn n 1 = false ∧
      s'.rd (PWM.CU.STATUS.DUTY_CONFLICT n) = 1) ∧
  (∀ (s : State) (t : Time), s.rd (PWM.CU.CFG.SRC 0) = 1 → s.mayDrive 0 = true →
    ∃ s', exec (.directCompareEdge t 0) s = .next s' ∧ ∀ l, l < 3 → s'.rd (BND.CH.STATE.LEVEL l) =
      if s.rd (BND.CH.STATE.LEVEL l) = 3 then 1 else (s.directWant l (max s.now t + sclk * 64)).1) ∧
  (∀ (s : State) (t : Time), s.direct 9 = true → s.mayDrive 9 = true →
    (s.on (PWM.CU.CFG.COMP 9) && !s.govHolds 9) = false →
    ∃ s', exec (.directCompareEdge t 9) s = .next s' ∧
      (s'.unit 9).wantA = s.directOne 9 0 0 (max s.now t + sclk * 64) ∧
      (s'.unit 9).wantB = s.directOne 9 1 0 (max s.now t + sclk * 64)) ∧
  (∀ (s : State) (t : Time) (line : Fin 21), (s.at' t).lineBusy line = false → s.rd PWM.STATUS.SPARE_FOR = 0x1F →
    ∃ s', exec (.delayLineCalibration t line false) s = .next s' ∧ s'.rd PWM.STATUS.SPARE_FOR = line ∧
      ∀ a, a ≠ PWM.STATUS.SPARE_FOR.addr → s'.word a = s.word a) ∧
  (∀ (s : State) (t : Time) (line : Fin 21), (s.at' t).lineBusy line = false → s.rd PWM.STATUS.SPARE_FOR = line →
    ∃ s', exec (.delayLineCalibration t line true) s = .next s' ∧ s'.rd PWM.STATUS.SPARE_FOR = 0x1F ∧
      ∀ a, a ≠ PWM.STATUS.SPARE_FOR.addr → s'.word a = s.word a) ∧
  (∀ (s : State) (t : Time) (high : Nat), s.on PWM.CLAP.IN_EN = true → s.on PWM.PINSEL.CLAP_IN = true →
    4 * sclk ≤ high →
    ∃ s', exec (.clapIn t high) s = .next s' ∧ s'.clap.last = max s.now t ∧ s'.rd PWM.STATUS.CLAP_LOST_NOW = 0 ∧
      ∀ n, n < 12 → s.on (PWM.CU.CFG.ENABLE n) = true → s.on (PWM.CU.CFG.FOLLOW n) = true → s.switching n = false →
        (s'.unit n).org = (max s.now t : Int) -
          ((s.rd (PWM.CU.PHASE.POS n) % Nat.max 1 (2 * s.prd n) * s.countLen n : Nat) : Int)) ∧
  (∀ (s : State) (t : Time), s.on PWM.CLAP.VIRT_EN = true →
    ((s.at' t).tai % 10 ^ 9 + 10 ^ 9 - s.rd PWM.VCLAP_OFS.NS * 2 / 5 * 5 / 2) % 10 ^ 9 %
      (Nat.max 1 (s.rd PWM.VCLAP_INT.MS) * 10 ^ 6) < 3 →
    ∃ s', exec (.virtualClap t) s = .next s' ∧ s'.clap.last = max s.now t ∧ s'.rd PWM.STATUS.CLAP_LOST_NOW = 0 ∧
      ∀ n, n < 12 → s.on (PWM.CU.CFG.ENABLE n) = true → s.on (PWM.CU.CFG.FOLLOW n) = true → s.switching n = false →
        (s'.unit n).org = (max s.now t : Int) -
          ((s.rd (PWM.CU.PHASE.POS n) % Nat.max 1 (2 * s.prd n) * s.countLen n : Nat) : Int)) ∧
  (∀ (s : State) (t : Time), (s.on PWM.CLAP.IN_EN || s.on PWM.CLAP.VIRT_EN) = true →
    s.clap.last + (if s.on PWM.CLAP.VIRT_EN then s.rd PWM.CLAP.WIN * s.rd PWM.VCLAP_INT.MS * ms
      else s.rd PWM.CLAP.WIN * 2 * s.halfPeriod (s.rd PWM.CLAP.OUT_CU)) ≤ max s.now t →
    ∃ s', exec (.clapLost t) s = .next s' ∧ s'.rd PWM.STATUS.CLAP_LOST = 1 ∧ s'.rd PWM.STATUS.CLAP_LOST_NOW = 1 ∧
      ∀ a, a ≠ PWM.STATUS.CLAP_LOST.addr → s'.word a = s.word a)

/-- R250 to R252: COMPARATOR_CHANGE completes for an enabled comparator under power: its filtered output follows its
thresholds, hysteresis and mode; where no test masks it, CMP.ALARM shows it, its source follows it, and an alarm
of a comparator that was quiet sets its event bit and is counted; a masked one changes neither CMP.ALARM nor the
sources. R253: COMPARATOR_UNRESOLVED completes 1 ms after the profile for a comparator still in its power-up
alarm: UNRES and COMP_UNRESOLVED show it and class 0x19 is counted. R254, R255: SELFTEST_GO completes: a test
that is allowed starts at step 1 with BUSY set and its source released; one that is not sets REFUSED and changes
nothing else. R256: SELFTEST_SCHEDULE completes where a test is due and allowed: the lowest such comparator's
starts. SELFTEST_STEP_END completes 2 µs into a step: an output the step does not expect fails the test (FAIL,
TEST_FAIL, class 0x1A) and keeps the comparator masked; the last step's expected output passes it and unmasks
it; any other goes on to the next step. TEST_LATE completes INT hours and 10 minutes after the last test: its
bit sets and class 0x1B is counted. Model's choices it rests on: log entry 32. -/
def Obligations.ComparatorsAndSelfTests : Prop :=
  (∀ (s : State) (t : Time) (n : Fin 24) (v : BitVec 32), s.on (CMP.CFG.EN n) = true → s.sys.vana = true →
    s.cmpMasked n = false →
    ∃ s', exec (.comparatorChange t n v) s = .next s' ∧
      s'.trip.raw.testBit n = s.cmpAlarm n v.toInt (s.trip.raw.testBit n) ∧
      s'.bitOf CMP.ALARM.CMP n = s.cmpAlarm n v.toInt (s.trip.raw.testBit n) ∧
      s'.srcOn n = s.cmpAlarm n v.toInt (s.trip.raw.testBit n) ∧
      (s.cmpAlarm n v.toInt (s.trip.raw.testBit n) = true → s.bitOf CMP.ALARM.CMP n = false →
        s'.bitOf CMP.EVENT.CMP n = true ∧ s'.rd (CMP.CNT.ALARMS n) = min 65535 (s.rd (CMP.CNT.ALARMS n) + 1))) ∧
  (∀ (s : State) (t : Time) (n : Fin 24) (v : BitVec 32), s.on (CMP.CFG.EN n) = true → s.sys.vana = true →
    s.cmpMasked n = true →
    ∃ s', exec (.comparatorChange t n v) s = .next s' ∧
      s'.trip.raw.testBit n = s.cmpAlarm n v.toInt (s.trip.raw.testBit n) ∧
      s'.rd CMP.ALARM.CMP = s.rd CMP.ALARM.CMP ∧ ∀ m, m < 40 → s'.srcOn m = s.srcOn m) ∧
  (∀ (s : State) (t : Time) (n : Fin 24), s.on (CMP.CFG.EN n) = true → s.trip.boot.testBit n = true →
    (s.at' t).due .profileApplied ms = true →
    ∃ s', exec (.comparatorUnresolved t n) s = .next s' ∧ s'.bitOf CMP.STATUS.UNRES n = true ∧
      s'.rd CMP.STATUS.COMP_UNRESOLVED = 1 ∧
      s'.rd (FLT.CLASS_CNT.COUNT 0x19) = min (2 ^ 32 - 1) (s.rd (FLT.CLASS_CNT.COUNT 0x19) + 1)) ∧
  (∀ (s : State) (t : Time) (n : Fin 24), s.testAllowed n = true →
    ∃ s', exec (.selftestGo t n) s = .next s' ∧ s'.rd CMP.TEST.BUSY = 1 ∧
      s'.trip.test = some (n.val, 1, s.trip.raw.testBit n) ∧ s'.srcOn n = false) ∧
  (∀ (s : State) (t : Time) (n : Fin 24), s.testAllowed n = false →
    ∃ s', exec (.selftestGo t n) s = .next s' ∧ s'.rd CMP.TEST.REFUSED = 1 ∧ s'.trip = s.trip ∧
      ∀ a, a ≠ CMP.TEST.REFUSED.addr → s'.word a = s.word a) ∧
  (∀ (s : State) (t : Time) (n : Fin 24),
    (∀ m, m < n.val → (s.testAllowed m && (!s.running (.cmpLast m) ||
      (s.at' t).due (.cmpLast m) (s.rd CMP.TEST.INT * 3600 * sec))) = false) →
    s.testAllowed n = true → (!s.running (.cmpLast n) ||
      (s.at' t).due (.cmpLast n) (s.rd CMP.TEST.INT * 3600 * sec)) = true →
    ∃ s', exec (.selftestSchedule t) s = .next s' ∧ s'.rd CMP.TEST.BUSY = 1 ∧
      s'.trip.test = some (n.val, 1, s.trip.raw.testBit n) ∧ s'.srcOn n = false) ∧
  (∀ (s : State) (t : Time) (n : Fin 24) (k : Nat) (was out : Bool), s.trip.test = some (n.val, k, was) →
    (s.at' t).due (.cmpTest n) (2 * us) = true → out ≠ testExpect (s.rd (CMP.CFG.MODE n)) k was →
    ∃ s', exec (.selftestStepEnd t out) s = .next s' ∧ s'.rd CMP.TEST.FAIL = 1 ∧ s'.rd CMP.TEST.BUSY = 0 ∧
      s'.bitOf CMP.TEST_FAIL.CMP n = true ∧ s'.trip.test = none ∧ s'.trip.masked.testBit n = true ∧
      s'.rd (FLT.CLASS_CNT.COUNT 0x1A) = min (2 ^ 32 - 1) (s.rd (FLT.CLASS_CNT.COUNT 0x1A) + 1)) ∧
  (∀ (s : State) (t : Time) (n : Fin 24) (k : Nat) (was out : Bool), s.trip.test = some (n.val, k, was) →
    (s.at' t).due (.cmpTest n) (2 * us) = true → out = testExpect (s.rd (CMP.CFG.MODE n)) k was →
    k = (if n.val ≤ 15 then 4 else 3) →
    ∃ s', exec (.selftestStepEnd t out) s = .next s' ∧ s'.rd CMP.TEST.BUSY = 0 ∧ s'.bitOf CMP.TEST_FAIL.CMP n = false ∧
      s'.trip.test = none ∧ s'.trip.masked.testBit n = false ∧ s'.srcOn n = s.trip.raw.testBit n) ∧
  (∀ (s : State) (t : Time) (n : Fin 24) (k : Nat) (was out : Bool), s.trip.test = some (n.val, k, was) →
    (s.at' t).due (.cmpTest n) (2 * us) = true → out = testExpect (s.rd (CMP.CFG.MODE n)) k was →
    k ≠ (if n.val ≤ 15 then 4 else 3) →
    ∃ s', exec (.selftestStepEnd t out) s = .next s' ∧ s'.regs = s.regs ∧ s'.trip.test = some (n.val, k + 1, was)) ∧
  (∀ (s : State) (t : Time) (n : Fin 24), s.on (CMP.CFG.EN n) = true →
    (s.at' t).due (.cmpLast n) (s.rd CMP.TEST.INT * 3600 * sec + 600 * sec) = true →
    ∃ s', exec (.testLate t n) s = .next s' ∧ s'.rd CMP.STATUS.TEST_LATE = 1 ∧
      s'.rd (FLT.CLASS_CNT.COUNT 0x1B) = min (2 ^ 32 - 1) (s.rd (FLT.CLASS_CNT.COUNT 0x1B) + 1))

/-- R257 to R262: XTRIP_INPUT completes: the source asserts, its latch sets where the matrix says so, and TRP.TGT
shows the targets held. XTRIP_RELEASE completes: the source deasserts and no latch changes. TRIP_PULSE_END
completes 1 µs after the assertion: source 32 or 33 deasserts and no latch changes. INNER_DELAY_EXPIRY completes
at the inner delay: each inner island that waits is sent STATE OFF, and no register changes. BRK_PULSE_END
completes after BRK_T: BRK_OPEN is 0, no other word changes. LATCH_CLEAR_WRITE completes: of the latches the
mask names those end whose source is not asserted and that hold no forced trip; no other latch changes. Model's
choices it rests on: log entries 5 and 30. -/
def Obligations.TripSourcesLatchAndClear : Prop :=
  (∀ (s : State) (t : Time) (n : Fin 4), s.srcOn (24 + n.val) = false →
    ∃ s', exec (.xtripInput t n) s = .next s' ∧ s'.srcOn (24 + n.val) = true ∧ s'.trip.xtrip.testBit n = true ∧
      s'.latchOn (24 + n.val) = (s.latchOn (24 + n.val) || s.on (TRP.MAP.LATCH (24 + n.val))) ∧
      s'.rd TRP.TGT.TRIPPED = s'.tripped % 2 ^ 11) ∧
  (∀ (s : State) (t : Time) (n : Fin 4),
    ∃ s', exec (.xtripRelease t n) s = .next s' ∧ s'.srcOn (24 + n.val) = false ∧ s'.trip.xtrip.testBit n = false ∧
      ∀ m, m < 40 → s'.latchOn m = s.latchOn m) ∧
  (∀ (s : State) (t : Time) (b : Bool), (s.at' t).due (if b then .pulse33 else .pulse32) us = true →
    ∃ s', exec (.tripPulseEnd t b) s = .next s' ∧ s'.srcOn (if b then 33 else 32) = false ∧
      ∀ m, m < 40 → s'.latchOn m = s.latchOn m) ∧
  (∀ (s : State) (t : Time), (s.at' t).due .innerDelay (s.rd TRP.HARDOFF.INNER_DLY * 2560) = true →
    ∃ s', exec (.innerDelayExpiry t) s = .next s' ∧ s'.running .innerDelay = false ∧ s'.regs = s.regs ∧
      ∀ n ∈ innerIslands, s'.island n = if (s.island n).offLater then
        ({ s.island n with offLater := false } : Island).send .stateOff else s.island n) ∧
  (∀ (s : State) (t : Time), (s.at' t).due .brkPulse (s.rd TRP.HARDOFF.BRK_T * 10 * ms) = true →
    ∃ s', exec (.brkPulseEnd t) s = .next s' ∧ s'.rd SYS.AUXIO.BRK_OPEN = 0 ∧
      ∀ a, a ≠ SYS.AUXIO.BRK_OPEN.addr → s'.word a = s.word a) ∧
  (∀ (s : State) (t : Time) (mask : BitVec 40),
    ∃ s', exec (.latchClearWrite t mask) s = .next s' ∧ ∀ n, n < 40 → s'.latchOn n =
      (s.latchOn n && (!mask.toNat.testBit n || s.srcOn n || decide (s.forcedOf n ≠ 0))))

/-- R263 to R267: SC_EVENT_AGED completes: TRP.I2T shows the count and sum of the events still within SC_WIN, and no
other word changes. DISCHARGE_START completes where discharge is called for: DIS_RUN and DCD_OPEN set,
DIS_BLOCKED clears and the contact is awaited, or, blocked, DIS_BLOCKED sets and nothing runs. DISCHARGE_CONFIRM
completes while the contact is awaited: open in time, the governor takes CU9 with its duties; still closed after
200 ms, discharge is blocked. DISCHARGE_DONE completes below 50 V: DIS_DONE sets, DIS_RUN and the hold of CU9
end. DISCHARGE_LATE completes after DIS_T: DIS_LATE sets and class 0x25 is counted. E_REM_UPDATE completes while
discharge runs or is blocked: E_REM shows ½ C_HALF (v_up² + v_lo²), and no other word changes. Model's choices
it rests on: log entries 5 and 31. -/
def Obligations.GovernorDischargesTheLink : Prop :=
  (∀ (s : State) (t : Time) (n : Fin 14), ∃ s', exec (.scEventAged t n) s = .next s' ∧
    s'.isl = s.isl.upd n (fun i => { i with scTimes := (s.at' t).scWindow n }) ∧
    s'.rd (TRP.I2T.WIN_CNT n) = ((s.at' t).scWindow n).length % 256 ∧
    s'.rd (TRP.I2T.I2T n) = min (2 ^ 24 - 1) (((s.at' t).scWindow n).foldl (fun a e => a + e.2) 0) ∧
    ∀ a, a ≠ (TRP.I2T.I2T n).addr → s'.word a = s.word a) ∧
  (∀ (s : State) (t : Time), s.dischargeMay = true → s.on TRP.GOV_STAT.DIS_RUN = false → s.linkLow = false →
    s.dischargeBlocked = false →
    ∃ s', exec (.dischargeStart t) s = .next s' ∧ s'.rd TRP.GOV_STAT.DIS_RUN = 1 ∧
      s'.rd TRP.GOV_STAT.DIS_BLOCKED = 0 ∧ s'.rd SYS.AUXIO.DCD_OPEN = 1 ∧ s'.trip.disWait = true) ∧
  (∀ (s : State) (t : Time), s.dischargeMay = true → s.on TRP.GOV_STAT.DIS_RUN = false → s.linkLow = false →
    s.dischargeBlocked = true → s.on TRP.GOV_STAT.DIS_BLOCKED = false →
    ∃ s', exec (.dischargeStart t) s = .next s' ∧ s'.rd TRP.GOV_STAT.DIS_RUN = 0 ∧
      s'.rd TRP.GOV_STAT.DIS_BLOCKED = 1 ∧ s'.rd (PWM.CU.CFG.PROT_HOLD 9) = 0) ∧
  (∀ (s : State) (t : Time), s.trip.disWait = true → (s.at' t).due .dcdOpenWait (200 * ms + 1) = false →
    s.dischargeBlocked = false →
    ∃ s', exec (.dischargeConfirm t false) s = .next s' ∧ s'.rd (PWM.CU.CFG.PROT_HOLD 9) = 1 ∧
      s'.trip.disWait = false ∧ s'.rd SYS.AUXIO.DCD_AUX = 0 ∧ s'.trip.govA = s.govDuty true ∧
      s'.trip.govB = s.govDuty false) ∧
  (∀ (s : State) (t : Time), s.trip.disWait = true → (s.at' t).due .dcdOpenWait (200 * ms) = true →
    ∃ s', exec (.dischargeConfirm t true) s = .next s' ∧ s'.rd SYS.AUXIO.DCD_AUX = 1 ∧
      s'.rd TRP.GOV_STAT.DIS_BLOCKED = 1 ∧ s'.rd TRP.GOV_STAT.DIS_RUN = 0 ∧ s'.trip.disWait = false) ∧
  (∀ (s : State) (t : Time), s.on TRP.GOV_STAT.DIS_RUN = true → s.trip.disWait = false → s.linkLow = true →
    ∃ s', exec (.dischargeDone t) s = .next s' ∧ s'.rd TRP.GOV_STAT.DIS_DONE = 1 ∧
      s'.rd TRP.GOV_STAT.DIS_RUN = 0 ∧ s'.rd (PWM.CU.CFG.PROT_HOLD 9) = 0) ∧
  (∀ (s : State) (t : Time), s.on TRP.GOV_STAT.DIS_RUN = true → s.on TRP.GOV_STAT.DIS_LATE = false →
    (s.at' t).due .discharge (s.rd TRP.DIS.DIS_T * sec) = true →
    ∃ s', exec (.dischargeLate t) s = .next s' ∧ s'.rd TRP.GOV_STAT.DIS_LATE = 1 ∧
      s'.rd (FLT.CLASS_CNT.COUNT 0x25) = min (2 ^ 32 - 1) (s.rd (FLT.CLASS_CNT.COUNT 0x25) + 1)) ∧
  (∀ (s : State) (t : Time), (s.on TRP.GOV_STAT.DIS_RUN || s.on TRP.GOV_STAT.DIS_BLOCKED) = true →
    ∃ s', exec (.eRemUpdate t) s = .next s' ∧
      s'.rd TRP.E_REM.VALUE = (q16 ((s.rd TRP.DIS.C_HALF * (s.trip.vUp.natAbs ^ 2 + s.trip.vLo.natAbs ^ 2) *
        s.rd SYS.RAT_DC.VDC ^ 2 : Nat) : Int) (2 * 10 ^ 9 * 2 ^ 40)).toNat ∧
      ∀ a, a ≠ TRP.E_REM.VALUE.addr → s'.word a = s.word a)

/-- R274, R285: STATE_REQUEST completes where no request waits: one whose conditions hold is accepted and waits for
the tick in REQ; another is refused STATE with the number of its condition, and REQ stands. R49: SCENE_SELECT
completes for a scene the active image defines: SCENE takes it, ACTIVE stands till the tick. R286: RESET
completes where no discharge runs and no reset waits: it is queued with its sender. R287: HALT completes: it is
asked for at once. Beside these and the answer nothing changes. R199: FEED_CLEAR completes for every set of
feeds: one in FAULT that the cue names returns to OFF with its retries at 0, and no other feed's state or
retries change. R146: PIN_ASSIGN completes where no pad is taken from a function of the control rank that uses
it: PINSEL takes the payload, an AUX output stays at its level only where it keeps its pad, and beside
CLAP_OUT's edges, the clapper's words and the GPIO levels nothing else changes; where an AUX output in use would
lose its pad it is refused RESOURCE, detail 1, and PINSEL stands. Model's choices it rests on: log entries 36,
39 and 52. -/
def Obligations.OperatingFeedAndPinCues : Prop :=
  CueDone .stateRequest 0x0010 csPENDING
    (fun s c => c.payload.length = 1 ∧ c.u 0 1 ≤ 11 ∧ s.rd SYS.STATE.REQ = 0xF ∧ s.requestFails (c.u 0 1) = none)
    (fun _ _ => [])
    (fun s c s' => s'.rd SYS.STATE.REQ = c.u 0 1 ∧ s'.sys = { s.sys with reqCycle := s.cycle } ∧
      s' = { s.besides s' with sys := s'.sys } ∧ WordsStand s s' [SYS.STATE.REQ.addr]) ∧
  CueFails .stateRequest 0x0010 csSTATE
    (fun s c => c.payload.length = 1 ∧ c.u 0 1 ≤ 11 ∧ s.rd SYS.STATE.REQ = 0xF ∧ s.requestFails (c.u 0 1) ≠ none)
    (fun s c => s.code * 256 + (s.requestFails (c.u 0 1)).getD 0)
    (fun s _ s' => s'.rd SYS.SEQ_STAT.REQ_REFUSED = 1 ∧ s'.rd SYS.STATE.REQ = 0xF ∧
      s' = s.besides s' ∧ WordsStand s s' [SYS.SEQ_STAT.REQ_REFUSED.addr]) ∧
  CueDone .sceneSelect 0x0011 csOK
    (fun s c => c.payload.length = 1 ∧ s.hasScene (c.u 0 1) = true ∧ c.u 0 1 < 2 ^ SEQ.MODE.SCENE.width)
    (fun _ _ => [])
    (fun s c s' => s'.rd SEQ.MODE.SCENE = c.u 0 1 ∧ s'.rd SEQ.MODE.ACTIVE = s.rd SEQ.MODE.ACTIVE ∧
      s'.seq = { s.seq with sceneNew := some (s.cycle, s.selected) } ∧
      s' = { s.besides s' with seq := s'.seq } ∧ WordsStand s s' [SEQ.MODE.SCENE.addr]) ∧
  CueDone .reset 0x0012 csOK
    (fun s c => c.payload = [0x5A, 0xA5] ∧ s.on TRP.GOV_STAT.DIS_RUN = false ∧ s.cue.resetBy = none)
    (fun _ _ => [])
    (fun s c s' => s'.cue.resetBy = some ((s.cueRoles c).testBit 2, c.session.toNat, c.seq.toNat) ∧
      s'.due .resetQueued 0 = true ∧ s' = { s.besides s' with timers := s'.timers } ∧ WordsStand s s' []) ∧
  CueDone .halt 0x0013 csOK (fun _ c => c.payload = [0x5A, 0xA5]) (fun _ _ => [])
    (fun s c s' => s'.sys = { s.sys with wantHalt := setBit s.sys.wantHalt 3 true } ∧
      s' = { s.besides s' with sys := s'.sys, avail := { s.avail with told := s.avail.told || decide (c.cls ≠ 5) } } ∧
      WordsStand s s' []) ∧
  CueDone .feedClear 0x0016 csOK (fun _ c => c.payload.length = 1) (fun _ _ => [])
    (fun s c s' => (∀ k : Fin 8, (c.u 0 1).testBit k = true → s.feedSt k = fsFAULT →
        s'.feedSt k = fsOFF ∧ s'.rd (FED.STATE.RETRIES k) = 0) ∧
      (∀ k : Fin 8, (c.u 0 1).testBit k = false ∨ s.feedSt k ≠ fsFAULT → s'.feedSt k = s.feedSt k ∧
        s'.rd (FED.STATE.RETRIES k) = s.rd (FED.STATE.RETRIES k)) ∧
      s' = { s.besides s' with feeds := s'.feeds, timers := s'.timers } ∧
      WordsStand s s' ((List.finRange 8).map (fun k => (FED.STATE.STATE k).addr))) ∧
  CueDone .pinAssign 0x0017 csOK
    (fun s c => c.payload.length = 1 ∧ c.u 0 1 < 64 ∧
      (∀ i : Fin 4, (s.word PWM.PINSEL.AUX.addr).toNat.testBit i = true → (c.u 0 1).testBit i = false →
        s.auxInUse i = false) ∧
      (s.on PWM.PINSEL.CLAP_OUT = true → (c.u 0 1).testBit 4 = false → s.on PWM.CLAP.OUT_EN = false) ∧
      (s.on PWM.PINSEL.CLAP_IN = true → (c.u 0 1).testBit 5 = false → s.on PWM.CLAP.IN_EN = false))
    (fun _ _ => [])
    (fun s c s' => s'.word PWM.PINSEL.AUX.addr = BitVec.ofNat 32 (c.u 0 1) ∧
      s'.rd PWM.OUT.AUX = s.rd PWM.OUT.AUX &&& (c.u 0 1 % 16) ∧
      s' = { s.besides s' with clap := s'.clap } ∧
      WordsStand s s' [PWM.PINSEL.AUX.addr, PWM.OUT.AUX.addr, SYS.GPIO_IN.LEVEL.addr]) ∧
  CueFails .pinAssign 0x0017 csRESOURCE
    (fun s c => c.payload.length = 1 ∧ c.u 0 1 < 64 ∧ ∃ i : Fin 4,
      (s.word PWM.PINSEL.AUX.addr).toNat.testBit i = true ∧ (c.u 0 1).testBit i = false ∧ s.auxInUse i = true)
    (fun _ _ => 1) (fun s _ s' => s' = s.besides s' ∧ WordsStand s s' [])

/-- R381, R388, R393: SESSION_OPEN completes on the host port without a slot: the next session opens, numbered so in
the reply, and the number after it is kept. SESSION_CLOSE completes for a session above 1: it closes the cue's
own session and no other. IDENTIFY completes: it tells the part, the step, the serial number, the versions, the
state and the lifecycle, and changes nothing. R418 to R421: FAULT_READ completes where the ring holds its index:
it answers the entries from that index on, and nothing changes. FAULT_ACKNOWLEDGE completes for an index given
out: every entry up to it is marked and no later one, and the pending count and the interrupt bit follow.
Model's choices it rests on: log entries 52 and 53. -/
def Obligations.SessionIdentityAndFaultCues : Prop :=
  (∀ (s : State) (t : Time) (c : Cue), (s.at' t).admits 0x0001 c = true → c.cls = 2 → c.payload = [0, 0, 0, 0, 255] →
    ∃ s' r, exec (.sessionOpen t c) s = .next s' ∧
      s'.replied c 0x0001 csOK 0 (leBytes 4 s.cue.nextSession ++ leBytes 1 r) = true ∧
      s'.cue.nextSession = s.cue.nextSession + 1 ∧
      (s.sess s.cue.nextSession = none → r = if s.on HOST.STATUS.KEYED = true then 1 else 7) ∧
      (∃ x ∈ s'.cue.sessions, x.id = s.cue.nextSession ∧ x.path = .host ∧ x.slot = none ∧ x.closed = none) ∧
      s' = { s with now := max s.now t, cue := s'.cue, regs := s'.regs }) ∧
  CueDone .sessionClose 0x0002 csOK (fun _ c => c.payload = [] ∧ 1 < c.session.toNat) (fun _ _ => [])
    (fun s c s' => (∀ x ∈ s'.cue.sessions, x.id = c.session.toNat → x.closed = some s.now) ∧
      s'.cue.sessions.map (fun x => (x.id, x.closed.isSome || decide (x.id = c.session.toNat))) =
        s.cue.sessions.map (fun x => (x.id, x.closed.isSome || decide (x.id = c.session.toNat))) ∧
      CueOnly s c s') ∧
  CueRead .identify 0x0003 (fun _ c => c.payload = [])
    (fun s _ => leBytes 4 0x8820 ++ leBytes 1 (s.rd SYS.STEP.DIGIT) ++ leBytes 8 (s.rd64 SYS.SERIAL.SERIAL)
      ++ leBytes 4 (s.bootBank.getD 0 {}).version ++ leBytes 4 (s.bootBank.getD 2 {}).version
      ++ leBytes 4 (s.bootBank.getD 3 {}).version ++ leBytes 4 s.activeBank.id.toNat ++ leBytes 1 s.code
      ++ leBytes 1 (s.rd SEC.STATUS.LIFECYCLE)) ∧
  CueRead .faultRead 0x0018
    (fun s c => c.payload.length = 3 ∧ 1 ≤ c.u 2 1 ∧ c.u 2 1 ≤ 254 ∧ s.faults.any (fun e => decide (e.index = c.u 0 2)) = true)
    (fun s c => (s.faults.reverse.filter (fun e => decide (indexGap (c.u 0 2) e.index < c.u 2 1))).flatMap
      FaultEntry.bytes) ∧
  CueDone .faultAcknowledge 0x0019 csOK (fun s c => c.payload.length = 2 ∧ s.faultMade (c.u 0 2) = true) (fun _ _ => [])
    (fun s c s' => s'.faults = s.faults.map (fun e =>
        if indexGap e.index (c.u 0 2) < 32768 then { e with acked := true } else e) ∧
      s'.rd FLT.STATUS.PENDING = (s'.faults.filter (fun e => !e.acked)).length % 2 ^ FLT.STATUS.PENDING.width ∧
      s'.on FLT.STATUS.IRQ0 = s'.faults.any (fun e => !e.acked) ∧ s' = s.besides s' ∧ s'.log = s.log ∧
      WordsStand s s' [])

/-- R12, R14, R22: REGISTER_FIELD_WRITE completes on every aligned address. On a register of W1C and RO fields it
clears the W1C bits it has as one, but none that an event set in the same cycle, and changes no other; on
SYN.LOW a field in its range takes its value and one outside it does not and sets CFG_ERR. No other word below
the log's changes, and a write that changes no word is not logged. Model's choices it rests on: log entry 18. -/
def Obligations.RegisterWritesFollowTheAccessCodes : Prop :=
  (∀ (s : State) (t : Time) (a : BitVec 17) (v : Word), a.toNat ∈ clearWords →
    ∃ s', exec (.registerFieldWrite t a v) s = .next s' ∧
      s'.word a.toNat = s.word a.toNat &&& ~~~ (v &&& w1cBits a.toNat &&& ~~~ (s.at' t).hotBits a.toNat) ∧
      (s'.word a.toNat = s.word a.toNat → s'.log = s.log) ∧
      ∀ b, b < 0x1D000 → b ≠ a.toNat → s'.word b = s.word b) ∧
  (∀ (s : State) (t : Time) (v : Word), getField v SYN.LOW.HYST ≤ 50 → 50 ≤ getField v SYN.LOW.THR →
    getField v SYN.LOW.THR ≤ 300 → ∃ s', exec (.registerFieldWrite t 0x6008 v) s = .next s' ∧
      s'.rd SYN.LOW.FILT = getField v SYN.LOW.FILT ∧ s'.rd SYN.LOW.HYST = getField v SYN.LOW.HYST ∧
      s'.rd SYN.LOW.THR = getField v SYN.LOW.THR ∧ ∀ b, b < 0x1D000 → b ≠ 0x6008 → s'.word b = s.word b) ∧
  (∀ (s : State) (t : Time) (v : Word), getField v SYN.LOW.HYST ≤ 50 →
    getField v SYN.LOW.THR < 50 ∨ 300 < getField v SYN.LOW.THR → getField v SYN.LOW.THR ≠ s.rd SYN.LOW.THR →
    ∃ s', exec (.registerFieldWrite t 0x6008 v) s = .next s' ∧ s'.rd SYN.STATUS.CFG_ERR = 1 ∧
      s'.rd SYN.LOW.FILT = getField v SYN.LOW.FILT ∧ s'.rd SYN.LOW.HYST = getField v SYN.LOW.HYST ∧
      s'.rd SYN.LOW.THR = s.rd SYN.LOW.THR ∧
      ∀ b, b < 0x1D000 → b ≠ 0x6008 → b ≠ SYN.STATUS.CFG_ERR.addr → s'.word b = s.word b)

/-- R424: an aligned address inside the window at which no register is listed reads 0 and ignores writes, on every
path: a register write, the host's direct write and read, the register cues and an external requester's read
(which is the whole of what an external requester may do there, R349). No access sets an error bit. -/
def Obligations.UnlistedAddressesReadZeroAndIgnoreWrites : Prop :=
  (∀ (s : State) (t : Time) (a : BitVec 17) (v : Word), rowOf a.toNat = none →
    ∃ s', exec (.registerFieldWrite t a v) s = .next s' ∧ s' = { s with now := max s.now t }) ∧
  (∀ (s : State) (t : Time) (a : Word) (vs : List Word), stBOOT ≤ s.code → s.on HOST.STATUS.KEYED = false →
    a.toNat % 4 = 0 → 1 ≤ vs.length → vs.length ≤ 256 → a.toNat + 4 * vs.length ≤ 0x20000 →
    (∀ i, i < vs.length → rowOf (a.toNat + 4 * i) = none) →
    ∃ s', exec (.regWrite t a vs true) s = .next s' ∧ s' = { s with now := max s.now t }) ∧
  (∀ (s : State) (t : Time) (a : Word) (n : BitVec 16), stBOOT ≤ s.code → a.toNat % 4 = 0 → 1 ≤ n.toNat →
    n.toNat ≤ 256 → a.toNat + 4 * n.toNat ≤ 0x20000 → (∀ i, i < n.toNat → rowOf (a.toNat + 4 * i) = none) →
    ∃ s', exec (.regRead t a n []) s = .next s' ∧ s' = { s with now := max s.now t, cue := s'.cue } ∧
      s'.cue.hostTx = List.replicate (1 + 4 * n.toNat) 0) ∧
  CueRead .registerRead 0x0100
    (fun _ c => c.payload.length = 6 ∧ c.u 0 4 % 4 = 0 ∧ 1 ≤ c.u 4 2 ∧ c.u 4 2 ≤ 1019 ∧
      c.u 0 4 + 4 * c.u 4 2 ≤ 0x20000 ∧ ∀ i, i < c.u 4 2 → rowOf (c.u 0 4 + 4 * i) = none)
    (fun _ c => List.replicate (4 * c.u 4 2) 0) ∧
  CueDone .registerWrite 0x0101 csOK
    (fun _ c => c.payload.length = 12 ∧ addrOk (c.u 0 4) = true ∧ rowOf (c.u 0 4) = none)
    (fun _ _ => le32 0) (fun s _ s' => s' = s.besides s' ∧ s'.log = s.log ∧ s'.faults = s.faults ∧ WordsStand s s' []) ∧
  CueDone .registerWriteList 0x0102 csOK
    (fun _ c => 1 ≤ c.u 0 2 ∧ c.u 0 2 ≤ 339 ∧ c.payload.length = 2 + 12 * c.u 0 2 ∧
      ∀ i, i < c.u 0 2 → addrOk (c.u (2 + 12 * i) 4) = true ∧ rowOf (c.u (2 + 12 * i) 4) = none)
    (fun _ c => List.replicate (4 * c.u 0 2) 0)
    (fun s _ s' => s' = s.besides s' ∧ s'.log = s.log ∧ s'.faults = s.faults ∧ WordsStand s s' []) ∧
  (∀ (s : State) (t : Time) (r : ExtReq) (lock : Bool) (rivals : List (List (Fin 13) × Bool)), r.dram = false →
    r.write = false → r.addr.toNat % 4 = 0 → r.addr.toNat < 0x20000 → rowOf r.addr.toNat = none →
    ∃ s', exec (.extAccess t [r] ⟨lock, rivals⟩) s = .next s' ∧
      s'.mem.ext = some { req := r.req, err := false, data := 0 } ∧
      s'.rd GAF.STATUS.EXT_ERR = s.rd GAF.STATUS.EXT_ERR ∧ s'.mem.dram = s.mem.dram)

/-- R426 to R430: REG_WRITE completes from BOOT on. Of a host without keys, of one whole word and on a register of
W1C and RO fields, it clears the W1C bits it has as one, but none that an event set in the same cycle, and is
logged where it changes the word; a misaligned one, or any of a host with keys, writes nothing, sets its case in
HOST.ACC_ERR and the first is counted. REG_READ completes from BOOT on: on plain registers it answers status 0
and the words as they show, and nothing else changes; outside its range it answers status 1 and zeros and sets
its case. Model's choices it rests on: log entries 20 and 21. -/
def Obligations.DirectRegisterAccess : Prop :=
  (∀ (s : State) (t : Time) (a v : Word), stBOOT ≤ s.code → s.on HOST.STATUS.KEYED = false → a.toNat ∈ clearWords →
    ∃ s', exec (.regWrite t a [v] true) s = .next s' ∧
      s'.word a.toNat = s.word a.toNat &&& ~~~ (v &&& w1cBits a.toNat &&& ~~~ (s.at' t).hotBits a.toNat) ∧
      (s'.word a.toNat = s.word a.toNat → s'.log = s.log) ∧
      (∀ b, b < 0x1D000 → b ≠ a.toNat → s'.word b = s.word b)) ∧
  (∀ (s : State) (t : Time) (a : Word) (vs : List Word) (whole : Bool), stBOOT ≤ s.code → a.toNat % 4 ≠ 0 →
    ∃ s', exec (.regWrite t a vs whole) s = .next s' ∧ s'.rd HOST.ACC_ERR.ALIGN = 1 ∧
      s'.rd HOST.ACC_ERR.COUNT = min 65535 (s.rd HOST.ACC_ERR.COUNT + 1) ∧ (∀ b, b < 0x1D000 → s'.word b = s.word b)) ∧
  (∀ (s : State) (t : Time) (a v : Word), stBOOT ≤ s.code → a.toNat % 4 = 0 → a.toNat + 4 ≤ 0x20000 →
    s.on HOST.STATUS.KEYED = true → ∃ s', exec (.regWrite t a [v] true) s = .next s' ∧
      s'.rd HOST.ACC_ERR.KEYED_W = 1 ∧ (∀ b, b < 0x1D000 → s'.word b = s.word b)) ∧
  (∀ (s : State) (t : Time) (a : Word) (n : BitVec 16), stBOOT ≤ s.code → a.toNat % 4 = 0 → 1 ≤ n.toNat →
    n.toNat ≤ 256 → (∀ i, i < n.toNat → plainBlock (a.toNat + 4 * i) = true) →
    ∃ s', exec (.regRead t a n []) s = .next s' ∧ s' = { s with now := max s.now t, cue := s'.cue } ∧
      s'.cue.hostTx = (0 : Byte) :: (List.range n.toNat).flatMap (fun i =>
        leBytes 4 (s.shown 0 (a.toNat + 4 * i)).toNat)) ∧
  (∀ (s : State) (t : Time) (a : Word) (n : BitVec 16) (late : List Nat), stBOOT ≤ s.code → a.toNat % 4 = 0 →
    n.toNat = 0 ∨ 256 < n.toNat ∨ 0x20000 < a.toNat + 4 * n.toNat →
    ∃ s', exec (.regRead t a n late) s = .next s' ∧ s'.rd HOST.ACC_ERR.RANGE = 1 ∧
      s'.cue.hostTx = (1 : Byte) :: List.replicate (4 * n.toNat) 0 ∧ (∀ b, b < 0x1D000 → s'.word b = s.word b))

/-- R389, R13, R14, R430: REGISTER_READ completes on plain registers: it answers the words as they show to the cue
processor, CUE fields too, and changes nothing. REGISTER_WRITE and REGISTER_WRITE_LIST (no register twice)
complete on registers of W1C and RO fields: of the bits of its mask each clears the W1C bits it has as one, but
none that an event set in the same cycle, and answers the word; no other word below the log's changes. R24: a
director's waits for the tick. A write that names a SEAL field is refused SEALED and changes no register.
Model's choices it rests on: log entries 52 and 54. -/
def Obligations.RegisterCues : Prop :=
  CueRead .registerRead 0x0100
    (fun _ c => c.payload.length = 6 ∧ c.u 0 4 % 4 = 0 ∧ 1 ≤ c.u 4 2 ∧ c.u 4 2 ≤ 1019 ∧
      ∀ i, i < c.u 4 2 → plainBlock (c.u 0 4 + 4 * i) = true)
    (fun s c => (List.range (c.u 4 2)).flatMap (fun i => le32 (s.shown 1 (c.u 0 4 + 4 * i)))) ∧
  CueDone .registerWrite 0x0101 csOK
    (fun _ c => c.payload.length = 12 ∧ c.u 0 4 ∈ clearWords ∧ c.cls.toNat ≠ orDIRECTOR)
    (fun s c => le32 (s.word (c.u 0 4) &&& ~~~ (BitVec.ofNat 32 (c.u 4 4) &&& BitVec.ofNat 32 (c.u 8 4) &&&
      w1cBits (c.u 0 4) &&& ~~~ s.hotBits (c.u 0 4))))
    (fun s c s' => s'.word (c.u 0 4) = s.word (c.u 0 4) &&& ~~~ (BitVec.ofNat 32 (c.u 4 4) &&&
        BitVec.ofNat 32 (c.u 8 4) &&& w1cBits (c.u 0 4) &&& ~~~ s.hotBits (c.u 0 4)) ∧
      s' = s.besides s' ∧ WordsStand s s' [c.u 0 4]) ∧
  CueDone .registerWrite 0x0101 csOK
    (fun _ c => c.payload.length = 12 ∧ c.u 0 4 ∈ clearWords ∧ c.cls.toNat = orDIRECTOR)
    (fun s c => le32 (s.shown 1 (c.u 0 4)))
    (fun s c s' => s'.pend = s.pend ++ [{
        space := .direct
        addr := c.u 0 4
        val := BitVec.ofNat 32 (c.u 8 4)
        cycle := s.cycle
        mask := BitVec.ofNat 32 (c.u 4 4)
        op := 0x0101 }] ∧
      s' = { s.besides s' with pend := s'.pend } ∧ WordsStand s s' []) ∧
  CueFails .registerWrite 0x0101 csSEALED
    (fun _ c => c.payload.length = 12 ∧ addrOk (c.u 0 4) = true ∧
      BitVec.ofNat 32 (c.u 4 4) &&& seldBits (c.u 0 4) (·.mCue) = 0 ∧
      BitVec.ofNat 32 (c.u 4 4) &&& seldBits (c.u 0 4) (·.mSeal) ≠ 0)
    (fun _ _ => 0) (fun s _ s' => s' = s.besides s' ∧ WordsStand s s' []) ∧
  CueDone .registerWriteList 0x0102 csOK
    (fun _ c => 1 ≤ c.u 0 2 ∧ c.u 0 2 ≤ 339 ∧ c.payload.length = 2 + 12 * c.u 0 2 ∧ c.cls.toNat ≠ orDIRECTOR ∧
      (∀ i, i < c.u 0 2 → c.u (2 + 12 * i) 4 ∈ clearWords) ∧
      ∀ j, j < c.u 0 2 → ∀ i, i < j → c.u (2 + 12 * i) 4 ≠ c.u (2 + 12 * j) 4)
    (fun s c => (List.range (c.u 0 2)).flatMap (fun i => le32 (s.word (c.u (2 + 12 * i) 4) &&&
      ~~~ (BitVec.ofNat 32 (c.u (6 + 12 * i) 4) &&& BitVec.ofNat 32 (c.u (10 + 12 * i) 4) &&&
        w1cBits (c.u (2 + 12 * i) 4) &&& ~~~ s.hotBits (c.u (2 + 12 * i) 4)))))
    (fun s c s' => (∀ i, i < c.u 0 2 → s'.word (c.u (2 + 12 * i) 4) = s.word (c.u (2 + 12 * i) 4) &&&
        ~~~ (BitVec.ofNat 32 (c.u (6 + 12 * i) 4) &&& BitVec.ofNat 32 (c.u (10 + 12 * i) 4) &&&
          w1cBits (c.u (2 + 12 * i) 4) &&& ~~~ s.hotBits (c.u (2 + 12 * i) 4))) ∧
      s' = s.besides s' ∧ WordsStand s s' clearWords)

/-- R54 to R56, R389: IMAGE_LOAD completes while no swap waits: an image that passes its checks becomes the standby
bank, one that does not is refused CHECK and leaves that bank not valid, and the active bank and the registers
stand either way. SWAP completes while none waits: one that may proceed waits for the tick, another is refused
STATE with the number of its condition. COEFFICIENT_WRITE completes for tunable coefficients while no swap
waits, TABLE_WRITE always: their words wait for the tick, nothing else changes. SCRIPT_STATUS completes: it
tells both banks. R40, R389: SETPOINT_WRITE completes: its setpoints take the words, which wait for the tick,
and no other setpoint, word or register changes; SETPOINT_READ completes: it answers them. R211:
FEED_FIXED_VOLTAGE_WRITE completes: VFIX, FIX_RATE, FIX_WD and IDIS take their values, ICHG stays while BIDIR is
0 and takes its value otherwise, and the watchdog restarts. R332: MMS_OPERATE completes for a client with roles
on a control-writable point of a setpoint: it writes that setpoint, of (value − offset) / scale to nearest even
and saturated, and no other; a handle of no point, or of one not control-writable, does nothing. Model's choices
it rests on: log entries 52, 54 and 55. -/
def Obligations.ScriptSetpointFeedAndMmsCues : Prop :=
  (∀ (s : State) (t : Time) (c : Cue), (s.at' t).admits 0x0200 c = true → s.on SEQ.STATUS.SWAP_PENDING = false →
    ∃ s', exec (.imageLoad t c) s = .next s' ∧
      (let n := imageCheck s.nvm.anchor (s.nvm.cnt.getD 1 0) c.payload
       (n = 0 → s'.replied c 0x0200 csOK 0 [] = true ∧ s'.standbyBank = imageBank c.payload) ∧
       (n ≠ 0 → s'.replied c 0x0200 csCHECK n [] = true ∧
         s'.standbyBank = { s.standbyBank with valid := false })) ∧
      s'.activeBank = s.activeBank ∧ (∀ a, a < 0x1D000 → s'.word a = s.word a)) ∧
  CueDone .swap 0x0201 csPENDING
    (fun s c => c.payload.length = 1 ∧ s.on SEQ.STATUS.SWAP_PENDING = false ∧ s.swapFails (c.u 0 1) = none)
    (fun _ _ => [])
    (fun s c s' => s'.rd SEQ.STATUS.SWAP_PENDING = 1 ∧
      s'.seq = { s.seq with swapScene := c.u 0 1, swapAt := s.cycle } ∧
      s' = { s.besides s' with seq := s'.seq } ∧ WordsStand s s' [SEQ.STATUS.SWAP_PENDING.addr]) ∧
  CueFails .swap 0x0201 csSTATE
    (fun s c => c.payload.length = 1 ∧ s.on SEQ.STATUS.SWAP_PENDING = false ∧ s.swapFails (c.u 0 1) ≠ none)
    (fun s c => s.code * 256 + (s.swapFails (c.u 0 1)).getD 0)
    (fun s _ s' => s' = s.besides s' ∧ WordsStand s s' []) ∧
  CueDone .coefficientWrite 0x0202 csOK
    (fun s c => c.payload.length = 4 + 4 * c.u 2 2 ∧ c.u 0 2 + c.u 2 2 ≤ 4096 ∧ c.u 0 2 < 4096 ∧
      s.on SEQ.STATUS.SWAP_PENDING = false ∧ ∀ i, i < c.u 2 2 → s.tunable (c.u 0 2 + i) = true)
    (fun _ _ => [])
    (fun s c s' => (∀ i x, i < c.u 2 2 → s'.lastPend .coef (c.u 0 2 + i) x = BitVec.ofNat 32 (c.u (4 + 4 * i) 4)) ∧
      s' = { s.besides s' with pend := s'.pend } ∧ WordsStand s s' []) ∧
  CueDone .tableWrite 0x0203 csOK
    (fun _ c => c.payload.length = 8 + 4 * c.u 4 4 ∧ c.u 0 4 < 65536 ∧ c.u 0 4 + c.u 4 4 ≤ 65536)
    (fun _ _ => [])
    (fun s c s' => (∀ i x, i < c.u 4 4 → s'.lastPend .table (c.u 0 4 + i) x = BitVec.ofNat 32 (c.u (8 + 4 * i) 4)) ∧
      s' = { s.besides s' with pend := s'.pend } ∧ WordsStand s s' []) ∧
  CueRead .scriptStatus 0x0204 (fun _ c => c.payload = []) (fun s _ => s.seq.bank0.status ++ s.seq.bank1.status) ∧
  CueDone .setpointWrite 0x0300 csOK
    (fun _ c => c.payload.length = 4 + 4 * c.u 2 2 ∧ c.u 0 2 < 512 ∧ c.u 0 2 + c.u 2 2 ≤ 512)
    (fun _ _ => [])
    (fun s c s' => (∀ i, i < c.u 2 2 → mapGet (fun _ => (0 : Word)) s'.seq.setp (0x400 + c.u 0 2 + i) =
        BitVec.ofNat 32 (c.u (4 + 4 * i) 4)) ∧
      (∀ a, a < 0x400 + c.u 0 2 ∨ 0x400 + c.u 0 2 + c.u 2 2 ≤ a →
        mapGet (fun _ => (0 : Word)) s'.seq.setp a = mapGet (fun _ => (0 : Word)) s.seq.setp a) ∧
      s'.seq = { s.seq with setp := s'.seq.setp } ∧
      s' = { s.besides s' with seq := s'.seq, pend := s'.pend } ∧ WordsStand s s' []) ∧
  CueRead .setpointRead 0x0301
    (fun _ c => c.payload.length = 4 ∧ c.u 0 2 < 512 ∧ c.u 0 2 + c.u 2 2 ≤ 512)
    (fun s c => (List.range (c.u 2 2)).flatMap (fun i =>
      le32 (mapGet (fun _ => (0 : Word)) s.seq.setp (0x400 + c.u 0 2 + i)))) ∧
  CueDone .feedFixedVoltageWrite 0x0302 csOK
    (fun _ c => c.payload.length = 9 ∧ c.u 0 1 < 8 ∧ (c.u 1 2 = 0 ∨ (3000 ≤ c.u 1 2 ∧ c.u 1 2 ≤ 9500)) ∧
      c.u 3 2 ≤ 1500 ∧ c.u 5 2 ≤ 1500)
    (fun _ _ => [])
    (fun s c s' => s'.rd (FED.FIX.VFIX (c.u 0 1)) = c.u 1 2 ∧ s'.rd (FED.FIX.FIX_RATE (c.u 0 1)) = c.u 7 1 ∧
      s'.rd (FED.FIX.FIX_WD (c.u 0 1)) = c.u 8 1 ∧ s'.rd (FED.FIX_LIM.IDIS (c.u 0 1)) = c.u 3 2 ∧
      s'.rd (FED.FIX_LIM.ICHG (c.u 0 1)) =
        (if s.on (FED.CFG.BIDIR (c.u 0 1)) then c.u 5 2 else s.rd (FED.FIX_LIM.ICHG (c.u 0 1))) ∧ s'.eff = s.eff ∧ s'.due (.feedFix (c.u 0 1)) 0 = true ∧
      WordsStand s s' [(FED.FIX.VFIX (c.u 0 1)).addr, (FED.FIX_LIM.IDIS (c.u 0 1)).addr, FED.STATUS.CFG_ERR.addr]) ∧
  (∀ (s : State) (t : Time) (assoc : Fin 8) (roles : BitVec 3) (handle v : BitVec 32),
    s.bus.points.find? (fun p => decide (p.u 20 4 = handle.toNat)) = none →
    ∃ s', exec (.mmsOperate t assoc roles handle v) s = .next s' ∧ s' = { s with now := max s.now t }) ∧
  (∀ (s : State) (t : Time) (assoc : Fin 8) (roles : BitVec 3) (handle v : BitVec 32) (p : Point),
    s.bus.points.find? (fun p => decide (p.u 20 4 = handle.toNat)) = some p → p.u 26 2 % 2 = 0 →
    ∃ s', exec (.mmsOperate t assoc roles handle v) s = .next s' ∧ s' = { s with now := max s.now t }) ∧
  (∀ (s : State) (t : Time) (assoc : Fin 8) (roles : BitVec 3) (handle v : BitVec 32) (p : Point),
    s.bus.points.find? (fun p => decide (p.u 20 4 = handle.toNat)) = some p → p.u 26 2 % 2 = 1 → p.u 4 1 = 1 →
    0x400 ≤ p.u 0 4 → p.u 0 4 < 0x600 → s.bitOf SYS.HOLD.ACTIVE 0 = false → s.cue.entries.length < 256 →
    (∀ x ∈ s.cue.inbox, x.entry.session ≠ mmsSession assoc) → roles ≠ 0 → s.code ≠ stPILOT → ssLIVE.testBit s.code = true →
    ∃ s', exec (.mmsOperate t assoc roles handle v) s = .next s' ∧
      mapGet (fun _ => (0 : Word)) s'.seq.setp (p.u 0 4) =
        satWord (rneDiv ((p.rawRat v).1 * 65536) (p.rawRat v).2) ∧
      (∀ a, a ≠ p.u 0 4 → mapGet (fun _ => (0 : Word)) s'.seq.setp a = mapGet (fun _ => (0 : Word)) s.seq.setp a))

/-- R296, R302, R308 to R310: ENERGY_SNAPSHOT completes: it answers the visible energies of one instant with its
time. HARMONIC_READ completes for each channel and kind: the last interval's groups with its start;
SUPRAHARMONIC_SPECTRUM for each slot: the last spectrum, zeros while the slot is off; SETTLEMENT_BLOCK_READ
where its first block is stored: the blocks from it on. None changes anything. R72 to R77: ZERO and SPAN
complete on a channel that runs no average and is not under the metrology seal: its average starts, CAL_BUSY
follows, a background visit that needs the channel is abandoned; ZERO is refused SEALED on a METER channel under
the seal. CALIBRATION_SET completes for such a channel: NOM_GAIN, GAIN, FDELAY and METER show at once, the gain
in effect waits for the tick. CALIBRATION_STORE completes: the signed set carries the next version of its
counter. METROLOGY_SEAL completes: it reaches every METER channel. Model's choices it rests on: log entries 11,
13, 23 and 52. -/
def Obligations.MeasurementAndCalibrationCues : Prop :=
  CueRead .energySnapshot 0x0400 (fun _ c => c.payload = [])
    (fun s _ => s.visible.flatMap (leBytes 8) ++ leBytes 8 s.tai) ∧
  CueRead .harmonicRead 0x0401 (fun _ c => c.payload.length = 2 ∧ c.u 0 1 < 16 ∧ c.u 1 1 < 4)
    (fun s c => (List.range 101).flatMap (fun h =>
        le32 ((((s.mtr.pqCh.get (c.u 0 1) {}).res).getD (c.u 1 1) {}).g.getD h 0))
      ++ (List.range 100).flatMap (fun h =>
        le32 ((((s.mtr.pqCh.get (c.u 0 1) {}).res).getD (c.u 1 1) {}).ig.getD h 0))
      ++ leBytes 8 (((s.mtr.pqCh.get (c.u 0 1) {}).res).getD (c.u 1 1) {}).start) ∧
  CueRead .supraharmonicSpectrum 0x0402 (fun _ c => c.payload.length = 1 ∧ c.u 0 1 < 8)
    (fun s c => (List.range 740).flatMap (fun b => le32 (if s.slotLive (c.u 0 1) then (s.mtr.sup.get (c.u 0 1) {}).spec.getD b 0 else 0))) ∧
  CueRead .settlementBlockRead 0x0720
    (fun s c => c.payload.length = 5 ∧ 1 ≤ c.u 4 1 ∧ c.u 4 1 ≤ 11 ∧
      (s.mtr.stored ++ s.mtr.signed).any (fun b => decide (leAt b 8 4 = c.u 0 4)) = true)
    (fun s c => (((s.mtr.stored ++ s.mtr.signed).dropWhile (fun b => decide (leAt b 8 4 ≠ c.u 0 4))).take
      (c.u 4 1)).flatten) ∧
  CueDone .zero 0x0410 csPENDING
    (fun s c => c.payload.length = 1 ∧ c.u 0 1 < 40 ∧ s.metroLocked (c.u 0 1) = false ∧
      (s.chan (c.u 0 1)).cal = none)
    (fun _ _ => [])
    (fun s c s' => let b := s.bgMonitor (c.u 0 1)
      s'.meas = { b.meas with ch := b.meas.ch.upd (c.u 0 1) (fun x =>
          { x with cal := some { kind := .zero, x := 0 } }) } ∧
      s'.on MOD.STATUS.CAL_BUSY = (List.range 40).any (fun n => (s'.chan n).cal.isSome) ∧
      s' = { b.besides s' with meas := s'.meas } ∧ WordsStand b s' [ MOD.STATUS.CAL_BUSY.addr]) ∧
  CueDone .span 0x0411 csPENDING
    (fun s c => c.payload.length = 6 ∧ c.u 0 1 < 40 ∧ c.u 1 1 < 2 ∧ s.metroLocked (c.u 0 1) = false ∧
      (s.chan (c.u 0 1)).cal = none)
    (fun _ _ => [])
    (fun s c s' => let b := s.bgMonitor (c.u 0 1)
      s'.meas = { b.meas with ch := b.meas.ch.upd (c.u 0 1) (fun x =>
          { x with cal := some { kind := if c.u 1 1 = 0 then .dc else .ac, x := BitVec.ofNat 32 (c.u 2 4) } }) } ∧
      s'.on MOD.STATUS.CAL_BUSY = (List.range 40).any (fun n => (s'.chan n).cal.isSome) ∧
      s' = { b.besides s' with meas := s'.meas } ∧ WordsStand b s' [ MOD.STATUS.CAL_BUSY.addr]) ∧
  CueFails .zero 0x0410 csSEALED
    (fun s c => c.payload.length = 1 ∧ c.u 0 1 < 40 ∧ s.on MOD.CTRL.METRO_SEALED = true ∧
      s.on (MOD.CH.STATUS.METER (c.u 0 1)) = true)
    (fun _ _ => 1) (fun s _ s' => s' = s.besides s' ∧ WordsStand s s' []) ∧
  CueDone .calibrationSet 0x0412 csOK
    (fun s c => c.payload.length = 8 ∧ c.u 0 1 < 40 ∧ -4096 ≤ (BitVec.ofNat 16 (c.u 5 2)).toInt ∧
      (BitVec.ofNat 16 (c.u 5 2)).toInt ≤ 4096 ∧ c.u 7 1 < 2 ∧ s.metroLocked (c.u 0 1) = false)
    (fun _ _ => [])
    (fun s c s' => s'.word (MOD.CH.NOM_GAIN.VALUE (c.u 0 1)).addr = BitVec.ofNat 32 (c.u 1 4) ∧
      s'.word (MOD.CH.GAIN.VALUE (c.u 0 1)).addr = BitVec.ofNat 32 (c.u 1 4) ∧
      s'.rdI (MOD.CH.FDELAY.DELAY (c.u 0 1)) = (BitVec.ofNat 16 (c.u 5 2)).toInt ∧
      s'.rd (MOD.CH.STATUS.METER (c.u 0 1)) = c.u 7 1 ∧ s'.eff = s.eff ∧
      (∀ x, s'.lastPend .reg (MOD.CH.GAIN.VALUE (c.u 0 1)).addr x = BitVec.ofNat 32 (c.u 1 4)) ∧
      s' = { s.besides s' with pend := s'.pend } ∧
      WordsStand s s' [(MOD.CH.NOM_GAIN.VALUE (c.u 0 1)).addr, (MOD.CH.GAIN.VALUE (c.u 0 1)).addr,
        (MOD.CH.FDELAY.DELAY (c.u 0 1)).addr, (MOD.CH.STATUS.METER (c.u 0 1)).addr, MTR.STATUS.SEALED_SRC.addr]) ∧
  CueDone .calibrationStore 0x0413 csOK (fun _ c => c.payload = [])
    (fun s _ => leBytes 4 ((s.nvm.cnt.getD 3 0 + 1) % 2 ^ 32))
    (fun s _ s' => s'.nvm = { s.nvm with
        cal := some (s.calSet ((s.nvm.cnt.getD 3 0 + 1) % 2 ^ 32))
        cnt := updAt s.nvm.cnt 3 (fun x => max ((x + 1) % 2 ^ 32) x) } ∧
      s' = { s.besides s' with nvm := s'.nvm } ∧ WordsStand s s' [(SEC.CNT.VALUE 3).addr]) ∧
  CueDone .metrologySeal 0x0414 csOK (fun _ c => c.payload = [0x5A, 0xA5])
    (fun s _ => leBytes 8 (((List.range 40).filter (fun n => s.on (MOD.CH.STATUS.METER n))).foldl
      (fun m n => m + 2 ^ n) 0))
    (fun s _ s' => s'.rd MOD.CTRL.METRO_SEALED = 1 ∧ s'.nvm = { s.nvm with metro := true } ∧
      (∀ n : Fin 40, s'.on (MOD.CH.STATUS.SEALED n) =
        (s.on (MOD.CH.STATUS.SEALED n) || s.on (MOD.CH.STATUS.METER n))) ∧
      s' = { s.besides s' with nvm := s'.nvm } ∧
      WordsStand s s' (MOD.CTRL.METRO_SEALED.addr :: MTR.STATUS.SEALED_SRC.addr ::
        (List.finRange 40).map (fun n => (MOD.CH.STATUS.SEALED n).addr)))

/-- R271, R272, R389: PROFILE_READ completes where the profile it names, applied or candidate, is held: it answers
that page of it. PROFILE_STORE completes: a profile that passes the seven checks is held for the next boot; one
that does not is refused CHECK with the number of its first failed check and nothing is held. SEAL_FLAG
completes: the flag is held. No register below the log's changes. R317, R325 to R330: CONTEXT_WRITE completes
for a good block where its kind has room and the applied profile does not name the context, or keeps its kind;
CONTEXT_FREE where the profile does not name it, and is refused SEALED, detail 3, where it does.
FUSED_SET_WRITE, SOURCE_SELECT, POINT_TABLE_LOAD and DATA_MODEL_LOAD complete for good payloads. Each waits for
the tick, and until then nothing else of the network changes. CONTEXT_READ completes for a context held: its
block and counts. NETWORK_IMAGE_STORE completes: what every accepted write makes is stored. Model's choices it
rests on: log entries 11, 13, 45, 46 and 52. -/
def Obligations.ProfileAndNetworkCues : Prop :=
  CueRead .profileRead 0x0500
    (fun s c => c.payload.length = 5 ∧ ((c.u 0 1 = 0 ∧ s.nvm.applied.isSome = true) ∨ (c.u 0 1 = 1 ∧ s.nvm.profile.isSome = true)))
    (fun s c => page ((if c.u 0 1 = 0 then s.nvm.applied else s.nvm.profile).getD []) (c.u 1 4)) ∧
  (∀ (s : State) (t : Time) (c : Cue), (s.at' t).admits 0x0501 c = true →
    ∃ s', exec (.profileStore t c) s = .next s' ∧
      (s.profileCheck c.payload = 0 → s'.replied c 0x0501 csOK 0 [] = true ∧
        s'.nvm = { s.nvm with profile := some c.payload }) ∧
      (s.profileCheck c.payload ≠ 0 → s'.replied c 0x0501 csCHECK (s.profileCheck c.payload) [] = true ∧
        s'.nvm = s.nvm) ∧ ∀ a, a < 0x1D000 → s'.word a = s.word a) ∧
  CueDone .sealFlag 0x0502 csOK (fun _ c => c.payload.length = 1 ∧ c.u 0 1 < 2) (fun _ _ => [])
    (fun s c s' => s'.nvm = { s.nvm with sealFlag := decide (c.u 0 1 = 1) } ∧
      s' = { s.besides s' with nvm := s'.nvm } ∧ WordsStand s s' []) ∧
  CueDone .contextWrite 0x0610 csOK
    (fun s c => ctxBad c.payload = none ∧ (s.ctxNamed (c.u 0 1) = false ∨
        ∃ b ∈ s.nextBlock (c.u 0 1), leAt b 1 1 = c.u 1 1) ∧
      s.othersOf (c.u 1 1) (c.u 0 1) < kindLimit (c.u 1 1))
    (fun _ _ => [])
    (fun s c s' => s'.bus = { s.bus with pendCtx := s.bus.pendCtx ++ [(s.cycle, c.u 0 1, some c.payload)] } ∧
      s' = { s.besides s' with bus := s'.bus } ∧ WordsStand s s' []) ∧
  CueDone .contextFree 0x0611 csOK (fun s c => c.payload.length = 1 ∧ s.ctxNamed (c.u 0 1) = false) (fun _ _ => [])
    (fun s c s' => s'.bus = { s.bus with pendCtx := s.bus.pendCtx ++ [(s.cycle, c.u 0 1, none)] } ∧
      s' = { s.besides s' with bus := s'.bus } ∧ WordsStand s s' []) ∧
  CueFails .contextFree 0x0611 csSEALED (fun s c => c.payload.length = 1 ∧ s.ctxNamed (c.u 0 1) = true)
    (fun _ _ => 3) (fun s _ s' => s' = s.besides s' ∧ WordsStand s s' []) ∧
  CueRead .contextRead 0x0612 (fun s c => c.payload.length = 1 ∧ (s.ctx (c.u 0 1)).isSome = true)
    (fun s c => match s.ctx (c.u 0 1) with
      | some x => x.block ++ leBytes 4 x.accepted ++ leBytes 4 x.discarded ++ leBytes 4 x.losses
        ++ leBytes 4 x.authFails ++ leBytes 4 x.seqErrs
      | none => []) ∧
  CueDone .fusedSetWrite 0x0620 csOK
    (fun _ c => c.payload.length = 10 ∧ c.u 0 1 < 64 ∧ c.u 1 1 < 8 ∧ codeOk (c.u 1 1 / 4) (c.u 2 2) = true ∧
      (c.u 4 2 = 0x3FFF ∨ codeOk (c.u 1 1 / 4) (c.u 4 2) = true) ∧ (c.u 6 2 = 0 ∨ c.u 8 2 < c.u 6 2))
    (fun _ _ => [])
    (fun s c s' => s'.bus = { s.bus with pendQ := s.bus.pendQ ++ [(s.cycle, c.u 0 1,
        BitVec.ofNat 32 (c.u 1 1 % 2 * 2 ^ 31 + c.u 1 1 / 2 % 2 * 2 ^ 30 + c.u 1 1 / 4 * 2 ^ 28 + c.u 4 2 * 2 ^ 14 + c.u 2 2),
        BitVec.ofNat 32 (c.u 8 2 * 65536 + c.u 6 2))] } ∧
      s' = { s.besides s' with bus := s'.bus } ∧ WordsStand s s' []) ∧
  CueDone .sourceSelect 0x0621 csOK (fun _ c => c.payload.length = 2 ∧ c.u 0 1 < 64 ∧ c.u 1 1 ≤ 1) (fun _ _ => [])
    (fun s c s' => s'.bus = { s.bus with q := s.bus.q.upd (c.u 0 1) (fun f =>
        { f with sel := some (decide (c.u 1 1 = 1), s.cycle) }) } ∧
      s' = { s.besides s' with bus := s'.bus } ∧ WordsStand s s' []) ∧
  CueDone .pointTableLoad 0x0630 csOK
    (fun s c => 4 ≤ c.payload.length ∧ c.u 0 4 ≤ 131072 ∧ c.payload.length = 4 + 32 * c.u 0 4 ∧
      firstBadRecord ((Config.sclLeaves s.nextModel).getD 0) 0 []
        ((List.range (c.u 0 4)).map (fun i => slice c.payload (4 + 32 * i) 32)) = none)
    (fun _ _ => [])
    (fun s c s' => s'.bus = { s.bus with pendPts := some (s.cycle,
        (List.range (c.u 0 4)).map (fun i => slice c.payload (4 + 32 * i) 32)) } ∧
      s' = { s.besides s' with bus := s'.bus } ∧ WordsStand s s' []) ∧
  (∀ (s : State) (t : Time) (c : Cue), (s.at' t).admits 0x0631 c = true →
    ∃ s', exec (.dataModelLoad t c) s = .next s' ∧
      ((Config.sclLeaves c.payload).isSome = true → s'.replied c 0x0631 csOK 0 [] = true ∧
        s'.bus = { s.bus with pendModel := some ((s.at' t).cycle, c.payload) }) ∧
      ((Config.sclLeaves c.payload).isSome = false → s'.replied c 0x0631 csPAYLOAD 0 [] = true ∧ s'.bus = s.bus)) ∧
  CueDone .networkImageStore 0x0640 csOK (fun _ c => c.payload = []) (fun _ _ => [])
    (fun s _ s' => s'.nvm = { s.nvm with image := some s.imageNow } ∧
      s' = { s.besides s' with nvm := s'.nvm } ∧ WordsStand s s' [])

/-- R363, R367 to R369, R391: REEL_ALLOCATE completes for an area that fits, its reel not armed: the reel is without
records, OFF or DISARMED. REEL_CONFIGURE completes in its ranges, its reel not armed: registers and taps take
it. REEL_ARM completes where rates and areas allow: each reel named and not armed fills or waits from row 0, the
others stand. REEL_DISARM completes: a reel named takes it at once, or, where its record runs or a trigger fires
in its row, at that record's end; the others stand. REEL_TRIGGER completes: it reaches the armed reels named.
R372 to R374, R391: REEL_READ completes for a record held: it answers that page of it, and a record read from
its start and not yet to its end is protected. RECORD_LIST and RECORD_READ (of a file held) complete: they
answer the archive, and change nothing. RECORD_DELETE completes for a file held: it alone goes. DAILIES_SELECT
completes for points of the table: they are selected anew, and no digest holds an earlier point. DAILIES_READ
completes for a digest held: it answers that page of it and changes nothing. Model's choices it rests on: log
entries 49, 50, 51 and 52. -/
def Obligations.ReelRecordAndDailiesCues : Prop :=
  CueDone .reelAllocate 0x0700 csOK
    (fun s c => c.payload.length = 5 ∧ c.u 0 1 < 16 ∧ s.reelArmed (c.u 0 1) = false ∧
      ((((List.range 16).filter (fun k => decide (k ≠ c.u 0 1))).map (fun k => s.rd (REL.AREA.SIZE k))).foldl (· + ·)
        (c.u 3 2)) ≤ 2048 ∧
      (∀ k : Fin 16, k.val ≠ c.u 0 1 →
        overlaps (c.u 1 2) (c.u 3 2) (s.rd (REL.AREA.BASE k)) (s.rd (REL.AREA.SIZE k)) = false) ∧
      overlaps (c.u 1 2) (c.u 3 2) (s.rd GAF.EXT_WIN.BASE) (s.rd GAF.EXT_WIN.SIZE) = false ∧ c.u 1 2 + c.u 3 2 ≤ 6144)
    (fun _ _ => [])
    (fun s c s' => s'.word (REL.AREA.SIZE (c.u 0 1)).addr = BitVec.ofNat 32 (c.u 1 2 * 65536 + c.u 3 2) ∧
      s'.rd (REL.STATUS.STATE (c.u 0 1)) = (if c.u 3 2 = 0 then 0 else 1) ∧ s'.rd (REL.STATUS.FULL (c.u 0 1)) = 0 ∧
      s'.hist = { s.hist with reels := s.hist.reels.upd (c.u 0 1) (fun x => { x with records := [], waits := false }) } ∧
      s' = { s.besides s' with hist := s'.hist } ∧
      WordsStand s s' [(REL.AREA.SIZE (c.u 0 1)).addr, (REL.STATUS.STATE (c.u 0 1)).addr, REL.STATUS.ARMED.addr,
        REL.LOAD.VALUE.addr]) ∧
  CueDone .reelConfigure 0x0701 csOK
    (fun s c => c.payload.length = 25 + 2 * (c.u 1 4 / 65536 % 32 + 1) ∧ c.u 0 1 < 16 ∧ 0 < c.u 1 2 ∧
      c.u 13 4 / 256 % 32 < c.u 1 4 / 65536 % 32 + 1 ∧ s.reelArmed (c.u 0 1) = false ∧
      (tapsOf c).all (tapOk ((c.u 1 4).testBit 24)) = true)
    (fun _ _ => [])
    (fun s c s' => s'.word (REL.CFG.DECIM (c.u 0 1)).addr = BitVec.ofNat 32 (c.u 1 4) &&& 0x1F3FFFFF ∧
      s'.word (REL.PRE.VALUE (c.u 0 1)).addr = BitVec.ofNat 32 (c.u 5 4) ∧
      s'.word (REL.POST.VALUE (c.u 0 1)).addr = BitVec.ofNat 32 (c.u 9 4) ∧
      s'.word (REL.TRIG.EN (c.u 0 1)).addr = BitVec.ofNat 32 (c.u 13 4) &&& 0x1F1F ∧
      s'.word (REL.LEVEL.VALUE (c.u 0 1)).addr = BitVec.ofNat 32 (c.u 17 4) ∧
      s'.word (REL.HYST.VALUE (c.u 0 1)).addr = BitVec.ofNat 32 (c.u 21 4) ∧
      s'.hist = { s.hist with reels := s.hist.reels.upd (c.u 0 1) (fun x =>
        { x with taps := tapsOf c, conf := true }) } ∧ s' = { s.besides s' with hist := s'.hist } ∧
      WordsStand s s' [(REL.CFG.DECIM (c.u 0 1)).addr, (REL.PRE.VALUE (c.u 0 1)).addr, (REL.POST.VALUE (c.u 0 1)).addr,
        (REL.TRIG.EN (c.u 0 1)).addr, (REL.LEVEL.VALUE (c.u 0 1)).addr, (REL.HYST.VALUE (c.u 0 1)).addr,
        REL.STATUS.ARMED.addr, REL.LOAD.VALUE.addr]) ∧
  CueDone .reelArm 0x0702 csOK
    (fun s c => c.payload.length = 2 ∧
      (((List.range 16).filter (fun r => s.reelArmed r || (c.u 0 2).testBit r)).map s.writeRate).foldl (· + ·) 0
        ≤ 800000000 ∧
      ∀ r : Fin 16, (c.u 0 2).testBit r = true → s.reelArmed r = false →
        (s.reel r).conf = true ∧ s.fullRecord r ≤ s.areaBytes r)
    (fun _ _ => [])
    (fun s c s' => (∀ r : Fin 16, (c.u 0 2).testBit r = true → s.reelArmed r = false →
        s'.rd (REL.STATUS.STATE r) = (if s.rd (REL.PRE.VALUE r) = 0 then 3 else 2) ∧
        s'.rd (REL.STATUS.FULL r) = 0 ∧ (s'.reel r).rowNo = 0 ∧ (s'.reel r).rows = [] ∧
        (s'.reel r).records = (s.reel r).records) ∧
      (∀ r : Fin 16, (c.u 0 2).testBit r = false ∨ s.reelArmed r = true → s'.reel r = s.reel r ∧
        s'.rd (REL.STATUS.STATE r) = s.rd (REL.STATUS.STATE r)) ∧ s' = { s.besides s' with hist := s'.hist } ∧
      WordsStand s s' (REL.STATUS.ARMED.addr :: REL.LOAD.VALUE.addr ::
        (List.finRange 16).map (fun r => (REL.STATUS.STATE r).addr))) ∧
  CueDone .reelDisarm 0x0703 csOK (fun _ c => c.payload.length = 2) (fun _ _ => [])
    (fun s c s' => (∀ r : Fin 16, (c.u 0 2).testBit r = true →
        s.rd (REL.STATUS.STATE r) = 5 ∨ ((s.rd (REL.STATUS.STATE r) = 2 ∨ s.rd (REL.STATUS.STATE r) = 3) ∧
          ((if (s.reel r).fault then 4 else 0) + (if (s.reel r).cueReq.any (fun x => decide (x < s.cycle)) then 8 else 0))
            &&& s.rd (REL.TRIG.EN r) = 0) → s'.rd (REL.STATUS.STATE r) = 1 ∧ (s'.reel r).rows = []) ∧
      (∀ r : Fin 16, (c.u 0 2).testBit r = true →
        s.rd (REL.STATUS.STATE r) = 4 ∨ ((s.rd (REL.STATUS.STATE r) = 2 ∨ s.rd (REL.STATUS.STATE r) = 3) ∧
          ((if (s.reel r).fault then 4 else 0) + (if (s.reel r).cueReq.any (fun x => decide (x < s.cycle)) then 8 else 0))
            &&& s.rd (REL.TRIG.EN r) ≠ 0) →
        s'.rd (REL.STATUS.STATE r) = s.rd (REL.STATUS.STATE r) ∧ s'.reel r = { s.reel r with disarm := true }) ∧
      (∀ r : Fin 16, (c.u 0 2).testBit r = false ∨ s.rd (REL.STATUS.STATE r) < 2 →
        s'.rd (REL.STATUS.STATE r) = s.rd (REL.STATUS.STATE r) ∧ s'.reel r = s.reel r) ∧
      s' = { s.besides s' with hist := s'.hist } ∧
      WordsStand s s' (REL.STATUS.ARMED.addr :: REL.LOAD.VALUE.addr ::
        (List.finRange 16).map (fun r => (REL.STATUS.STATE r).addr))) ∧
  CueDone .reelTrigger 0x0704 csOK (fun _ c => c.payload.length = 2) (fun _ _ => [])
    (fun s c s' => s'.hist = { s.hist with reels := ((List.range 16).filter (fun r =>
          (c.u 0 2).testBit r && s.reelArmed r)).foldl (fun l r => l.upd r (fun x => { x with cueReq := some s.cycle })) s.hist.reels } ∧
      s' = { s.besides s' with hist := s'.hist } ∧ s'.log = s.log ∧ WordsStand s s' []) ∧
  CueDone .reelRead 0x0705 csOK
    (fun s c => c.payload.length = 9 ∧ c.u 0 1 < 16 ∧ ((s.reel (c.u 0 1)).records[c.u 1 4]?).isSome = true)
    (fun s c => match (s.reel (c.u 0 1)).records[c.u 1 4]? with | some x => page x.image (c.u 5 4) | none => [])
    (fun s c s' => (s'.reel (c.u 0 1)).records = updAt (s.reel (c.u 0 1)).records (c.u 1 4) (fun z => { z with
        reading := if z.image.length ≤ c.u 5 4 + 4072 then none
          else if c.u 5 4 = 0 ∨ z.reading.isSome = true then some s.now else none }) ∧
      (∀ r : Fin 16, r.val ≠ c.u 0 1 → s'.reel r = s.reel r) ∧
      s' = { s.besides s' with hist := s'.hist } ∧ s'.log = s.log ∧
      WordsStand s s' [(REL.STATUS.STATE (c.u 0 1)).addr, REL.STATUS.ARMED.addr, REL.LOAD.VALUE.addr]) ∧
  CueRead .recordList 0x0710 (fun _ c => c.payload.length = 4)
    (fun s c => ((s.hist.files.filter (fun f => decide (c.u 0 4 ≤ f.1))).take 254).flatMap (fun f =>
      leBytes 4 f.1 ++ leBytes 8 f.2.1 ++ leBytes 4 f.2.2.length)) ∧
  CueRead .recordRead 0x0711
    (fun s c => c.payload.length = 8 ∧ (s.hist.files.find? (fun f => decide (f.1 = c.u 0 4))).isSome = true)
    (fun s c => match s.hist.files.find? (fun f => decide (f.1 = c.u 0 4)) with
      | some f => page f.2.2 (c.u 4 4) | none => []) ∧
  CueDone .recordDelete 0x0712 csOK
    (fun s c => c.payload.length = 4 ∧ s.hist.files.any (fun f => decide (f.1 = c.u 0 4)) = true) (fun _ _ => [])
    (fun s c s' => s'.hist = { s.hist with files := s.hist.files.filter (fun f => decide (f.1 ≠ c.u 0 4)) } ∧
      s' = { s.besides s' with hist := s'.hist } ∧ WordsStand s s' []) ∧
  CueDone .dailiesSelect 0x0730 csOK
    (fun s c => c.u 0 2 ≤ 256 ∧ c.payload.length = 2 + 4 * c.u 0 2 ∧
      ∀ i, i < c.u 0 2 → c.u (2 + 4 * i) 4 < s.bus.points.length)
    (fun _ _ => [])
    (fun s c s' => s'.hist = { s.hist with
        sel := (List.range (c.u 0 2)).map (fun i => c.u (2 + 4 * i) 4), latch := [],
        cur := s.hist.cur.map (fun d => { d with points := [] }) } ∧
      s'.word REL.DLY.VALUE.addr = BitVec.ofNat 32 (c.u 0 2) ∧
      s' = { s.besides s' with hist := s'.hist } ∧ WordsStand s s' [REL.DLY.VALUE.addr]) ∧
  CueRead .dailiesRead 0x0731
    (fun s c => c.payload.length = 11 ∧ c.u 0 1 < 3 ∧
      ((if c.u 0 1 = 0 then s.hist.secs else if c.u 0 1 = 1 then s.hist.mins else s.hist.days).any
        (fun d => decide (d.start = c.u 1 8))) = true)
    (fun s c => match (if c.u 0 1 = 0 then s.hist.secs else if c.u 0 1 = 1 then s.hist.mins else s.hist.days).find?
        (fun d => decide (d.start = c.u 1 8)) with
      | some d => page d.image (c.u 9 2) | none => [])

/-- R364, R366, R368 to R370: REEL_ROW completes: outside a row instant nothing happens; at one a record that ended
is stored first, and then for an armed reel a dropped row sets DROP and is numbered all the same; a row in which
no trigger fires joins the pre window, or the post rows, with the nodes' values; one in which a trigger fires
starts the record with its cause, number and time, and a cue's trigger that is enabled fires. REEL_RECORD_END
completes where a record has ended: one that fits, or for which OVERWRITE makes room, is stored, and the reel
disarms or fills anew; another stops the reel. R371 to R374, R391: RECORD_EXPORTED completes where a record
waits and the memory is there: the oldest becomes a file of the next number. RECORD_READ_TIMEOUT completes: a
read older than 10 s protects nothing. DAILIES_SAMPLE completes: a new millisecond of TAI is sampled once, the
same one changes nothing. DAILIES_DIGEST completes for a period that has ended since its last digest: its sums
are empty; its digest, with the period's start, is kept where the memory it needs is there; and the other
periods' digests stand. Model's choices it rests on: log entries 13, 49, 50 and 51. -/
def Obligations.ReelsRecordAndKeep : Prop :=
  (∀ (s : State) (t : Time) (r : Fin 16) (drop : Bool), (s.at' t).rowInstant r = none →
    ∃ s', exec (.reelRow t r drop) s = .next s' ∧ s' = { s with now := max s.now t }) ∧
  (∀ (s : State) (t : Time) (r : Fin 16) (i : Nat), (s.at' t).rowInstant r = some i →
    let b := (s.at' t).recordEnd r
    b.reelArmed r = true → ∃ s', exec (.reelRow t r true) s = .next s' ∧ s'.rd (REL.STATUS.DROP r) = 1 ∧
      (s'.reel r).rowNo = ((b.reel r).rowNo + 1) % 2 ^ 32 ∧ (s'.reel r).gap = true ∧
      (s'.reel r).rowRef = some i ∧ (s'.reel r).rows = (b.reel r).rows ∧
      (∀ q : Fin 16, q ≠ r → s'.reel q = s.reel q) ∧ ∀ a, a ≠ (REL.STATUS.DROP r).addr → s'.word a = b.word a) ∧
  (∀ (s : State) (t : Time) (r : Fin 16) (i : Nat), (s.at' t).rowInstant r = some i →
    let b := (s.at' t).recordEnd r
    b.rd (REL.STATUS.STATE r) = 2 ∨ b.rd (REL.STATUS.STATE r) = 3 → (b.reelFires r (b.nodeRow r).1).1 = 0 →
    ∃ s', exec (.reelRow t r false) s = .next s' ∧
      s'.rd (REL.STATUS.STATE r) = (if b.rd (REL.PRE.VALUE r) ≤ (b.reel r).rows.length + 1 then 3 else 2) ∧
      (s'.reel r).rowNo = ((b.reel r).rowNo + 1) % 2 ^ 32 ∧ (s'.reel r).records = (b.reel r).records ∧
      (s'.reel r).rows.map (fun x => (x.no, x.at', x.vals)) =
        (((b.reel r).rowNo, max s.now t, (b.nodeRow r).1) ::
          (b.reel r).rows.map (fun x => (x.no, x.at', x.vals))).take (b.rd (REL.PRE.VALUE r))) ∧
  (∀ (s : State) (t : Time) (r : Fin 16) (i : Nat), (s.at' t).rowInstant r = some i →
    let b := (s.at' t).recordEnd r
    b.rd (REL.STATUS.STATE r) = 2 ∨ b.rd (REL.STATUS.STATE r) = 3 → (b.reelFires r (b.nodeRow r).1).1 ≠ 0 →
    ∃ s', exec (.reelRow t r false) s = .next s' ∧ s'.rd (REL.STATUS.STATE r) = 4 ∧
      s'.rd (REL.STATUS.CAUSE r) = (b.reelFires r (b.nodeRow r).1).1 ∧ (s'.reel r).trigRow = (b.reel r).rowNo ∧
      (s'.reel r).trigTime = (s.at' t).tai ∧ (s'.reel r).left = b.rd (REL.POST.VALUE r)) ∧
  (∀ (s : State) (t : Time) (r : Fin 16) (i c : Nat), (s.at' t).rowInstant r = some i →
    let b := (s.at' t).recordEnd r
    b.rd (REL.STATUS.STATE r) = 2 ∨ b.rd (REL.STATUS.STATE r) = 3 → (b.rd (REL.TRIG.EN r)).testBit 3 = true →
    (b.reel r).cueReq = some c → c < (s.at' t).cycle →
    ∃ s', exec (.reelRow t r false) s = .next s' ∧ s'.rd (REL.STATUS.STATE r) = 4 ∧
      (s'.rd (REL.STATUS.CAUSE r)).testBit 3 = true ∧ (s'.reel r).cueReq = none) ∧
  (∀ (s : State) (t : Time) (r : Fin 16) (i : Nat), (s.at' t).rowInstant r = some i → (s.reel r).ended = false →
    s.rd (REL.STATUS.STATE r) = 4 → ((s.at' t).reelFires r ((s.at' t).nodeRow r).1).1 = 0 →
    ∃ s', exec (.reelRow t r false) s = .next s' ∧ s'.rd (REL.STATUS.STATE r) = 4 ∧
      (s'.reel r).left = (s.reel r).left - 1 ∧
      (s'.reel r).rows.map (fun x => (x.no, x.at', x.vals)) =
        ((s.reel r).rowNo, max s.now t, ((s.at' t).nodeRow r).1) ::
          (s.reel r).rows.map (fun x => (x.no, x.at', x.vals)) ∧
      ((s.reel r).left = 1 → (s'.reel r).ended = true)) ∧
  (∀ (s : State) (t : Time) (r : Fin 16) (l : List Record), (s.reel r).ended = true →
    l = (s.reel r).records ∧
        (((s.reel r).records.map Record.size).foldl (· + ·) 0) + (s.recordOf r).size ≤ s.areaBytes r ∨
      (s.areaBytes r < (((s.reel r).records.map Record.size).foldl (· + ·) 0) + (s.recordOf r).size ∧
        s.on (REL.CFG.OVERWRITE r) = true ∧
        makeRoom (s.areaBytes r) (s.recordOf r).size (s.reel r).records = some l) →
    ∃ s', exec (.reelRecordEnd t r) s = .next s' ∧ s'.rd (REL.STATUS.STATE r) =
        (if s.on (REL.CFG.SINGLE r) = true ∨ (s.reel r).disarm = true then 1
          else if s.rd (REL.PRE.VALUE r) = 0 then 3 else 2) ∧
      s'.rd (REL.STATUS.RECORDS r) = (s.rd (REL.STATUS.RECORDS r) + 1) % 65536 ∧
      (s'.reel r).records = l ++ [{ s.recordOf r with
        exporting := s.on (REL.CFG.REC r) && decide (s.hist.exports.length < 4) &&
          !s.on MEM.STATUS.EMMC_ABSENT }] ∧
      s'.hist.exports = (if s.on (REL.CFG.REC r) = true ∧ s.hist.exports.length < 4 then
        s.hist.exports ++ [s.recordOf r] else s.hist.exports) ∧ (s'.reel r).ended = false) ∧
  (∀ (s : State) (t : Time) (r : Fin 16), (s.reel r).ended = true →
    s.areaBytes r < (((s.reel r).records.map Record.size).foldl (· + ·) 0) + (s.recordOf r).size →
    s.on (REL.CFG.OVERWRITE r) = false ∨ makeRoom (s.areaBytes r) (s.recordOf r).size (s.reel r).records = none →
    ∃ s', exec (.reelRecordEnd t r) s = .next s' ∧ s'.rd (REL.STATUS.STATE r) = 5 ∧
      s'.rd (REL.STATUS.FULL r) = 1 ∧ (s'.reel r).records = (s.reel r).records ∧
      (s'.reel r).waits = s.on (REL.CFG.OVERWRITE r)) ∧
  (∀ (s : State) (t : Time) (x : Record) (rest : List Record), s.hist.exports = x :: rest →
    s.on MEM.STATUS.EMMC_ABSENT = false →
    ∃ s' utc, exec (.recordExported t) s = .next s' ∧ s'.hist.exports = rest ∧
      s'.rd REL.REC.VALUE = (s.nvm.recLast + 1) % 2 ^ 32 ∧ s'.nvm = { s.nvm with recLast := (s.nvm.recLast + 1) % 2 ^ 32 } ∧
      s'.hist.files = fitFiles s.recordsArea
        (s.hist.files ++ [((s.nvm.recLast + 1) % 2 ^ 32, x.trigTime,
          Config.cffFile x.image s.bus.model [s.rd PTP.STATUS.TRACEABLE, utc])])) ∧
  (∀ (s : State) (t : Time),
    ∃ s', exec (.recordReadTimeout t) s = .next s' ∧ ∀ r : Fin 16,
      (s'.reel r).records = (s.reel r).records.map (fun x =>
        if x.reading.any (fun t0 => decide (t0 + 10 * sec ≤ max s.now t)) then { x with reading := none } else x)) ∧
  (∀ (s : State) (t : Time), s.hist.lastMs ≠ some ((s.at' t).tai / 1000000) →
    ∃ s', exec (.dailiesSample t) s = .next s' ∧ s' = { s with now := max s.now t, hist := s'.hist } ∧
      s'.hist = { s.hist with
        lastMs := some ((s.at' t).tai / 1000000)
        cur := s.hist.cur.upd 0 (fun d => { d with
          parts := d.parts + 1
          points := s.hist.latch.zipIdx.map (fun (p : (Dy × Nat) × Nat) => (d.points.getD p.2 {}).take p.1.1 p.1.2) }) }) ∧
  (∀ (s : State) (t : Time), s.hist.lastMs = some ((s.at' t).tai / 1000000) →
    ∃ s', exec (.dailiesSample t) s = .next s' ∧ s' = { s with now := max s.now t }) ∧
  (∀ (s : State) (t : Time) (k : Fin 3), s.hist.ended.get k 0 ≠ (s.at' t).tai / digestSpan k →
    ∃ s', exec (.dailiesDigest t k) s = .next s' ∧
      s' = { s with now := max s.now t, hist := s'.hist, timers := s'.timers } ∧
      (s'.hist.cur.get k {}).parts = 0 ∧ s'.hist.ended.get k 0 = (s.at' t).tai / digestSpan k ∧
      (let kept (h : Hist) (i : Nat) := if i = 0 then h.secs else if i = 1 then h.mins else h.days
       (k = 0 ∨ s.on MEM.STATUS.EMMC_ABSENT = false →
          (kept s'.hist k).head?.map (fun d => d.start) =
            some (((s.at' t).tai / digestSpan k - 1) * digestSpan k) ∧
          (kept s'.hist k).drop 1 =
            (kept s.hist k).take (if k = 0 then 3599 else if k = 1 then 245759 else 16383)) ∧
        (k ≠ 0 → s.on MEM.STATUS.EMMC_ABSENT = true → kept s'.hist k = kept s.hist k) ∧
        ∀ i : Fin 3, i ≠ k → kept s'.hist i = kept s.hist i))

/-- R401 to R406, R410: ATTEST completes but in RETIRED: the report over the nonce, signed. CERTIFICATE_READ
completes within a certificate: that page of it. LOG_READ completes where the first entry exists and all it
reads are held: the entries up to the last made. LOG_SEAL_READ completes for a group signed: its hash and
signature. LOG_HEAD completes: the next index and the head hash. None changes anything. R392, R406: KEY_LOAD
completes for a key that unwraps: the slot the cue names, of a context or the host, holds it; one that does not
is refused PAYLOAD and changes no slot. KEY_ACTIVATE completes where a next key is held: it becomes current, and
no other slot changes. HOST_SLOT_ROLES completes: the slot takes its roles, which decide KEYED. R403: LIFECYCLE
completes one step forward where its conditions hold; retiring erases every key and the identity. Model's
choices it rests on: log entries 11, 52 and 53. -/
def Obligations.SecurityKeyAndLifecycleCues : Prop :=
  CueRead .attest 0x0800 (fun s c => c.payload.length = 32 ∧ s.nvm.lifecycle ≠ 3)
    (fun s c => s.report c.payload ++ sigBytes (Config.sign (s.report c.payload))) ∧
  CueRead .certificateRead 0x0801
    (fun s c => c.payload.length = 3 ∧ c.u 0 1 < 3 ∧ c.u 1 2 < (s.nvm.certs.getD (c.u 0 1) []).length)
    (fun s c => page (s.nvm.certs.getD (c.u 0 1) []) (c.u 1 2)) ∧
  CueRead .logRead 0x0900
    (fun s c => c.payload.length = 10 ∧ 1 ≤ c.u 8 2 ∧ c.u 8 2 ≤ 127 ∧ c.u 0 8 < s.rd64 LOG.NEXT.INDEX ∧
      ∀ i, i < min (c.u 8 2) (s.rd64 LOG.NEXT.INDEX - c.u 0 8) → (s.logEntry (c.u 0 8 + i)).isSome = true)
    (fun s c => (List.range (min (c.u 8 2) (s.rd64 LOG.NEXT.INDEX - c.u 0 8))).flatMap (fun i =>
      match s.logEntry (c.u 0 8 + i) with | some e => e.image | none => [])) ∧
  CueRead .logSealRead 0x0901
    (fun s c => c.payload.length = 8 ∧ (s.log.seals.find? (fun x => decide (x.1 = c.u 0 8))).isSome = true)
    (fun s c => match s.log.seals.find? (fun x => decide (x.1 = c.u 0 8)) with
      | some (_, h, sig) => shaBytes h ++ sigBytes sig | none => []) ∧
  CueRead .logHead 0x0902 (fun _ c => c.payload = [])
    (fun s _ => leBytes 8 (s.rd64 LOG.NEXT.INDEX) ++ shaBytes s.log.head) ∧
  (∀ (s : State) (t : Time) (c : Cue), (s.at' t).admits 0x0810 c = true → c.payload.length = 52 → c.u 0 2 < 264 →
    c.u 2 1 < 2 → ∃ s', exec (.keyLoad t c) s = .next s' ∧
      (∀ k, Config.unwrapKey (s.kek c) (slice c.payload 4 40) = some k → k.length = 32 →
        s'.replied c 0x0810 csOK 0 [] = true ∧
        (let key : Key := { id := c.u 3 1, bytes := k, till := c.u 44 8 }
         (c.u 0 2 < 256 → s'.ctxKeys (c.u 0 2) = if c.u 2 1 = 0 then { s.ctxKeys (c.u 0 2) with cur := some key }
            else { s.ctxKeys (c.u 0 2) with next := some key }) ∧
         (256 ≤ c.u 0 2 → s'.bus = s.bus ∧ s'.cue.slots = s.cue.slots.upd (c.u 0 2 - 256) (fun x =>
            if c.u 2 1 = 0 then { x with cur := some key } else { x with next := some key })))) ∧
      (Config.unwrapKey (s.kek c) (slice c.payload 4 40) = none → s'.replied c 0x0810 csPAYLOAD 4 [] = true ∧
        s'.bus = s.bus ∧ s'.cue.slots = s.cue.slots)) ∧
  CueDone .keyActivate 0x0811 csOK
    (fun s c => c.payload.length = 2 ∧ c.u 0 2 < 264 ∧ (s.keysOf (c.u 0 2)).next.isSome = true) (fun _ _ => [])
    (fun s c s' => s'.keysOf (c.u 0 2) =
        { s.keysOf (c.u 0 2) with cur := (s.keysOf (c.u 0 2)).next, next := none } ∧
      (∀ n, n < 264 → n ≠ c.u 0 2 → s'.keysOf n = s.keysOf n) ∧ s' = { s.besides s' with bus := s'.bus } ∧ WordsStand s s' []) ∧
  CueDone .hostSlotRoles 0x0812 csOK (fun _ c => c.payload.length = 2 ∧ c.u 0 1 < 8 ∧ c.u 1 1 < 8) (fun _ _ => [])
    (fun s c s' => s'.cue.slots = s.cue.slots.upd (c.u 0 1) (fun x => { x with roles := c.u 1 1 }) ∧
      s'.on HOST.STATUS.KEYED = s'.cue.slots.list.any (fun x => decide (x.roles ≠ 0)) ∧ s' = s.besides s' ∧
      WordsStand s s' []) ∧
  CueDone .lifecycle 0x0820 csOK
    (fun s c => c.payload.length = 3 ∧ c.u 1 2 = 0xA55A ∧
      ((s.nvm.lifecycle = 0 ∧ c.u 0 1 = 1 ∧ s.nvm.certs.all (fun b => !b.isEmpty) = true) ∨
       (s.nvm.lifecycle = 1 ∧ c.u 0 1 = 2 ∧ s.nvm.anchor.isSome = true ∧ ssCFG.testBit s.code = true)))
    (fun _ _ => [])
    (fun s c s' => s'.rd SEC.STATUS.LIFECYCLE = c.u 0 1 ∧ s'.nvm = { s.nvm with lifecycle := c.u 0 1 } ∧
      s' = { s.besides s' with nvm := s'.nvm } ∧ s'.cue.slots = s.cue.slots ∧
      WordsStand s s' [SEC.STATUS.LIFECYCLE.addr]) ∧
  CueDone .lifecycle 0x0820 csOK
    (fun s c => c.payload.length = 3 ∧ c.u 1 2 = 0xA55A ∧ c.u 0 1 = 3 ∧
      (s.nvm.lifecycle = 1 ∨ s.nvm.lifecycle = 2) ∧ ssCFG.testBit s.code = true)
    (fun _ _ => [])
    (fun s _ s' => s'.rd SEC.STATUS.LIFECYCLE = 3 ∧ s'.rd SEC.STATUS.IDENTITY = 0 ∧
      s'.nvm = { s.nvm with lifecycle := 3, identity := false } ∧ s'.bus = { s.bus with keys := [] } ∧
      s'.cue.slots = s.cue.slots.map (fun x => { x with cur := none, next := none }) ∧
      s' = { s.besides s' with nvm := s'.nvm, bus := s'.bus } ∧
      WordsStand s s' [SEC.STATUS.LIFECYCLE.addr])

/-- R288, R398: UPDATE_LOAD completes while no update or hold-over runs: a package that passes its checks is held,
one that does not is refused CHECK with the number of its first failed check; while one runs it is refused BUSY,
detail 1. UPDATE_START completes for a FIRMWARE package of pair B, running: the bank that did not boot is
written and the pair stops under hold-over; and for an ANCHOR package: the anchor is set at once. UPDATE_STATUS
completes: it tells the package, its stage and the hold-over left. Model's choices it rests on: log entries 11,
52 and 58. -/
def Obligations.UpdateCues : Prop :=
  (∀ (s : State) (t : Time) (c : Cue), (s.at' t).admits 0x0A00 c = true → s.updateBusy = false →
    ∃ s', exec (.updateLoad t c) s = .next s' ∧
      (s.pkgCheck c.payload = 0 → s'.replied c 0x0A00 csOK 0 [] = true ∧ s'.nvm.stage = .loaded ∧
        s'.nvm.pkg = some {
          kind := leAt c.payload 4 1, target := leAt c.payload 5 1, version := leAt c.payload 12 4
          rollback := leAt c.payload 16 4, body := pkgBody c.payload
          digest := sha384 (c.payload.take (64 + leAt c.payload 8 4)) }) ∧
      (s.pkgCheck c.payload ≠ 0 → s'.replied c 0x0A00 csCHECK (s.pkgCheck c.payload) [] = true ∧ s'.nvm = s.nvm)) ∧
  CueFails .updateLoad 0x0A00 csBUSY (fun s _ => s.updateBusy = true) (fun _ _ => 1)
    (fun s _ s' => s' = s.besides s' ∧ WordsStand s s' []) ∧
  (∀ (s : State) (t : Time) (c : Cue) (k : Package), (s.at' t).admits 0x0A01 c = true → c.payload.length = 1 →
    c.u 0 1 = 1 → s.updateBusy = false → s.nvm.pkg = some k → s.nvm.stage = .loaded → k.kind = 0 → k.target = 1 →
    s.pairRuns 1 = true → stBOOT < s.code →
    ∃ s', exec (.updateStart t c) s = .next s' ∧ s'.replied c 0x0A01 csPENDING 0 [] = true ∧
      s'.nvm = { (if s.on SEC.BOOT.BANK = true then { s.nvm with bankA := updAt s.nvm.bankA 3 (fun _ => k.image) }
        else { s.nvm with bankB := updAt s.nvm.bankB 3 (fun _ => k.image) }) with stage := .running } ∧
      s'.sys.updating = some 1 ∧ s'.pairRuns 1 = false ∧ s'.running .holdover = true ∧
      s'.bitOf SYS.HOLD.ACTIVE 1 = true ∧ s'.rd SYS.HOLD.LEFT = s.rd SYS.HOLD.TIME % 2 ^ SYS.HOLD.LEFT.width) ∧
  CueDone .updateStart 0x0A01 csOK
    (fun s c => c.payload.length = 1 ∧ c.u 0 1 < 2 ∧ s.updateBusy = false ∧ s.nvm.stage = .loaded ∧
      s.nvm.pkg.any (fun k => decide (k.kind = 2)) = true)
    (fun _ _ => [])
    (fun s _ s' => s'.nvm = { s.nvm with anchor := s.nvm.pkg.map (fun k => Config.anchorOf k.body), stage := .done } ∧
      s'.rd SEC.STATUS.ANCHOR = 1 ∧ s' = { s.besides s' with nvm := s'.nvm } ∧ WordsStand s s' [SEC.STATUS.ANCHOR.addr]) ∧
  CueDone .updateStatus 0x0A02 csOK (fun _ c => c.payload = [])
    (fun s _ => (match s.nvm.pkg with | some k => shaBytes k.digest | none => List.replicate 48 0)
      ++ leBytes 1 s.nvm.stage.code
      ++ leBytes 2 (if s.running .holdover then s.showHoldover.rd SYS.HOLD.LEFT else 0))
    (fun s _ s' => s' = s.besides s' ∧ s'.log = s.log ∧ WordsStand s s' [SYS.HOLD.LEFT.addr])

/-- R285, R288, R404, R407, R411, R412: TAMPER_INPUT completes under power: a first one is held, shown and a
violation; a further one changes nothing. DEBUG_ACCESS completes under power: in FIELD and RETIRED it is a
violation and reaches nothing; in PROVISION a certificate is stored. DIGEST_CHECK completes: a digest that holds
changes nothing, a failed one is a violation. Each violation asks for PILOT. SECURITY_CORE_FAULT completes: a
halt is asked for and class 0x29 counted. VBAT_LOSS completes without main supply: the VBAT domain keeps
nothing. R409, R410: LOG_SPILL completes with the archive there, after BOOT: every entry of the ring not yet
spilled is archived in order, an area that is full gives up its oldest group, and LOG.SPILLED moves to the last;
entries that do not read as written, or a chain that does not hold, are a violation; without the archive, or in
BOOT, nothing spills. LOG_SEAL_SIGNED completes with the identity key: the oldest group that waits for its seal
is signed, LOG.SEALED shows it, and, without an archive, SEAL_PEND follows and nothing else changes; without the
key, or with none waiting, nothing does. Model's choices it rests on: log entries 11, 56 and 57. -/
def Obligations.ViolationsAndTheContinuityLog : Prop :=
  (∀ (s : State) (t : Time), s.nvm.tamper = false → s.sys.dark = false →
    ∃ s', exec (.tamperInput t) s = .next s' ∧ s'.nvm = { s.nvm with tamper := true } ∧
      s'.rd SEC.STATUS.TAMPER = 1 ∧ s'.bitOf SEC.VIOL.CAUSE 0 = true ∧ s'.sys.wantPilot.testBit 5 = true) ∧
  (∀ (s : State) (t : Time), s.nvm.tamper = true → ∃ s', exec (.tamperInput t) s = .next s' ∧
    s' = { s with now := max s.now t }) ∧
  (∀ (s : State) (t : Time) (d : DebugOp), s.sys.dark = false → 2 ≤ s.nvm.lifecycle →
    ∃ s', exec (.debugAccess t d) s = .next s' ∧ s'.bitOf SEC.VIOL.CAUSE 1 = true ∧
      s'.sys.wantPilot.testBit 5 = true ∧ s'.mem = s.mem ∧ s'.nvm = s.nvm) ∧
  (∀ (s : State) (t : Time) (i : Fin 3) (der : List Byte), s.sys.dark = false → s.nvm.lifecycle = 0 →
    ∃ s', exec (.debugAccess t (.cert i der)) s = .next s' ∧ s' = { s with
      now := max s.now t
      nvm := { s.nvm with certs := updAt s.nvm.certs i (fun _ => der) } }) ∧
  (∀ (s : State) (t : Time) (good : Bool), ∃ s', exec (.digestCheck t good) s = .next s' ∧
    (good = true → s' = { s with now := max s.now t }) ∧
    (good = false → s'.bitOf SEC.VIOL.CAUSE 2 = true ∧ s'.sys.wantPilot.testBit 5 = true)) ∧
  (∀ (s : State) (t : Time), ∃ s', exec (.securityCoreFault t) s = .next s' ∧
    s'.sys = { s.sys with wantHalt := setBit s.sys.wantHalt 1 true } ∧
    s'.rd (FLT.CLASS_CNT.COUNT 0x29) = min (2 ^ 32 - 1) (s.rd (FLT.CLASS_CNT.COUNT 0x29) + 1)) ∧
  (∀ (s : State) (t : Time), s.sys.dark = true → ∃ s', exec (.vbatLoss t) s = .next s' ∧ s'.regs = s.regs ∧
    s'.nvm = { s.nvm with logCnt := 0, tamper := false, vbatLost := true }) ∧
  (∀ (s : State) (t : Time) (f last : Nat × LogEntry), s.on MEM.STATUS.EMMC_ABSENT = false → stBOOT < s.code →
    (s.ringed.filter (fun e => decide (s.firstUnspilled ≤ e.1))).head? = some f →
    (s.ringed.filter (fun e => decide (s.firstUnspilled ≤ e.1))).getLast? = some last →
    (chainOver s.log.spillHead (s.ringed.filter (fun e => decide (s.firstUnspilled ≤ e.1)))).1 = true ∨
      f.1 ≠ s.firstUnspilled →
    ∃ s', exec (.logSpill t true) s = .next s' ∧
      s'.log.archive = (let all := s.log.archive ++ s.ringed.filter (fun e => decide (s.firstUnspilled ≤ e.1))
        if archiveRoom < all.length then
          all.filter (fun x => all.head?.all (fun e => decide (e.1 / 256 < x.1 / 256))) else all) ∧
      s'.log.spillHead = s.log.head ∧ s'.log.spillAny = true ∧ s'.rd64 LOG.SPILLED.INDEX = last.1 % 2 ^ 64 ∧
      s'.log.ring = s.log.ring ∧ s'.nvm = { s.nvm with spilled := last.1 + 1 }) ∧
  (∀ (s : State) (t : Time) (intact : Bool) (f : Nat × LogEntry), s.on MEM.STATUS.EMMC_ABSENT = false →
    stBOOT < s.code → (s.ringed.filter (fun e => decide (s.firstUnspilled ≤ e.1))).head? = some f →
    intact = false ∨ ((chainOver s.log.spillHead
        (s.ringed.filter (fun e => decide (s.firstUnspilled ≤ e.1)))).1 = false ∧ f.1 = s.firstUnspilled) →
    ∃ s', exec (.logSpill t intact) s = .next s' ∧ s'.bitOf SEC.VIOL.CAUSE 3 = true ∧
      s'.sys.wantPilot.testBit 5 = true) ∧
  (∀ (s : State) (t : Time) (intact : Bool), s.on MEM.STATUS.EMMC_ABSENT = true ∨ s.code ≤ stBOOT →
    ∃ s', exec (.logSpill t intact) s = .next s' ∧ s' = { s with now := max s.now t }) ∧
  (∀ (s : State) (t : Time) (k : Nat) (h : BitVec 384) (rest : List (Nat × BitVec 384)),
    s.log.sealWait = (k, h) :: rest → s.nvm.identity = true →
    ∃ s', exec (.logSealSigned t) s = .next s' ∧ s'.log.seals =
        s.log.seals ++ [(k, h, Config.sign (shaBytes (sha384 (leBytes 8 k ++ shaBytes h))))] ∧
      s'.rd LOG.SEALED.VALUE = k % 2 ^ LOG.SEALED.VALUE.width ∧
      (s.on MEM.STATUS.EMMC_ABSENT = true → s'.on LOG.STATUS.SEAL_PEND = !rest.isEmpty ∧
        s'.log = { s.log with sealWait := rest, seals := s'.log.seals } ∧
        s' = { s with now := max s.now t, log := s'.log, regs := s'.regs })) ∧
  (∀ (s : State) (t : Time), s.log.sealWait = [] ∨ s.nvm.identity = false →
    ∃ s', exec (.logSealSigned t) s = .next s' ∧ s' = { s with now := max s.now t })

/-- R375, R380, R383: CUE_IN completes from BOOT on, pair A running. A new whole cue of class 2, without
authentication, of a host session that needs none, joins the inbound buffer behind those that wait, and no other
register changes; with the buffer full it is lost and IN_OVF sets, and nothing else changes; one whose CRC fails
is counted, sets AUTH_ERR and does not join. R375, R393: REPLY_OUT completes from BOOT on: a host read takes the
oldest reply with its length in front, and removes it where chip select rose after its last byte; with none it
reads a length of 0 and changes nothing else. Model's choices it rests on: log entries 11 and 52. -/
def Obligations.CuesArriveAndAreAnswered : Prop :=
  (∀ (s : State) (t : Time) (b : List Byte) (x : Sess), stBOOT ≤ s.code → s.rd HOST.STATUS.IN_FREE ≠ 0 →
    s.bitOf SYS.HOLD.ACTIVE 0 = false → b.length = cueBytes b → headOk b = true →
    (cueOf b).crc = crc32 (b.take (16 + leAt b 6 2)) → (cueOf b).auth = false → (cueOf b).cls = 2 →
    s.cueSession (cueOf b) .host none = some x → x.slot = none →
    s.cue.entries.any (fun e => decide (e.session = x.id ∧ e.seq = leAt b 4 2)) = false →
    s.cue.inbox.any (fun i => decide (i.entry.session = x.id ∧ i.entry.seq = leAt b 4 2)) = false →
    x.seen.any (fun y => decide (y.1 = leAt b 4 2)) = false → (opSpec (leAt b 2 2)).isSome = true →
    (cueOf b).flags.getLsbD 3 = false →
    ∃ s', exec (.cueIn t b) s = .next s' ∧
      s'.cue.inbox = s.cue.inbox ++ [{
        cue := cueOf b, entry := entryOf (cueOf b) (leAt b 2 2) csPENDING 0 [] true, host := true, conn := none }] ∧
      s'.cue.entries = s.cue.entries ∧ s' = { s with now := max s.now t, cue := s'.cue, regs := s'.regs } ∧
      ∀ a, a ≠ HOST.QUEUE.USED.addr → a ≠ HOST.STATUS.OUT_CNT.addr → s'.word a = s.word a) ∧
  (∀ (s : State) (t : Time) (b : List Byte), stBOOT ≤ s.code → s.rd HOST.STATUS.IN_FREE = 0 →
    ∃ s', exec (.cueIn t b) s = .next s' ∧ s'.rd HOST.STATUS.IN_OVF = 1 ∧ s'.cue = s.cue ∧
      ∀ a, a ≠ HOST.STATUS.IN_OVF.addr → s'.word a = s.word a) ∧
  (∀ (s : State) (t : Time) (b : List Byte), stBOOT ≤ s.code → s.rd HOST.STATUS.IN_FREE ≠ 0 →
    s.bitOf SYS.HOLD.ACTIVE 0 = false → b.length = cueBytes b → headOk b = true →
    (cueOf b).crc ≠ crc32 (b.take (16 + leAt b 6 2)) →
    ∃ s', exec (.cueIn t b) s = .next s' ∧ s'.rd HOST.STATUS.AUTH_ERR = 1 ∧
      s'.rd HOST.AUTH_CNT.CRC_FAIL = min 65535 (s.rd HOST.AUTH_CNT.CRC_FAIL + 1) ∧ s'.cue.inbox = s.cue.inbox ∧
      s'.cue.entries.length = s.cue.entries.length ∧ ∀ a, a < 0x1D000 → s'.word a = s.word a) ∧
  (∀ (s : State) (t : Time) (m : OutMsg) (rest : List OutMsg) (whole : Bool), stBOOT ≤ s.code → s.cue.out = m :: rest →
    ∃ s', exec (.replyOut t whole) s = .next s' ∧ s'.cue.hostTx = leBytes 2 m.bytes.length ++ m.bytes ∧
      s'.cue.out = (if whole then rest else m :: rest) ∧ s'.cue.inbox = s.cue.inbox ∧
      ∀ a, a < 0x1D000 → s'.word a = s.word a) ∧
  (∀ (s : State) (t : Time) (whole : Bool), stBOOT ≤ s.code → s.cue.out = [] →
    ∃ s', exec (.replyOut t whole) s = .next s' ∧
      s' = { s with now := max s.now t, cue := { s.cue with hostTx := [0, 0] } })

/-- R376, R393: MGMT_CUE completes from BOOT on, pair A running: a session open on a port without a connection opens
one, with its certificate and roles, and waits; bytes too few for a header close the connection.
MGMT_CONNECTION_CLOSED completes: the connection goes and its session closes, and the replies stay.
MGMT_IDLE_TIMEOUT completes: after 300 s of silence the same happens, before it nothing. R384, R393:
FRAGMENT_TIMEOUT completes: an assembly without a fragment for more than 10 s is dead and keeps no data, and no
other changes. SESSION_REPLY_EXPIRY completes: 60 s after its close a session is gone with its replies, sessions
0 and 1 stay, a reply goes 60 s after its delivery, and one not delivered, of a session not closed, stays.
Model's choices it rests on: log entries 52 and 53. -/
def Obligations.ConnectionsFragmentsAndSessions : Prop :=
  (∀ (s : State) (t : Time) (k : Fin 4) (cert : BitVec 32) (roles : BitVec 3) (b : List Byte), stBOOT ≤ s.code →
    s.bitOf SYS.HOLD.ACTIVE 0 = false → s.cue.conns.get k none = none →
    16 ≤ b.length → headOk b = true → b.length = cueBytes b → leAt b 2 2 = 1 → (cueOf b).cls = 3 →
    (cueOf b).auth = false → (cueOf b).crc = crc32 (b.take (16 + leAt b 6 2)) →
    (∀ x ∈ s.cue.sessions, x.conn ≠ some k.val) →
    ∃ s', exec (.mgmtCue t k cert roles b) s = .next s' ∧ s'.due (.mgmtIdle k) 0 = true ∧
      s'.cue.conns.get k none =
        some { cert := cert.toNat, roles := roles.toNat, serial := s.cue.connCount, first := false } ∧
      s'.cue.connCount = s.cue.connCount + 1 ∧
      s'.cue.inbox = s.cue.inbox ++ [{
        cue := cueOf b, entry := entryOf (cueOf b) 1 csPENDING 0 [] true, host := false, conn := some k.val }]) ∧
  (∀ (s : State) (t : Time) (k : Fin 4) (cert : BitVec 32) (roles : BitVec 3) (b : List Byte), stBOOT ≤ s.code →
    s.bitOf SYS.HOLD.ACTIVE 0 = false → b.length < 16 →
    ∃ s', exec (.mgmtCue t k cert roles b) s = .next s' ∧ s'.cue.conns.get k none = none ∧
      s'.running (.mgmtIdle k) = false ∧ s'.cue.entries = s.cue.entries ∧ s'.regs = s.regs) ∧
  (∀ (s : State) (t : Time) (k : Fin 4), ∃ s', exec (.mgmtConnectionClosed t k) s = .next s' ∧
    s'.cue.conns = s.cue.conns.upd k (fun _ => none) ∧ s'.running (.mgmtIdle k) = false ∧
    (∀ x ∈ s'.cue.sessions, x.conn ≠ some k.val) ∧ (∀ i ∈ s'.cue.inbox, i.conn ≠ some k.val) ∧
    s'.cue.sessions = s.cue.sessions.map (fun x =>
      if x.conn = some k.val then { x with conn := none, frag := none, closed := some (max s.now t) } else x) ∧
    s'.cue.entries = s.cue.entries ∧ s'.regs = s.regs) ∧
  (∀ (s : State) (t : Time) (k : Fin 4), (s.at' t).due (.mgmtIdle k) (300 * sec) = true →
    ∃ s', exec (.mgmtIdleTimeout t k) s = .next s' ∧ s'.cue.conns = s.cue.conns.upd k (fun _ => none) ∧
      s'.running (.mgmtIdle k) = false ∧ (∀ x ∈ s'.cue.sessions, x.conn ≠ some k.val) ∧
      s'.cue.entries = s.cue.entries ∧ s'.regs = s.regs) ∧
  (∀ (s : State) (t : Time) (k : Fin 4), (s.at' t).due (.mgmtIdle k) (300 * sec) = false →
    ∃ s', exec (.mgmtIdleTimeout t k) s = .next s' ∧ s' = { s with now := max s.now t }) ∧
  (∀ (s : State) (t : Time), ∃ s', exec (.fragmentTimeout t) s = .next s' ∧ s'.regs = s.regs ∧
    s'.cue = { s.cue with sessions := s.cue.sessions.map (fun x => { x with frag := x.frag.map (fun f =>
      if f.lastAt + 10 * sec < max s.now t then { f with data := [], dead := true } else f) }) }) ∧
  (∀ (s : State) (t : Time), ∃ s', exec (.sessionReplyExpiry t) s = .next s' ∧
    s'.cue.sessions = s.cue.sessions.filter (fun x => decide (x.id ≤ 1) ||
      !(x.closed.any (fun t0 => decide (t0 + 60 * sec ≤ max s.now t)))) ∧
    (∀ e ∈ s'.cue.entries, e ∈ s.cue.entries ∧ ∀ t0, e.delivered = some t0 → max s.now t ≤ t0 + 60 * sec) ∧
    (∀ e ∈ s.cue.entries, e.delivered = none → (∀ x ∈ s.cue.sessions, x.id = e.session → x.closed = none) →
      e ∈ s'.cue.entries) ∧
    ∀ a, a ≠ HOST.QUEUE.USED.addr → a ≠ HOST.STATUS.OUT_CNT.addr → s'.word a = s.word a)

/-- R278: PRECHARGE_VOLTAGE_HELD completes in PRECHARGE once V_DC has held for 10 ms: the DC disconnect closes and
its confirmation is awaited, or, where it reads closed already, the precharge contactor opens. DCD_AUX_CLOSED
completes: the input reads 1, and in that step the precharge contactor opens; outside it nothing else changes.
PRECHARGE_TIMEOUT and DCD_CONFIRM_TIMEOUT complete at their times with their step not reached: the precharge
fails with its own bit. Model's choices it rests on: log entries 5 and 38. -/
def Obligations.PrechargeSequence : Prop :=
  (∀ (s : State) (t : Time), s.code = stPRECHARGE → s.sys.pchClosed = false → s.sys.pchFail = false →
    (s.at' t).due .pchHold (10 * ms) = true → s.on SYS.AUXIO.DCD_AUX = false →
    ∃ s', exec (.prechargeVoltageHeld t) s = .next s' ∧ s'.rd SYS.AUXIO.DCD_OPEN = 0 ∧
      s'.sys = { s.sys with pchClosed := true } ∧ s'.due .dcdClose 0 = true ∧ s'.running .pchEntry = false ∧
      s' = { s with now := max s.now t, regs := s'.regs, sys := s'.sys, timers := s'.timers } ∧
      s'.rd SYS.AUXIO.PCH_CLOSE = s.rd SYS.AUXIO.PCH_CLOSE ∧
      ∀ a, a ≠ SYS.AUXIO.DCD_OPEN.addr → s'.word a = s.word a) ∧
  (∀ (s : State) (t : Time), s.code = stPRECHARGE → s.sys.pchClosed = false → s.sys.pchFail = false →
    (s.at' t).due .pchHold (10 * ms) = true → s.on SYS.AUXIO.DCD_AUX = true →
    ∃ s', exec (.prechargeVoltageHeld t) s = .next s' ∧ s'.rd SYS.AUXIO.DCD_OPEN = 0 ∧
      s'.rd SYS.AUXIO.PCH_CLOSE = 0 ∧ s'.sys = { s.sys with pchClosed := true, dcdOk := true } ∧
      s' = { s with now := max s.now t, regs := s'.regs, sys := s'.sys, timers := s'.timers } ∧
      ∀ a, a ≠ SYS.AUXIO.DCD_OPEN.addr → s'.word a = s.word a) ∧
  (∀ (s : State) (t : Time), s.code = stPRECHARGE → s.sys.pchClosed = true → s.sys.pchFail = false →
    ∃ s', exec (.dcdAuxClosed t) s = .next s' ∧ s'.rd SYS.AUXIO.DCD_AUX = 1 ∧ s'.rd SYS.AUXIO.PCH_CLOSE = 0 ∧
      s'.sys = { s.sys with dcdOk := true } ∧ s'.running .dcdClose = false ∧
      ∀ a, a ≠ SYS.AUXIO.DCD_AUX.addr → s'.word a = s.word a) ∧
  (∀ (s : State) (t : Time), s.code ≠ stPRECHARGE ∨ s.sys.pchClosed = false ∨ s.sys.pchFail = true →
    ∃ s', exec (.dcdAuxClosed t) s = .next s' ∧
    s'.rd SYS.AUXIO.DCD_AUX = 1 ∧ s'.sys = s.sys ∧ ∀ a, a ≠ SYS.AUXIO.DCD_AUX.addr → s'.word a = s.word a) ∧
  (∀ (s : State) (t : Time), s.code = stPRECHARGE → s.sys.pchClosed = false →
    (s.at' t).due .pchEntry (s.rd SYS.SEQ.PCH_T * sec) = true →
    ∃ s', exec (.prechargeTimeout t) s = .next s' ∧ s'.rd SYS.SEQ_STAT.PCH_FAIL = 1 ∧
      s'.sys = { s.sys with pchFail := true } ∧ ∀ a, a ≠ SYS.SEQ_STAT.PCH_FAIL.addr → s'.word a = s.word a) ∧
  (∀ (s : State) (t : Time), s.code = stPRECHARGE → s.sys.pchClosed = true → s.sys.dcdOk = false →
    (s.at' t).due .dcdClose (s.rd SYS.SEQ_T.DCD_CT * 10 * ms) = true →
    ∃ s', exec (.dcdConfirmTimeout t) s = .next s' ∧ s'.rd SYS.SEQ_STAT.DCD_FAIL = 1 ∧
      s'.sys = { s.sys with pchFail := true } ∧ ∀ a, a ≠ SYS.SEQ_STAT.DCD_FAIL.addr → s'.word a = s.word a)

/-- R276, R279, R281: BRK_AUX_CLOSED completes in ENERGIZE: the wait for the grid release starts. GRID_RELEASE
completes two grid cycles later: the grid's carrier unit is enabled and the instant noted. BRK_CLOSE_TIMEOUT
completes: BRK_FAIL sets, and a stop is asked for where none is. STOP_CURRENT_LOW and STOP_TIMEOUT complete in
STOPPING at their times: the breaker opens, and where it reads open already the stop is done. BRK_AUX_OPENED
completes: the breaker's opening, or its absence in time, ends the stop. Model's choices it rests on: log
entries 5 and 38. -/
def Obligations.EnergizeAndStopSequence : Prop :=
  (∀ (s : State) (t : Time), s.code = stENERGIZE → s.running .brkClose = true →
    ∃ s', exec (.brkAuxClosed t) s = .next s' ∧ s'.rd SYS.AUXIO.BRK_AUX = 1 ∧ s'.running .brkClose = false ∧
      s'.due .gridWait 0 = true ∧ ∀ a, a ≠ SYS.AUXIO.BRK_AUX.addr → s'.word a = s.word a) ∧
  (∀ (s : State) (t : Time), s.code = stENERGIZE → (s.at' t).due .gridWait (2 * s.gridCycle) = true →
    ∃ s', exec (.gridRelease t) s = .next s' ∧ s'.rd (PWM.CU.CFG.ENABLE 0) = 1 ∧
      s'.sys.releasedAt = some (max s.now t) ∧ s'.running .gridWait = false) ∧
  (∀ (s : State) (t : Time), s.code = stENERGIZE →
    (s.at' t).due .brkClose (s.rd SYS.SEQ_T.BRK_CT * 10 * ms) = true →
    ∃ s', exec (.brkCloseTimeout t) s = .next s' ∧ s'.rd SYS.SEQ_STAT.BRK_FAIL = 1 ∧
      s'.sys =
        { s.sys with wantStop := if s.sys.wantStop = .none then .brkFail else s.sys.wantStop } ∧ ∀ a, a ≠ SYS.SEQ_STAT.BRK_FAIL.addr → s'.word a = s.word a) ∧
  (∀ (s : State) (t : Time), s.code = stSTOPPING → s.sys.gridOff = false → (s.at' t).due .stopLow ms = true →
    ∃ s', exec (.stopCurrentLow t) s = .next s' ∧ s'.rd SYS.AUXIO.BRK_CLOSE = 0 ∧ s'.rd SYS.AUXIO.BRK_OPEN = 1 ∧
      s'.sys.gridOff = true ∧ s'.running .stopLow = false ∧
      (s.on SYS.AUXIO.BRK_AUX = true → s'.sys.stopDone = s.sys.stopDone ∧ s'.due .brkOpen 0 = true) ∧
      (s.on SYS.AUXIO.BRK_AUX = false → s'.sys.stopDone = true ∧ s'.rd SYS.AUXIO.DCD_OPEN = 1)) ∧
  (∀ (s : State) (t : Time), s.code = stSTOPPING → s.sys.gridOff = false →
    (s.at' t).due .stopEntry (s.rd SYS.SEQ_T.STOP_T * ms) = true →
    ∃ s', exec (.stopTimeout t) s = .next s' ∧ s'.rd SYS.SEQ_STAT.STOP_TIMEOUT = 1 ∧ s'.rd SYS.AUXIO.BRK_CLOSE = 0 ∧
      s'.rd SYS.AUXIO.BRK_OPEN = 1 ∧ s'.sys.gridOff = true ∧
      (s.on SYS.AUXIO.BRK_AUX = true → s'.sys.stopDone = s.sys.stopDone ∧ s'.due .brkOpen 0 = true) ∧
      (s.on SYS.AUXIO.BRK_AUX = false → s'.sys.stopDone = true ∧ s'.rd SYS.AUXIO.DCD_OPEN = 1)) ∧
  (∀ (s : State) (t : Time), s.code = stSTOPPING → s.sys.gridOff = true → s.running .brkOpen = true →
    ∃ s', exec (.brkAuxOpened t true) s = .next s' ∧ s'.rd SYS.AUXIO.BRK_AUX = 0 ∧ s'.rd SYS.AUXIO.DCD_OPEN = 1 ∧
      s'.sys = { s.sys with stopDone := true } ∧ s'.running .brkOpen = false ∧
      ∀ a, a ≠ SYS.AUXIO.BRK_AUX.addr → s'.word a = s.word a) ∧
  (∀ (s : State) (t : Time), s.code = stSTOPPING → s.sys.gridOff = true →
    (s.at' t).due .brkOpen (s.rd SYS.SEQ_T.BRK_CT * 10 * ms) = true →
    ∃ s', exec (.brkAuxOpened t false) s = .next s' ∧ s'.rd SYS.SEQ_STAT.BRK_FAIL = 1 ∧
      s'.sys = { s.sys with stopDone := true } ∧ s'.rd SYS.AUXIO.BRK_AUX = 1)

/-- R24, R284, R288, R394, R417: DIRECTOR_ABSENT (30 ms after the last evaluation) and LOCKSTEP_MISMATCH complete
after BOOT: the hold-over begins and the class is counted. PAIR_RESTART_DONE and UPDATE_IMAGE_RUNNING complete:
the pair runs again. DIRECTOR_POLICY_CYCLE completes once 10 ms have passed, both pairs running: it ends a
hold-over; before that nothing happens. HOLDOVER_EXPIRY completes: a unit that runs is asked to stop, a standing
one for pilot-light mode. CHECKER_TEST completes once due: passing, it is counted; a checker that misses its
test asserts source 32 or restarts its pair; before that nothing happens. Model's choices it rests on: log entry
37. -/
def Obligations.HoldOverBridgesThePairs : Prop :=
  (∀ (s : State) (t : Time), (s.at' t).due .directorEval (30 * ms) = true → s.bitOf SYS.HOLD.ACTIVE 1 = false →
    stBOOT < s.code → s.running .holdover = false →
    ∃ s', exec (.directorAbsent t) s = .next s' ∧ s'.bitOf SYS.HOLD.ACTIVE 1 = true ∧ s'.due .holdover 0 = true ∧
      s'.sys = { s.sys with holdLimit := s.rd SYS.HOLD.TIME, holdOut := false } ∧
      s'.rd (FLT.CLASS_CNT.COUNT 0x15) = min (2 ^ 32 - 1) (s.rd (FLT.CLASS_CNT.COUNT 0x15) + 1)) ∧
  (∀ (s : State) (t : Time) (p : Fin 2), s.pairRuns p = true → stBOOT < s.code → s.running .holdover = false →
    ∃ s', exec (.lockstepMismatch t p) s = .next s' ∧ s'.pairRuns p = false ∧ s'.bitOf SYS.HOLD.ACTIVE p = true ∧
      s'.due .holdover 0 = true ∧
      s'.rd (FLT.CLASS_CNT.COUNT 0x14) = min (2 ^ 32 - 1) (s.rd (FLT.CLASS_CNT.COUNT 0x14) + 1)) ∧
  (∀ (s : State) (t : Time), s.pairRuns 0 = false → s.sys.updating = none →
    ∃ s', exec (.pairRestartDone t 0) s = .next s' ∧ s'.pairRuns 0 = true ∧ s'.bitOf SYS.HOLD.ACTIVE 0 = false ∧
      s'.bitOf SYS.HOLD.ACTIVE 1 = s.bitOf SYS.HOLD.ACTIVE 1 ∧ s'.nvm = s.nvm) ∧
  (∀ (s : State) (t : Time), s.pairRuns 1 = false → s.sys.updating ≠ some 1 →
    ∃ s', exec (.pairRestartDone t 1) s = .next s' ∧ s'.pairRuns 1 = true ∧ s'.nvm = s.nvm) ∧
  (∀ (s : State) (t : Time) (p : Nat) (k : Package), s.sys.updating = some p → s.nvm.pkg = some k →
    s.pairRuns p = false → k.kind = 0 →
    ∃ s', exec (.updateImageRunning t) s = .next s' ∧ s'.pairRuns p = true ∧
      s'.nvm = { s.nvm with runs := updAt s.nvm.runs (imageSlot p) (fun _ => k.image) }) ∧
  (∀ (s : State) (t : Time), stBOOT < s.code → s.pairRuns 0 = true → s.pairRuns 1 = true →
    s.running .holdover = true → s.sys.updating = none →
    s.running .directorEval = false ∨ (s.at' t).due .directorEval (10 * ms) = true →
    ∃ s', exec (.directorPolicyCycle t) s = .next s' ∧ s'.rd SYS.HOLD.ACTIVE = 0 ∧
      s'.rd SYS.HOLD.LEFT = s.rd SYS.HOLD.TIME % 2 ^ SYS.HOLD.LEFT.width ∧ s'.running .holdover = false ∧
      s'.due .directorEval 0 = true ∧ s'.cue = s.cue ∧
      ∀ a, a ≠ SYS.HOLD.ACTIVE.addr → s'.word a = s.word a) ∧
  (∀ (s : State) (t : Time), s.running .directorEval = true → (s.at' t).due .directorEval (10 * ms) = false →
    ∃ s', exec (.directorPolicyCycle t) s = .next s' ∧ s' = { s with now := max s.now t }) ∧
  (∀ (s : State) (t : Time), (s.at' t).due .holdover (s.sys.holdLimit * sec) = true → s.sys.holdOut = false →
    s.code = stRUN ∨ s.code = stENERGIZE → s.sys.updating = none →
    ∃ s', exec (.holdoverExpiry t) s = .next s' ∧ s'.rd SYS.HOLD.LEFT = 0 ∧ s'.bitOf SYS.CAUSE.PL 4 = true ∧
      s'.sys = { s.sys with
        holdOut := true
        holdExpired := true
        wantStop := if s.sys.wantStop = .none then .holdover else s.sys.wantStop }) ∧
  (∀ (s : State) (t : Time), (s.at' t).due .holdover (s.sys.holdLimit * sec) = true → s.sys.holdOut = false →
    stCOMMISSION ≤ s.code → s.code ≤ stSYNC → s.sys.updating = none →
    ∃ s', exec (.holdoverExpiry t) s = .next s' ∧ s'.bitOf SYS.CAUSE.PL 4 = true ∧
      s'.sys = { s.sys with holdOut := true, wantPilot := setBit s.sys.wantPilot 4 true }) ∧
  (∀ (s : State) (t : Time), (s.at' t).due .checker sec = true →
    ∃ s', exec (.checkerTest t 0) s = .next s' ∧ s'.rd FLT.CHK.FAIL = 0 ∧
      s'.rd FLT.CHK.PASSES = (s.rd FLT.CHK.PASSES + 1) % 2 ^ FLT.CHK.PASSES.width ∧
      ∀ a, a ≠ FLT.CHK.FAIL.addr → s'.word a = s.word a) ∧
  (∀ (s : State) (t : Time), (s.at' t).due .checker sec = true →
    ∃ s', exec (.checkerTest t 1) s = .next s' ∧ s'.rd FLT.CHK.FAIL = 1 ∧ s'.rd FLT.STATUS.CHK_FAIL = 1 ∧
      s'.srcOn 32 = true) ∧
  (∀ (s : State) (t : Time), (s.at' t).due .checker sec = true → s.pairRuns 1 = true → stBOOT < s.code →
    ∃ s', exec (.checkerTest t 8) s = .next s' ∧ s'.rd FLT.CHK.FAIL = 8 ∧ s'.rd FLT.STATUS.CHK_FAIL = 1 ∧
      s'.pairRuns 1 = false ∧ s'.bitOf SYS.HOLD.ACTIVE 1 = true) ∧
  (∀ (s : State) (t : Time) (fail : BitVec 4), (s.at' t).due .checker sec = false →
    ∃ s', exec (.checkerTest t fail) s = .next s' ∧ s' = { s with now := max s.now t })

/-- R124, R200: SOFT_RAMP_DONE completes for a group whose ramp has come down: a tripped one ends as a hard-off.
R262: TRIP_RESET completes while none waits: in STANDBY, PILOT and HALT lost links that source 34 names are
trained first, and it waits; else it is answered with the latches it ended. TRIP_RESET_COMPLETE completes once
no link is lost, or after 100 µs: the training ends. Each ends the latches named whose sources are gone, but
those of a forced trip that stands. R264: GOVERNOR_RESET completes: the lockouts named end, with the counts of
their islands. R291: GPIO_INPUT_CHANGE completes: the pads show, and nothing else changes. Model's choices it
rests on: log entries 30 and 39. -/
def Obligations.RampsResetsAndPads : Prop :=
  (∀ (s : State) (t : Time) (g : Fin 9), s.softDone g = true → s.trip.ramping.testBit g = true →
    ∃ s', exec (.softRampDone t g) s = .next s' ∧ s'.trip.ramping.testBit g = false ∧
      ∀ l ∈ targetLegs g, s'.rd (BND.CH.STATE.LEVEL l) = 3) ∧
  CueDone .tripReset 0x0014 csPENDING
    (fun s c => c.payload.length = 8 ∧ c.u 0 8 < 2 ^ 40 ∧ s.trip.resetMask = none ∧ s.deepReset = true ∧
      (c.u 0 8).testBit 34 = true ∧ s.lostLinks ≠ [])
    (fun _ _ => [])
    (fun s c s' => s'.trip = { s.trip with resetMask := some (BitVec.ofNat 40 (c.u 0 8)) } ∧
      s'.due .releaseGrid 0 = true ∧ (∀ n ∈ s.lostLinks, s'.island n =
        if (s.island n).muted then { s.island n with training := true, linked := false } else s.island n) ∧
      s' = { s.besides s' with trip := s'.trip, isl := s'.isl, timers := s'.timers } ∧ WordsStand s s' []) ∧
  (∀ (s : State) (t : Time) (c : Cue), (s.at' t).admits 0x0014 c = true → c.payload.length = 8 → c.u 0 8 < 2 ^ 40 →
    s.trip.resetMask = none → s.deepReset = false ∨
      ((c.u 0 8).testBit 28 = false ∧ (c.u 0 8).testBit 31 = false ∧ (c.u 0 8).testBit 34 = false) →
    ∃ s' cleared, exec (.tripReset t c) s = .next s' ∧ s'.replied c 0x0014 csOK 0 (leBytes 8 cleared) = true ∧
      ∀ n, n < 40 → s'.latchOn n = (s.latchOn n && (!(c.u 0 8).testBit n || s.srcOn n ||
        (decide (s.forcedOf n ≠ 0) && !(s.deepReset && !(decide (n = 36) &&
          (s.on TRP.GOV_STAT.LOCK_GRID || s.on TRP.GOV_STAT.LOCK_DUMP))))))) ∧
  (∀ (s : State) (t : Time) (m : BitVec 40), s.trip.resetMask = some m →
    s.lostLinks = [] ∨ (s.at' t).due .releaseGrid (100 * us) = true →
    ∃ s', exec (.tripResetComplete t) s = .next s' ∧ s'.trip.resetMask = none ∧ s'.running .releaseGrid = false ∧
      (∀ n ∈ s.lostLinks, (s'.island n).training = false) ∧
      (s.deepReset = false ∨ (m.toNat.testBit 28 = false ∧ m.toNat.testBit 31 = false ∧ m.toNat.testBit 34 = false) →
        ∀ n, n < 40 → s'.latchOn n = (s.latchOn n && (!m.toNat.testBit n || s.srcOn n ||
          (decide (s.forcedOf n ≠ 0) && !(s.deepReset && !(decide (n = 36) &&
            (s.on TRP.GOV_STAT.LOCK_GRID || s.on TRP.GOV_STAT.LOCK_DUMP)))))))) ∧
  CueDone .governorReset 0x0015 csOK (fun _ c => c.payload.length = 1 ∧ c.u 0 1 < 4) (fun _ _ => [])
    (fun s c s' =>
      s'.rd TRP.GOV_STAT.LOCK_GRID = (if (c.u 0 1).testBit 0 then 0 else s.rd TRP.GOV_STAT.LOCK_GRID) ∧
      s'.rd TRP.GOV_STAT.LOCK_DUMP = (if (c.u 0 1).testBit 1 then 0 else s.rd TRP.GOV_STAT.LOCK_DUMP) ∧
      (∀ n : Fin 12, (c.u 0 1).testBit 0 = true → (s'.island n).scTimes = [] ∧
        s'.rd (TRP.I2T.WIN_CNT n) = 0)) ∧
  (∀ (s : State) (t : Time) (level : BitVec 16), ∃ s', exec (.gpioInputChange t level) s = .next s' ∧
    s'.rd SYS.GPIO_IN.LEVEL = level.toNat ∧ s' = { s with now := max s.now t, regs := s'.regs } ∧
    ∀ a, a ≠ SYS.GPIO_IN.LEVEL.addr → s'.word a = s.word a)

/-- R253, R276, R287, R399, R407, R418, R425, R439, R440: BROWN_OUT completes under power: the device is dark,
window and DRAM at their reset contents but for the pads' levels. POWER_ON_RESET completes: the same, in BOOT.
RESET_START completes for a queued reset whose reply is gone, or after 100 ms: the same, but DRAM and the fault
ring stand, and a security administrator's ends the tamper latch. VANA_BROWN_OUT completes at a change of the
rail: the on-module channels lose their clock; its return puts the comparators in alarm. VIOC_BROWN_OUT
completes under power. BOOT_COMPLETE completes in BOOT: a boot without a good bank halts, one without a profile
ends in COMMISSION. Model's choices it rests on: log entries 4, 59 and 62. -/
def Obligations.SuppliesResetAndBoot : Prop :=
  (∀ (s : State) (t : Time), s.sys.dark = false → ∃ s', exec (.brownOut t) s = .next s' ∧ s'.code = stDARK ∧
    s'.sys.dark = true ∧ s'.mem.dram = [] ∧ s'.faults = [] ∧ s'.timers = [] ∧
    ∀ a, a ∉ [SYS.STATE.CODE.addr, SYS.AUXIO.BRK_AUX.addr, SYS.GPIO_IN.LEVEL.addr, NET.STATUS.PA_LINK.addr] →
      s'.word a = resetWord a) ∧
  (∀ (s : State) (t : Time) (v : Bool), ∃ s', exec (.powerOnReset t v) s = .next s' ∧ s'.code = stBOOT ∧
    s'.sys.dark = false ∧ s'.sys.vioc18 = v ∧ s'.sys.vana = true ∧ s'.mem.dram = [] ∧ s'.cue.entries = [] ∧
    ∀ a, a ∉ [SYS.AUXIO.BRK_AUX.addr, SYS.GPIO_IN.LEVEL.addr, NET.STATUS.PA_LINK.addr] → s'.word a = resetWord a) ∧
  (∀ (s : State) (t : Time) (admin : Bool) (id seq : Nat), s.cue.resetBy = some (admin, id, seq) →
    s.replyGone id seq = true ∨ (s.at' t).due .resetQueued (100 * ms) = true →
    ∃ s', exec (.resetStart t) s = .next s' ∧ s'.code = stBOOT ∧ s'.mem.dram = s.mem.dram ∧ s'.cue.resetBy = none ∧
      (admin = true → s'.nvm.tamper = false) ∧ (admin = false → s'.nvm.tamper = s.nvm.tamper) ∧
      ∀ a, a < 0x1E000 → a ∉ [SYS.AUXIO.BRK_AUX.addr, SYS.GPIO_IN.LEVEL.addr, NET.STATUS.PA_LINK.addr] →
        s'.word a = resetWord a) ∧
  (∀ (s : State) (t : Time), s.sys.dark = false → s.sys.vana = true →
    ∃ s', exec (.vanaBrownOut t true) s = .next s' ∧ s'.sys.vana = false ∧
      ∀ n : Fin 16, s'.rd (MOD.CH.STATUS.NOCLK_NOW n) = 1) ∧
  (∀ (s : State) (t : Time), s.sys.dark = false → s.sys.vana = false →
    ∃ s', exec (.vanaBrownOut t false) s = .next s' ∧ s'.sys = { s.sys with vana := true } ∧ s'.regs = s.regs ∧
      s'.due .profileApplied 0 = true ∧ ∀ n : Fin 24, s'.trip.raw.testBit n = s.on (CMP.CFG.EN n)) ∧
  (∀ (s : State) (t : Time) (low : Bool), s.sys.dark = false → ∃ s', exec (.viocBrownOut t low) s = .next s' ∧
    s' = { s with now := max s.now t, sys := { s.sys with vioc := !low } }) ∧
  (∀ (s : State) (t : Time) (bad : BitVec 4) (gib : BitVec 8) (image : List Byte), s.code = stBOOT →
    s.sys.dark = false → s.nvm.bootFrom bad = none →
    ∃ s', exec (.bootComplete t bad gib image) s = .next s' ∧ s'.code = stHALT ∧ s'.bitOf SYS.CAUSE.HALT 2 = true ∧
      s'.rd SEC.BOOT.FALLBACK = 1) ∧
  (∀ (s : State) (t : Time) (bad : BitVec 4) (gib : BitVec 8) (image : List Byte) (b : Nat), s.code = stBOOT →
    s.sys.dark = false → s.nvm.bootFrom bad = some b → s.nvm.profile = none →
    ∃ s', exec (.bootComplete t bad gib image) s = .next s' ∧ s'.code = stCOMMISSION ∧
      s'.rd SEC.BOOT.BANK = b % 2 ^ SEC.BOOT.BANK.width ∧
      s'.rd TRP.PROF_STAT.PROF_BAD = 1 ∧ s'.nvm.applied = none)

/-- R157 to R160, R163, R342: LINK_SLOT completes. With nothing queued the primary sends PING with the slot's start
in SCLK cycles and the island IDLE with the SEQ of the last good frame; a STATE OFF whose decision has committed
takes the slot ahead of every other frame and stays for its repeat; a muted link sends nothing; an island that
lost its link reports LINK_LOST; without SCLK nothing moves. A frame on the wire carries its TYPE, ARG, SEQ and
PAYLOAD under a good CRC-8. R159: EDGE_ARM, CANCEL, STATE_OFF, OUTER_CONFIRM and CLEAR that repeat a frame acted
on renew the island's heartbeat and do nothing else; EDGE_DONE, FAULT_FRAME and SOFT_DONE that repeat the report
taken renew the primary's and do nothing else. Model's choices it rests on: log entry 29. -/
def Obligations.LinkSlotsAndRepeats : Prop :=
  (∀ (s : State) (t : Time) (n : Fin 14), s.clk.stopped = false → (s.island n).txq = [] → (s.island n).upq = [] →
    (s.island n).muted = false → (s.island n).lost = false →
    ∃ s', exec (.linkSlot t n) s = .next s' ∧ s' = { s with now := max s.now t, isl := s'.isl } ∧
      (s'.island n).wire = some (linkFrame 0 0 (s.island n).txSeq (max s.now t / slot * slot / sclk % 65536)) ∧
      (s'.island n).txSeq = ((s.island n).txSeq + 1) % 8 ∧
      (s'.island n).upWire = some (linkFrame 0 0 (s.island n).upSeq (s.island n).goodSeq) ∧
      (∀ k : Fin 14, k ≠ n → s'.island k = s.island k)) ∧
  (∀ (s : State) (t : Time) (n : Fin 14) (q : Queued Down) (l₁ l₂ : List (Queued Down)), s.clk.stopped = false →
    (s.island n).txq = l₁ ++ q :: l₂ → q.frame = .stateOff → q.ready ≤ max s.now t / slot * slot →
    (∀ e ∈ l₁, e.frame ≠ .stateOff) → q.sent = true ∨ (∀ e ∈ l₂, e.frame = .stateOff → e.sent = false) →
    ∃ s', exec (.linkSlot t n) s = .next s' ∧ (s'.island n).wire = some (linkFrame 3 0 q.seq 0) ∧
      (s'.island n).txq = l₁ ++ (if q.sent then l₂ else { q with sent := true } :: l₂)) ∧
  (∀ (s : State) (t : Time) (n : Fin 14), s.clk.stopped = false → (s.island n).txq = [] → (s.island n).muted = true →
    ∃ s', exec (.linkSlot t n) s = .next s' ∧ (s'.island n).wire = none) ∧
  (∀ (s : State) (t : Time) (n : Fin 14), s.clk.stopped = false → (s.island n).lost = true → (s.island n).upq = [] →
    ∃ s', exec (.linkSlot t n) s = .next s' ∧
      (s'.island n).upWire = some (linkFrame 3 0 (s.island n).upSeq ((s.island n).levels ||| 128))) ∧
  (∀ (s : State) (t : Time) (n : Fin 14), s.clk.stopped = true →
    ∃ s', exec (.linkSlot t n) s = .next s' ∧ s' = { s with now := max s.now t }) ∧
  (∀ type arg seq payload : Nat, frameGood (linkFrame type arg seq payload) = true ∧
    frameType (linkFrame type arg seq payload) = type % 8 ∧ frameArg (linkFrame type arg seq payload) = arg % 4 ∧
    frameSeq (linkFrame type arg seq payload) = seq % 8 ∧
    framePayload (linkFrame type arg seq payload) = payload % 65536) ∧
  (∀ (s : State) (t : Time) (n : Fin 14) (seq : BitVec 3) (on imm : Bool) (off : BitVec 16),
    (s.island n).repeatDown 1 seq.toNat = true →
    ∃ s', exec (.edgeArm t n seq on imm off) s = .next s' ∧ s' = { s with
      now := max s.now t
      isl := s.isl.upd n (fun i => { i with goodDown := max s.now t, goodSeq := seq.toNat, runDown := 0 }) }) ∧
  (∀ (s : State) (t : Time) (n : Fin 14) (seq : BitVec 3) (off : BitVec 16), (s.island n).repeatDown 2 seq.toNat = true →
    ∃ s', exec (.cancel t n seq off) s = .next s' ∧ s' = { s with
      now := max s.now t
      isl := s.isl.upd n (fun i => { i with goodDown := max s.now t, goodSeq := seq.toNat, runDown := 0 }) }) ∧
  (∀ (s : State) (t : Time) (n : Fin 14) (seq : BitVec 3), (s.island n).repeatDown 3 seq.toNat = true →
    ∃ s', exec (.stateOff t n seq) s = .next s' ∧ s' = { s with
      now := max s.now t
      isl := s.isl.upd n (fun i => { i with goodDown := max s.now t, goodSeq := seq.toNat, runDown := 0 }) }) ∧
  (∀ (s : State) (t : Time) (n : Fin 14) (seq : BitVec 3), (s.island n).repeatDown 3 seq.toNat = true →
    ∃ s', exec (.outerConfirm t n seq) s = .next s' ∧ s' = { s with
      now := max s.now t
      isl := s.isl.upd n (fun i => { i with goodDown := max s.now t, goodSeq := seq.toNat, runDown := 0 }) }) ∧
  (∀ (s : State) (t : Time) (n : Fin 14) (seq : BitVec 3), (s.island n).repeatDown 3 seq.toNat = true →
    ∃ s', exec (.clear t n seq) s = .next s' ∧ s' = { s with
      now := max s.now t
      isl := s.isl.upd n (fun i => { i with goodDown := max s.now t, goodSeq := seq.toNat, runDown := 0 }) }) ∧
  (∀ (s : State) (t : Time) (n : Fin 14) (seq : BitVec 3) (res : Fin 3) (back : BitVec 16),
    (s.island n).upSeen = some (1, seq.toNat) →
    ∃ s', exec (.edgeDone t n seq res back) s = .next s' ∧ s' = { s with
      now := max s.now t
      isl := s.isl.upd n (fun i => { i with goodUp := max s.now t, runUp := 0 }) }) ∧
  (∀ (s : State) (t : Time) (n : Fin 14) (seq : BitVec 3) (bits : Byte), (s.island n).upSeen = some (3, seq.toNat) →
    ∃ s', exec (.faultFrame t n seq bits) s = .next s' ∧ s' = { s with
      now := max s.now t
      isl := s.isl.upd n (fun i => { i with goodUp := max s.now t, runUp := 0 }) }) ∧
  (∀ (s : State) (t : Time) (n : Fin 14) (seq : BitVec 3) (back : BitVec 16), (s.island n).upSeen = some (4, seq.toNat) →
    ∃ s', exec (.softDone t n seq back) s = .next s' ∧ s' = { s with
      now := max s.now t
      isl := s.isl.upd n (fun i => { i with goodUp := max s.now t, runUp := 0 }) })

/-- R158 to R161, R164, R166: what an island does with a frame that repeats none it acted on. PING and LINK_CFG
complete: they renew its heartbeat, and a CFG's value holds from then on. EDGE_ARM completes: one in time
replaces the armed edge, an ON under the fault latch is refused, a late OFF turns a switch that is on off and a
late ON changes nothing. CANCEL completes: one of the armed edge at least a slot early removes it, any other
does nothing. STATE_OFF completes: it drops the armed edge and turns a conducting switch off, softly under OC or
SC. CLEAR completes: after the training's CFG it ends the latch, before it is ignored. OUTER_CONFIRM completes:
an island that waits for it begins its soft-off, another ignores it. Model's choices it rests on: log entry 29. -/
def Obligations.IslandsActOnFrames : Prop :=
  (∀ (s : State) (t : Time) (n : Fin 14) (seq : BitVec 3), ∃ s', exec (.ping t n seq) s = .next s' ∧
    s' = { s with
      now := max s.now t
      isl := s.isl.upd n (fun i => { i with goodDown := max s.now t, goodSeq := seq.toNat, runDown := 0, downSeen := [] }) }) ∧
  (∀ (s : State) (t : Time) (n : Fin 14) (seq : BitVec 3) (item v : Byte),
    ∃ s', exec (.linkCfg t n seq item v) s = .next s' ∧ s' = { s with now := max s.now t, isl := s'.isl } ∧
      (∀ k, (s'.island n).cfgByte k = if k = item.toNat then v.toNat else (s.island n).cfgByte k) ∧
      (s'.island n).cfgDone = ((s.island n).trained &&
        cfgItems.all (fun k => decide (k = item.toNat) || (s.island n).got.contains k)) ∧
      (s'.island n).goodDown = max s.now t ∧ (s'.island n).downSeen = [] ∧
      ∀ k : Fin 14, k ≠ n → s'.island k = s.island k) ∧
  (∀ (s : State) (t : Time) (n : Fin 14) (seq : BitVec 3) (on imm : Bool) (off : BitVec 16),
    (s.island n).repeatDown 1 seq.toNat = false → max s.now t ≤ max s.now t - slot + off.toNat →
    on = false ∨ (s.island n).latched = false →
    ∃ s', exec (.edgeArm t n seq on imm off) s = .next s' ∧ s' = { s with
      now := max s.now t
      isl := s.isl.upd n (fun i => { i with
        goodDown := max s.now t, goodSeq := seq.toNat, runDown := 0
        downSeen := ((1, seq.toNat) :: i.downSeen).take 2
        armed := some (on, imm, max s.now t - slot + off.toNat) }) }) ∧
  (∀ (s : State) (t : Time) (n : Fin 14) (seq : BitVec 3) (imm : Bool) (off : BitVec 16),
    (s.island n).repeatDown 1 seq.toNat = false → (s.island n).latched = true →
    ∃ s', exec (.edgeArm t n seq true imm off) s = .next s' ∧ s'.rd (ISL.STATUS.REFUSED n) = 1 ∧
      (∀ a, a ≠ (ISL.STATUS.REFUSED n).addr → s'.word a = s.word a) ∧
      s'.isl = s.isl.upd n (fun i => { i with
        goodDown := max s.now t, goodSeq := seq.toNat, runDown := 0
        downSeen := ((1, seq.toNat) :: i.downSeen).take 2
        armed := none, rel := none }.report (.edgeDone 2 (max s.now t)))) ∧
  (∀ (s : State) (t : Time) (n : Fin 14) (seq : BitVec 3) (on imm : Bool) (off : BitVec 16),
    (s.island n).repeatDown 1 seq.toNat = false → max s.now t - slot + off.toNat < max s.now t →
    (on = true ∧ (s.island n).latched = false) ∨ (on = false ∧ (s.island n).on = false) →
    ∃ s', exec (.edgeArm t n seq on imm off) s = .next s' ∧ s' = { s with
      now := max s.now t
      isl := s.isl.upd n (fun i => { i with
        goodDown := max s.now t, goodSeq := seq.toNat, runDown := 0
        downSeen := ((1, seq.toNat) :: i.downSeen).take 2
        armed := none, rel := none }.report (.edgeDone 2 (max s.now t))) }) ∧
  (∀ (s : State) (t : Time) (n : Fin 14) (seq : BitVec 3) (imm : Bool) (off : BitVec 16),
    (s.island n).repeatDown 1 seq.toNat = false → max s.now t - slot + off.toNat < max s.now t →
    (s.island n).on = true → (s.island n).oc = false → (s.island n).sc = false →
    ∃ s', exec (.edgeArm t n seq false imm off) s = .next s' ∧ s' = { s with
      now := max s.now t
      isl := s.isl.upd n (fun i => { i with
        goodDown := max s.now t, goodSeq := seq.toNat, runDown := 0
        downSeen := ((1, seq.toNat) :: i.downSeen).take 2
        armed := none, on := false, rel := none, scWait := none }.report (.edgeDone 0 (max s.now t))) }) ∧
  (∀ (s : State) (t : Time) (n : Fin 14) (seq : BitVec 3) (off : BitVec 16) (on imm : Bool) (te : Time),
    (s.island n).repeatDown 2 seq.toNat = false → (s.island n).armed = some (on, imm, te) →
    te = max s.now t - slot + off.toNat → max s.now t + slot ≤ te →
    ∃ s', exec (.cancel t n seq off) s = .next s' ∧ s' = { s with
      now := max s.now t
      isl := s.isl.upd n (fun i => { i with
        goodDown := max s.now t, goodSeq := seq.toNat, runDown := 0
        downSeen := ((2, seq.toNat) :: i.downSeen).take 2
        armed := none, rel := none }) }) ∧
  (∀ (s : State) (t : Time) (n : Fin 14) (seq : BitVec 3) (off : BitVec 16),
    (s.island n).repeatDown 2 seq.toNat = false →
    (∀ on imm te, (s.island n).armed = some (on, imm, te) →
      te ≠ max s.now t - slot + off.toNat ∨ te < max s.now t + slot) →
    ∃ s', exec (.cancel t n seq off) s = .next s' ∧ s' = { s with
      now := max s.now t
      isl := s.isl.upd n (fun i => { i with
        goodDown := max s.now t, goodSeq := seq.toNat, runDown := 0
        downSeen := ((2, seq.toNat) :: i.downSeen).take 2 }) }) ∧
  (∀ (s : State) (t : Time) (n : Fin 14) (seq : BitVec 3), (s.island n).repeatDown 3 seq.toNat = false →
    (s.island n).on = true → (s.island n).oc = false → (s.island n).sc = false →
    ∃ s', exec (.stateOff t n seq) s = .next s' ∧ s' = { s with
      now := max s.now t
      isl := s.isl.upd n (fun i => { i with
        goodDown := max s.now t, goodSeq := seq.toNat, runDown := 0
        downSeen := ((3, seq.toNat) :: i.downSeen).take 2
        armed := none, rel := none, on := false, scWait := none }.report (.edgeDone 0 (max s.now t))) }) ∧
  (∀ (s : State) (t : Time) (n : Fin 14) (seq : BitVec 3), (s.island n).repeatDown 3 seq.toNat = false →
    (s.island n).on = true → (s.island n).soft = none → (s.island n).oc = true ∨ (s.island n).sc = true →
    ∃ s', exec (.stateOff t n seq) s = .next s' ∧ s'.rd (ISL.STATUS.SOFT_ACTIVE n) = 1 ∧
      (s'.island n).soft = some (max s.now t) ∧ (s'.island n).on = false ∧ (s'.island n).armed = none ∧
      ∀ a, a ≠ (ISL.STATUS.SOFT_ACTIVE n).addr → s'.word a = s.word a) ∧
  (∀ (s : State) (t : Time) (n : Fin 14) (seq : BitVec 3), (s.island n).repeatDown 3 seq.toNat = false →
    (s.island n).on = false →
    ∃ s', exec (.stateOff t n seq) s = .next s' ∧ s' = { s with
      now := max s.now t
      isl := s.isl.upd n (fun i => { i with
        goodDown := max s.now t, goodSeq := seq.toNat, runDown := 0
        downSeen := ((3, seq.toNat) :: i.downSeen).take 2
        armed := none, rel := none }.report (.edgeDone 2 (max s.now t))) }) ∧
  (∀ (s : State) (t : Time) (n : Fin 14) (seq : BitVec 3), (s.island n).repeatDown 3 seq.toNat = false →
    (s.island n).cfgDone = true →
    ∃ s', exec (.clear t n seq) s = .next s' ∧ s'.rd (ISL.STATUS.FAULT_LATCH n) = 0 ∧
      s'.bitOf ISL.SUMMARY.FAULT n = false ∧
      s'.isl = s.isl.upd n (fun i => { i with
        goodDown := max s.now t, goodSeq := seq.toNat, runDown := 0
        downSeen := ((3, seq.toNat) :: i.downSeen).take 2
        latched := false, held := false, scLatch := false, wantConfirm := false })) ∧
  (∀ (s : State) (t : Time) (n : Fin 14) (seq : BitVec 3), (s.island n).repeatDown 3 seq.toNat = false →
    (s.island n).cfgDone = false →
    ∃ s', exec (.clear t n seq) s = .next s' ∧ s' = { s with
      now := max s.now t
      isl := s.isl.upd n (fun i => { i with
        goodDown := max s.now t, goodSeq := seq.toNat, runDown := 0
        downSeen := ((3, seq.toNat) :: i.downSeen).take 2 }) }) ∧
  (∀ (s : State) (t : Time) (n : Fin 14) (seq : BitVec 3) (t0 : Time), (s.island n).repeatDown 3 seq.toNat = false →
    (s.island n).scWait = some t0 → (s.island n).soft = none → (s.island n).on = true →
    ∃ s', exec (.outerConfirm t n seq) s = .next s' ∧ s'.rd (ISL.STATUS.SOFT_ACTIVE n) = 1 ∧
      (∀ a, a ≠ (ISL.STATUS.SOFT_ACTIVE n).addr → s'.word a = s.word a) ∧
      s'.isl = s.isl.upd n (fun i => { i with
        goodDown := max s.now t, goodSeq := seq.toNat, runDown := 0
        downSeen := ((3, seq.toNat) :: i.downSeen).take 2
        scWait := none, soft := some (max s.now t), on := false, rel := none }.report (.edgeDone 0 (max s.now t)))) ∧
  (∀ (s : State) (t : Time) (n : Fin 14) (seq : BitVec 3), (s.island n).repeatDown 3 seq.toNat = false →
    (s.island n).scWait = none →
    ∃ s', exec (.outerConfirm t n seq) s = .next s' ∧ s' = { s with
      now := max s.now t
      isl := s.isl.upd n (fun i => { i with
        goodDown := max s.now t, goodSeq := seq.toNat, runDown := 0
        downSeen := ((3, seq.toNat) :: i.downSeen).take 2 }) })

/-- R158, R162 to R164, R169, R170: what the primary does with a report it takes. IDLE completes: the frames it
echoes are confirmed, and the last CFG item of a training brings the link up. EDGE_DONE completes: the switch
shows and is counted; a no change leaves both. SOFT_DONE completes: it ends the soft-off. MEAS completes: its
value shows, but on a lost link. VCE_TIME completes: its time is held, and a fall ends the run of misses. NAK,
and LINK_RESEND_TIMEOUT once an echo is 200 ns late, complete: the CFG or PING of that SEQ is sent once more;
one sent again already is not. R153, R158, R163, R166, R446: FAULT_FRAME completes for a report not yet taken.
On a link not lost its level bits show, its rising ones as events, and a low-supply bit that rises forces the
group's trip; on a lost link the levels stand. An SC bit latches the island, counts, and asserts source 28. A
DOUBLE_FAIL or LINK_LOST bit loses a trained link. Model's choices it rests on: log entry 29. -/
def Obligations.PrimaryTakesReportsAndFaults : Prop :=
  (∀ (s : State) (t : Time) (n : Fin 14) (seq echo : BitVec 3),
    (s.island n).joined = false ∨ s.on (ISL.STATUS.LINK_UP n) = true →
    ∃ s', exec (.idle t n seq echo) s = .next s' ∧ s' = { s with now := max s.now t, isl := s'.isl } ∧
      (s'.island n).echoes = (s.island n).echoes.filter (fun e => decide (e.seq ≠ echo.toNat)) ∧
      (s'.island n).goodUp = max s.now t ∧ (s'.island n).runUp = 0 ∧ (s'.island n).upSeen = none ∧
      ∀ k : Fin 14, k ≠ n → s'.island k = s.island k) ∧
  (∀ (s : State) (t : Time) (n : Fin 14) (seq echo : BitVec 3), (s.island n).joined = true →
    s.on (ISL.STATUS.LINK_UP n) = false →
    (∀ k ∈ (s.island n).cfgTodo, ∃ e ∈ (s.island n).echoes, e.seq = echo.toNat ∧ ∃ v, e.frame = .cfg k v) →
    ∃ s', exec (.idle t n seq echo) s = .next s' ∧ s'.rd (ISL.STATUS.LINK_UP n) = 1 ∧
      s'.bitOf ISL.SUMMARY.LINK_UP n = true ∧ (s'.island n).cfgTodo = []) ∧
  (∀ (s : State) (t : Time) (n : Fin 14) (seq : BitVec 3) (back : BitVec 16), (s.island n).upSeen ≠ some (1, seq.toNat) →
    ∃ s', exec (.edgeDone t n seq 0 back) s = .next s' ∧ s'.rd (ISL.STATUS.ON n) = 0 ∧
      s'.rd (ISL.EDGES.OFF_CNT n) = (s.rd (ISL.EDGES.OFF_CNT n) + 1) % 2 ^ (ISL.EDGES.OFF_CNT n).width ∧
      s'.rd (ISL.EDGES.ON_CNT n) = s.rd (ISL.EDGES.ON_CNT n)) ∧
  (∀ (s : State) (t : Time) (n : Fin 14) (seq : BitVec 3) (back : BitVec 16), (s.island n).upSeen ≠ some (1, seq.toNat) →
    ∃ s', exec (.edgeDone t n seq 1 back) s = .next s' ∧ s'.rd (ISL.STATUS.ON n) = 1 ∧
      s'.rd (ISL.EDGES.ON_CNT n) = (s.rd (ISL.EDGES.ON_CNT n) + 1) % 2 ^ (ISL.EDGES.ON_CNT n).width ∧
      s'.rd (ISL.EDGES.OFF_CNT n) = s.rd (ISL.EDGES.OFF_CNT n) ∧ (s'.island n).offDone = false) ∧
  (∀ (s : State) (t : Time) (n : Fin 14) (seq : BitVec 3) (back : BitVec 16), (s.island n).upSeen ≠ some (1, seq.toNat) →
    ∃ s', exec (.edgeDone t n seq 2 back) s = .next s' ∧ s'.regs = s.regs) ∧
  (∀ (s : State) (t : Time) (n : Fin 14) (seq : BitVec 3) (back : BitVec 16), (s.island n).upSeen ≠ some (4, seq.toNat) →
    ∃ s', exec (.softDone t n seq back) s = .next s' ∧ s'.rd (ISL.STATUS.SOFT_ACTIVE n) = 0 ∧
      (s'.island n).offDone = true ∧ (s'.island n).softAt = some (max s.now t - slot - back.toNat) ∧
      ∀ a, a ≠ (ISL.STATUS.SOFT_ACTIVE n).addr → s'.word a = s.word a) ∧
  (∀ (s : State) (t : Time) (n : Fin 14) (seq : BitVec 3) (kind : Fin 3) (val : BitVec 16), (s.island n).muted = false →
    ∃ s', exec (.meas t n seq kind val) s = .next s' ∧
      s'.rd (if kind = 0 then ISL.TEMP.VALUE n else if kind = 1 then ISL.SUPPLY.VP n else ISL.SUPPLY.VN n) =
        (if kind = 0 then (q16 val.toInt 100).toNat else val.toNat) ∧
      s'.isl = s.isl.upd n (fun i => { i with goodUp := max s.now t, runUp := 0, upSeen := none }) ∧
      ∀ a, a ≠ (ISL.TEMP.VALUE n).addr → a ≠ (ISL.SUPPLY.VP n).addr → s'.word a = s.word a) ∧
  (∀ (s : State) (t : Time) (n : Fin 14) (seq : BitVec 3) (kind : Fin 3) (val : BitVec 16), (s.island n).muted = true →
    ∃ s', exec (.meas t n seq kind val) s = .next s' ∧ s' = { s with
      now := max s.now t
      isl := s.isl.upd n (fun i => { i with goodUp := max s.now t, runUp := 0, upSeen := none }) }) ∧
  (∀ (s : State) (t : Time) (n : Fin 14) (seq : BitVec 3) (rise : Bool) (back : BitVec 16),
    ∃ s', exec (.vceTime t n seq rise back) s = .next s' ∧ s' = { s with
      now := max s.now t
      isl := s.isl.upd n (fun i => { i with
        goodUp := max s.now t, runUp := 0, upSeen := none
        vceAt := some (rise, max s.now t - slot - back.toNat) })
      cu := if rise then s.cu else s.cu.upd (islandUnit n) (fun u => { u with missRun := 0 }) }) ∧
  (∀ (s : State) (t : Time) (n : Fin 14) (seq failed : BitVec 3) (e : Echo),
    (s.island n).echoes.find? (fun e => decide (e.seq = failed.toNat)) = some e → e.resent = false →
    ∃ s', exec (.nak t n seq failed) s = .next s' ∧
      (s'.island n).txq = { frame := e.frame, seq := e.seq, sent := true } :: (s.island n).txq ∧
      s'.rd (ISL.LINKCNT.RESEND n) = min (2 ^ (ISL.LINKCNT.RESEND n).width - 1) (s.rd (ISL.LINKCNT.RESEND n) + 1) ∧
      (s'.island n).echoes = (s.island n).echoes.filter (fun x => decide (x.seq ≠ failed.toNat))) ∧
  (∀ (s : State) (t : Time) (n : Fin 14) (seq : BitVec 3) (e : Echo),
    (s.island n).echoes.find? (fun e => decide (e.seq = seq.toNat)) = some e → e.resent = false →
    e.done + 200 * us / 1000 ≤ max s.now t →
    ∃ s', exec (.linkResendTimeout t n seq) s = .next s' ∧
      (s'.island n).txq = { frame := e.frame, seq := e.seq, sent := true } :: (s.island n).txq ∧
      s'.rd (ISL.LINKCNT.RESEND n) = min (2 ^ (ISL.LINKCNT.RESEND n).width - 1) (s.rd (ISL.LINKCNT.RESEND n) + 1)) ∧
  (∀ (s : State) (t : Time) (n : Fin 14) (seq : BitVec 3) (e : Echo),
    (s.island n).echoes.find? (fun e => decide (e.seq = seq.toNat)) = some e → e.resent = true →
    ∃ s', exec (.linkResendTimeout t n seq) s = .next s' ∧ s' = { s with now := max s.now t }) ∧
  (∀ (s : State) (t : Time) (n : Fin 14) (seq : BitVec 3) (bits : Byte), (s.island n).upSeen ≠ some (3, seq.toNat) →
    (s.island n).muted = false →
    ∃ s', exec (.faultFrame t n seq bits) s = .next s' ∧
      s'.on (ISL.STATUS.OC_NOW n) = bits.getLsbD 1 ∧ s'.on (ISL.STATUS.UVLO_NOW n) = bits.getLsbD 2 ∧
      s'.on (ISL.STATUS.WARN_NOW n) = bits.getLsbD 3 ∧ s'.on (ISL.STATUS.OT_NOW n) = bits.getLsbD 4 ∧
      (bits.getLsbD 1 = true → s.on (ISL.STATUS.OC_NOW n) = false → s'.rd (ISL.STATUS.OC n) = 1) ∧
      (bits.getLsbD 3 = true → s.on (ISL.STATUS.WARN_NOW n) = false → s'.latchOn 31 = true ∧
        s'.trip.forced31 &&& islandGroup n = islandGroup n)) ∧
  (∀ (s : State) (t : Time) (n : Fin 14) (seq : BitVec 3) (bits : Byte), (s.island n).upSeen ≠ some (3, seq.toNat) →
    (s.island n).muted = true →
    ∃ s', exec (.faultFrame t n seq bits) s = .next s' ∧
      ∀ f ∈ [ISL.STATUS.OC_NOW n, ISL.STATUS.UVLO_NOW n, ISL.STATUS.WARN_NOW n, ISL.STATUS.OT_NOW n],
        s'.rd f = s.rd f) ∧
  (∀ (s : State) (t : Time) (n : Fin 14) (seq : BitVec 3) (bits : Byte), (s.island n).upSeen ≠ some (3, seq.toNat) →
    bits.getLsbD 0 = true →
    ∃ s', exec (.faultFrame t n seq bits) s = .next s' ∧ s'.rd (ISL.STATUS.SC n) = 1 ∧
      s'.rd (ISL.STATUS.FAULT_LATCH n) = 1 ∧ s'.bitOf ISL.SUMMARY.FAULT n = true ∧ (s'.island n).scLatch = true ∧
      s'.srcOn 28 = true ∧
      s'.rd (FLT.CLASS_CNT.COUNT 0x11) = min (2 ^ 32 - 1) (s.rd (FLT.CLASS_CNT.COUNT 0x11) + 1)) ∧
  (∀ (s : State) (t : Time) (n : Fin 14) (seq : BitVec 3) (bits : Byte), (s.island n).upSeen ≠ some (3, seq.toNat) →
    (s.island n).joined = true → bits.getLsbD 5 = true ∨ bits.getLsbD 7 = true →
    ∃ s', exec (.faultFrame t n seq bits) s = .next s' ∧ s'.rd (ISL.STATUS.LINK_LOSS n) = 1 ∧
      s'.rd (ISL.STATUS.LINK_UP n) = 0 ∧ (s'.island n).muted = true ∧ s'.srcOn 34 = true)

/-- R158, R162 to R164: LINK_CRC_ERROR completes: a frame that fails its CRC is counted, and the island answers it
with NAK; a good one of a reserved type is counted and renews the heartbeat; another is no error.
LINK_DOUBLE_FAIL completes: the island reports the second failure in a row; at the primary it loses a trained
link. LINK_LOSS_DETECT completes once 2 µs have passed without a good frame: a trained link is lost and muted,
source 34 asserts and the group's trip is forced. ISLAND_HEARTBEAT_EXPIRY completes at its time on a link that
had trained: the island latches, turns off and reports it. LINK_TRAINED completes for an island in training with
good supplies: every CFG item is sent to it, held off; else nothing happens. Model's choices it rests on: log
entry 29. -/
def Obligations.LinksFailAndTrain : Prop :=
  (∀ (s : State) (t : Time) (n : Fin 14) (w : Word), frameGood w = false →
    ∃ s', exec (.linkCrcError t n true w) s = .next s' ∧
    s'.rd (ISL.LINKCNT.CRC_ERR n) =
      min (2 ^ (ISL.LINKCNT.CRC_ERR n).width - 1) (s.rd (ISL.LINKCNT.CRC_ERR n) + 1) ∧
    s'.isl = s.isl.upd n (fun i => { i with
      badDown := max s.now t / slot
      runDown := if i.badDown + 1 = max s.now t / slot then i.runDown + 1 else 1 }.report (.nak ((i.goodSeq + 1) % 8)))) ∧
  (∀ (s : State) (t : Time) (n : Fin 14) (w : Word), frameGood w = false →
    ∃ s', exec (.linkCrcError t n false w) s = .next s' ∧
    s'.rd (ISL.LINKCNT.CRC_ERR n) =
      min (2 ^ (ISL.LINKCNT.CRC_ERR n).width - 1) (s.rd (ISL.LINKCNT.CRC_ERR n) + 1) ∧
    s'.isl = s.isl.upd n (fun i => { i with
      badUp := max s.now t / slot, runUp := if i.badUp + 1 = max s.now t / slot then i.runUp + 1 else 1 })) ∧
  (∀ (s : State) (t : Time) (n : Fin 14) (b : Bool) (w : Word), frameGood w = true → frameReserved b w = true →
    ∃ s', exec (.linkCrcError t n b w) s = .next s' ∧
    s'.rd (ISL.LINKCNT.CRC_ERR n) =
      min (2 ^ (ISL.LINKCNT.CRC_ERR n).width - 1) (s.rd (ISL.LINKCNT.CRC_ERR n) + 1) ∧
    s'.isl = s.isl.upd n (fun i => if b then { i with goodDown := max s.now t }
      else { i with goodUp := max s.now t, runUp := 0 })) ∧
  (∀ (s : State) (t : Time) (n : Fin 14) (b : Bool) (w : Word), frameGood w = true → frameReserved b w = false →
    ∃ s', exec (.linkCrcError t n b w) s = .next s' ∧ s' = { s with now := max s.now t }) ∧
  (∀ (s : State) (t : Time) (n : Fin 14) (cfgTwice : Bool),
    2 ≤ (s.island n).runDown ∨ (cfgTwice = true ∧ (s.island n).echoes.any (·.resent) = true) →
    ∃ s', exec (.linkDoubleFail t n true cfgTwice) s = .next s' ∧ s' = { s with
      now := max s.now t
      isl := s.isl.upd n (fun i => { i with runDown := 0 }.faultReport fbDOUBLE) }) ∧
  (∀ (s : State) (t : Time) (n : Fin 14) (cfgTwice : Bool), 2 ≤ (s.island n).runUp → (s.island n).joined = true →
    ∃ s', exec (.linkDoubleFail t n false cfgTwice) s = .next s' ∧ s'.rd (ISL.STATUS.DOUBLE_FAIL n) = 1 ∧
      s'.rd (ISL.STATUS.LINK_LOSS n) = 1 ∧ s'.rd (ISL.STATUS.LINK_UP n) = 0 ∧ (s'.island n).muted = true ∧
      s'.latchOn 34 = true) ∧
  (∀ (s : State) (t : Time) (n : Fin 14), (s.island n).goodUp + 2 * us ≤ max s.now t → (s.island n).joined = true →
    ∃ s', exec (.linkLossDetect t n) s = .next s' ∧ s'.rd (ISL.STATUS.LINK_LOSS n) = 1 ∧
      s'.rd (ISL.STATUS.LINK_UP n) = 0 ∧ s'.bitOf ISL.SUMMARY.LINK_UP n = false ∧ (s'.island n).muted = true ∧
      (s'.island n).joined = false ∧ s'.srcOn 34 = true ∧ s'.latchOn 34 = true ∧
      s'.trip.forced34 &&& islandGroup n = islandGroup n ∧
      s'.rd (FLT.CLASS_CNT.COUNT 0x10) = min (2 ^ 32 - 1) (s.rd (FLT.CLASS_CNT.COUNT 0x10) + 1)) ∧
  (∀ (s : State) (t : Time) (n : Fin 14), (s.island n).linked = true →
    (s.island n).goodDown + s.selfOffTime n ≤ max s.now t →
    ∃ s', exec (.islandHeartbeatExpiry t n) s = .next s' ∧ s'.rd (ISL.STATUS.SELF_OFF n) = 1 ∧
      s'.rd (ISL.STATUS.FAULT_LATCH n) = 1 ∧ s'.bitOf ISL.SUMMARY.FAULT n = true ∧ (s'.island n).on =
        ((s.island n).on && (s.island n).soft.isSome) ∧
      (s'.island n).latched = true ∧ (s'.island n).armed = none ∧ (s'.island n).lost = true ∧
      ((s.island n).on = true → (s.island n).soft = none →
        s'.rd (ISL.STATUS.SOFT_ACTIVE n) = 1 ∧ (s'.island n).soft = some (max s.now t))) ∧
  (∀ (s : State) (t : Time) (n : Fin 14), (s.island n).training = true → (s.island n).goodSince.isSome = true →
    ∃ s', exec (.linkTrained t n) s = .next s' ∧ s' = { s with now := max s.now t, isl := s'.isl } ∧
      (s'.island n).trained = true ∧ (s'.island n).joined = true ∧ (s'.island n).held = true ∧
      (s'.island n).muted = false ∧ (s'.island n).training = false ∧ (s'.island n).cfgDone = false ∧
      (s'.island n).cfgTodo = cfgItems ∧
      (s'.island n).txq.map (·.frame) = cfgItems.map (fun k => .cfg k (s.cfgValue n k))) ∧
  (∀ (s : State) (t : Time) (n : Fin 14), (s.island n).training = false ∨ (s.island n).goodSince = none →
    ∃ s', exec (.linkTrained t n) s = .next s' ∧ s' = { s with now := max s.now t })

/-- R153, R156, R161, R165, R166, R169, R170: what an island does by itself. ISLAND_EDGE_EXECUTE completes at the
edge's instant: the switch turns, a non-immediate ON begins its release, an edge to the present level is no
change. ISLAND_SC_DETECT, enabled, completes: the island latches and reports, and turns off softly or, inner,
waits. ISLAND_OC_DETECT, BLANKING_END and ISLAND_OC_CLEAR complete: an overload is reported, after blanking, and
clears. INNER_SC_TIMEOUT and SOFT_OFF_END complete at their times. ISLAND_UV_WARN, ISLAND_UVLO,
ISLAND_SUPPLY_RECOVERY, ISLAND_OT, ISLAND_OT_CLEAR, VCE_TRANSITION (enabled) and ISLAND_MEAS_REPORT (trained, at
its period) complete: the change is reported. Model's choices it rests on: log entries 5 and 29. -/
def Obligations.IslandsActByThemselves : Prop :=
  (∀ (s : State) (t : Time) (n : Fin 14) (imm : Bool) (te : Time), (s.island n).armed = some (true, imm, te) →
    te ≤ max s.now t → (s.island n).on = false → (s.at' t).acceptsOn n = true →
    ∃ s', exec (.islandEdgeExecute t n) s = .next s' ∧ s' = { s with
      now := max s.now t
      isl := s.isl.upd n (fun i => if imm then { i with
          armed := none, on := true, rel := none
          blankEnd := max s.now t + (s.islRd n (ISL.SENSE.BLANK n) + 1) * (us / 2)
          ocWait := false }.report (.edgeDone 1 (max s.now t))
        else { i with armed := none, rel := some { te := te, out := n } }) }) ∧
  (∀ (s : State) (t : Time) (n : Fin 14) (imm : Bool) (te : Time), (s.island n).armed = some (false, imm, te) →
    te ≤ max s.now t → (s.island n).on = true → (s.island n).oc = false → (s.island n).sc = false →
    ∃ s', exec (.islandEdgeExecute t n) s = .next s' ∧ s' = { s with
      now := max s.now t
      isl := s.isl.upd n (fun i => { i with
        armed := none, on := false, rel := none, scWait := none }.report (.edgeDone 0 (max s.now t))) }) ∧
  (∀ (s : State) (t : Time) (n : Fin 14) (on imm : Bool) (te : Time), (s.island n).armed = some (on, imm, te) →
    te ≤ max s.now t → (s.island n).on = on →
    ∃ s', exec (.islandEdgeExecute t n) s = .next s' ∧ s' = { s with
      now := max s.now t
      isl := s.isl.upd n (fun i => { i with armed := none, rel := none }.report (.edgeDone 2 (max s.now t))) }) ∧
  (∀ (s : State) (t : Time) (n : Fin 14), s.islRd n (ISL.SENSE.SNS_EN n) ≠ 0 → isInner n = true →
    ∃ s', exec (.islandScDetect t n) s = .next s' ∧ s' = { s with
      now := max s.now t
      isl := s.isl.upd n (fun i => { { i with
        armed := none, rel := none, sc := true, latched := true }.faultReport fbSC with
        scWait := i.scWait.or (some (max s.now t)) }) }) ∧
  (∀ (s : State) (t : Time) (n : Fin 14), s.islRd n (ISL.SENSE.SNS_EN n) ≠ 0 → isInner n = false →
    ∃ s', exec (.islandScDetect t n) s = .next s' ∧ (s'.island n).latched = true ∧ (s'.island n).sc = true ∧
      (s'.island n).armed = none ∧ ((s.island n).on = true → (s.island n).soft = none →
        s'.rd (ISL.STATUS.SOFT_ACTIVE n) = 1 ∧ (s'.island n).soft = some (max s.now t) ∧ (s'.island n).on = false) ∧
      ∀ a, a ≠ (ISL.STATUS.SOFT_ACTIVE n).addr → s'.word a = s.word a) ∧
  (∀ (s : State) (t : Time) (n : Fin 14), s.islRd n (ISL.SENSE.SNS_EN n) ≠ 0 → (s.island n).oc = false →
    ∃ s', exec (.islandOcDetect t n) s = .next s' ∧ s' = { s with
      now := max s.now t
      isl := s.isl.upd n (fun i => if max s.now t < i.blankEnd then { i with ocWait := true }
        else { i with oc := true, ocWait := false }.faultReport 0) }) ∧
  (∀ (s : State) (t : Time) (n : Fin 14), (s.island n).ocWait = true → (s.island n).blankEnd ≤ max s.now t →
    ∃ s', exec (.blankingEnd t n) s = .next s' ∧ s' = { s with
      now := max s.now t
      isl := s.isl.upd n (fun i => { i with oc := true, ocWait := false }.faultReport 0) }) ∧
  (∀ (s : State) (t : Time) (n : Fin 14),
    ∃ s', exec (.islandOcClear t n) s = .next s' ∧ s' = { s with
      now := max s.now t
      isl := s.isl.upd n (fun i => if i.oc then { i with oc := false, ocWait := false, sc := false }.faultReport 0
        else { i with oc := false, ocWait := false, sc := false }) }) ∧
  (∀ (s : State) (t : Time) (n : Fin 14) (t0 : Time), (s.island n).scWait = some t0 → t0 + 2 * us ≤ max s.now t →
    (s.island n).on = true → (s.island n).soft = none →
    ∃ s', exec (.innerScTimeout t n) s = .next s' ∧ s'.rd (ISL.STATUS.SOFT_ACTIVE n) = 1 ∧
      s'.isl = s.isl.upd n (fun i => { { i with scWait := none }.faultReport fbINNER with
        soft := some (max s.now t), on := false, rel := none }.report (.edgeDone 0 (max s.now t))) ∧
      ∀ a, a ≠ (ISL.STATUS.SOFT_ACTIVE n).addr → s'.word a = s.word a) ∧
  (∀ (s : State) (t : Time) (n : Fin 14) (t0 : Time), (s.island n).soft = some t0 →
    t0 + s.islRd n (ISL.TIMING.SOFT_T n) * us / 10 ≤ max s.now t →
    ∃ s', exec (.softOffEnd t n) s = .next s' ∧ s' = { s with
      now := max s.now t
      isl := s.isl.upd n (fun i => { i with soft := none, sc := false }.report (.softDone (max s.now t))) }) ∧
  (∀ (s : State) (t : Time) (n : Fin 14),
    ∃ s', exec (.islandUvWarn t n) s = .next s' ∧ s' = { s with
      now := max s.now t
      isl := s.isl.upd n (fun i => if i.warn then i else { i with warn := true }.faultReport 0) }) ∧
  (∀ (s : State) (t : Time) (n : Fin 14), (s.island n).uvlo = false → (s.island n).on = true →
    (s.island n).soft = none →
    ∃ s', exec (.islandUvlo t n) s = .next s' ∧ (s'.island n).uvlo = true ∧ (s'.island n).warn = true ∧
      (s'.island n).latched = true ∧
      (s'.island n).armed = none ∧ (s'.island n).on = false ∧ (s'.island n).soft = some (max s.now t) ∧
      (s'.island n).goodSince = none ∧ s'.rd (ISL.STATUS.SOFT_ACTIVE n) = 1) ∧
  (∀ (s : State) (t : Time) (n : Fin 14) (warning : Bool),
    ∃ s', exec (.islandSupplyRecovery t n warning) s = .next s' ∧ s'.regs = s.regs ∧ (s'.island n).uvlo = false ∧
      (s'.island n).warn = (if warning then false else (s.island n).warn) ∧
      (s'.island n).goodSince = ((s.island n).goodSince.or (some (max s.now t)))) ∧
  (∀ (s : State) (t : Time) (n : Fin 14) (rise : Bool), s.islRd n (ISL.CFG.VCE_EN n) = 1 →
    ∃ s', exec (.vceTransition t n rise) s = .next s' ∧ s' = { s with
      now := max s.now t
      isl := s.isl.upd n (fun i => { i with
        rel := i.rel.map (fun r => if rise then r else { r with tr := r.tr.or (some (max s.now t)) }) }.report
          (.vceTime rise (max s.now t))) }) ∧
  (∀ (s : State) (t : Time) (n : Fin 14) (kind : Fin 3) (val : Word), (s.island n).trained = true →
    (if kind = 0 then (s.island n).measAt.1 + ms else if kind = 1 then (s.island n).measAt.2.1 + 100 * us
      else (s.island n).measAt.2.2 + 100 * us) ≤ max s.now t →
    ∃ s', exec (.islandMeasReport t n kind val) s = .next s' ∧ s' = { s with now := max s.now t, isl := s'.isl } ∧
      (s'.island n).upq = (s.island n).upq ++ [{
        seq := (s.island n).upSeq
        frame := .meas kind (if kind = 0 then
            (thermistor (s.islRd n (ISL.NTC.NTC_B n)) (s.islRd n (ISL.NTC.NTC_NOM n)) val.toNat % 65536).toNat
          else min 65535 val.toNat) }]) ∧
  (∀ (s : State) (t : Time) (n : Fin 14), ∃ s', exec (.islandOt t n) s = .next s' ∧ s' = { s with
      now := max s.now t
      isl := s.isl.upd n (fun i => if i.ot then i else { i with ot := true }.faultReport 0) }) ∧
  (∀ (s : State) (t : Time) (n : Fin 14), ∃ s', exec (.islandOtClear t n) s = .next s' ∧ s' = { s with
      now := max s.now t
      isl := s.isl.upd n (fun i => if i.ot then { i with ot := false }.faultReport 0 else i) })

/-- R196, R199, R200, R211, R212. FEED_MODE_WRITE completes where the feed is in OFF, WAIT or FAULT: a legal MODE,
SWEEP_EN and VSRC are taken, MODE 0 goes to OFF, MODE 1 or 2 from OFF to WAIT; MODE 3, or a MODE without a power
flow, is kept out with CFG_ERR; in START, RUN and STOPPING nothing is taken and CFG_ERR sets. FEED_START
completes where the conditions of R199 hold: START from the feed's own voltage, its channel released unless its
measurement still blocks it. FEED_REFERENCE_REACHED completes where v_track is at the start's target: RUN with a
fresh ripple window. FEED_LOW_POWER completes where P_STOP was not reached for T_STOP in mode 1: STOPPING with a
soft ramp, a running sweep aborted. FEED_CURRENT_GONE completes where the current was gone for 1 ms: WAIT,
channel OFF, outputs low. FIX_WRITE completes: the word, in effect from the tick, and the watchdog anew; a VFIX
out of range is left as it was. FIX_WATCHDOG_EXPIRY completes where FIX_WD passed without a write in mode 2: the
feed stops. Model's choices it rests on: log entries 5 and 33. -/
def Obligations.FeedsStartRunAndStop : Prop :=
  (∀ (s : State) (t : Time) (k : Fin 8) (v : Word), s.feedSt k = 0 ∨ s.feedSt k = 1 ∨ s.feedSt k = 5 →
    getField v (FED.CFG.MODE k) ≠ 3 → getField v (FED.CFG.MODE k) = 0 ∨ s.rd (SYS.RAT_PF.PF k) ≠ 0 →
    ∃ s', exec (.feedModeWrite t k v) s = .next s' ∧
      s'.feedSt k = (if getField v (FED.CFG.MODE k) = 0 then 0 else if s.feedSt k = 0 then 1 else s.feedSt k) ∧
      s'.rd (FED.CFG.MODE k) = getField v (FED.CFG.MODE k) ∧
      s'.rd (FED.CFG.SWEEP_EN k) = getField v (FED.CFG.SWEEP_EN k) ∧
      s'.rd (FED.CFG.VSRC k) = (if getField v (FED.CFG.VSRC k) ≤ 39 then getField v (FED.CFG.VSRC k)
        else s.rd (FED.CFG.VSRC k)) ∧
      s'.rd FED.STATUS.CFG_ERR = (if getField v (FED.CFG.VSRC k) ≤ 39 then s.rd FED.STATUS.CFG_ERR else 1) ∧
      ∀ a, a ≠ (FED.CFG.MODE k).addr → a ≠ (FED.STATE.STATE k).addr → a ≠ FED.STATUS.CFG_ERR.addr →
        s'.word a = s.word a) ∧
  (∀ (s : State) (t : Time) (k : Fin 8) (v : Word), s.feedSt k = 0 ∨ s.feedSt k = 1 ∨ s.feedSt k = 5 →
    getField v (FED.CFG.MODE k) = 3 ∨ (getField v (FED.CFG.MODE k) ≠ 0 ∧ s.rd (SYS.RAT_PF.PF k) = 0) →
    ∃ s', exec (.feedModeWrite t k v) s = .next s' ∧ s'.feedSt k = s.feedSt k ∧ s'.feeds = s.feeds ∧
      s'.rd (FED.CFG.MODE k) = s.rd (FED.CFG.MODE k) ∧ s'.rd FED.STATUS.CFG_ERR = 1) ∧
  (∀ (s : State) (t : Time) (k : Fin 8) (v : Word), s.feedSt k ≠ 0 → s.feedSt k ≠ 1 → s.feedSt k ≠ 5 →
    ∃ s', exec (.feedModeWrite t k v) s = .next s' ∧ s'.rd FED.STATUS.CFG_ERR = 1 ∧ s'.feeds = s.feeds ∧
      ∀ a, a ≠ FED.STATUS.CFG_ERR.addr → s'.word a = s.word a) ∧
  (∀ (s : State) (t : Time) (k : Fin 8), (s.at' t).feedReady k = true →
    ∃ s', exec (.feedStart t k) s = .next s' ∧ s'.feedSt k = 2 ∧
      s'.feeds = s.feeds.upd k (fun f => { f with
        vTrack := (s.feedV k).fix * 2 ^ 28
        vStart := (s.feedV k).fix
        afterLow := false, ovRun := 0, revRun := 0 }) ∧
      (s.staysBlocked (k + 3) = false → s'.rd (BND.CH.STATE.BLOCKED (k + 3)) = 0 ∧
        s'.rd (BND.CH.STATE.TRIPPED (k + 3)) = 0 ∧ (s'.leg (k + 3)).released = true) ∧
      (s.staysBlocked (k + 3) = true → s'.band = s.band ∧ s'.rd (BND.CH.STATE.BLOCKED (k + 3)) =
        s.rd (BND.CH.STATE.BLOCKED (k + 3)))) ∧
  (∀ (s : State) (t : Time) (k : Fin 8), s.feedSt k = 2 → (s.feed k).vTrack = s.startTarget k →
    ∃ s', exec (.feedReferenceReached t k) s = .next s' ∧ s'.feedSt k = 3 ∧ s'.bitOf FED.STATUS.RUNNING k = true ∧
      s'.feeds = s.feeds.upd k (fun f => { f.freshWindow (max s.now t) with ready := [] }) ∧
      s'.due (.feedRun k) 0 = true) ∧
  (∀ (s : State) (t : Time) (k : Fin 8), s.feedSt k = 2 ∨ s.feedSt k = 3 → s.rd (FED.CFG.MODE k) = 1 →
    (s.at' t).due (.feedLow k) (s.rd (FED.STOP.T_STOP k) * sec) = true →
    ∃ s', exec (.feedLowPower t k) s = .next s' ∧ s'.feedSt k = 4 ∧ s'.bitOf FED.STATUS.RUNNING k = false ∧
      (s'.feed k).sweep = .none ∧ s'.rd (FED.STATE.SWEEPING k) = 0 ∧ (s'.feed k).afterLow = true ∧
      (∀ (r : Nat) (vOp pOp vHi vLo : Int), (s.feed k).sweep = .path r vOp pOp vHi vLo →
        s'.rd (FED.STATE.CLASS k) = 4 ∧ s'.rd (FED.EVT.SWEEP_ABORT k) = 1) ∧
      ((s.feed k).sweep = .none → s'.feeds = s.feeds.upd k (fun f => { f with afterLow := true })) ∧
      s'.band = { s.band with legs := s.band.legs.upd (k.val + 3) (fun b => { b with soft := true }) }) ∧
  (∀ (s : State) (t : Time) (k : Fin 8) (t0 : Time), s.feedSt k = 4 → (s.feed k).gone = some t0 →
    t0 + ms ≤ max s.now t →
    ∃ s', exec (.feedCurrentGone t k) s = .next s' ∧ s'.feedSt k = 1 ∧
      s'.feeds = s.feeds.upd k (fun f => { f with waitAt := max s.now t, fixNew := false }) ∧
      s'.rd (BND.CH.STATE.LEVEL (k + 3)) = 3 ∧ (s'.leg (k + 3)).released = false ∧
      s'.bitOf PWM.OUT.FD (2 * k) = false ∧ s'.bitOf PWM.OUT.FD (2 * k + 1) = false) ∧
  (∀ (s : State) (t : Time) (k : Fin 8) (v : Word),
    getField v (FED.FIX.VFIX k) = 0 ∨ (3000 ≤ getField v (FED.FIX.VFIX k) ∧ getField v (FED.FIX.VFIX k) ≤ 9500) →
    ∃ s', exec (.fixWrite t k v) s = .next s' ∧ s'.word (FED.FIX.VFIX k).addr = v ∧ s'.due (.feedFix k) 0 = true ∧
      s'.feeds = s.feeds.upd k (fun f => { f with fixNew := true }) ∧
      s'.pend = s.pend ++ [{ space := .reg, addr := (FED.FIX.VFIX k).addr, val := v, cycle := (s.at' t).cycle }] ∧
      ∀ a, a ≠ (FED.FIX.VFIX k).addr → s'.word a = s.word a) ∧
  (∀ (s : State) (t : Time) (k : Fin 8) (v : Word), getField v (FED.FIX.VFIX k) ≠ 0 →
    getField v (FED.FIX.VFIX k) < 3000 ∨ 9500 < getField v (FED.FIX.VFIX k) →
    ∃ s', exec (.fixWrite t k v) s = .next s' ∧ s'.rd FED.STATUS.CFG_ERR = 1 ∧ s'.feeds = s.feeds ∧
      s'.rd (FED.FIX.VFIX k) = s.rd (FED.FIX.VFIX k) ∧ s'.due (.feedFix k) 0 = true ∧
      s'.word (FED.FIX.VFIX k).addr &&& 0xFFFF = v &&& 0xFFFF ∧
      ∀ a, a ≠ FED.STATUS.CFG_ERR.addr → a ≠ (FED.FIX.VFIX k).addr → s'.word a = s.word a) ∧
  (∀ (s : State) (t : Time) (k : Fin 8), s.feedSt k = 2 ∨ s.feedSt k = 3 → s.rd (FED.CFG.MODE k) = 2 →
    s.rdE (FED.FIX.FIX_WD k) ≠ 0 → (s.at' t).due (.feedFix k) (s.rdE (FED.FIX.FIX_WD k) * 10 * ms) = true →
    ∃ s', exec (.fixWatchdogExpiry t k) s = .next s' ∧ s'.feedSt k = 4 ∧ s'.rd (FED.EVT.FIX_WD k) = 1 ∧
      s'.running (.feedFix k) = false ∧ s'.bitOf FED.STATUS.RUNNING k = false ∧
      s'.band = { s.band with legs := s.band.legs.upd (k.val + 3) (fun b => { b with soft := true }) })

/-- R201, R202. FEED_OVERVOLT completes in START or RUN after 100 high samples of the feed's voltage, FEED_REVERSE
in every state but OFF and FAULT after 16 samples of reverse current: FAULT with the cause's bit and the channel
OFF, counted, the retry time running. FEED_RETRY completes 60 s later where the cause has cleared, retries are
left and the state is ENERGIZE or RUN: WAIT; with none left the feed stays in FAULT. FEED_RETRIES_RESET
completes after an hour of RUN: RETRIES 0. Model's choices it rests on: log entry 33. -/
def Obligations.FeedFaultsAndRetries : Prop :=
  (∀ (s : State) (t : Time) (k : Fin 8), s.feedSt k = 2 ∨ s.feedSt k = 3 → 100 ≤ (s.feed k).ovRun →
    ∃ s', exec (.feedOvervolt t k) s = .next s' ∧ s'.feedSt k = 5 ∧ s'.rd (FED.EVT.OVERVOLT k) = 1 ∧
      s'.rd (FED.EVT.FAULTS k) = min (2 ^ 16 - 1) (s.rd (FED.EVT.FAULTS k) + 1) ∧
      s'.rd (FED.STATE.RETRIES k) = min 255 (s.rd (FED.STATE.RETRIES k) + 1) ∧ (s'.feed k).cause = 2 ∧
      (s'.feed k).sweep = .none ∧ s'.bitOf FED.STATUS.RUNNING k = false ∧ (s'.leg (k + 3)).released = false ∧
      s'.rd (BND.CH.STATE.LEVEL (k + 3)) = 3 ∧ s'.due (.feedRetry k) 0 = true) ∧
  (∀ (s : State) (t : Time) (k : Fin 8), s.feedSt k ≠ 0 → s.feedSt k ≠ 5 → 16 ≤ (s.feed k).revRun →
    ∃ s', exec (.feedReverse t k) s = .next s' ∧ s'.feedSt k = 5 ∧ s'.rd (FED.EVT.REVERSE k) = 1 ∧
      s'.rd (FED.EVT.FAULTS k) = min (2 ^ 16 - 1) (s.rd (FED.EVT.FAULTS k) + 1) ∧
      s'.rd (FED.STATE.RETRIES k) = min 255 (s.rd (FED.STATE.RETRIES k) + 1) ∧ (s'.feed k).cause = 3 ∧
      (s'.feed k).sweep = .none ∧ s'.bitOf FED.STATUS.RUNNING k = false ∧ (s'.leg (k + 3)).released = false ∧
      s'.rd (BND.CH.STATE.LEVEL (k + 3)) = 3 ∧ s'.due (.feedRetry k) 0 = true) ∧
  (∀ (s : State) (t : Time) (k : Fin 8), s.feedSt k = 5 → (s.at' t).due (.feedRetry k) (60 * sec) = true →
    s.causeClear k = true → s.rd (FED.STATE.RETRIES k) < s.rd (FED.STOP.RETRY_MAX k) →
    s.code = stENERGIZE ∨ s.code = stRUN →
    ∃ s', exec (.feedRetry t k) s = .next s' ∧ s'.feedSt k = 1 ∧ s'.running (.feedRetry k) = false ∧
      s'.feeds = s.feeds.upd k (fun f => { f with waitAt := max s.now t, fixNew := false })) ∧
  (∀ (s : State) (t : Time) (k : Fin 8), s.feedSt k = 5 →
    s.rd (FED.STOP.RETRY_MAX k) ≤ s.rd (FED.STATE.RETRIES k) →
    ∃ s', exec (.feedRetry t k) s = .next s' ∧ s' = { s with now := max s.now t }) ∧
  (∀ (s : State) (t : Time) (k : Fin 8), s.feedSt k = 3 → (s.at' t).due (.feedRun k) (3600 * sec) = true →
    ∃ s', exec (.feedRetriesReset t k) s = .next s' ∧ s'.rd (FED.STATE.RETRIES k) = 0 ∧ s'.feedSt k = 3 ∧
      s'.feeds = s.feeds ∧ ∀ a, a ≠ (FED.STATE.RETRIES k).addr → s'.word a = s.word a)

/-- R196, R203 to R209. RIPPLE_WINDOW_END completes where RC_WIN + 1 periods have ended: the mean power; in mode 1 a
valid window also gives the slope and a step of v_track at the next tick, and any other sets WEAK; a new window
follows. SWEEP_WINDOW completes: at the feed's instant of the schedule a sweep that is allowed is armed, any
other is skipped with class 5; at another instant nothing but SCHED_UNSYNC follows. SWEEP_PATH_DONE completes
where the path is complete: counted and classified, its maximum shown, and the feed relocates in class 2 or
begins a fresh window. RELOCATION_DONE completes where v_track has reached v_g: the sweep ends with a fresh
window. Model's choices it rests on: log entries 5 and 33. -/
def Obligations.TrackingWindowsAndSweeps : Prop :=
  (∀ (s : State) (t : Time) (k : Fin 8), s.rd (FED.RC.RC_WIN k) + 1 ≤ (s.feed k).winPer → s.rd (FED.CFG.MODE k) ≠ 1 →
    ∃ s', exec (.rippleWindowEnd t k) s = .next s' ∧ s' = { s with
      now := max s.now t
      regs := s'.regs
      feeds := s.feeds.upd k (fun f => { f with p := rneDiv f.winP (Nat.max 1 f.winN) }.nextWindow) } ∧
      s'.word (FED.PWR.VALUE k).addr =
        satWord (rneDiv (rneDiv (s.feed k).winP (Nat.max 1 (s.feed k).winN)) (2 ^ 24)) ∧
      ∀ a, a ≠ (FED.PWR.VALUE k).addr → s'.word a = s.word a) ∧
  (∀ (s : State) (t : Time) (k : Fin 8), s.rd (FED.RC.RC_WIN k) + 1 ≤ (s.feed k).winPer → s.rd (FED.CFG.MODE k) = 1 →
    ∃ s', exec (.rippleWindowEnd t k) s = .next s' ∧
      (s'.feed k).p = rneDiv (s.feed k).winP (Nat.max 1 (s.feed k).winN) ∧ (s'.feed k).winPer = 0 ∧
      s'.rd (FED.STATE.WEAK k) = b2n (!s.windowValid k) ∧
      (s.windowValid k = false → (s'.feed k).ready = (s.feed k).ready ∧ (s'.feed k).g = (s.feed k).g) ∧
      (s.windowValid k = true →
        (s'.feed k).g = rneDiv ((s.feed k).winVP * (s.feed k).winV * 2 ^ 32)
          ((s.feed k).winVV * (s.feed k).winP).toNat ∧
        s'.word (FED.SLOPE.VALUE k).addr = satWord (rneDiv (s'.feed k).g (2 ^ 16)) ∧
        (s'.feed k).ready = (s.feed k).ready ++ [((s'.feed k).g, (s.feed k).perAt - (s.feed k).winAt)])) ∧
  (∀ (s : State) (t : Time) (k : Fin 8) (x : Nat),
    x = (if s.on PTP.STATUS.TRACEABLE then (s.at' t).tai else (s.at' t).rtc) %
      (Nat.max 1 (s.rd FED.SWEEP_SCHED.INT) * 10 ^ 9) →
    s.rd FED.SWEEP_SCHED.SLOT * 10 ^ 8 + k.val * 12500000 ≤ x →
    x < s.rd FED.SWEEP_SCHED.SLOT * 10 ^ 8 + k.val * 12500000 + 3 →
    ∃ s', exec (.sweepWindow t k) s = .next s' ∧
      s'.rd FED.STATUS.SCHED_UNSYNC = b2n (!s.on PTP.STATUS.TRACEABLE) ∧
      (s.sweepAllowed k = true → s'.feeds = s.feeds.upd k (fun f => { f with
        sweep := .armed
        winOk := f.winOk && !f.sweeping })) ∧
      (s.sweepAllowed k = false → s'.feeds = s.feeds ∧ s'.rd (FED.STATE.CLASS k) = 5 ∧
        s'.rd FED.STATUS.SWEEP_SKIP = 1)) ∧
  (∀ (s : State) (t : Time) (k : Fin 8) (x : Nat),
    x = (if s.on PTP.STATUS.TRACEABLE then (s.at' t).tai else (s.at' t).rtc) %
      (Nat.max 1 (s.rd FED.SWEEP_SCHED.INT) * 10 ^ 9) →
    x < s.rd FED.SWEEP_SCHED.SLOT * 10 ^ 8 + k.val * 12500000 ∨
      s.rd FED.SWEEP_SCHED.SLOT * 10 ^ 8 + k.val * 12500000 + 3 ≤ x →
    ∃ s', exec (.sweepWindow t k) s = .next s' ∧
      s' = { s with now := max s.now t }.wrB FED.STATUS.SCHED_UNSYNC (!s.on PTP.STATUS.TRACEABLE)) ∧
  (∀ (s : State) (t : Time) (k : Fin 8) (run : Nat) (vOp pOp vHi vLo : Int),
    (s.feed k).sweep = .path run vOp pOp vHi vLo → pathLeg run vOp vHi vLo = 3 →
    ∃ s', exec (.sweepPathDone t k) s = .next s' ∧
      s'.rd (FED.STATE.CLASS k) = (s.classify k vOp pOp vHi vLo).1 ∧
      s'.rd (FED.CNT.SWEEPS k) = (s.rd (FED.CNT.SWEEPS k) + 1) % 65536 ∧
      s'.rd (FED.SWEEP_RES.P_G k) =
        (rneDiv ((s.classify k vOp pOp vHi vLo).2.2 * 10000) (2 ^ 40)).toNat % 2 ^ (FED.SWEEP_RES.P_G k).width ∧
      ((s.classify k vOp pOp vHi vLo).1 ≠ 2 →
        s'.feeds = s.feeds.upd k (fun f => { f with sweep := .none }.freshWindow (max s.now t)) ∧
        s'.rd (FED.STATE.SWEEPING k) = 0 ∧ s'.rd (FED.CNT.MOVES k) = s.rd (FED.CNT.MOVES k)) ∧
      ((s.classify k vOp pOp vHi vLo).1 = 2 →
        (s'.feed k).sweep = .reloc
          (vLo + rneDiv ((vHi - vLo) * (2 * (s.classify k vOp pOp vHi vLo).2.1 + 1)) 128) (4 * sweepRate vHi vLo) ∧
        (s'.feed k).vTrack = (s.feed k).vTrack ∧ s'.rd FED.STATUS.SWEEP_FEED = k ∧
        s'.rd (FED.STATE.SWEEPING k) = 1 ∧ s'.rd (FED.CNT.MOVES k) = (s.rd (FED.CNT.MOVES k) + 1) % 65536)) ∧
  (∀ (s : State) (t : Time) (k : Fin 8) (dest rate : Int), (s.feed k).sweep = .reloc dest rate →
    (s.feed k).vTrack = dest →
    ∃ s', exec (.relocationDone t k) s = .next s' ∧ s'.rd (FED.STATE.SWEEPING k) = 0 ∧
      s'.rd FED.STATUS.SWEEP_FEED = (if s.rd FED.STATUS.SWEEP_FEED = k then 15 else s.rd FED.STATUS.SWEEP_FEED) ∧
      s'.feeds = s.feeds.upd k (fun f => { f with sweep := .none }.freshWindow (max s.now t)))

/-- R216 to R218, R221, R222, R224 to R226, R229. FRT_ENTRY completes in RUN after FILT + 1 samples outside the
band: FAULT with its cause, time and the voltage before it, the references in force and the PQ window flagged;
with EN 0 an envelope exit of cause 7. JUMP_HOLD_EXPIRY completes where JUMP_T is over: the hold ends.
FRT_RETURN completes where the grid stayed inside for EXIT_T with no hold and no exit in its sample: RECOVERING,
with the recovery cap's first value. FRT_HANDOVER completes at the second tick out of FAULT: the ramps take the
references, unless the grid ramps softly. ENVELOPE_EXIT completes in FAULT beyond a curve for ENV_FILT + 1
samples, ZV_TIME_EXIT in RUN where the voltage was near zero for longer than ZV_MAX: the exit is counted, shows
its cause and asserts source 38; while that is asserted no later sample's exit counts. Model's choices it rests
on: log entries 5 and 34. -/
def Obligations.RideThroughDetectorRules : Prop :=
  (∀ (s : State) (t : Time), s.code = stRUN → s.rd FRT.STATUS.STATE ≠ frFAULT →
    s.rd FRT.DET.FILT + 1 ≤ s.frt.outRun → s.on FRT.ENV_CFG.EN = true → s.frt.outCause < 16 →
    ∃ s', exec (.frtEntry t) s = .next s' ∧ s'.rd FRT.STATUS.STATE = frFAULT ∧
      s'.rd FRT.STATUS.CAUSE = s.frt.outCause ∧ s'.rd64 FRT.T_EXC.TAI_NS = s.frt.outAt % 2 ^ 64 ∧
      s'.rd FRT.STATUS.ENTRY = 1 ∧ s'.frt.vPre = s.frt.preAt s.frt.outAt ∧ s'.frt.tExc = s.frt.outAt ∧
      s'.word FRT.V_PRE.VALUE.addr = satWord (rneDiv (s.frt.preAt s.frt.outAt) (2 ^ 32)) ∧
      s'.rd FRT.COUNT.ENTRIES = min (2 ^ FRT.COUNT.ENTRIES.width - 1) (s.rd FRT.COUNT.ENTRIES + 1) ∧
      s'.mtr.pq = s.mtr.pq.map (fun w => { w with frt := true }) ∧
      s'.band.fault = true ∧ s'.band.frt.isSome = true) ∧
  (∀ (s : State) (t : Time), s.code = stRUN → s.rd FRT.STATUS.STATE ≠ frFAULT →
    s.rd FRT.DET.FILT + 1 ≤ s.frt.outRun → s.on FRT.ENV_CFG.EN = false → s.srcOn 38 = false →
    ∃ s', exec (.frtEntry t) s = .next s' ∧ s'.rd FRT.STATUS.STATE = s.rd FRT.STATUS.STATE ∧
      s'.rd FRT.STATUS.ENV_EXIT = 1 ∧ s'.rd FRT.STATUS.EXIT_CAUSE = 7 ∧ s'.srcOn 38 = true) ∧
  (∀ (s : State) (t : Time), (s.at' t).due .frtJumpHold (s.rd FRT.JUMP.JUMP_T * ms) = true →
    ∃ s', exec (.jumpHoldExpiry t) s = .next s' ∧ s'.rd FRT.STATUS.JUMP_HOLD = 0 ∧
      s'.running .frtJumpHold = false ∧ s'.frt = s.frt ∧
      ∀ a, a ≠ FRT.STATUS.JUMP_HOLD.addr → s'.word a = s.word a) ∧
  (∀ (s : State) (t t0 : Time), s.rd FRT.STATUS.STATE = frFAULT → s.frt.inSince = some t0 →
    t0 + s.rd FRT.DET.EXIT_T * ms ≤ max s.now t → s.on FRT.STATUS.JUMP_HOLD = false →
    s.frt.exitWin.isSome = false ∨ s.frt.exitWin ≠ s.sync.lastWin →
    ∃ s', exec (.frtReturn t) s = .next s' ∧ s'.rd FRT.STATUS.STATE = frRECOVERING ∧ s'.band.fault = false ∧
      s'.frt.ticks = 0 ∧ s'.frt.outRun = 0 ∧ s'.frt.fAt = max s.now t ∧
      s'.frt.cap = rneDiv (dySqrtFix s.sync.loc.posSq 48 * s.frt.idPrev) (2 ^ 48) ∧ s'.rd BND.STATUS.POSTURE = 0) ∧
  (∀ (s : State) (t : Time) (d q d2 q2 : Int), s.rd FRT.STATUS.STATE ≠ frFAULT → 2 ≤ s.frt.ticks →
    s.band.frt = some (d, q, d2, q2) → (s.leg 0).soft = false →
    ∃ s', exec (.frtHandover t) s = .next s' ∧ s' = { s with
      now := max s.now t
      band := { s.band with
        frt := none
        ramps := (((s.band.ramps.upd 3 (fun r => { r with val := q2 })).upd 2 (fun r => { r with val := d2 })).upd 1
          (fun r => { r with val := q })).upd 0 (fun r => { r with val := d }) } }) ∧
  (∀ (s : State) (t : Time), s.rd FRT.STATUS.STATE ≠ frFAULT → 2 ≤ s.frt.ticks → (s.leg 0).soft = true →
    ∃ s', exec (.frtHandover t) s = .next s' ∧ s' = { s with
      now := max s.now t
      band := { s.band with frt := none } }) ∧
  (∀ (s : State) (t : Time), s.rd FRT.STATUS.STATE = frFAULT → s.rd FRT.ENV_CFG.ENV_FILT + 1 ≤ s.frt.uvRun →
    s.srcOn 38 = false →
    ∃ s', exec (.envelopeExit t) s = .next s' ∧ s'.rd FRT.STATUS.ENV_EXIT = 1 ∧ s'.rd FRT.STATUS.EXIT_CAUSE = 1 ∧
      s'.rd FRT.COUNT.EXITS = min (2 ^ FRT.COUNT.EXITS.width - 1) (s.rd FRT.COUNT.EXITS + 1) ∧
      s'.frt.exitWin = s.sync.lastWin ∧ s'.srcOn 38 = true) ∧
  (∀ (s : State) (t : Time), s.rd FRT.STATUS.STATE = frFAULT → s.frt.uvRun ≤ s.rd FRT.ENV_CFG.ENV_FILT →
    s.rd FRT.ENV_CFG.ENV_FILT + 1 ≤ s.frt.ovRun → s.srcOn 38 = false →
    ∃ s', exec (.envelopeExit t) s = .next s' ∧ s'.rd FRT.STATUS.ENV_EXIT = 1 ∧ s'.rd FRT.STATUS.EXIT_CAUSE = 2 ∧
      s'.rd FRT.COUNT.EXITS = min (2 ^ FRT.COUNT.EXITS.width - 1) (s.rd FRT.COUNT.EXITS + 1) ∧
      s'.frt.exitWin = s.sync.lastWin ∧ s'.srcOn 38 = true) ∧
  (∀ (s : State) (t : Time), s.rd FRT.STATUS.STATE = frFAULT → s.srcOn 38 = true →
    s.frt.exitWin.isSome = false ∨ s.frt.exitWin ≠ s.sync.lastWin →
    ∃ s', exec (.envelopeExit t) s = .next s' ∧ s' = { s with now := max s.now t }) ∧
  (∀ (s : State) (t t0 : Time), s.frt.zvAt = some t0 → s.code = stRUN →
    t0 + s.rd FRT.ZV.ZV_MAX * ms < max s.now t → s.srcOn 38 = false →
    ∃ s', exec (.zvTimeExit t) s = .next s' ∧ s'.rd FRT.STATUS.ENV_EXIT = 1 ∧ s'.rd FRT.STATUS.EXIT_CAUSE = 3 ∧
      s'.rd FRT.COUNT.EXITS = min (2 ^ FRT.COUNT.EXITS.width - 1) (s.rd FRT.COUNT.EXITS + 1) ∧
      s'.srcOn 38 = true)

/-- R233, R234, R236, R237, R239, R241 to R246. TOPO_DECISION completes where TIED read 0 for TOPO_FILT,
PASSIVE_WINDOW_PICKUP where a window's condition held for its delay, and Z_PUBLISH a millisecond after a chip
boundary: a topology decision, the window's alarm and with action 2 its decision, the impedance and a decision
when it first exceeds Z_ISL Z_FILT + 1 times; a decision withdraws RECON_OK and reloads the delay, and in
ENERGIZE and RUN asserts source 37. SUPV_HOLD_EXPIRY completes where a lost device was held for SUPV_HOLD: it no
longer conducts. PROBE_CHIP_BOUNDARY completes: at a new multiple of 20 ms the chip closes and the next takes
LEVEL and its code; else nothing. RECON_DELAY_EXPIRY completes where the conditions held for DELAY: RECON_OK,
and source 37 ends. Model's choices it rests on: log entries 10 and 35. -/
def Obligations.IslandingDecisionsAndReconnection : Prop :=
  (∀ (s : State) (t : Time), s.on ISD.CTRL.TOPO_EN = true → s.on ISD.STATUS.TIED = false →
    (s.at' t).due .topo (s.rd ISD.TOPO_CFG.TOPO_FILT * 100 * us) = true →
    ∃ s', exec (.topoDecision t) s = .next s' ∧ s'.rd ISD.STATUS.DEC_TOPO = 1 ∧
      s'.rd ISD.STATUS.RECON_OK = 0 ∧ s'.running .recon = false ∧ s'.running .topo = false ∧
      (s.code = stENERGIZE ∨ s.code = stRUN → s'.rd ISD.STATUS.ISLAND = 1 ∧ s'.srcOn 37 = true) ∧
      (s.code ≠ stENERGIZE → s.code ≠ stRUN → s'.rd ISD.STATUS.ISLAND = s.rd ISD.STATUS.ISLAND) ∧
      (s.isd.decWin.isSome = false ∨ s.isd.decWin ≠ s.sync.lastWin →
        s'.rd ISD.COUNT.DECISIONS = min (2 ^ ISD.COUNT.DECISIONS.width - 1) (s.rd ISD.COUNT.DECISIONS + 1)) ∧
      (s.isd.decWin.isSome = true → s.isd.decWin = s.sync.lastWin →
        s'.rd ISD.COUNT.DECISIONS = s.rd ISD.COUNT.DECISIONS)) ∧
  (∀ (s : State) (t : Time) (dev : Fin 96), s.supvLost dev = true →
    (s.at' t).due (.supvHold dev) (s.rd ISD.TOPO_CFG.SUPV_HOLD * ms) = true →
    ∃ s', exec (.supvHoldExpiry t dev) s = .next s' ∧
      s'.isd = { s.isd with holdOut := setBit s.isd.holdOut dev true } ∧
      s'.rd ISD.STATUS.TIED = b2n s'.tiedNow ∧ s'.conducts dev = false ∧ s'.running (.supvHold dev) = false) ∧
  (∀ (s : State) (t t0 : Time) (w : Fin 7), s.isd.since.get w none = some t0 →
    t0 + s.passDelay w ≤ max s.now t → s.isd.picked.testBit w = false → s.passBlocked w = false →
    s.passAct w ≠ 2 →
    ∃ s', exec (.passiveWindowPickup t w) s = .next s' ∧ s'.bitOf ISD.STATUS.PASS_WIN w = true ∧
      s'.rd ISD.STATUS.DEC_PASS = s.rd ISD.STATUS.DEC_PASS ∧
      s'.isd = (if w.val = 5 then { s.isd with since := s.isd.since.upd 5 (fun _ => none) }
        else { s.isd with picked := setBit s.isd.picked w true }) ∧
      ∀ a, a ≠ ISD.STATUS.PASS_WIN.addr → s'.word a = s.word a) ∧
  (∀ (s : State) (t t0 : Time) (w : Fin 7), s.isd.since.get w none = some t0 →
    t0 + s.passDelay w ≤ max s.now t → s.isd.picked.testBit w = false → s.passBlocked w = false →
    s.passAct w = 2 →
    ∃ s', exec (.passiveWindowPickup t w) s = .next s' ∧ s'.bitOf ISD.STATUS.PASS_WIN w = true ∧
      s'.rd ISD.STATUS.DEC_PASS = 1 ∧ s'.rd ISD.STATUS.RECON_OK = 0 ∧
      s'.rd ISD.RECON_T.LEFT = s.rd ISD.RECON_T.DELAY % 2 ^ ISD.RECON_T.LEFT.width ∧
      (s.code = stENERGIZE ∨ s.code = stRUN → s'.rd ISD.STATUS.ISLAND = 1 ∧ s'.srcOn 37 = true)) ∧
  (∀ (s : State) (t : Time), s.isd.chip ≠ some ((s.at' t).tai / 20000000) →
    ∃ s', exec (.probeChipBoundary t) s = .next s' ∧ s'.rd ISD.STATUS.PROBING = b2n s.probeMay ∧
      s'.isd.boundary = some (max s.now t) ∧ s'.isd.samples = [] ∧ s'.isd.clean = s.probeMay ∧
      s'.isd.level = s.rd ISD.PROBE.LEVEL ∧ s'.isd.chip = some ((s.at' t).tai / 20000000) ∧
      s'.isd.minus = chipCode ((s.at' t).tai / 20000000 + s.rd ISD.PROBE.CODE) ∧
      (s.isd.clean = false ∨ s.on ISD.STATUS.PROBING = false ∨ s.probeMay = false ∨
        s.isd.chip.map (· + 1) ≠ some ((s.at' t).tai / 20000000) →
        s'.rd ISD.STATUS.Z_VALID = 0 ∧ s'.isd.chips = [] ∧ s'.isd.cleanRun = 0)) ∧
  (∀ (s : State) (t : Time), s.isd.chip = some ((s.at' t).tai / 20000000) →
    ∃ s', exec (.probeChipBoundary t) s = .next s' ∧ s' = { s with now := max s.now t }) ∧
  (∀ (s : State) (t b : Time), s.isd.boundary = some b → b + ms ≤ max s.now t → s.on ISD.STATUS.Z_VALID = false →
    ∃ s', exec (.zPublish t) s = .next s' ∧ s' = { s with
      now := max s.now t
      isd := { s.isd with boundary := none, zRun := 0 } }) ∧
  (∀ (s : State) (t b : Time), s.isd.boundary = some b → b + ms ≤ max s.now t → s.on ISD.STATUS.Z_VALID = true →
    ∃ s', exec (.zPublish t) s = .next s' ∧ s'.isd.boundary = none ∧
      s'.word ISD.Z_ACT.VALUE.addr = s.publishZ.word ISD.Z_ACT.VALUE.addr ∧
      s'.word ISD.Z_R.VALUE.addr = s.publishZ.word ISD.Z_R.VALUE.addr ∧
      s'.word ISD.Z_X.VALUE.addr = s.publishZ.word ISD.Z_X.VALUE.addr ∧
      s'.word ISD.SCR.VALUE.addr = s.publishZ.word ISD.SCR.VALUE.addr ∧
      (s.rd ISD.ACT_CFG.Z_ISL * 65536 < s.publishZ.rd ISD.Z_ACT.VALUE * 1000 →
        s'.isd.zRun = satInc 17 s.isd.zRun ∧
        (s.isd.zRun = s.rd ISD.ACT_CFG.Z_FILT → s.on ISD.CTRL.ACT_EN = true →
          s'.rd ISD.STATUS.DEC_ACT = 1 ∧ s'.rd ISD.STATUS.RECON_OK = 0)) ∧
      (s.publishZ.rd ISD.Z_ACT.VALUE * 10000 < s.rd ISD.ACT_CFG.Z_ISL * 589824 → s'.isd.zRun = 0 ∧
        s'.rd ISD.STATUS.DEC_ACT = s.rd ISD.STATUS.DEC_ACT)) ∧
  (∀ (s : State) (t : Time), (s.at' t).due .recon (s.rd ISD.RECON_T.DELAY * sec) = true →
    s.on ISD.STATUS.RECON_OK = false →
    ∃ s', exec (.reconDelayExpiry t) s = .next s' ∧ s'.rd ISD.STATUS.RECON_OK = 1 ∧ s'.rd ISD.STATUS.ISLAND = 0 ∧
      s'.rd ISD.RECON_T.LEFT = 0 ∧ s'.srcOn 37 = false)

/-- R66, R72, R73, R76, R296, R299 to R302. RESAMPLER_OUTPUT completes where the next output's instant is reached:
the index steps, a wrap counts a cycle, t_k is that instant. CAL_AVERAGE_DONE completes where the average has
failed or is full: it ends, and a result in range is the channel's new OFFSET or GAIN, but on a channel sealed
meanwhile. MTR_SNAP_GO completes: ACC holds the ten accumulators, SEQ counts. ENERGY_PULSE_START completes where
a pulse is pending on an enabled output that has been low for PW, ENERGY_PULSE_END PW after the start.
SETTLEMENT_LATCH completes at a wrap once N have come: the ten values, their time and the count. BLOCK_SIGNED
completes where a block waits for its signature, BLOCK_STORED where one waits for the archive: the block moves
on, or SIGN_FAIL or STORE_FAIL sets and it stays. Model's choices it rests on: log entries 8 and 40. -/
def Obligations.MeteringAndSettlement : Prop :=
  (∀ (s : State) (t : Time) (place : Fin 51),
    let a := (s.at' t).rsmAngle (s.rd MOD.RSM_INDEX.INDEX) s.meas.rsm.tk
    a.rsmNext.1 ≤ max s.now t →
    ∃ s', exec (.resamplerOutput t place) s = .next s' ∧
      s'.rd MOD.RSM_INDEX.INDEX = (s.rd MOD.RSM_INDEX.INDEX + 1) % 512 ∧
      s'.rd MOD.RSM_INDEX.CYCLE = (if s.rd MOD.RSM_INDEX.INDEX = 511 then (s.rd MOD.RSM_INDEX.CYCLE + 1) % 65536
        else s.rd MOD.RSM_INDEX.CYCLE) ∧ s'.meas.rsm.tk = a.rsmNext.1 ∧ s'.meas.rsm.frac = a.rsmNext.2) ∧
  (∀ (s : State) (t : Time) (n : Fin 40) (r : CalRun) (d : Nat), (s.chan n).cal = some r → r.fail = some d →
    ∃ s', exec (.calAverageDone t n) s = .next s' ∧ (s'.chan n).cal = none ∧
      s'.word (MOD.CH.OFFSET.VALUE n).addr = s.word (MOD.CH.OFFSET.VALUE n).addr ∧
      s'.word (MOD.CH.GAIN.VALUE n).addr = s.word (MOD.CH.GAIN.VALUE n).addr) ∧
  (∀ (s : State) (t : Time) (n : Fin 40) (r : CalRun), (s.chan n).cal = some r → r.fail = none → r.kind = .zero →
    65536 ≤ r.count →
    let mean : Dy := ⟨r.sum.m, r.sum.e - 16⟩
    let fits := dyLt (dyMul ⟨mean.m.natAbs, mean.e⟩ ⟨20, 0⟩) ⟨1, 0⟩ || decide (dyFix mean 60 * 20 = 2 ^ 60)
    ∃ s', exec (.calAverageDone t n) s = .next s' ∧ (s'.chan n).cal = none ∧
      s'.word (MOD.CH.OFFSET.VALUE n).addr =
        (if fits ∧ ¬ (s.on MOD.CTRL.METRO_SEALED ∧ s.on (MOD.CH.STATUS.METER n)) then f32OfDy false mean
          else s.word (MOD.CH.OFFSET.VALUE n).addr) ∧
      s'.word (MOD.CH.GAIN.VALUE n).addr = s.word (MOD.CH.GAIN.VALUE n).addr) ∧
  (∀ (s : State) (t : Time) (n : Fin 40) (r : CalRun), (s.chan n).cal = some r → r.fail = none → r.kind = .dc →
    65536 ≤ r.count →
    let div := dyAdd ⟨r.sum.m, r.sum.e - 16⟩ (dyNeg (s.coefE (MOD.CH.OFFSET.VALUE n)))
    let x := dyRat (f32Val r.x)
    let d := dyRat div
    let g := if d.1 = 0 then 0 else f32OfRat false (if d.1 < 0 then -(x.1 * d.2) else x.1 * d.2) (x.2 * d.1.natAbs)
    ∃ s', exec (.calAverageDone t n) s = .next s' ∧ (s'.chan n).cal = none ∧
      s'.word (MOD.CH.GAIN.VALUE n).addr =
        (if s.spanOk n g div ∧ ¬ (s.on MOD.CTRL.METRO_SEALED ∧ s.on (MOD.CH.STATUS.METER n)) then g
          else s.word (MOD.CH.GAIN.VALUE n).addr) ∧
      s'.word (MOD.CH.OFFSET.VALUE n).addr = s.word (MOD.CH.OFFSET.VALUE n).addr) ∧
  (∀ (s : State) (t : Time) (n : Fin 40) (r : CalRun), (s.chan n).cal = some r → r.fail = none → r.kind = .ac →
    25600 ≤ r.count →
    let x := dyRat (f32Val r.x)
    let q := dyRat r.sum
    let g := if q.1 ≤ 0 then 0
      else f32OfSqrt (decide (x.1 < 0)) (x.1.natAbs ^ 2 * 12800 * q.2) (x.2 ^ 2 * q.1.natAbs) 0
    ∃ s', exec (.calAverageDone t n) s = .next s' ∧ (s'.chan n).cal = none ∧
      s'.word (MOD.CH.GAIN.VALUE n).addr =
        (if s.spanOk n g ⟨isqrt ((dyFix r.sum 80).toNat / 12800), -40⟩ ∧
            ¬ (s.on MOD.CTRL.METRO_SEALED ∧ s.on (MOD.CH.STATUS.METER n)) then g
          else s.word (MOD.CH.GAIN.VALUE n).addr) ∧
      s'.word (MOD.CH.OFFSET.VALUE n).addr = s.word (MOD.CH.OFFSET.VALUE n).addr) ∧
  (∀ (s : State) (t : Time), ∃ s', exec (.mtrSnapGo t) s = .next s' ∧
    (∀ j : Fin 10, s'.rd64 (MTR.ACC.MWH j) = mwh (s.mtr.acc.getD j 0) % 2 ^ 64) ∧
    s'.rd MTR.SNAP.SEQ = (s.rd MTR.SNAP.SEQ + 1) % 65536 ∧
    s' = { s with
      now := max s.now t
      regs := s'.regs
      mtr := { s.mtr with snapAt := some (s.at' t).cycle } }) ∧
  (∀ (s : State) (t : Time) (m : Fin 8), s.bitOf MTR.EP_CTRL.EN m = true → 0 < s.rd (MTR.EP_STAT.PENDING m) →
    s.mtr.pulse.get m none = none ∨ (∃ t0, s.mtr.pulse.get m none = some (false, t0) ∧
      t0 + s.pulseWidth m ≤ max s.now t) →
    ∃ s', exec (.energyPulseStart t m) s = .next s' ∧
      s'.rd (MTR.EP_STAT.PENDING m) = s.rd (MTR.EP_STAT.PENDING m) - 1 ∧
      (∀ a, a ≠ (MTR.EP_STAT.PENDING m).addr → s'.word a = s.word a) ∧
      s'.mtr = { s.mtr with pulse := s.mtr.pulse.upd m (fun _ => some (true, max s.now t)) }) ∧
  (∀ (s : State) (t t0 : Time) (m : Fin 8), s.mtr.pulse.get m none = some (true, t0) →
    t0 + s.rd (MTR.EP_CFG.PW (m.val / 4)) * ms ≤ max s.now t →
    ∃ s', exec (.energyPulseEnd t m) s = .next s' ∧ s' = { s with
      now := max s.now t
      mtr := { s.mtr with pulse := s.mtr.pulse.upd m (fun _ => some (false, max s.now t)) } }) ∧
  (∀ (s : State) (t : Time) (tk : Nat), s.mtr.tPrev = some tk → s.rd MTR.LATCH_CFG.N ≤ s.mtr.wraps →
    s.mtr.wraps ≠ 0 → s.rd MOD.RSM_INDEX.INDEX = 0 →
    ∃ s', exec (.settlementLatch t) s = .next s' ∧
      (∀ j : Fin 10, s'.rd64 (MTR.LATCH.MWH j) = mwh (s.mtr.acc.getD j 0) % 2 ^ 64) ∧
      s'.rd64 MTR.LATCH_TIME.TAI_NS = tk % 2 ^ 64 ∧ s'.mtr.wraps = 0 ∧ s'.mtr.signWait = false ∧
      s'.mtr.acc = s.mtr.acc ∧
      s'.rd MTR.LATCH_CNT.VALUE = (s.rd MTR.LATCH_CNT.VALUE + 1) % 2 ^ 32) ∧
  (∀ (s : State) (t : Time), s.rd MOD.RSM_INDEX.INDEX ≠ 0 ∨ s.mtr.tPrev = none ∨ s.mtr.wraps < s.rd MTR.LATCH_CFG.N →
    ∃ s', exec (.settlementLatch t) s = .next s' ∧ s' = { s with now := max s.now t }) ∧
  (∀ (s : State) (t : Time) (b : List Byte) (rest : List (List Byte)), s.mtr.unsigned = b :: rest →
    s.mtr.signWait = false →
    ∃ s', exec (.blockSigned t true) s = .next s' ∧ s' = { s with
      now := max s.now t
      mtr := { s.mtr with
        unsigned := rest
        signed := (s.mtr.signed ++ [b ++ beBytes 96 (Config.sign b).toNat]).drop (s.mtr.signed.length - 95) } }) ∧
  (∀ (s : State) (t : Time), s.mtr.unsigned ≠ [] → s.mtr.signWait = false →
    ∃ s', exec (.blockSigned t false) s = .next s' ∧
    s'.rd MTR.STATUS.SIGN_FAIL = 1 ∧ s'.mtr = { s.mtr with signWait := true } ∧
    ∀ a, a ≠ MTR.STATUS.SIGN_FAIL.addr → s'.word a = s.word a) ∧
  (∀ (s : State) (t : Time) (ok : Bool), s.mtr.unsigned = [] ∨ s.mtr.signWait = true →
    ∃ s', exec (.blockSigned t ok) s = .next s' ∧ s' = { s with now := max s.now t }) ∧
  (∀ (s : State) (t : Time) (b : List Byte) (rest : List (List Byte)), s.mtr.signed = b :: rest →
    s.on MEM.STATUS.EMMC_ABSENT = false →
    ∃ s', exec (.blockStored t true) s = .next s' ∧ s'.mtr = { s.mtr with
        signed := rest
        stored := (s.mtr.stored ++ [b]).drop (s.mtr.stored.length - 65535) } ∧
      s'.rd MTR.BLOCK.VALUE = leAt b 8 4 % 2 ^ 32 ∧
      s'.rd MTR.STATUS.SIGN_PEND = b2n (!s.mtr.unsigned.isEmpty || !rest.isEmpty)) ∧
  (∀ (s : State) (t : Time) (ok : Bool), s.mtr.signed ≠ [] → ok = false ∨ s.on MEM.STATUS.EMMC_ABSENT = true →
    ∃ s', exec (.blockStored t ok) s = .next s' ∧ s'.rd MTR.STATUS.STORE_FAIL = 1 ∧ s'.mtr = s.mtr ∧
      s'.rd (FLT.CLASS_CNT.COUNT 0x23) = min (2 ^ 32 - 1) (s.rd (FLT.CLASS_CNT.COUNT 0x23) + 1))

/-- R294, R305 to R310. PHSEQ_CHANGE completes where one sequence has held for ten grid cycles, or the present one
failed for ten, or the metering results are not valid: PHSEQ is the new one, an event. NEUTRAL_MISSING completes
with WIRING 1 after fifty cycles of the condition or, once missing, fifty without it: NEU_MISSING sets as an
event or clears; with WIRING 0 it reads 0. PQ_WINDOW_END completes where a window has ended: each enabled
channel's rms and marks, the window's count, flag and start. SUPRA_DFT_DONE completes where an enabled slot has
15,625 samples: its band squares join the window's sums. Model's choices it rests on: log entry 41. -/
def Obligations.PowerQualityRows : Prop :=
  (∀ (s : State) (t : Time), s.on MTR.CTRL.ENABLE = true → s.on MTR.STATUS.Q_VALID = true → 10 ≤ s.mtr.okA →
    s.rd PQE.STATUS.PHSEQ ≠ 1 →
    ∃ s', exec (.phseqChange t) s = .next s' ∧ s'.rd PQE.STATUS.PHSEQ = 1 ∧ s'.rd PQE.STATUS.SEQ_EVT = 1 ∧
      s'.mtr = s.mtr ∧ ∀ a, a ≠ PQE.STATUS.PHSEQ.addr → s'.word a = s.word a) ∧
  (∀ (s : State) (t : Time), s.on MTR.CTRL.ENABLE = true → s.on MTR.STATUS.Q_VALID = true → s.mtr.okA < 10 →
    10 ≤ s.mtr.okB → s.rd PQE.STATUS.PHSEQ ≠ 2 →
    ∃ s', exec (.phseqChange t) s = .next s' ∧ s'.rd PQE.STATUS.PHSEQ = 2 ∧ s'.rd PQE.STATUS.SEQ_EVT = 1 ∧
      s'.mtr = s.mtr ∧ ∀ a, a ≠ PQE.STATUS.PHSEQ.addr → s'.word a = s.word a) ∧
  (∀ (s : State) (t : Time), s.on MTR.CTRL.ENABLE = false ∨ s.on MTR.STATUS.Q_VALID = false ∨
      (s.mtr.okA < 10 ∧ s.mtr.okB < 10 ∧ ((s.rd PQE.STATUS.PHSEQ = 1 ∧ 10 ≤ s.mtr.noA) ∨
        (s.rd PQE.STATUS.PHSEQ = 2 ∧ 10 ≤ s.mtr.noB))) → s.rd PQE.STATUS.PHSEQ ≠ 0 →
    ∃ s', exec (.phseqChange t) s = .next s' ∧ s'.rd PQE.STATUS.PHSEQ = 0 ∧ s'.rd PQE.STATUS.SEQ_EVT = 1 ∧
      s'.mtr = s.mtr ∧ ∀ a, a ≠ PQE.STATUS.PHSEQ.addr → s'.word a = s.word a) ∧
  (∀ (s : State) (t : Time), s.on MTR.CTRL.WIRING = true → s.on PQE.STATUS.NEU_MISSING = false →
    50 ≤ s.mtr.neuOn →
    ∃ s', exec (.neutralMissing t) s = .next s' ∧ s'.rd PQE.STATUS.NEU_MISSING = 1 ∧
      s'.rd PQE.STATUS.NEU_EVT = 1 ∧ ∀ a, a ≠ PQE.STATUS.NEU_EVT.addr → s'.word a = s.word a) ∧
  (∀ (s : State) (t : Time), s.on MTR.CTRL.WIRING = false ∨ (s.on PQE.STATUS.NEU_MISSING = true ∧
      50 ≤ s.mtr.neuOff) →
    ∃ s', exec (.neutralMissing t) s = .next s' ∧ s'.rd PQE.STATUS.NEU_MISSING = 0 ∧
      s'.rd PQE.STATUS.NEU_EVT = s.rd PQE.STATUS.NEU_EVT ∧
      ∀ a, a ≠ PQE.STATUS.NEU_MISSING.addr → s'.word a = s.word a) ∧
  (∀ (s : State) (t : Time) (w : PqWin) (rest : List PqWin), s.mtr.ended = w :: rest →
    ∃ s', exec (.pqWindowEnd t) s = .next s' ∧ s'.mtr.ended = rest ∧ s'.rd64 PQE.WIN_TIME.TAI_NS = w.start % 2 ^ 64 ∧
      s'.rd PQE.STATUS.WIN_CNT = (s.rd PQE.STATUS.WIN_CNT + 1) % 65536 ∧
      s'.rd PQE.STATUS.FLAGGED = b2n (w.ch.any (fun c => c.en && (c.invalid || c.disturbed || c.freerun || w.frt))) ∧
      ∀ m : Fin 16, (w.ch.getD m {}).en = true →
        s'.word (PQE.CH.RMS.VALUE m).addr = rootWord (rmsSq (w.ch.getD m {}).smp.reverse) ∧
        s'.rd (PQE.CH.STAT.INVALID m) = b2n (w.ch.getD m {}).invalid ∧
        s'.rd (PQE.CH.STAT.DISTURBED m) = b2n (w.ch.getD m {}).disturbed ∧
        s'.rd (PQE.CH.STAT.FREERUN m) = b2n (w.ch.getD m {}).freerun) ∧
  (∀ (s : State) (t : Time) (j : Fin 8), slotEn s j = true → 15625 ≤ (s.chan (slotChan s j)).supWin.length →
    let c := s.chan (slotChan s j)
    let sq := if c.supOk then (List.range 740).map (fun b => bandSq c.supWin.reverse b) else List.replicate 740 0
    ∃ s', exec (.supraDftDone t j) s = .next s' ∧ s'.regs = s.regs ∧ (s'.chan (slotChan s j)).supWin = [] ∧
      (s'.chan (slotChan s j)).supOk = true ∧ (s'.mtr.sup.get j {}).n = (s.mtr.sup.get j {}).n + 1 ∧
      (s'.mtr.sup.get j {}).sum = (if (s.mtr.sup.get j {}).sum.isEmpty then sq
        else (s.mtr.sup.get j {}).sum.zipWith (· + ·) sq))

/-- R335 to R346. PLL_LOCK completes where the synthesizer is not locked: it is, from the steered input, and clock
loss ends. UNLOCK completes: the lock and the alignment are lost, source 35 and the forced trip of every target
assert. CLOCK_LOSS_HALT completes a millisecond later: a request for HALT. CLOCK_INPUT_LOST completes outside
holdover: holdover on no input. CLOCK_INPUT_RESUME completes in holdover for a good input, and at input 0 for
the wanted REFIN outside the live states. CLOCK_HOLDOVER_EXPIRY completes after CLK.HOLD.T of it, RELOCK_START
for a pending relock outside the live states: the lock is lost. DIVIDER_ALIGNMENT completes at a PTP second
where one is due. ALIGN_GO completes: it asks for a realignment, or sets CFG_ERR in a live state.
STROBE_PHASE_MEASURE completes with its error. Model's choices it rests on: log entry 64. -/
def Obligations.ClockSynthesizerRows : Prop :=
  (∀ (s : State) (t : Time) (ten : Bool), s.on CLK.STATUS.LOCKED = false →
    ∃ s', exec (.pllLock t ten) s = .next s' ∧ s'.rd CLK.STATUS.LOCKED = 1 ∧ s'.rd CLK.STATUS.HOLDOVER = 0 ∧
      s'.rd CLK.STATUS.INPUT = s.rd CLK.CTRL.SRC % 2 ∧ s'.srcOn 35 = false ∧ s'.running .clockLoss = false ∧
      s'.clk = { s.clk with lockAt := max s.now t, wantAlign := true, stopped := false, ten := ten }) ∧
  (∀ (s : State) (t : Time) (stopped : Bool),
    let u := (s.at' t).unalign
    ∃ s', exec (.unlock t stopped) s = .next s' ∧ s'.rd CLK.STATUS.LOCKED = 0 ∧ s'.rd CLK.STATUS.UNLOCK = 1 ∧
      s'.rd CLK.STATUS.ALIGNED = 0 ∧ s'.srcOn 35 = true ∧ s'.latchOn 35 = true ∧
      s'.trip.forced35 ||| 0x7FF = s'.trip.forced35 ∧ s'.running .clockLoss = true ∧
      s'.rd CLK.COUNT.RELOCKS = min (2 ^ CLK.COUNT.RELOCKS.width - 1) (s.rd CLK.COUNT.RELOCKS + 1) ∧
      s'.clk = { u.clk with stopped := stopped, gated := true, wantAlign := false }) ∧
  (∀ (s : State) (t : Time), (s.at' t).due .clockLoss ms = true →
    ∃ s', exec (.clockLossHalt t) s = .next s' ∧ s'.running .clockLoss = false ∧
      s'.sys = { s.sys with wantHalt := setBit s.sys.wantHalt 0 true }) ∧
  (∀ (s : State) (t : Time), s.on CLK.STATUS.HOLDOVER = false →
    ∃ s', exec (.clockInputLost t) s = .next s' ∧ s'.rd CLK.STATUS.HOLDOVER = 1 ∧ s'.rd CLK.STATUS.INPUT = 2 ∧
      s'.due .clkHold 0 = true ∧ s'.clk = { s.clk with lostRef := decide (s.rd CLK.STATUS.INPUT = 1) } ∧
      s'.rd CLK.COUNT.HOLDOVERS = min (2 ^ CLK.COUNT.HOLDOVERS.width - 1) (s.rd CLK.COUNT.HOLDOVERS + 1) ∧
      (s.rd CLK.STATUS.INPUT = 1 → s'.rd CLK.STATUS.REF_LOST = 1) ∧
      (s.rd CLK.STATUS.INPUT = 0 → s'.rd CLK.STATUS.XTAL_LOST = 1)) ∧
  (∀ (s : State) (t : Time) (ref other : Bool), s.on CLK.STATUS.HOLDOVER = true →
    (ref != s.clk.lostRef || s.on CLK.CTRL.REVERT || !other) = true →
    ∃ s', exec (.clockInputResume t ref other) s = .next s' ∧ s'.rd CLK.STATUS.HOLDOVER = 0 ∧
      s'.rd CLK.STATUS.INPUT = b2n ref ∧ s'.running .clkHold = false ∧ s'.clk = s.clk ∧
      ∀ a, a ≠ CLK.STATUS.HOLDOVER.addr → s'.word a = s.word a) ∧
  (∀ (s : State) (t : Time) (other : Bool), s.on CLK.STATUS.HOLDOVER = false → s.rd CLK.STATUS.INPUT = 0 →
    s.rd CLK.CTRL.SRC % 2 = 1 → s.on CLK.CTRL.REVERT = true → s.live5 = false →
    ∃ s', exec (.clockInputResume t true other) s = .next s' ∧ s'.rd CLK.STATUS.INPUT = 1 ∧ s'.clk = s.clk ∧
      ∀ a, a ≠ CLK.STATUS.INPUT.addr → s'.word a = s.word a) ∧
  (∀ (s : State) (t : Time), s.on CLK.STATUS.HOLDOVER = true →
    (s.at' t).due .clkHold (s.rd CLK.HOLD.T * sec) = true →
    ∃ s', exec (.clockHoldoverExpiry t) s = .next s' ∧ s'.rd CLK.STATUS.HOLD_EXP = 1 ∧
      s'.rd CLK.STATUS.LOCKED = 0 ∧ s'.srcOn 35 = true ∧ s'.running .clkHold = false) ∧
  (∀ (s : State) (t : Time), s.on CLK.STATUS.RELOCK_PEND = true → s.live5 = false →
    ∃ s', exec (.relockStart t) s = .next s' ∧ s'.rd CLK.STATUS.RELOCK_PEND = 0 ∧ s'.rd CLK.STATUS.LOCKED = 0 ∧
      s'.rd CLK.COUNT.RELOCKS = min (2 ^ CLK.COUNT.RELOCKS.width - 1) (s.rd CLK.COUNT.RELOCKS + 1)) ∧
  (∀ (s : State) (t : Time), s.on CLK.STATUS.LOCKED = true → (s.at' t).atSecond = true →
    (s.clk.wantAlign = true ∧ s.clk.lockAt + ms ≤ (s.at' t).secondAt) ∨
      ((s.clk.wantRe = true ∨ (s.on CLK.STATUS.ALIGN_LOST = true ∧ s.on CLK.STATUS.ALIGNED = false)) ∧
        s.live5 = false) →
    ∃ s', exec (.dividerAlignment t) s = .next s' ∧ s'.rd CLK.STATUS.ALIGNED = 1 ∧
      s'.rd CLK.STATUS.ALIGN_TRACE = b2n (s.on PTP.STATUS.TRACEABLE) ∧
      s'.clk = { s.clk with
        wantAlign := false
        wantRe := false
        gated := false
        aligned := some ((s.at' t).cycle, s.on CLK.STATUS.ALIGN_TRACE, s.clk.strobe)
        strobe := (s.at' t).secondAt + s.rd CLK.ALIGN.OFS * 8 } ∧
      ∀ a, a ≠ CLK.STATUS.ALIGNED.addr → s'.word a = s.word a) ∧
  (∀ (s : State) (t : Time), s.live5 = false → ∃ s', exec (.alignGo t) s = .next s' ∧
    s' = { s with now := max s.now t, clk := { s.clk with wantRe := true } }) ∧
  (∀ (s : State) (t : Time), s.live5 = true → ∃ s', exec (.alignGo t) s = .next s' ∧ s'.rd CLK.STATUS.CFG_ERR = 1 ∧
    s'.clk = s.clk ∧ ∀ a, a ≠ CLK.STATUS.CFG_ERR.addr → s'.word a = s.word a) ∧
  (∀ (s : State) (t : Time) (ps : BitVec 32), ∃ s', exec (.strobePhaseMeasure t ps) s = .next s' ∧
    s'.word CLK.PHASE_ERR.PS.addr = ps ∧ ∀ a, a ≠ CLK.PHASE_ERR.PS.addr → s'.word a = s.word a)

/-- R33, R349 to R362. EXT_ACCESS completes: a write of the exchange window reaches DRAM and a read gives its word;
a misaligned access, one beyond its window and a write of the register window end with an error. GAFFER_CUTOFF
completes for an SB or DP owner, and for the EP owner whose hold limit has passed, whose transfer aborts: CUT
names it, a broken lock shows. GAFFER_STARVATION completes: the longest wait shows, and beyond the limit STARVE
sets. DRAM_RETRAIN and its DONE complete with RETRAIN. SRAM_UNCORRECTABLE and DRAM_BLOCK_POISONED complete: the
error's place and count. SCRUB_PASS completes where its scrub is on: the pass and its corrections count, or a
late one sets SCRUB_LATE. BACKGROUND_PERIOD_MISSED completes where a period has passed, or for a scan.
EMMC_BLOCK_WRITE and WEAR_MANAGEMENT_PASS complete with a device: remaps leave the spare pool, ENDUR. Model's
choices it rests on: log entries 17, 47 and 48. -/
def Obligations.MemoriesAndGaffer : Prop :=
  (∀ (s : State) (t : Time) (r : ExtReq) (lock : Bool) (rivals : List (List (Fin 13) × Bool)), r.dram = true →
    r.write = true → r.addr.toNat % 4 = 0 → r.addr.toNat < s.rd GAF.EXT_WIN.SIZE * 2 ^ 20 →
    s.on MEM.STATUS.RETRAIN = false →
    ∃ s', exec (.extAccess t [r] ⟨lock, rivals⟩) s = .next s' ∧
      s'.mem.dram = mapPutList (fun _ => (0 : Byte)) s.mem.dram
        (s.rd GAF.EXT_WIN.BASE * 2 ^ 20 + r.addr.toNat) (leBytes 4 r.data.toNat) ∧
      s'.mem.ext = some { req := r.req, err := false, data := 0 }) ∧
  (∀ (s : State) (t : Time) (r : ExtReq) (lock : Bool) (rivals : List (List (Fin 13) × Bool)), r.dram = true →
    r.write = false → r.addr.toNat % 4 = 0 → r.addr.toNat < s.rd GAF.EXT_WIN.SIZE * 2 ^ 20 →
    s.on MEM.STATUS.RETRAIN = false →
    ∃ s', exec (.extAccess t [r] ⟨lock, rivals⟩) s = .next s' ∧ s'.mem.dram = s.mem.dram ∧
      s'.mem.ext = some {
        req := r.req
        err := s.isPoisoned ((s.rd GAF.EXT_WIN.BASE * 2 ^ 20 + r.addr.toNat) / 64)
        data := s.dramWord (s.rd GAF.EXT_WIN.BASE * 2 ^ 20 + r.addr.toNat) }) ∧
  (∀ (s : State) (t : Time) (r : ExtReq) (lock : Bool) (rivals : List (List (Fin 13) × Bool)), r.addr.toNat % 4 ≠ 0 ∨
      (r.dram = true ∧ s.rd GAF.EXT_WIN.SIZE * 2 ^ 20 ≤ r.addr.toNat) ∨
      (r.dram = false ∧ (r.write = true ∨ 0x20000 ≤ r.addr.toNat)) →
    ∃ s', exec (.extAccess t [r] ⟨lock, rivals⟩) s = .next s' ∧ s'.mem.dram = s.mem.dram ∧
      s'.rd GAF.STATUS.EXT_ERR = 1 ∧ s'.mem.ext = some { req := r.req, err := true, data := 0 }) ∧
  (∀ (s : State) (t : Time) (arb : Fin 3) (req : Fin 13) (locked : Bool), arb.val ≠ 2 →
    ∃ s', exec (.gafferCutoff t arb req locked) s = .next s' ∧ s'.bitOf GAF.CUT.REQ req = true ∧ s'.mem = s.mem ∧
      s'.rd GAF.STATUS.LOCK_BREAK = (if locked = true ∧ (arb.val ≠ 0 ∨ s.rankOf req ≤ 1) then 1
        else s.rd GAF.STATUS.LOCK_BREAK) ∧
      s'.rd (FLT.CLASS_CNT.COUNT 0x20) = min (2 ^ 32 - 1) (s.rd (FLT.CLASS_CNT.COUNT 0x20) + 1)) ∧
  (∀ (s : State) (t : Time) (req : Fin 13) (locked : Bool) (o : EpOwner), s.mem.own = some o → o.req = req.val →
    o.since + s.rd (GAF.REQ.HOLD req) ≤ (s.at' t).cycle →
    ∃ s', exec (.gafferCutoff t 2 req locked) s = .next s' ∧ s'.bitOf GAF.CUT.REQ req = true ∧
      s'.mem = { s.mem with own := none, ext := some { req := req.val - 8, err := true, data := 0 } } ∧
      s'.rd GAF.STATUS.LOCK_BREAK = (if locked = true then 1 else s.rd GAF.STATUS.LOCK_BREAK)) ∧
  (∀ (s : State) (t : Time) (req : Fin 13) (wait : BitVec 32), s.rd (GAF.REQ.STARVE_LIM req) ≠ 0 →
    64 * s.rd (GAF.REQ.STARVE_LIM req) ≤ wait.toNat →
    ∃ s', exec (.gafferStarvation t req wait) s = .next s' ∧ s'.bitOf GAF.STARVE.REQ req = true ∧
      s'.rd (GAF.WAIT.MAX req) = max (s.rd (GAF.WAIT.MAX req)) (min 65535 wait.toNat)) ∧
  (∀ (s : State) (t : Time) (req : Fin 13) (wait : BitVec 32), s.rd (GAF.REQ.STARVE_LIM req) = 0 ∨
    wait.toNat < 64 * s.rd (GAF.REQ.STARVE_LIM req) →
    ∃ s', exec (.gafferStarvation t req wait) s = .next s' ∧
      s'.rd (GAF.WAIT.MAX req) = max (s.rd (GAF.WAIT.MAX req)) (min 65535 wait.toNat) ∧
      ∀ a, a ≠ (GAF.WAIT.MAX req).addr → s'.word a = s.word a) ∧
  (∀ (s : State) (t : Time), ∃ s', exec (.dramRetrain t) s = .next s' ∧ s'.rd MEM.STATUS.RETRAIN = 1 ∧
    s'.due .drTrain 0 = true ∧ s'.mem = s.mem ∧ ∀ a, a ≠ MEM.STATUS.RETRAIN.addr → s'.word a = s.word a) ∧
  (∀ (s : State) (t : Time), ∃ s', exec (.dramRetrainDone t) s = .next s' ∧ s'.rd MEM.STATUS.RETRAIN = 0 ∧
    s'.running .drTrain = false ∧ s'.mem = s.mem ∧ ∀ a, a ≠ MEM.STATUS.RETRAIN.addr → s'.word a = s.word a) ∧
  (∀ (s : State) (t : Time) (a : Word), ∃ s', exec (.sramUncorrectable t a) s = .next s' ∧
    s'.rd MEM.STATUS.SRAM_UE = 1 ∧ s'.word MEM.SRAM_ERR.VALUE.addr = a ∧
    s'.rd MEM.SRAM_CNT.UE = min (2 ^ MEM.SRAM_CNT.UE.width - 1) (s.rd MEM.SRAM_CNT.UE + 1)) ∧
  (∀ (s : State) (t : Time) (b : BitVec 27), ∃ s', exec (.dramBlockPoisoned t b) s = .next s' ∧
    s'.rd MEM.STATUS.DRAM_UE = 1 ∧ s'.rd MEM.DRAM_ERR.VALUE = b.toNat ∧ s'.isPoisoned b.toNat = true ∧
    s'.rd MEM.DRAM_CNT.UE = min (2 ^ MEM.DRAM_CNT.UE.width - 1) (s.rd MEM.DRAM_CNT.UE + 1) ∧
    s'.mem.dram = s.mem.dram) ∧
  (∀ (s : State) (t : Time) (ce again : BitVec 16), s.on MEM.CTRL.SRAM_SCRUB = true →
    ∃ s', exec (.scrubPass t false true ce again) s = .next s' ∧ s'.due .scrubS 0 = true ∧
      s'.rd MEM.SCRUB.SRAM_PASS = (s.rd MEM.SCRUB.SRAM_PASS + 1) % 2 ^ MEM.SCRUB.SRAM_PASS.width ∧
      s'.rd MEM.STATUS.SRAM_CE = (if ce = 0 then s.rd MEM.STATUS.SRAM_CE else 1) ∧
      s'.rd MEM.SRAM_CNT.CE = min (2 ^ MEM.SRAM_CNT.CE.width - 1) (s.rd MEM.SRAM_CNT.CE + ce.toNat)) ∧
  (∀ (s : State) (t : Time) (ce again : BitVec 16), s.on MEM.CTRL.DRAM_SCRUB = true →
    ∃ s', exec (.scrubPass t true true ce again) s = .next s' ∧ s'.due .scrubD 0 = true ∧
      s'.rd MEM.SCRUB.DRAM_PASS = (s.rd MEM.SCRUB.DRAM_PASS + 1) % 2 ^ MEM.SCRUB.DRAM_PASS.width ∧
      s'.rd MEM.DRAM_CNT.CE = min (2 ^ MEM.DRAM_CNT.CE.width - 1) (s.rd MEM.DRAM_CNT.CE + ce.toNat) ∧
      s'.rd MEM.DRAM_REREAD.VALUE =
        min (2 ^ MEM.DRAM_REREAD.VALUE.width - 1) (s.rd MEM.DRAM_REREAD.VALUE + again.toNat)) ∧
  (∀ (s : State) (t : Time) (dram : Bool) (ce again : BitVec 16),
    s.on (if dram then MEM.CTRL.DRAM_SCRUB else MEM.CTRL.SRAM_SCRUB) = true →
    (s.at' t).due (if dram then TimerKey.scrubD else TimerKey.scrubS) (if dram then 900 * sec else 60 * sec) = true →
    ∃ s', exec (.scrubPass t dram false ce again) s = .next s' ∧ s'.rd MEM.STATUS.SCRUB_LATE = 1 ∧
      s'.rd (FLT.CLASS_CNT.COUNT 0x1B) = min (2 ^ 32 - 1) (s.rd (FLT.CLASS_CNT.COUNT 0x1B) + 1)) ∧
  (∀ (s : State) (t : Time) (which : Fin 5), (s.at' t).bgLate which ≠ [] ∨ (which = 4 ∧ s.bus.points ≠ []) →
    ∃ s', exec (.backgroundPeriodMissed t which) s = .next s' ∧
    (which = 0 → s'.rd MEM.STATUS.SCRUB_LATE = 1) ∧ (which = 1 → s'.rd PWM.STATUS.CAL_LATE = 1) ∧
    (which = 2 → s'.rd MEM.STATUS.ARCHIVE_LATE = 1) ∧ (which = 3 → s'.rd REL.STATUS.DAILIES_LATE = 1) ∧
    (which = 4 → s'.mem.scanLate = true) ∧
    s'.rd (FLT.CLASS_CNT.COUNT 0x1B) = min (2 ^ 32 - 1) (s.rd (FLT.CLASS_CNT.COUNT 0x1B) + 1)) ∧
  (∀ (s : State) (t : Time) (fails : Fin 5), s.on MEM.STATUS.EMMC_ABSENT = false →
    ∃ s', exec (.emmcBlockWrite t fails) s = .next s' ∧ s'.mem = { s.mem with spare := s.mem.spare - min 3 fails.val } ∧
      s'.rd MEM.EMMC_CNT.REWRITE =
        min (2 ^ MEM.EMMC_CNT.REWRITE.width - 1) (s.rd MEM.EMMC_CNT.REWRITE + min 3 fails.val) ∧
      s'.rd MEM.EMMC_CNT.REMAP =
        min (2 ^ MEM.EMMC_CNT.REMAP.width - 1) (s.rd MEM.EMMC_CNT.REMAP + min 3 fails.val) ∧
      s'.rd MEM.STATUS.SPARE_LOW = b2n (decide ((s.mem.spare - min 3 fails.val) * 10 < s.mem.pool))) ∧
  (∀ (s : State) (t : Time) (erases groups : BitVec 32), s.on MEM.STATUS.EMMC_ABSENT = false →
    ∃ s', exec (.wearManagementPass t erases groups) s = .next s' ∧ s'.mem = s.mem ∧ s'.due .bgWear 0 = true ∧
      s'.rd MEM.EMMC_STAT.ENDUR =
        100 * (s.rd MEM.EMMC_CFG.PE_RATED * 100 * Nat.max 1 groups.toNat - erases.toNat) /
          Nat.max 1 (s.rd MEM.EMMC_CFG.PE_RATED * 100 * Nat.max 1 groups.toNat))

/-- R313 to R315. HSR_FORWARD completes: in HSR a frame of another that is not for this device alone leaves by the
other ring port, counted, with its bad FCS and a PTP event with its residence time; one of the device's own
notes its return; any other goes no further. REDUNDANCY_SUPERVISION_SEND completes: in PRP and HSR a frame
leaves by every enabled port, 2 s or more after the last. RING_OPEN completes: an own frame 6 s overdue on a
port in HSR opens the ring, a report; with none the ring is closed. PORT_LINK_LOSS and PORT_LINK_UP complete:
the port's link bit, and PORT_LOST for an enabled process-bus port. Model's choices it rests on: log entry 43. -/
def Obligations.PortsAndRedundancy : Prop :=
  (∀ (s : State) (t : Time) (h : NetHdr) (bad ev : Bool) (res : BitVec 32), s.rd NET.CTRL.MODE = 2 →
    s.portOn h.port = true → h.dst ≠ Config.mac → h.src ≠ Config.mac →
    ∃ s', exec (.hsrForward t h bad ev res) s = .next s' ∧ s' = { s with
        now := max s.now t
        regs := s'.regs
        bus := { s.bus with
          fwd := some (1 - h.port.val, bad, if ev && s.on PTP.CTRL.TC_EN then res.toNat else 0) } } ∧
      s'.rd (NET.PORT.FWD.COUNT (1 - h.port.val)) = (s.rd (NET.PORT.FWD.COUNT (1 - h.port.val)) + 1) % 2 ^ 32 ∧
      ∀ a, a ≠ (NET.PORT.FWD.COUNT (1 - h.port.val)).addr → s'.word a = s.word a) ∧
  (∀ (s : State) (t : Time) (h : NetHdr) (bad ev : Bool) (res : BitVec 32), s.rd NET.CTRL.MODE = 2 →
    s.portOn h.port = true → h.dst ≠ Config.mac → h.src = Config.mac →
    ∃ s', exec (.hsrForward t h bad ev res) s = .next s' ∧
      s'.bus = { s.bus with back := updAt s.bus.back h.port (fun _ => some (max s.now t)) } ∧
      ∀ k : Fin 2, s'.rd (NET.PORT.FWD.COUNT k) = s.rd (NET.PORT.FWD.COUNT k)) ∧
  (∀ (s : State) (t : Time) (h : NetHdr) (bad ev : Bool) (res : BitVec 32),
    s.rd NET.CTRL.MODE ≠ 2 ∨ s.portOn h.port = false ∨ h.dst = Config.mac →
    ∃ s', exec (.hsrForward t h bad ev res) s = .next s' ∧ s' = { s with now := max s.now t }) ∧
  (∀ (s : State) (t : Time), s.rd NET.CTRL.MODE ≠ 0 → (∀ t0, s.bus.supAt = some t0 → t0 + 2 * sec ≤ max s.now t) →
    ∃ s', exec (.redundancySupervisionSend t) s = .next s' ∧
      (∀ p : Fin 2, s'.rd (NET.PORT.TX.COUNT p) = (s.rd (NET.PORT.TX.COUNT p) + b2n (s.portOn p)) % 2 ^ 32) ∧
      s' = { s with
        now := max s.now t
        regs := s'.regs
        bus := { s.bus with
          supAt := some (max s.now t)
          back := s.bus.back.map (fun o => some (o.getD (max s.now t))) } }) ∧
  (∀ (s : State) (t : Time), s.rd NET.CTRL.MODE = 0 ∨ (∃ t0, s.bus.supAt = some t0 ∧ max s.now t < t0 + 2 * sec) →
    ∃ s', exec (.redundancySupervisionSend t) s = .next s' ∧ s' = { s with now := max s.now t }) ∧
  (∀ (s : State) (t t0 : Time) (p : Fin 2), s.rd NET.CTRL.MODE = 2 → s.bus.back.getD p none = some t0 →
    t0 + 6 * sec ≤ max s.now t → s.on NET.STATUS.RING_OPEN = false →
    ∃ s', exec (.ringOpen t) s = .next s' ∧ s'.rd NET.STATUS.RING_OPEN = 1 ∧ s'.rd NET.STATUS.PORT_LOST = 1 ∧
      s'.rd (FLT.CLASS_CNT.COUNT 0x17) = min (2 ^ 32 - 1) (s.rd (FLT.CLASS_CNT.COUNT 0x17) + 1)) ∧
  (∀ (s : State) (t : Time), s.rd NET.CTRL.MODE ≠ 2 ∨
      (∀ (p : Fin 2) (t0 : Time), s.bus.back.getD p none = some t0 → max s.now t < t0 + 6 * sec) →
    ∃ s', exec (.ringOpen t) s = .next s' ∧
    s'.rd NET.STATUS.RING_OPEN = 0 ∧ ∀ a, a ≠ NET.STATUS.RING_OPEN.addr → s'.word a = s.word a) ∧
  (∀ (s : State) (t : Time) (p : Fin 3), ∃ s', exec (.portLinkLoss t p) s = .next s' ∧ s'.rd (linkField p) = 0 ∧
    (p.val ≤ 1 → s.portOn p = true → s'.rd NET.STATUS.PORT_LOST = 1 ∧
      s'.rd (FLT.CLASS_CNT.COUNT 0x17) = min (2 ^ 32 - 1) (s.rd (FLT.CLASS_CNT.COUNT 0x17) + 1)) ∧
    (p.val = 2 ∨ s.portOn p = false → s'.rd NET.STATUS.PORT_LOST = s.rd NET.STATUS.PORT_LOST ∧
      ∀ a, a ≠ NET.STATUS.PA_LINK.addr → s'.word a = s.word a)) ∧
  (∀ (s : State) (t : Time) (p : Fin 3), ∃ s', exec (.portLinkUp t p) s = .next s' ∧ s'.rd (linkField p) = 1 ∧
    ∀ a, a ≠ NET.STATUS.PA_LINK.addr → s'.word a = s.word a)

/-- R315, R316, R337. PTP_ANNOUNCE completes on an enabled port for the device's domain: it is that port's master,
and the best of the masters heard gives the identity, quality and port; listening and holdover end. PTP_SYNC
completes while uncalibrated or slave, for the selected port: the offset shows, the port is a slave, holdover
ends, and the first offset beyond 1,000 ns steps the time and loses the alignment. PTP_PDELAY completes on an
enabled port: the delay shows. PTP_ANNOUNCE_TIMEOUT completes: without a master the port holds over; another
port's master is taken. TRACEABLE_HOLD_EXPIRY completes after HOLD_T in holdover: TRACEABLE ends. Model's
choices it rests on: log entries 12 and 44. -/
def Obligations.PtpFollowsItsMaster : Prop :=
  (∀ (s : State) (t : Time) (port : Fin 2) (dom : BitVec 8) (gm : BitVec 64) (q prio : BitVec 32)
      (every : BitVec 16), s.on PTP.CTRL.EN = true → s.portOn port = true → dom.toNat = s.rd PTP.CTRL.DOMAIN →
    let ms' := s.bus.masters.upd port (fun _ => some {
      gm := gm, q := q, prio := prio, last := max s.now t, every := every.toNat })
    let u := (s.at' t).modBus (fun b => { b with masters := ms' })
    ∃ s', exec (.ptpAnnounce t port dom gm q prio every) s = .next s' ∧ s'.bus.masters = ms' ∧
      (∀ (p : Nat) (m : Master), u.bestPort = some p → ms'.get p none = some m →
        s'.rd64 PTP.GM_ID.IDENTITY = m.gm.toNat ∧ s'.word PTP.GM_Q.STEPS.addr = m.q &&& 0xFF03FFFF ∧
        s'.rd PTP.STATUS.PORT = p % 2 ∧
        s'.rd PTP.STATUS.STATE = (if s.rd PTP.STATUS.STATE = 1 ∨ s.rd PTP.STATUS.STATE = 4 then 2
          else s.rd PTP.STATUS.STATE) ∧
        (s.rd64 PTP.GM_ID.IDENTITY ≠ m.gm.toNat → s.rd64 PTP.GM_ID.IDENTITY ≠ 0 → s'.rd PTP.STATUS.GM_CHANGE = 1) ∧
        (m.q.toNat.testBit 16 = false → s'.rd PTP.STATUS.TRACEABLE = 0))) ∧
  (∀ (s : State) (t : Time) (port : Fin 2) (dom : BitVec 8) (gm : BitVec 64) (q prio : BitVec 32)
      (every : BitVec 16), s.on PTP.CTRL.EN = false ∨ s.portOn port = false ∨ dom.toNat ≠ s.rd PTP.CTRL.DOMAIN →
    ∃ s', exec (.ptpAnnounce t port dom gm q prio every) s = .next s' ∧ s' = { s with now := max s.now t }) ∧
  (∀ (s : State) (t : Time) (port : Fin 2) (off : BitVec 64), s.on PTP.CTRL.EN = true →
    s.rd PTP.STATUS.PORT = port → s.rd PTP.STATUS.STATE = 2 ∨ s.rd PTP.STATUS.STATE = 3 →
    s.bus.fresh = false ∨ off.toInt.natAbs ≤ 1000 →
    ∃ s', exec (.ptpSync t port off) s = .next s' ∧ s'.rd PTP.STATUS.STATE = 3 ∧
      s'.word PTP.OFFSET.NS.addr = satWord off.toInt ∧ s'.rd CLK.STATUS.PTP_HOLD = 0 ∧
      s'.time.tai = s.time.tai ∧ s'.time.taiAt = s.time.taiAt ∧ s'.bus.fresh = false ∧
      s'.bus.goodRun = if off.toInt.natAbs ≤ 250 then satInc 16 s.bus.goodRun else 0) ∧
  (∀ (s : State) (t : Time) (port : Fin 2) (off : BitVec 64), s.on PTP.CTRL.EN = true →
    s.rd PTP.STATUS.PORT = port → s.rd PTP.STATUS.STATE = 2 ∨ s.rd PTP.STATUS.STATE = 3 → s.bus.fresh = true →
    1000 < off.toInt.natAbs →
    ∃ s', exec (.ptpSync t port off) s = .next s' ∧ s'.rd PTP.STATUS.STATE = 3 ∧ s'.rd PTP.STATUS.STEP = 1 ∧
      s'.rd CLK.STATUS.ALIGNED = 0 ∧ s'.rd CLK.STATUS.ALIGN_LOST = 1 ∧ s'.rd CLK.STATUS.PTP_HOLD = 0 ∧
      s'.word PTP.OFFSET.NS.addr = satWord off.toInt ∧
      s'.time.tai = (((s.at' t).tai : Int) - off.toInt).toNat % 2 ^ 64 ∧ s'.time.taiAt = max s.now t ∧
      s'.bus.fresh = false) ∧
  (∀ (s : State) (t : Time) (port : Fin 2) (ns : BitVec 32), s.on PTP.CTRL.EN = true → s.portOn port = true →
    ∃ s', exec (.ptpPdelay t port ns) s = .next s' ∧ s'.word (PTP.PDELAY.NS port).addr = ns ∧
      ∀ a, a ≠ (PTP.PDELAY.NS port).addr → s'.word a = s.word a) ∧
  (∀ (s : State) (t : Time), (s.at' t).bestPort = none → s.rd PTP.STATUS.STATE = 2 ∨ s.rd PTP.STATUS.STATE = 3 →
    ∃ s', exec (.ptpAnnounceTimeout t) s = .next s' ∧ s'.rd PTP.STATUS.STATE = 4 ∧ s'.rd CLK.STATUS.PTP_HOLD = 1 ∧
      s'.due .traceHold 0 = true ∧ s'.bus = s.bus ∧ s'.rd PTP.STATUS.TRACEABLE = s.rd PTP.STATUS.TRACEABLE) ∧
  (∀ (s : State) (t : Time) (p : Nat) (m : Master), (s.at' t).bestPort = some p → p ≠ s.rd PTP.STATUS.PORT →
    s.bus.masters.get p none = some m →
    ∃ s', exec (.ptpAnnounceTimeout t) s = .next s' ∧ s'.rd64 PTP.GM_ID.IDENTITY = m.gm.toNat ∧
      s'.rd PTP.STATUS.PORT = p % 2 ∧ s'.bus.fresh = true ∧ s'.bus.masters = s.bus.masters) ∧
  (∀ (s : State) (t : Time), s.rd PTP.STATUS.STATE = 4 →
    (s.at' t).due .traceHold (s.rd PTP.CTRL.HOLD_T * sec) = true →
    ∃ s', exec (.traceableHoldExpiry t) s = .next s' ∧ s'.rd PTP.STATUS.TRACEABLE = 0 ∧
      s'.running .traceHold = false ∧ s'.rd PTP.STATUS.STATE = 4)

/-- R318 to R322, R324, R325. SV_FRAME and GOOSE_MESSAGE complete: a frame with a bad FCS only counts; the first
good copy at one subscription it matches, authentic where that asks, is accepted there and supervises the
context; one not authentic or not the subscription's own is discarded and counted. A GOOSE message with test or
simulation loses the supervision until its time allowed to live. SV_SUPERVISION_LOSS and GOOSE_SUPERVISION_LOSS
complete where that time passed: the context and its devices are lost. GOOSE_RETRANSMIT completes at its
interval: the message repeats, the interval doubles up to T_MAX. SV_PUBLISH completes where a frame not yet sent
is due: its samples leave by every enabled port. Model's choices it rests on: log entries 11 and 43. -/
def Obligations.ProcessBusSubscriptionsAndPublications : Prop :=
  (∀ (s : State) (t : Time) (h : NetHdr) (asdus : List SvAsdu), s.portOn h.port = true →
    ∃ s', exec (.svFrame t h false asdus) s = .next s' ∧ s'.bus = s.bus ∧
      s'.rd (NET.PORT.RXERR.COUNT h.port) = (s.rd (NET.PORT.RXERR.COUNT h.port) + 1) % 2 ^ 32 ∧
      ∀ a, a ≠ (NET.PORT.RXERR.COUNT h.port).addr → s'.word a = s.word a) ∧
  (∀ (s : State) (t : Time) (h : NetHdr) (m : GooseMsg), s.portOn h.port = true →
    ∃ s', exec (.gooseMessage t h false m) s = .next s' ∧ s'.bus = s.bus ∧
      s'.rd (NET.PORT.RXERR.COUNT h.port) = (s.rd (NET.PORT.RXERR.COUNT h.port) + 1) % 2 ^ 32 ∧
      ∀ a, a ≠ (NET.PORT.RXERR.COUNT h.port).addr → s'.word a = s.word a) ∧
  (∀ (s : State) (t : Time) (h : NetHdr) (a : SvAsdu) (c : Ctx), ((s.at' t).netTake h true).1 = true →
    s.bus.ctxs.filter (fun x => x.matches 1 h) = [c] → s.ctx c.idx = some c → c.idx < 256 →
    (s.at' t).frameAuth c h.auth = true →
    a.svId = c.name1 → a.confRev.toNat = c.u 14 4 → a.synch = 2 → a.smpCnt.toNat < c.u 18 2 →
    ∃ s', exec (.svFrame t h true [a]) s = .next s' ∧
      (s'.ctx c.idx).map (fun x => x.accepted) = some (c.accepted + 1) ∧ s'.supv c.idx = true ∧
      s'.due (.svSup c.idx) 0 = true ∧
      s'.rd (NET.PORT.RX.COUNT h.port) = (s.rd (NET.PORT.RX.COUNT h.port) + 1) % 2 ^ 32) ∧
  (∀ (s : State) (t : Time) (h : NetHdr) (a : SvAsdu) (c : Ctx), ((s.at' t).netTake h true).1 = true →
    s.bus.ctxs.filter (fun x => x.matches 1 h) = [c] → s.ctx c.idx = some c → c.idx < 256 →
    (s.at' t).frameAuth c h.auth = true →
    a.svId ≠ c.name1 ∨ a.confRev.toNat ≠ c.u 14 4 ∨ a.synch ≠ 2 ∨ c.u 18 2 ≤ a.smpCnt.toNat →
    ∃ s', exec (.svFrame t h true [a]) s = .next s' ∧ s'.rd STR.EVENT.SEQ_ERR = 1 ∧ s'.supv c.idx = s.supv c.idx ∧
      s'.ctx c.idx = some { c with discarded := c.discarded + 1, seqErrs := c.seqErrs + 1 }) ∧
  (∀ (s : State) (t : Time) (h : NetHdr) (a : SvAsdu) (c : Ctx), ((s.at' t).netTake h true).1 = true →
    s.bus.ctxs.filter (fun x => x.matches 1 h) = [c] → s.ctx c.idx = some c →
    (s.at' t).frameAuth c h.auth = false →
    ∃ s', exec (.svFrame t h true [a]) s = .next s' ∧ s'.rd STR.EVENT.AUTH_FAIL = 1 ∧
      s'.ctx c.idx = some { c with authFails := c.authFails + 1, discarded := c.discarded + 1 }) ∧
  (∀ (s : State) (t t0 : Time) (i : BitVec 8) (c : Ctx), s.ctx i.toNat = some c → c.kind = 1 →
    s.startedAt (.svSup i.toNat) = some t0 → (t0 + c.u 20 2 * 100 * us) / sclk < (s.at' t).cycle →
    s.supv i.toNat = true →
    ∃ s', exec (.svSupervisionLoss t i) s = .next s' ∧ s'.supv i.toNat = false ∧
      s'.rd STR.EVENT.SUPV_LOSS = 1 ∧ s'.running (.svSup i.toNat) = false ∧
      s'.rd (FLT.CLASS_CNT.COUNT 0x22) = min (2 ^ 32 - 1) (s.rd (FLT.CLASS_CNT.COUNT 0x22) + 1) ∧
      (s'.ctx i.toNat).map (fun x => x.losses) = some (c.losses + 1)) ∧
  (∀ (s : State) (t : Time) (h : NetHdr) (m : GooseMsg) (c : Ctx), ((s.at' t).netTake h true).1 = true →
    s.bus.ctxs.filter (fun x => x.matches 3 h) = [c] → s.ctx c.idx = some c → c.idx < 256 →
    (s.at' t).frameAuth c h.auth = true →
    m.gocbRef = c.name1 → m.datSet = c.name2 → m.confRev.toNat = c.u 14 4 → m.ndsCom = false →
    c.stNum ≤ m.stNum.toNat ∨ m.stNum = 1 → m.test = false → m.sim = false →
    (∀ t0, c.testTill = some t0 → t0 ≤ max s.now t) →
    ∃ s', exec (.gooseMessage t h true m) s = .next s' ∧
      s'.ctx c.idx = some { c with
        accepted := c.accepted + 1
        stNum := m.stNum.toNat
        ttl := m.ttl.toNat
        items := if m.stNum.toNat ≠ c.stNum ∨ c.accepted = 0 then m.items else c.items } ∧
      s'.supv c.idx = true ∧ s'.due (.gooseSup c.idx) 0 = true) ∧
  (∀ (s : State) (t : Time) (h : NetHdr) (m : GooseMsg) (c : Ctx), ((s.at' t).netTake h true).1 = true →
    s.bus.ctxs.filter (fun x => x.matches 3 h) = [c] → s.ctx c.idx = some c → c.idx < 256 →
    (s.at' t).frameAuth c h.auth = true →
    m.gocbRef = c.name1 → m.datSet = c.name2 → m.confRev.toNat = c.u 14 4 → m.ndsCom = false →
    c.stNum ≤ m.stNum.toNat ∨ m.stNum = 1 → m.test = true ∨ m.sim = true →
    ∃ s', exec (.gooseMessage t h true m) s = .next s' ∧ s'.supv c.idx = false ∧
      (s'.ctx c.idx).map (fun x => x.testTill) =
        some (some (Nat.max (max s.now t + m.ttl.toNat * ms) (c.testTill.getD 0))) ∧
      s'.running (.gooseSup c.idx) = false ∧ (∀ d ∈ s.devicesOf c.idx, s'.supvLost d = true)) ∧
  (∀ (s : State) (t : Time) (h : NetHdr) (m : GooseMsg) (c : Ctx), ((s.at' t).netTake h true).1 = true →
    s.bus.ctxs.filter (fun x => x.matches 3 h) = [c] → s.ctx c.idx = some c →
    (s.at' t).frameAuth c h.auth = true →
    m.gocbRef ≠ c.name1 ∨ m.datSet ≠ c.name2 ∨ m.confRev.toNat ≠ c.u 14 4 ∨ m.ndsCom = true ∨
      (m.stNum.toNat < c.stNum ∧ m.stNum ≠ 1) →
    ∃ s', exec (.gooseMessage t h true m) s = .next s' ∧ s'.rd STR.EVENT.SEQ_ERR = 1 ∧
      s'.ctx c.idx = some { c with discarded := c.discarded + 1, seqErrs := c.seqErrs + 1 }) ∧
  (∀ (s : State) (t : Time) (i : BitVec 8) (c : Ctx), s.ctx i.toNat = some c → c.kind = 3 →
    (s.at' t).due (.gooseSup i.toNat) (c.ttl * ms) = true → s.supv i.toNat = true →
    ∃ s', exec (.gooseSupervisionLoss t i) s = .next s' ∧ s'.supv i.toNat = false ∧
      s'.rd STR.EVENT.SUPV_LOSS = 1 ∧ s'.running (.gooseSup i.toNat) = false ∧
      (∀ d ∈ s.devicesOf i.toNat, s'.supvLost d = true)) ∧
  (∀ (s : State) (t : Time) (i : BitVec 8) (c : Ctx), s.ctx i.toNat = some c → c.kind = 4 →
    (s.at' t).due (.gooseRetx i.toNat) (c.every * ms) = true →
    ∃ s', exec (.gooseRetransmit t i) s = .next s' ∧ s'.due (.gooseRetx i.toNat) 0 = true ∧
      s'.ctx i.toNat = some { c with
        sqNum := c.sqNum + 1
        every := min (2 * c.every) (c.u 22 2)
        ttl := 2 * min (2 * c.every) (c.u 22 2)
        txKey := if c.auth then (s.ctxKeys i.toNat).cur.map (·.id) else none } ∧
      (∀ p : Fin 2, s'.rd (NET.PORT.TX.COUNT p) = (s.rd (NET.PORT.TX.COUNT p) + b2n (s.portOn p)) % 2 ^ 32)) ∧
  (∀ (s : State) (t : Time) (i : BitVec 8) (c : Ctx), s.ctx i.toNat = some c → c.kind = 2 →
    let d := frameDue (s.at' t).tai (c.u 18 2)
    let last := d.2.1 * 10 ^ 9 + (rneDiv (((d.1 + d.2.2 - 1) * 10 ^ 9 : Nat) : Int) (c.u 18 2)).toNat
    c.lastAt ≠ some last →
    ∃ s', exec (.svPublish t i) s = .next s' ∧
      (s'.ctx i.toNat).map (fun x => x.synch) = some (if s.on PTP.STATUS.TRACEABLE then 2 else 0) ∧
      (s'.ctx i.toNat).map (fun x => x.lastAt) = some (some last) ∧
      (s'.ctx i.toNat).map (fun x => x.smpCnt) = some ((d.1 + d.2.2) % c.u 18 2) ∧
      (s'.ctx i.toNat).map (fun x => x.lastTx.length) = some (d.2.2 * c.u 3 1) ∧
      (∀ p : Fin 2, s'.rd (NET.PORT.TX.COUNT p) = (s.rd (NET.PORT.TX.COUNT p) + b2n (s.portOn p)) % 2 ^ 32))

/-- R36: the frame period is what SEQ.PERIOD shows at a tick, 4,000 cycles after reset. A write in the range and not
below the least period of the images concerned is held, and is the period from the next tick on; any other is
not taken and sets PERIOD_REJECT; neither asks for a state. The next tick is due one period after the last. -/
def Obligations.FramePeriodFollowsItsRegister : Prop :=
  State.reset.rd SEQ.PERIOD.CYCLES = 4000 ∧
  State.reset.seq.period = 4000 ∧
  (∀ (s : State) (t : Time) (v : Word), 2000 ≤ v.toNat % 2 ^ 15 → v.toNat % 2 ^ 15 ≤ 20000 →
    s.leastPeriod ≤ v.toNat % 2 ^ 15 → ∃ s', exec (.periodWrite t v) s = .next s' ∧
      s'.word 0x3000 = BitVec.ofNat 32 (v.toNat % 2 ^ 15) ∧ s'.eff = s.eff ∧ s'.seq = s.seq ∧
      s'.pend.getLast? = some {
        space := .reg, addr := 0x3000, val := BitVec.ofNat 32 (v.toNat % 2 ^ 15), cycle := (s.at' t).cycle } ∧
      ∀ a, a < 0x1D000 → a ≠ 0x3000 → s'.word a = s.word a) ∧
  (∀ (s : State) (t : Time) (v : Word),
    v.toNat % 2 ^ 15 < 2000 ∨ 20000 < v.toNat % 2 ^ 15 ∨ v.toNat % 2 ^ 15 < s.leastPeriod →
    ∃ s', exec (.periodWrite t v) s = .next s' ∧ s'.rd SEQ.STATUS.PERIOD_REJECT = 1 ∧
      s'.rd SEQ.PERIOD.CYCLES = s.rd SEQ.PERIOD.CYCLES ∧ s'.pend = s.pend ∧
      ∀ a, a ≠ SEQ.STATUS.PERIOD_REJECT.addr → s'.word a = s.word a) ∧
  (∀ (s : State) (t : Time) (l : List PendWrite) (w : PendWrite), (s.at' t).tickDue = true → s.pend = l ++ [w] →
    w.space = .reg → w.addr = 0x3000 → w.cycle < (s.at' t).cycle →
    ∃ s', exec (.tick t) s = .next s' ∧ s'.seq.period = w.val.toNat % 2 ^ 15 ∧
      s'.rdE SEQ.PERIOD.CYCLES = w.val.toNat % 2 ^ 15 ∧ s'.seq.tickCycle = (s.at' t).cycle) ∧
  (∀ (s : State) (t : Time), s.seq.ticked = true → (s.at' t).cycle < s.seq.tickCycle + s.seq.period →
    exec (.tick t) s = .next { s with now := max s.now t }) ∧
  (∀ (s : State) (t : Time), s.seq.ticked = true → s.seq.tickCycle + s.seq.period ≤ (s.at' t).cycle →
    s.sys.dark = false → stBOOT < s.code → s.clk.stopped = false →
    ∃ s', exec (.tick t) s = .next s' ∧ s'.seq.tickCycle = (s.at' t).cycle)

/-- R29 to R31, R37, R38: a tick that is due opens a frame at its own cycle, latches the time of the slate and
counts the frame modulo 2^32, from 0 at the first since power-on or a reset; one that is not due changes
nothing. -/
def Obligations.TickOpensAFrame : Prop :=
  (∀ (s : State) (t : Time), (s.at' t).tickDue = true → ∃ s', exec (.tick t) s = .next s' ∧
    s'.seq.ticked = true ∧ s'.seq.tickCycle = (s.at' t).cycle ∧ s'.seq.phase ≠ .ended ∧
    s'.rd64 SEQ.SLATE_TIME.TAI_NS = (s.at' t).tai ∧
    s'.rd SEQ.FRAMECNT.COUNT = if s.seq.ticked then (s.rd SEQ.FRAMECNT.COUNT + 1) % 2 ^ 32 else 0) ∧
  (∀ (s : State) (t : Time), (s.at' t).tickDue = false → ∃ s', exec (.tick t) s = .next s' ∧
    s' = { s with now := max s.now t }) ∧
  State.reset.seq.ticked = false ∧
  (∀ (s : State) (t : Time) (v : Bool), ∃ s', exec (.powerOnReset t v) s = .next s' ∧ s'.seq.ticked = false) ∧
  (∀ (s : State) (t : Time) (q : Bool × Nat × Nat), s.cue.resetBy = some q →
    (s.at' t).due .resetQueued (100 * ms) = true →
    ∃ s', exec (.resetStart t) s = .next s' ∧ s'.seq.ticked = false)

/-- A step runs the command at the front of the queue with the queue's rest; with nothing waiting the machine idles
for one period of SCLK. Model's choices it rests on: log entry 3. -/
def Obligations.StepRunsTheFrontCommand : Prop :=
  (∀ (s : State) (c : Instr) (rest : List Instr), s.pending = c :: rest →
    step s = exec c { s with pending := rest }) ∧
  (∀ s : State, s.pending = [] → step s = .next { s with now := s.now + sclk })

/-- Commands take no time back and touch no queue: what a command leaves has the queue it was given, and a clock at
or after its own. Model's choices it rests on: log entry 5. -/
def Obligations.CommandsKeepQueueAndClock : Prop :=
  ∀ (c : Instr) (s s' : State), exec c s = .next s' → s'.pending = s.pending ∧ s.now ≤ s'.now

/-- R349, R399, R418: only an external transfer, a debug access, a brown-out, a power-on reset and a reset write
DRAM; every other command leaves each byte of it as it was. Model's choices it rests on: log entry 17. -/
def Obligations.FiveCommandsReachDram : Prop :=
  ∀ (c : Instr) (s s' : State), exec c s = .next s' → reachesDram c = false →
    ∀ a, dramGet s'.mem.dram a = dramGet s.mem.dram a

/-- DRAM keeps its canonical form over every step: addresses strictly rising, and no entry at the value that an
unlisted address reads as. Model's choices it rests on: log entry 17. -/
def Obligations.EveryStepKeepsDramCanonical : Prop :=
  ∀ s s' : State, mapWf (fun _ => (0 : Byte)) s.mem.dram = true → step s = .next s' →
    mapWf (fun _ => (0 : Byte)) s'.mem.dram = true

/-- The state after reset: every sparse map is in its canonical form, nothing waits, the window reads its reset
words, the device is in reset with the state code BOOT. Model's choices it rests on: log entries 2 and 17. -/
def Obligations.ResetState : Prop :=
  State.reset.mapsWf = true ∧ State.reset.pending = [] ∧ State.reset.mem.dram = [] ∧
    (∀ a, State.reset.word a = resetWord a) ∧ State.reset.code = stBOOT ∧ State.reset.now = 0

/-- R45: a LOAD stops by name on a latency that no access of the machine has, and on every other runs; no other
command of any kind ever stops. Model's choices it rests on: log entry 15. -/
def Obligations.OnlyAnImpossibleLoadStops : Prop :=
  (∀ (s : State) (w : Shot) (k : ShotCheck) (lat : Nat), lat = 0 ∨ 14 < lat →
    exec (.load w k lat) s = .fault .illFormed) ∧
  (∀ (c : Instr) (s : State), (∀ w k lat, c = .load w k lat → 1 ≤ lat ∧ lat ≤ 14) → ∃ s', exec c s = .next s')

end Statements
end

