-- ==== Sys2Proof/Laws/SMap.lean ====
section
/-!
SUPPORT. The laws of the sparse stores: a read after a write, and the canonical form kept.
-/
namespace Sys2Proof.Machine

variable {α : Type}

@[simp] theorem mapGet_nil (d : Nat → α) (a : Nat) : mapGet d [] a = d a := rfl

theorem mapDel_cons (k : Nat) (w : α) (m : SMap α) (a : Nat) :
    mapDel ((k, w) :: m) a = if k = a then mapDel m a else (k, w) :: mapDel m a := by
  unfold mapDel
  by_cases h : k = a <;> simp [h]

theorem mapGet_mapDel_same (d : Nat → α) (m : SMap α) (a : Nat) : mapGet d (mapDel m a) a = d a := by
  induction m with
  | nil => rfl
  | cons e m ih =>
    rw [mapDel_cons]
    split
    · exact ih
    · rename_i h; simp [mapGet, ih, Ne.symm h]

theorem mapGet_mapDel_other (d : Nat → α) (m : SMap α) {a b : Nat} (h : b ≠ a) :
    mapGet d (mapDel m a) b = mapGet d m b := by
  induction m with
  | nil => rfl
  | cons e m ih =>
    rw [mapDel_cons]
    split
    · rename_i h1; simp [mapGet, ih, h1, h]
    · simp [mapGet, ih]

theorem mapGet_mapIns_same (d : Nat → α) (m : SMap α) (a : Nat) (v : α) : mapGet d (mapIns m a v) a = v := by
  induction m with
  | nil => simp [mapIns, mapGet]
  | cons e m ih =>
    obtain ⟨k, w⟩ := e
    unfold mapIns
    split
    · simp [mapGet]
    · split
      · simp [mapGet]
      · rename_i h _; simp [mapGet, h, ih]

theorem mapGet_mapIns_other (d : Nat → α) (m : SMap α) {a b : Nat} (v : α) (h : b ≠ a) :
    mapGet d (mapIns m a v) b = mapGet d m b := by
  induction m with
  | nil => simp [mapIns, mapGet, h]
  | cons e m ih =>
    obtain ⟨k, w⟩ := e
    unfold mapIns
    split
    · rename_i h1; simp [mapGet, h, ← h1]
    · split
      · simp [mapGet, h]
      · simp [mapGet, ih]

/-- A key reads the value written to it. -/
theorem mapGet_mapPut_same [DecidableEq α] (d : Nat → α) (m : SMap α) (a : Nat) (v : α) :
    mapGet d (mapPut d m a v) a = v := by
  unfold mapPut
  split
  · rename_i h; rw [mapGet_mapDel_same, h]
  · exact mapGet_mapIns_same d m a v

/-- A write leaves every other key alone. -/
theorem mapGet_mapPut_other [DecidableEq α] (d : Nat → α) (m : SMap α) {a b : Nat} (v : α) (h : b ≠ a) :
    mapGet d (mapPut d m a v) b = mapGet d m b := by
  unfold mapPut
  split
  · exact mapGet_mapDel_other d m h
  · exact mapGet_mapIns_other d m v h

/-- A read after a write, in one equation. -/
theorem mapGet_mapPut [DecidableEq α] (d : Nat → α) (m : SMap α) (a b : Nat) (v : α) :
    mapGet d (mapPut d m a v) b = if b = a then v else mapGet d m b := by
  split
  · rename_i h; rw [h, mapGet_mapPut_same]
  · rename_i h; exact mapGet_mapPut_other d m v h

/-! ### The canonical form -/

theorem mapWfAbove_mono [DecidableEq α] (d : Nat → α) (m : SMap α) {lo lo' : Nat} (h : lo ≤ lo')
    (hw : mapWfAbove d lo' m = true) : mapWfAbove d lo m = true := by
  cases m with
  | nil => rfl
  | cons e m =>
    simp only [mapWfAbove, Bool.and_eq_true, decide_eq_true_eq] at hw ⊢
    exact ⟨⟨by omega, hw.1.2⟩, hw.2⟩

theorem mapWfAbove_filter [DecidableEq α] (d : Nat → α) (p : Nat × α → Bool) (m : SMap α) (lo : Nat)
    (hw : mapWfAbove d lo m = true) : mapWfAbove d lo (m.filter p) = true := by
  induction m generalizing lo with
  | nil => rfl
  | cons e m ih =>
    simp only [mapWfAbove, Bool.and_eq_true, decide_eq_true_eq] at hw
    by_cases hp : p e = true
    · rw [List.filter_cons_of_pos hp]
      simp only [mapWfAbove, Bool.and_eq_true, decide_eq_true_eq]
      exact ⟨hw.1, ih _ hw.2⟩
    · rw [List.filter_cons_of_neg hp]
      exact mapWfAbove_mono d _ (by omega) (ih _ hw.2)

theorem mapWfAbove_mapIns [DecidableEq α] (d : Nat → α) (m : SMap α) (a : Nat) (v : α) (lo : Nat)
    (ha : lo ≤ a) (hv : v ≠ d a) (hw : mapWfAbove d lo m = true) : mapWfAbove d lo (mapIns m a v) = true := by
  induction m generalizing lo with
  | nil => simp [mapIns, mapWfAbove, ha, hv]
  | cons e m ih =>
    obtain ⟨k, w⟩ := e
    simp only [mapWfAbove, Bool.and_eq_true, decide_eq_true_eq] at hw
    unfold mapIns
    split
    · rename_i h; subst h
      simp [mapWfAbove, ha, hv, hw.2]
    · split
      · rename_i h1 h2
        simp only [mapWfAbove, Bool.and_eq_true, decide_eq_true_eq]
        exact ⟨⟨ha, hv⟩, ⟨by omega, hw.1.2⟩, hw.2⟩
      · rename_i h1 h2
        simp only [mapWfAbove, Bool.and_eq_true, decide_eq_true_eq]
        exact ⟨hw.1, ih _ (by omega) hw.2⟩

/-- A write keeps the canonical form. -/
theorem mapWf_mapPut [DecidableEq α] (d : Nat → α) (m : SMap α) (a : Nat) (v : α) (h : mapWf d m = true) :
    mapWf d (mapPut d m a v) = true := by
  unfold mapPut
  split
  · exact mapWfAbove_filter d _ m 0 h
  · rename_i hv; exact mapWfAbove_mapIns d m a v 0 (Nat.zero_le _) hv h

/-- Writing a run of keys keeps the canonical form. -/
theorem mapWf_mapPutList [DecidableEq α] (d : Nat → α) (l : List α) (m : SMap α) (a : Nat)
    (h : mapWf d m = true) : mapWf d (mapPutList d m a l) = true := by
  induction l generalizing m a with
  | nil => exact h
  | cons v vs ih => exact ih _ _ (mapWf_mapPut d m a v h)

/-- Clearing a range keeps the canonical form. -/
theorem mapWf_mapClearRange [DecidableEq α] (d : Nat → α) (m : SMap α) (lo hi : Nat) (h : mapWf d m = true) :
    mapWf d (mapClearRange m lo hi) = true := mapWfAbove_filter d _ m 0 h

end Sys2Proof.Machine
end

