-- ==== Sys2Proof/Laws/Memory.lean ====
section
/-!
SUPPORT. DRAM: what a write leaves, and the canonical form that every operation on it keeps.
-/
namespace Sys2Proof.Machine

/-- The canonical form of DRAM. -/
abbrev dramWf (m : SMap Byte) : Prop := mapWf (fun _ => (0 : Byte)) m = true

theorem mapGet_mapPutList_outside [DecidableEq α] (d : Nat → α) (l : List α) (m : SMap α) (a : Nat) {b : Nat}
    (h : b < a ∨ a + l.length ≤ b) : mapGet d (mapPutList d m a l) b = mapGet d m b := by
  induction l generalizing m a with
  | nil => rfl
  | cons v vs ih =>
    have h' : b < a ∨ a + (vs.length + 1) ≤ b := by simpa using h
    unfold mapPutList
    rw [ih _ _ (by omega), mapGet_mapPut_other d m v (by omega)]

theorem mapGet_mapPutList_inside [DecidableEq α] (d : Nat → α) (l : List α) (m : SMap α) (a i : Nat) (e : α)
    (h : i < l.length) : mapGet d (mapPutList d m a l) (a + i) = l.getD i e := by
  induction l generalizing m a i with
  | nil => simp at h
  | cons v vs ih =>
    unfold mapPutList
    cases i with
    | zero => rw [mapGet_mapPutList_outside d vs _ _ (by omega), Nat.add_zero, mapGet_mapPut_same]; rfl
    | succ i =>
      have := ih (mapPut d m a v) (a + 1) i (by simpa using h)
      rw [show a + (i + 1) = a + 1 + i by omega, this]; rfl

theorem dramWf_reset : dramWf State.reset.mem.dram := rfl

theorem dramWf_putDram (s : State) (a : Nat) (v : Word) (h : dramWf s.mem.dram) : dramWf (s.putDram a v).mem.dram :=
  mapWf_mapPutList _ _ _ _ h

theorem dramWf_put (m : SMap Byte) (a : Nat) (v : Byte) (h : dramWf m) : dramWf (mapPut (fun _ => 0) m a v) :=
  mapWf_mapPut _ _ _ _ h

theorem length_leBytes (n v : Nat) : (leBytes n v).length = n := by
  induction n generalizing v with
  | zero => rfl
  | succ n ih => simp [leBytes, ih]

/-- A word write leaves every byte outside its four. -/
theorem dramGet_putDram_outside (s : State) (a : Nat) (v : Word) {b : Nat} (h : b < a ∨ a + 4 ≤ b) :
    dramGet (s.putDram a v).mem.dram b = dramGet s.mem.dram b :=
  mapGet_mapPutList_outside _ _ _ _ (by rw [length_leBytes]; exact h)

/-- A word write puts its bytes, the least significant first. -/
theorem dramGet_putDram_inside (s : State) (a : Nat) (v : Word) {i : Nat} (h : i < 4) :
    dramGet (s.putDram a v).mem.dram (a + i) = (leBytes 4 v.toNat).getD i 0 :=
  mapGet_mapPutList_inside _ _ _ _ _ _ (by rw [length_leBytes]; exact h)

end Sys2Proof.Machine
end

