-- ==== Sys2Proof/Laws/State.lean ====
section
/-!
SUPPORT. What each update of the state leaves of each field, so that no proof unfolds a record update.
-/
namespace Sys2Proof.Machine

/-! ### `State.at'` -/

@[simp] theorem State.at_pending (s : State) (t : Time) : (s.at' t).pending = s.pending := rfl
@[simp] theorem State.at_now (s : State) (t : Time) : (s.at' t).now = max s.now t := rfl
@[simp] theorem State.at_regs (s : State) (t : Time) : (s.at' t).regs = s.regs := rfl
@[simp] theorem State.at_eff (s : State) (t : Time) : (s.at' t).eff = s.eff := rfl
@[simp] theorem State.at_pend (s : State) (t : Time) : (s.at' t).pend = s.pend := rfl
@[simp] theorem State.at_snap (s : State) (t : Time) : (s.at' t).snap = s.snap := rfl
@[simp] theorem State.at_lowW (s : State) (t : Time) : (s.at' t).lowW = s.lowW := rfl
@[simp] theorem State.at_timers (s : State) (t : Time) : (s.at' t).timers = s.timers := rfl
@[simp] theorem State.at_free (s : State) (t : Time) : (s.at' t).free = s.free := rfl
@[simp] theorem State.at_hot (s : State) (t : Time) : (s.at' t).hot = s.hot := rfl
@[simp] theorem State.at_seq (s : State) (t : Time) : (s.at' t).seq = s.seq := rfl
@[simp] theorem State.at_band (s : State) (t : Time) : (s.at' t).band = s.band := rfl
@[simp] theorem State.at_cu (s : State) (t : Time) : (s.at' t).cu = s.cu := rfl
@[simp] theorem State.at_clap (s : State) (t : Time) : (s.at' t).clap = s.clap := rfl
@[simp] theorem State.at_isl (s : State) (t : Time) : (s.at' t).isl = s.isl := rfl
@[simp] theorem State.at_trip (s : State) (t : Time) : (s.at' t).trip = s.trip := rfl
@[simp] theorem State.at_sys (s : State) (t : Time) : (s.at' t).sys = s.sys := rfl
@[simp] theorem State.at_faults (s : State) (t : Time) : (s.at' t).faults = s.faults := rfl
@[simp] theorem State.at_log (s : State) (t : Time) : (s.at' t).log = s.log := rfl
@[simp] theorem State.at_time (s : State) (t : Time) : (s.at' t).time = s.time := rfl
@[simp] theorem State.at_meas (s : State) (t : Time) : (s.at' t).meas = s.meas := rfl
@[simp] theorem State.at_sync (s : State) (t : Time) : (s.at' t).sync = s.sync := rfl
@[simp] theorem State.at_frt (s : State) (t : Time) : (s.at' t).frt = s.frt := rfl
@[simp] theorem State.at_feeds (s : State) (t : Time) : (s.at' t).feeds = s.feeds := rfl
@[simp] theorem State.at_isd (s : State) (t : Time) : (s.at' t).isd = s.isd := rfl
@[simp] theorem State.at_cue (s : State) (t : Time) : (s.at' t).cue = s.cue := rfl
@[simp] theorem State.at_bus (s : State) (t : Time) : (s.at' t).bus = s.bus := rfl
@[simp] theorem State.at_clk (s : State) (t : Time) : (s.at' t).clk = s.clk := rfl
@[simp] theorem State.at_mtr (s : State) (t : Time) : (s.at' t).mtr = s.mtr := rfl
@[simp] theorem State.at_mem (s : State) (t : Time) : (s.at' t).mem = s.mem := rfl
@[simp] theorem State.at_hist (s : State) (t : Time) : (s.at' t).hist = s.hist := rfl
@[simp] theorem State.at_nvm (s : State) (t : Time) : (s.at' t).nvm = s.nvm := rfl
@[simp] theorem State.at_avail (s : State) (t : Time) : (s.at' t).avail = s.avail := rfl

/-! ### `State.setWord` -/

@[simp] theorem State.setWord_pending (s : State) (a : Nat) (w : Word) : (s.setWord a w).pending = s.pending := rfl
@[simp] theorem State.setWord_now (s : State) (a : Nat) (w : Word) : (s.setWord a w).now = s.now := rfl
@[simp] theorem State.setWord_regs (s : State) (a : Nat) (w : Word) : (s.setWord a w).regs = mapPut resetWord s.regs a w := rfl
@[simp] theorem State.setWord_eff (s : State) (a : Nat) (w : Word) : (s.setWord a w).eff = s.eff := rfl
@[simp] theorem State.setWord_pend (s : State) (a : Nat) (w : Word) : (s.setWord a w).pend = s.pend := rfl
@[simp] theorem State.setWord_snap (s : State) (a : Nat) (w : Word) : (s.setWord a w).snap = s.snap := rfl
@[simp] theorem State.setWord_lowW (s : State) (a : Nat) (w : Word) : (s.setWord a w).lowW = s.lowW := rfl
@[simp] theorem State.setWord_timers (s : State) (a : Nat) (w : Word) : (s.setWord a w).timers = s.timers := rfl
@[simp] theorem State.setWord_free (s : State) (a : Nat) (w : Word) : (s.setWord a w).free = s.free := rfl
@[simp] theorem State.setWord_hot (s : State) (a : Nat) (w : Word) : (s.setWord a w).hot = s.hot := rfl
@[simp] theorem State.setWord_seq (s : State) (a : Nat) (w : Word) : (s.setWord a w).seq = s.seq := rfl
@[simp] theorem State.setWord_band (s : State) (a : Nat) (w : Word) : (s.setWord a w).band = s.band := rfl
@[simp] theorem State.setWord_cu (s : State) (a : Nat) (w : Word) : (s.setWord a w).cu = s.cu := rfl
@[simp] theorem State.setWord_clap (s : State) (a : Nat) (w : Word) : (s.setWord a w).clap = s.clap := rfl
@[simp] theorem State.setWord_isl (s : State) (a : Nat) (w : Word) : (s.setWord a w).isl = s.isl := rfl
@[simp] theorem State.setWord_trip (s : State) (a : Nat) (w : Word) : (s.setWord a w).trip = s.trip := rfl
@[simp] theorem State.setWord_sys (s : State) (a : Nat) (w : Word) : (s.setWord a w).sys = s.sys := rfl
@[simp] theorem State.setWord_faults (s : State) (a : Nat) (w : Word) : (s.setWord a w).faults = s.faults := rfl
@[simp] theorem State.setWord_log (s : State) (a : Nat) (w : Word) : (s.setWord a w).log = s.log := rfl
@[simp] theorem State.setWord_time (s : State) (a : Nat) (w : Word) : (s.setWord a w).time = s.time := rfl
@[simp] theorem State.setWord_meas (s : State) (a : Nat) (w : Word) : (s.setWord a w).meas = s.meas := rfl
@[simp] theorem State.setWord_sync (s : State) (a : Nat) (w : Word) : (s.setWord a w).sync = s.sync := rfl
@[simp] theorem State.setWord_frt (s : State) (a : Nat) (w : Word) : (s.setWord a w).frt = s.frt := rfl
@[simp] theorem State.setWord_feeds (s : State) (a : Nat) (w : Word) : (s.setWord a w).feeds = s.feeds := rfl
@[simp] theorem State.setWord_isd (s : State) (a : Nat) (w : Word) : (s.setWord a w).isd = s.isd := rfl
@[simp] theorem State.setWord_cue (s : State) (a : Nat) (w : Word) : (s.setWord a w).cue = s.cue := rfl
@[simp] theorem State.setWord_bus (s : State) (a : Nat) (w : Word) : (s.setWord a w).bus = s.bus := rfl
@[simp] theorem State.setWord_clk (s : State) (a : Nat) (w : Word) : (s.setWord a w).clk = s.clk := rfl
@[simp] theorem State.setWord_mtr (s : State) (a : Nat) (w : Word) : (s.setWord a w).mtr = s.mtr := rfl
@[simp] theorem State.setWord_mem (s : State) (a : Nat) (w : Word) : (s.setWord a w).mem = s.mem := rfl
@[simp] theorem State.setWord_hist (s : State) (a : Nat) (w : Word) : (s.setWord a w).hist = s.hist := rfl
@[simp] theorem State.setWord_nvm (s : State) (a : Nat) (w : Word) : (s.setWord a w).nvm = s.nvm := rfl
@[simp] theorem State.setWord_avail (s : State) (a : Nat) (w : Word) : (s.setWord a w).avail = s.avail := rfl

/-! ### `State.wr` -/

@[simp] theorem State.wr_pending (s : State) (f : Field) (v : Nat) : (s.wr f v).pending = s.pending := rfl
@[simp] theorem State.wr_now (s : State) (f : Field) (v : Nat) : (s.wr f v).now = s.now := rfl
@[simp] theorem State.wr_eff (s : State) (f : Field) (v : Nat) : (s.wr f v).eff = s.eff := rfl
@[simp] theorem State.wr_pend (s : State) (f : Field) (v : Nat) : (s.wr f v).pend = s.pend := rfl
@[simp] theorem State.wr_snap (s : State) (f : Field) (v : Nat) : (s.wr f v).snap = s.snap := rfl
@[simp] theorem State.wr_lowW (s : State) (f : Field) (v : Nat) : (s.wr f v).lowW = s.lowW := rfl
@[simp] theorem State.wr_timers (s : State) (f : Field) (v : Nat) : (s.wr f v).timers = s.timers := rfl
@[simp] theorem State.wr_free (s : State) (f : Field) (v : Nat) : (s.wr f v).free = s.free := rfl
@[simp] theorem State.wr_hot (s : State) (f : Field) (v : Nat) : (s.wr f v).hot = s.hot := rfl
@[simp] theorem State.wr_seq (s : State) (f : Field) (v : Nat) : (s.wr f v).seq = s.seq := rfl
@[simp] theorem State.wr_band (s : State) (f : Field) (v : Nat) : (s.wr f v).band = s.band := rfl
@[simp] theorem State.wr_cu (s : State) (f : Field) (v : Nat) : (s.wr f v).cu = s.cu := rfl
@[simp] theorem State.wr_clap (s : State) (f : Field) (v : Nat) : (s.wr f v).clap = s.clap := rfl
@[simp] theorem State.wr_isl (s : State) (f : Field) (v : Nat) : (s.wr f v).isl = s.isl := rfl
@[simp] theorem State.wr_trip (s : State) (f : Field) (v : Nat) : (s.wr f v).trip = s.trip := rfl
@[simp] theorem State.wr_sys (s : State) (f : Field) (v : Nat) : (s.wr f v).sys = s.sys := rfl
@[simp] theorem State.wr_faults (s : State) (f : Field) (v : Nat) : (s.wr f v).faults = s.faults := rfl
@[simp] theorem State.wr_log (s : State) (f : Field) (v : Nat) : (s.wr f v).log = s.log := rfl
@[simp] theorem State.wr_time (s : State) (f : Field) (v : Nat) : (s.wr f v).time = s.time := rfl
@[simp] theorem State.wr_meas (s : State) (f : Field) (v : Nat) : (s.wr f v).meas = s.meas := rfl
@[simp] theorem State.wr_sync (s : State) (f : Field) (v : Nat) : (s.wr f v).sync = s.sync := rfl
@[simp] theorem State.wr_frt (s : State) (f : Field) (v : Nat) : (s.wr f v).frt = s.frt := rfl
@[simp] theorem State.wr_feeds (s : State) (f : Field) (v : Nat) : (s.wr f v).feeds = s.feeds := rfl
@[simp] theorem State.wr_isd (s : State) (f : Field) (v : Nat) : (s.wr f v).isd = s.isd := rfl
@[simp] theorem State.wr_cue (s : State) (f : Field) (v : Nat) : (s.wr f v).cue = s.cue := rfl
@[simp] theorem State.wr_bus (s : State) (f : Field) (v : Nat) : (s.wr f v).bus = s.bus := rfl
@[simp] theorem State.wr_clk (s : State) (f : Field) (v : Nat) : (s.wr f v).clk = s.clk := rfl
@[simp] theorem State.wr_mtr (s : State) (f : Field) (v : Nat) : (s.wr f v).mtr = s.mtr := rfl
@[simp] theorem State.wr_mem (s : State) (f : Field) (v : Nat) : (s.wr f v).mem = s.mem := rfl
@[simp] theorem State.wr_hist (s : State) (f : Field) (v : Nat) : (s.wr f v).hist = s.hist := rfl
@[simp] theorem State.wr_nvm (s : State) (f : Field) (v : Nat) : (s.wr f v).nvm = s.nvm := rfl
@[simp] theorem State.wr_avail (s : State) (f : Field) (v : Nat) : (s.wr f v).avail = s.avail := rfl

/-! ### `State.wr64` -/

@[simp] theorem State.wr64_pending (s : State) (f : Field) (v : Nat) : (s.wr64 f v).pending = s.pending := rfl
@[simp] theorem State.wr64_now (s : State) (f : Field) (v : Nat) : (s.wr64 f v).now = s.now := rfl
@[simp] theorem State.wr64_eff (s : State) (f : Field) (v : Nat) : (s.wr64 f v).eff = s.eff := rfl
@[simp] theorem State.wr64_pend (s : State) (f : Field) (v : Nat) : (s.wr64 f v).pend = s.pend := rfl
@[simp] theorem State.wr64_snap (s : State) (f : Field) (v : Nat) : (s.wr64 f v).snap = s.snap := rfl
@[simp] theorem State.wr64_lowW (s : State) (f : Field) (v : Nat) : (s.wr64 f v).lowW = s.lowW := rfl
@[simp] theorem State.wr64_timers (s : State) (f : Field) (v : Nat) : (s.wr64 f v).timers = s.timers := rfl
@[simp] theorem State.wr64_free (s : State) (f : Field) (v : Nat) : (s.wr64 f v).free = s.free := rfl
@[simp] theorem State.wr64_hot (s : State) (f : Field) (v : Nat) : (s.wr64 f v).hot = s.hot := rfl
@[simp] theorem State.wr64_seq (s : State) (f : Field) (v : Nat) : (s.wr64 f v).seq = s.seq := rfl
@[simp] theorem State.wr64_band (s : State) (f : Field) (v : Nat) : (s.wr64 f v).band = s.band := rfl
@[simp] theorem State.wr64_cu (s : State) (f : Field) (v : Nat) : (s.wr64 f v).cu = s.cu := rfl
@[simp] theorem State.wr64_clap (s : State) (f : Field) (v : Nat) : (s.wr64 f v).clap = s.clap := rfl
@[simp] theorem State.wr64_isl (s : State) (f : Field) (v : Nat) : (s.wr64 f v).isl = s.isl := rfl
@[simp] theorem State.wr64_trip (s : State) (f : Field) (v : Nat) : (s.wr64 f v).trip = s.trip := rfl
@[simp] theorem State.wr64_sys (s : State) (f : Field) (v : Nat) : (s.wr64 f v).sys = s.sys := rfl
@[simp] theorem State.wr64_faults (s : State) (f : Field) (v : Nat) : (s.wr64 f v).faults = s.faults := rfl
@[simp] theorem State.wr64_log (s : State) (f : Field) (v : Nat) : (s.wr64 f v).log = s.log := rfl
@[simp] theorem State.wr64_time (s : State) (f : Field) (v : Nat) : (s.wr64 f v).time = s.time := rfl
@[simp] theorem State.wr64_meas (s : State) (f : Field) (v : Nat) : (s.wr64 f v).meas = s.meas := rfl
@[simp] theorem State.wr64_sync (s : State) (f : Field) (v : Nat) : (s.wr64 f v).sync = s.sync := rfl
@[simp] theorem State.wr64_frt (s : State) (f : Field) (v : Nat) : (s.wr64 f v).frt = s.frt := rfl
@[simp] theorem State.wr64_feeds (s : State) (f : Field) (v : Nat) : (s.wr64 f v).feeds = s.feeds := rfl
@[simp] theorem State.wr64_isd (s : State) (f : Field) (v : Nat) : (s.wr64 f v).isd = s.isd := rfl
@[simp] theorem State.wr64_cue (s : State) (f : Field) (v : Nat) : (s.wr64 f v).cue = s.cue := rfl
@[simp] theorem State.wr64_bus (s : State) (f : Field) (v : Nat) : (s.wr64 f v).bus = s.bus := rfl
@[simp] theorem State.wr64_clk (s : State) (f : Field) (v : Nat) : (s.wr64 f v).clk = s.clk := rfl
@[simp] theorem State.wr64_mtr (s : State) (f : Field) (v : Nat) : (s.wr64 f v).mtr = s.mtr := rfl
@[simp] theorem State.wr64_mem (s : State) (f : Field) (v : Nat) : (s.wr64 f v).mem = s.mem := rfl
@[simp] theorem State.wr64_hist (s : State) (f : Field) (v : Nat) : (s.wr64 f v).hist = s.hist := rfl
@[simp] theorem State.wr64_nvm (s : State) (f : Field) (v : Nat) : (s.wr64 f v).nvm = s.nvm := rfl
@[simp] theorem State.wr64_avail (s : State) (f : Field) (v : Nat) : (s.wr64 f v).avail = s.avail := rfl

/-! ### `State.mark` -/

@[simp] theorem State.mark_pending (s : State) (a : Nat) (m : Word) : (s.mark a m).pending = s.pending := rfl
@[simp] theorem State.mark_now (s : State) (a : Nat) (m : Word) : (s.mark a m).now = s.now := rfl
@[simp] theorem State.mark_regs (s : State) (a : Nat) (m : Word) : (s.mark a m).regs = s.regs := rfl
@[simp] theorem State.mark_eff (s : State) (a : Nat) (m : Word) : (s.mark a m).eff = s.eff := rfl
@[simp] theorem State.mark_pend (s : State) (a : Nat) (m : Word) : (s.mark a m).pend = s.pend := rfl
@[simp] theorem State.mark_snap (s : State) (a : Nat) (m : Word) : (s.mark a m).snap = s.snap := rfl
@[simp] theorem State.mark_lowW (s : State) (a : Nat) (m : Word) : (s.mark a m).lowW = s.lowW := rfl
@[simp] theorem State.mark_timers (s : State) (a : Nat) (m : Word) : (s.mark a m).timers = s.timers := rfl
@[simp] theorem State.mark_free (s : State) (a : Nat) (m : Word) : (s.mark a m).free = s.free := rfl
@[simp] theorem State.mark_seq (s : State) (a : Nat) (m : Word) : (s.mark a m).seq = s.seq := rfl
@[simp] theorem State.mark_band (s : State) (a : Nat) (m : Word) : (s.mark a m).band = s.band := rfl
@[simp] theorem State.mark_cu (s : State) (a : Nat) (m : Word) : (s.mark a m).cu = s.cu := rfl
@[simp] theorem State.mark_clap (s : State) (a : Nat) (m : Word) : (s.mark a m).clap = s.clap := rfl
@[simp] theorem State.mark_isl (s : State) (a : Nat) (m : Word) : (s.mark a m).isl = s.isl := rfl
@[simp] theorem State.mark_trip (s : State) (a : Nat) (m : Word) : (s.mark a m).trip = s.trip := rfl
@[simp] theorem State.mark_sys (s : State) (a : Nat) (m : Word) : (s.mark a m).sys = s.sys := rfl
@[simp] theorem State.mark_faults (s : State) (a : Nat) (m : Word) : (s.mark a m).faults = s.faults := rfl
@[simp] theorem State.mark_log (s : State) (a : Nat) (m : Word) : (s.mark a m).log = s.log := rfl
@[simp] theorem State.mark_time (s : State) (a : Nat) (m : Word) : (s.mark a m).time = s.time := rfl
@[simp] theorem State.mark_meas (s : State) (a : Nat) (m : Word) : (s.mark a m).meas = s.meas := rfl
@[simp] theorem State.mark_sync (s : State) (a : Nat) (m : Word) : (s.mark a m).sync = s.sync := rfl
@[simp] theorem State.mark_frt (s : State) (a : Nat) (m : Word) : (s.mark a m).frt = s.frt := rfl
@[simp] theorem State.mark_feeds (s : State) (a : Nat) (m : Word) : (s.mark a m).feeds = s.feeds := rfl
@[simp] theorem State.mark_isd (s : State) (a : Nat) (m : Word) : (s.mark a m).isd = s.isd := rfl
@[simp] theorem State.mark_cue (s : State) (a : Nat) (m : Word) : (s.mark a m).cue = s.cue := rfl
@[simp] theorem State.mark_bus (s : State) (a : Nat) (m : Word) : (s.mark a m).bus = s.bus := rfl
@[simp] theorem State.mark_clk (s : State) (a : Nat) (m : Word) : (s.mark a m).clk = s.clk := rfl
@[simp] theorem State.mark_mtr (s : State) (a : Nat) (m : Word) : (s.mark a m).mtr = s.mtr := rfl
@[simp] theorem State.mark_mem (s : State) (a : Nat) (m : Word) : (s.mark a m).mem = s.mem := rfl
@[simp] theorem State.mark_hist (s : State) (a : Nat) (m : Word) : (s.mark a m).hist = s.hist := rfl
@[simp] theorem State.mark_nvm (s : State) (a : Nat) (m : Word) : (s.mark a m).nvm = s.nvm := rfl
@[simp] theorem State.mark_avail (s : State) (a : Nat) (m : Word) : (s.mark a m).avail = s.avail := rfl

/-! ### `State.set` -/

@[simp] theorem State.set_pending (s : State) (f : Field) : (s.set f).pending = s.pending := rfl
@[simp] theorem State.set_now (s : State) (f : Field) : (s.set f).now = s.now := rfl
@[simp] theorem State.set_regs (s : State) (f : Field) : (s.set f).regs = (s.wr f 1).regs := rfl
@[simp] theorem State.set_eff (s : State) (f : Field) : (s.set f).eff = s.eff := rfl
@[simp] theorem State.set_pend (s : State) (f : Field) : (s.set f).pend = s.pend := rfl
@[simp] theorem State.set_snap (s : State) (f : Field) : (s.set f).snap = s.snap := rfl
@[simp] theorem State.set_lowW (s : State) (f : Field) : (s.set f).lowW = s.lowW := rfl
@[simp] theorem State.set_timers (s : State) (f : Field) : (s.set f).timers = s.timers := rfl
@[simp] theorem State.set_free (s : State) (f : Field) : (s.set f).free = s.free := rfl
@[simp] theorem State.set_hot (s : State) (f : Field) : (s.set f).hot = ((s.wr f 1).mark f.addr f.mask).hot := rfl
@[simp] theorem State.set_seq (s : State) (f : Field) : (s.set f).seq = s.seq := rfl
@[simp] theorem State.set_band (s : State) (f : Field) : (s.set f).band = s.band := rfl
@[simp] theorem State.set_cu (s : State) (f : Field) : (s.set f).cu = s.cu := rfl
@[simp] theorem State.set_clap (s : State) (f : Field) : (s.set f).clap = s.clap := rfl
@[simp] theorem State.set_isl (s : State) (f : Field) : (s.set f).isl = s.isl := rfl
@[simp] theorem State.set_trip (s : State) (f : Field) : (s.set f).trip = s.trip := rfl
@[simp] theorem State.set_sys (s : State) (f : Field) : (s.set f).sys = s.sys := rfl
@[simp] theorem State.set_faults (s : State) (f : Field) : (s.set f).faults = s.faults := rfl
@[simp] theorem State.set_log (s : State) (f : Field) : (s.set f).log = s.log := rfl
@[simp] theorem State.set_time (s : State) (f : Field) : (s.set f).time = s.time := rfl
@[simp] theorem State.set_meas (s : State) (f : Field) : (s.set f).meas = s.meas := rfl
@[simp] theorem State.set_sync (s : State) (f : Field) : (s.set f).sync = s.sync := rfl
@[simp] theorem State.set_frt (s : State) (f : Field) : (s.set f).frt = s.frt := rfl
@[simp] theorem State.set_feeds (s : State) (f : Field) : (s.set f).feeds = s.feeds := rfl
@[simp] theorem State.set_isd (s : State) (f : Field) : (s.set f).isd = s.isd := rfl
@[simp] theorem State.set_cue (s : State) (f : Field) : (s.set f).cue = s.cue := rfl
@[simp] theorem State.set_bus (s : State) (f : Field) : (s.set f).bus = s.bus := rfl
@[simp] theorem State.set_clk (s : State) (f : Field) : (s.set f).clk = s.clk := rfl
@[simp] theorem State.set_mtr (s : State) (f : Field) : (s.set f).mtr = s.mtr := rfl
@[simp] theorem State.set_mem (s : State) (f : Field) : (s.set f).mem = s.mem := rfl
@[simp] theorem State.set_hist (s : State) (f : Field) : (s.set f).hist = s.hist := rfl
@[simp] theorem State.set_nvm (s : State) (f : Field) : (s.set f).nvm = s.nvm := rfl
@[simp] theorem State.set_avail (s : State) (f : Field) : (s.set f).avail = s.avail := rfl

/-! ### `State.start` -/

@[simp] theorem State.start_pending (s : State) (k : TimerKey) : (s.start k).pending = s.pending := rfl
@[simp] theorem State.start_now (s : State) (k : TimerKey) : (s.start k).now = s.now := rfl
@[simp] theorem State.start_regs (s : State) (k : TimerKey) : (s.start k).regs = s.regs := rfl
@[simp] theorem State.start_eff (s : State) (k : TimerKey) : (s.start k).eff = s.eff := rfl
@[simp] theorem State.start_pend (s : State) (k : TimerKey) : (s.start k).pend = s.pend := rfl
@[simp] theorem State.start_snap (s : State) (k : TimerKey) : (s.start k).snap = s.snap := rfl
@[simp] theorem State.start_lowW (s : State) (k : TimerKey) : (s.start k).lowW = s.lowW := rfl
@[simp] theorem State.start_free (s : State) (k : TimerKey) : (s.start k).free = s.free := rfl
@[simp] theorem State.start_hot (s : State) (k : TimerKey) : (s.start k).hot = s.hot := rfl
@[simp] theorem State.start_seq (s : State) (k : TimerKey) : (s.start k).seq = s.seq := rfl
@[simp] theorem State.start_band (s : State) (k : TimerKey) : (s.start k).band = s.band := rfl
@[simp] theorem State.start_cu (s : State) (k : TimerKey) : (s.start k).cu = s.cu := rfl
@[simp] theorem State.start_clap (s : State) (k : TimerKey) : (s.start k).clap = s.clap := rfl
@[simp] theorem State.start_isl (s : State) (k : TimerKey) : (s.start k).isl = s.isl := rfl
@[simp] theorem State.start_trip (s : State) (k : TimerKey) : (s.start k).trip = s.trip := rfl
@[simp] theorem State.start_sys (s : State) (k : TimerKey) : (s.start k).sys = s.sys := rfl
@[simp] theorem State.start_faults (s : State) (k : TimerKey) : (s.start k).faults = s.faults := rfl
@[simp] theorem State.start_log (s : State) (k : TimerKey) : (s.start k).log = s.log := rfl
@[simp] theorem State.start_time (s : State) (k : TimerKey) : (s.start k).time = s.time := rfl
@[simp] theorem State.start_meas (s : State) (k : TimerKey) : (s.start k).meas = s.meas := rfl
@[simp] theorem State.start_sync (s : State) (k : TimerKey) : (s.start k).sync = s.sync := rfl
@[simp] theorem State.start_frt (s : State) (k : TimerKey) : (s.start k).frt = s.frt := rfl
@[simp] theorem State.start_feeds (s : State) (k : TimerKey) : (s.start k).feeds = s.feeds := rfl
@[simp] theorem State.start_isd (s : State) (k : TimerKey) : (s.start k).isd = s.isd := rfl
@[simp] theorem State.start_cue (s : State) (k : TimerKey) : (s.start k).cue = s.cue := rfl
@[simp] theorem State.start_bus (s : State) (k : TimerKey) : (s.start k).bus = s.bus := rfl
@[simp] theorem State.start_clk (s : State) (k : TimerKey) : (s.start k).clk = s.clk := rfl
@[simp] theorem State.start_mtr (s : State) (k : TimerKey) : (s.start k).mtr = s.mtr := rfl
@[simp] theorem State.start_mem (s : State) (k : TimerKey) : (s.start k).mem = s.mem := rfl
@[simp] theorem State.start_hist (s : State) (k : TimerKey) : (s.start k).hist = s.hist := rfl
@[simp] theorem State.start_nvm (s : State) (k : TimerKey) : (s.start k).nvm = s.nvm := rfl
@[simp] theorem State.start_avail (s : State) (k : TimerKey) : (s.start k).avail = s.avail := rfl

/-! ### `State.stop` -/

@[simp] theorem State.stop_pending (s : State) (k : TimerKey) : (s.stop k).pending = s.pending := rfl
@[simp] theorem State.stop_now (s : State) (k : TimerKey) : (s.stop k).now = s.now := rfl
@[simp] theorem State.stop_regs (s : State) (k : TimerKey) : (s.stop k).regs = s.regs := rfl
@[simp] theorem State.stop_eff (s : State) (k : TimerKey) : (s.stop k).eff = s.eff := rfl
@[simp] theorem State.stop_pend (s : State) (k : TimerKey) : (s.stop k).pend = s.pend := rfl
@[simp] theorem State.stop_snap (s : State) (k : TimerKey) : (s.stop k).snap = s.snap := rfl
@[simp] theorem State.stop_lowW (s : State) (k : TimerKey) : (s.stop k).lowW = s.lowW := rfl
@[simp] theorem State.stop_free (s : State) (k : TimerKey) : (s.stop k).free = s.free := rfl
@[simp] theorem State.stop_hot (s : State) (k : TimerKey) : (s.stop k).hot = s.hot := rfl
@[simp] theorem State.stop_seq (s : State) (k : TimerKey) : (s.stop k).seq = s.seq := rfl
@[simp] theorem State.stop_band (s : State) (k : TimerKey) : (s.stop k).band = s.band := rfl
@[simp] theorem State.stop_cu (s : State) (k : TimerKey) : (s.stop k).cu = s.cu := rfl
@[simp] theorem State.stop_clap (s : State) (k : TimerKey) : (s.stop k).clap = s.clap := rfl
@[simp] theorem State.stop_isl (s : State) (k : TimerKey) : (s.stop k).isl = s.isl := rfl
@[simp] theorem State.stop_trip (s : State) (k : TimerKey) : (s.stop k).trip = s.trip := rfl
@[simp] theorem State.stop_sys (s : State) (k : TimerKey) : (s.stop k).sys = s.sys := rfl
@[simp] theorem State.stop_faults (s : State) (k : TimerKey) : (s.stop k).faults = s.faults := rfl
@[simp] theorem State.stop_log (s : State) (k : TimerKey) : (s.stop k).log = s.log := rfl
@[simp] theorem State.stop_time (s : State) (k : TimerKey) : (s.stop k).time = s.time := rfl
@[simp] theorem State.stop_meas (s : State) (k : TimerKey) : (s.stop k).meas = s.meas := rfl
@[simp] theorem State.stop_sync (s : State) (k : TimerKey) : (s.stop k).sync = s.sync := rfl
@[simp] theorem State.stop_frt (s : State) (k : TimerKey) : (s.stop k).frt = s.frt := rfl
@[simp] theorem State.stop_feeds (s : State) (k : TimerKey) : (s.stop k).feeds = s.feeds := rfl
@[simp] theorem State.stop_isd (s : State) (k : TimerKey) : (s.stop k).isd = s.isd := rfl
@[simp] theorem State.stop_cue (s : State) (k : TimerKey) : (s.stop k).cue = s.cue := rfl
@[simp] theorem State.stop_bus (s : State) (k : TimerKey) : (s.stop k).bus = s.bus := rfl
@[simp] theorem State.stop_clk (s : State) (k : TimerKey) : (s.stop k).clk = s.clk := rfl
@[simp] theorem State.stop_mtr (s : State) (k : TimerKey) : (s.stop k).mtr = s.mtr := rfl
@[simp] theorem State.stop_mem (s : State) (k : TimerKey) : (s.stop k).mem = s.mem := rfl
@[simp] theorem State.stop_hist (s : State) (k : TimerKey) : (s.stop k).hist = s.hist := rfl
@[simp] theorem State.stop_nvm (s : State) (k : TimerKey) : (s.stop k).nvm = s.nvm := rfl
@[simp] theorem State.stop_avail (s : State) (k : TimerKey) : (s.stop k).avail = s.avail := rfl

/-! ### `State.modSeq` -/

@[simp] theorem State.modSeq_pending (s : State) (f : Seq → Seq) : (s.modSeq f).pending = s.pending := rfl
@[simp] theorem State.modSeq_now (s : State) (f : Seq → Seq) : (s.modSeq f).now = s.now := rfl
@[simp] theorem State.modSeq_regs (s : State) (f : Seq → Seq) : (s.modSeq f).regs = s.regs := rfl
@[simp] theorem State.modSeq_eff (s : State) (f : Seq → Seq) : (s.modSeq f).eff = s.eff := rfl
@[simp] theorem State.modSeq_pend (s : State) (f : Seq → Seq) : (s.modSeq f).pend = s.pend := rfl
@[simp] theorem State.modSeq_snap (s : State) (f : Seq → Seq) : (s.modSeq f).snap = s.snap := rfl
@[simp] theorem State.modSeq_lowW (s : State) (f : Seq → Seq) : (s.modSeq f).lowW = s.lowW := rfl
@[simp] theorem State.modSeq_timers (s : State) (f : Seq → Seq) : (s.modSeq f).timers = s.timers := rfl
@[simp] theorem State.modSeq_free (s : State) (f : Seq → Seq) : (s.modSeq f).free = s.free := rfl
@[simp] theorem State.modSeq_hot (s : State) (f : Seq → Seq) : (s.modSeq f).hot = s.hot := rfl
@[simp] theorem State.modSeq_seq (s : State) (f : Seq → Seq) : (s.modSeq f).seq = f s.seq := rfl
@[simp] theorem State.modSeq_band (s : State) (f : Seq → Seq) : (s.modSeq f).band = s.band := rfl
@[simp] theorem State.modSeq_cu (s : State) (f : Seq → Seq) : (s.modSeq f).cu = s.cu := rfl
@[simp] theorem State.modSeq_clap (s : State) (f : Seq → Seq) : (s.modSeq f).clap = s.clap := rfl
@[simp] theorem State.modSeq_isl (s : State) (f : Seq → Seq) : (s.modSeq f).isl = s.isl := rfl
@[simp] theorem State.modSeq_trip (s : State) (f : Seq → Seq) : (s.modSeq f).trip = s.trip := rfl
@[simp] theorem State.modSeq_sys (s : State) (f : Seq → Seq) : (s.modSeq f).sys = s.sys := rfl
@[simp] theorem State.modSeq_faults (s : State) (f : Seq → Seq) : (s.modSeq f).faults = s.faults := rfl
@[simp] theorem State.modSeq_log (s : State) (f : Seq → Seq) : (s.modSeq f).log = s.log := rfl
@[simp] theorem State.modSeq_time (s : State) (f : Seq → Seq) : (s.modSeq f).time = s.time := rfl
@[simp] theorem State.modSeq_meas (s : State) (f : Seq → Seq) : (s.modSeq f).meas = s.meas := rfl
@[simp] theorem State.modSeq_sync (s : State) (f : Seq → Seq) : (s.modSeq f).sync = s.sync := rfl
@[simp] theorem State.modSeq_frt (s : State) (f : Seq → Seq) : (s.modSeq f).frt = s.frt := rfl
@[simp] theorem State.modSeq_feeds (s : State) (f : Seq → Seq) : (s.modSeq f).feeds = s.feeds := rfl
@[simp] theorem State.modSeq_isd (s : State) (f : Seq → Seq) : (s.modSeq f).isd = s.isd := rfl
@[simp] theorem State.modSeq_cue (s : State) (f : Seq → Seq) : (s.modSeq f).cue = s.cue := rfl
@[simp] theorem State.modSeq_bus (s : State) (f : Seq → Seq) : (s.modSeq f).bus = s.bus := rfl
@[simp] theorem State.modSeq_clk (s : State) (f : Seq → Seq) : (s.modSeq f).clk = s.clk := rfl
@[simp] theorem State.modSeq_mtr (s : State) (f : Seq → Seq) : (s.modSeq f).mtr = s.mtr := rfl
@[simp] theorem State.modSeq_mem (s : State) (f : Seq → Seq) : (s.modSeq f).mem = s.mem := rfl
@[simp] theorem State.modSeq_hist (s : State) (f : Seq → Seq) : (s.modSeq f).hist = s.hist := rfl
@[simp] theorem State.modSeq_nvm (s : State) (f : Seq → Seq) : (s.modSeq f).nvm = s.nvm := rfl
@[simp] theorem State.modSeq_avail (s : State) (f : Seq → Seq) : (s.modSeq f).avail = s.avail := rfl

/-! ### `State.modTrip` -/

@[simp] theorem State.modTrip_pending (s : State) (f : Trip → Trip) : (s.modTrip f).pending = s.pending := rfl
@[simp] theorem State.modTrip_now (s : State) (f : Trip → Trip) : (s.modTrip f).now = s.now := rfl
@[simp] theorem State.modTrip_regs (s : State) (f : Trip → Trip) : (s.modTrip f).regs = s.regs := rfl
@[simp] theorem State.modTrip_eff (s : State) (f : Trip → Trip) : (s.modTrip f).eff = s.eff := rfl
@[simp] theorem State.modTrip_pend (s : State) (f : Trip → Trip) : (s.modTrip f).pend = s.pend := rfl
@[simp] theorem State.modTrip_snap (s : State) (f : Trip → Trip) : (s.modTrip f).snap = s.snap := rfl
@[simp] theorem State.modTrip_lowW (s : State) (f : Trip → Trip) : (s.modTrip f).lowW = s.lowW := rfl
@[simp] theorem State.modTrip_timers (s : State) (f : Trip → Trip) : (s.modTrip f).timers = s.timers := rfl
@[simp] theorem State.modTrip_free (s : State) (f : Trip → Trip) : (s.modTrip f).free = s.free := rfl
@[simp] theorem State.modTrip_hot (s : State) (f : Trip → Trip) : (s.modTrip f).hot = s.hot := rfl
@[simp] theorem State.modTrip_seq (s : State) (f : Trip → Trip) : (s.modTrip f).seq = s.seq := rfl
@[simp] theorem State.modTrip_band (s : State) (f : Trip → Trip) : (s.modTrip f).band = s.band := rfl
@[simp] theorem State.modTrip_cu (s : State) (f : Trip → Trip) : (s.modTrip f).cu = s.cu := rfl
@[simp] theorem State.modTrip_clap (s : State) (f : Trip → Trip) : (s.modTrip f).clap = s.clap := rfl
@[simp] theorem State.modTrip_isl (s : State) (f : Trip → Trip) : (s.modTrip f).isl = s.isl := rfl
@[simp] theorem State.modTrip_trip (s : State) (f : Trip → Trip) : (s.modTrip f).trip = f s.trip := rfl
@[simp] theorem State.modTrip_sys (s : State) (f : Trip → Trip) : (s.modTrip f).sys = s.sys := rfl
@[simp] theorem State.modTrip_faults (s : State) (f : Trip → Trip) : (s.modTrip f).faults = s.faults := rfl
@[simp] theorem State.modTrip_log (s : State) (f : Trip → Trip) : (s.modTrip f).log = s.log := rfl
@[simp] theorem State.modTrip_time (s : State) (f : Trip → Trip) : (s.modTrip f).time = s.time := rfl
@[simp] theorem State.modTrip_meas (s : State) (f : Trip → Trip) : (s.modTrip f).meas = s.meas := rfl
@[simp] theorem State.modTrip_sync (s : State) (f : Trip → Trip) : (s.modTrip f).sync = s.sync := rfl
@[simp] theorem State.modTrip_frt (s : State) (f : Trip → Trip) : (s.modTrip f).frt = s.frt := rfl
@[simp] theorem State.modTrip_feeds (s : State) (f : Trip → Trip) : (s.modTrip f).feeds = s.feeds := rfl
@[simp] theorem State.modTrip_isd (s : State) (f : Trip → Trip) : (s.modTrip f).isd = s.isd := rfl
@[simp] theorem State.modTrip_cue (s : State) (f : Trip → Trip) : (s.modTrip f).cue = s.cue := rfl
@[simp] theorem State.modTrip_bus (s : State) (f : Trip → Trip) : (s.modTrip f).bus = s.bus := rfl
@[simp] theorem State.modTrip_clk (s : State) (f : Trip → Trip) : (s.modTrip f).clk = s.clk := rfl
@[simp] theorem State.modTrip_mtr (s : State) (f : Trip → Trip) : (s.modTrip f).mtr = s.mtr := rfl
@[simp] theorem State.modTrip_mem (s : State) (f : Trip → Trip) : (s.modTrip f).mem = s.mem := rfl
@[simp] theorem State.modTrip_hist (s : State) (f : Trip → Trip) : (s.modTrip f).hist = s.hist := rfl
@[simp] theorem State.modTrip_nvm (s : State) (f : Trip → Trip) : (s.modTrip f).nvm = s.nvm := rfl
@[simp] theorem State.modTrip_avail (s : State) (f : Trip → Trip) : (s.modTrip f).avail = s.avail := rfl

/-! ### `State.modSys` -/

@[simp] theorem State.modSys_pending (s : State) (f : Sys → Sys) : (s.modSys f).pending = s.pending := rfl
@[simp] theorem State.modSys_now (s : State) (f : Sys → Sys) : (s.modSys f).now = s.now := rfl
@[simp] theorem State.modSys_regs (s : State) (f : Sys → Sys) : (s.modSys f).regs = s.regs := rfl
@[simp] theorem State.modSys_eff (s : State) (f : Sys → Sys) : (s.modSys f).eff = s.eff := rfl
@[simp] theorem State.modSys_pend (s : State) (f : Sys → Sys) : (s.modSys f).pend = s.pend := rfl
@[simp] theorem State.modSys_snap (s : State) (f : Sys → Sys) : (s.modSys f).snap = s.snap := rfl
@[simp] theorem State.modSys_lowW (s : State) (f : Sys → Sys) : (s.modSys f).lowW = s.lowW := rfl
@[simp] theorem State.modSys_timers (s : State) (f : Sys → Sys) : (s.modSys f).timers = s.timers := rfl
@[simp] theorem State.modSys_free (s : State) (f : Sys → Sys) : (s.modSys f).free = s.free := rfl
@[simp] theorem State.modSys_hot (s : State) (f : Sys → Sys) : (s.modSys f).hot = s.hot := rfl
@[simp] theorem State.modSys_seq (s : State) (f : Sys → Sys) : (s.modSys f).seq = s.seq := rfl
@[simp] theorem State.modSys_band (s : State) (f : Sys → Sys) : (s.modSys f).band = s.band := rfl
@[simp] theorem State.modSys_cu (s : State) (f : Sys → Sys) : (s.modSys f).cu = s.cu := rfl
@[simp] theorem State.modSys_clap (s : State) (f : Sys → Sys) : (s.modSys f).clap = s.clap := rfl
@[simp] theorem State.modSys_isl (s : State) (f : Sys → Sys) : (s.modSys f).isl = s.isl := rfl
@[simp] theorem State.modSys_trip (s : State) (f : Sys → Sys) : (s.modSys f).trip = s.trip := rfl
@[simp] theorem State.modSys_sys (s : State) (f : Sys → Sys) : (s.modSys f).sys = f s.sys := rfl
@[simp] theorem State.modSys_faults (s : State) (f : Sys → Sys) : (s.modSys f).faults = s.faults := rfl
@[simp] theorem State.modSys_log (s : State) (f : Sys → Sys) : (s.modSys f).log = s.log := rfl
@[simp] theorem State.modSys_time (s : State) (f : Sys → Sys) : (s.modSys f).time = s.time := rfl
@[simp] theorem State.modSys_meas (s : State) (f : Sys → Sys) : (s.modSys f).meas = s.meas := rfl
@[simp] theorem State.modSys_sync (s : State) (f : Sys → Sys) : (s.modSys f).sync = s.sync := rfl
@[simp] theorem State.modSys_frt (s : State) (f : Sys → Sys) : (s.modSys f).frt = s.frt := rfl
@[simp] theorem State.modSys_feeds (s : State) (f : Sys → Sys) : (s.modSys f).feeds = s.feeds := rfl
@[simp] theorem State.modSys_isd (s : State) (f : Sys → Sys) : (s.modSys f).isd = s.isd := rfl
@[simp] theorem State.modSys_cue (s : State) (f : Sys → Sys) : (s.modSys f).cue = s.cue := rfl
@[simp] theorem State.modSys_bus (s : State) (f : Sys → Sys) : (s.modSys f).bus = s.bus := rfl
@[simp] theorem State.modSys_clk (s : State) (f : Sys → Sys) : (s.modSys f).clk = s.clk := rfl
@[simp] theorem State.modSys_mtr (s : State) (f : Sys → Sys) : (s.modSys f).mtr = s.mtr := rfl
@[simp] theorem State.modSys_mem (s : State) (f : Sys → Sys) : (s.modSys f).mem = s.mem := rfl
@[simp] theorem State.modSys_hist (s : State) (f : Sys → Sys) : (s.modSys f).hist = s.hist := rfl
@[simp] theorem State.modSys_nvm (s : State) (f : Sys → Sys) : (s.modSys f).nvm = s.nvm := rfl
@[simp] theorem State.modSys_avail (s : State) (f : Sys → Sys) : (s.modSys f).avail = s.avail := rfl

/-! ### `State.modLeg` -/

@[simp] theorem State.modLeg_pending (s : State) (n : Nat) (f : BandLeg → BandLeg) : (s.modLeg n f).pending = s.pending := rfl
@[simp] theorem State.modLeg_now (s : State) (n : Nat) (f : BandLeg → BandLeg) : (s.modLeg n f).now = s.now := rfl
@[simp] theorem State.modLeg_regs (s : State) (n : Nat) (f : BandLeg → BandLeg) : (s.modLeg n f).regs = s.regs := rfl
@[simp] theorem State.modLeg_eff (s : State) (n : Nat) (f : BandLeg → BandLeg) : (s.modLeg n f).eff = s.eff := rfl
@[simp] theorem State.modLeg_pend (s : State) (n : Nat) (f : BandLeg → BandLeg) : (s.modLeg n f).pend = s.pend := rfl
@[simp] theorem State.modLeg_snap (s : State) (n : Nat) (f : BandLeg → BandLeg) : (s.modLeg n f).snap = s.snap := rfl
@[simp] theorem State.modLeg_lowW (s : State) (n : Nat) (f : BandLeg → BandLeg) : (s.modLeg n f).lowW = s.lowW := rfl
@[simp] theorem State.modLeg_timers (s : State) (n : Nat) (f : BandLeg → BandLeg) : (s.modLeg n f).timers = s.timers := rfl
@[simp] theorem State.modLeg_free (s : State) (n : Nat) (f : BandLeg → BandLeg) : (s.modLeg n f).free = s.free := rfl
@[simp] theorem State.modLeg_hot (s : State) (n : Nat) (f : BandLeg → BandLeg) : (s.modLeg n f).hot = s.hot := rfl
@[simp] theorem State.modLeg_seq (s : State) (n : Nat) (f : BandLeg → BandLeg) : (s.modLeg n f).seq = s.seq := rfl
@[simp] theorem State.modLeg_band (s : State) (n : Nat) (f : BandLeg → BandLeg) : (s.modLeg n f).band = { s.band with legs := s.band.legs.upd n f } := rfl
@[simp] theorem State.modLeg_cu (s : State) (n : Nat) (f : BandLeg → BandLeg) : (s.modLeg n f).cu = s.cu := rfl
@[simp] theorem State.modLeg_clap (s : State) (n : Nat) (f : BandLeg → BandLeg) : (s.modLeg n f).clap = s.clap := rfl
@[simp] theorem State.modLeg_isl (s : State) (n : Nat) (f : BandLeg → BandLeg) : (s.modLeg n f).isl = s.isl := rfl
@[simp] theorem State.modLeg_trip (s : State) (n : Nat) (f : BandLeg → BandLeg) : (s.modLeg n f).trip = s.trip := rfl
@[simp] theorem State.modLeg_sys (s : State) (n : Nat) (f : BandLeg → BandLeg) : (s.modLeg n f).sys = s.sys := rfl
@[simp] theorem State.modLeg_faults (s : State) (n : Nat) (f : BandLeg → BandLeg) : (s.modLeg n f).faults = s.faults := rfl
@[simp] theorem State.modLeg_log (s : State) (n : Nat) (f : BandLeg → BandLeg) : (s.modLeg n f).log = s.log := rfl
@[simp] theorem State.modLeg_time (s : State) (n : Nat) (f : BandLeg → BandLeg) : (s.modLeg n f).time = s.time := rfl
@[simp] theorem State.modLeg_meas (s : State) (n : Nat) (f : BandLeg → BandLeg) : (s.modLeg n f).meas = s.meas := rfl
@[simp] theorem State.modLeg_sync (s : State) (n : Nat) (f : BandLeg → BandLeg) : (s.modLeg n f).sync = s.sync := rfl
@[simp] theorem State.modLeg_frt (s : State) (n : Nat) (f : BandLeg → BandLeg) : (s.modLeg n f).frt = s.frt := rfl
@[simp] theorem State.modLeg_feeds (s : State) (n : Nat) (f : BandLeg → BandLeg) : (s.modLeg n f).feeds = s.feeds := rfl
@[simp] theorem State.modLeg_isd (s : State) (n : Nat) (f : BandLeg → BandLeg) : (s.modLeg n f).isd = s.isd := rfl
@[simp] theorem State.modLeg_cue (s : State) (n : Nat) (f : BandLeg → BandLeg) : (s.modLeg n f).cue = s.cue := rfl
@[simp] theorem State.modLeg_bus (s : State) (n : Nat) (f : BandLeg → BandLeg) : (s.modLeg n f).bus = s.bus := rfl
@[simp] theorem State.modLeg_clk (s : State) (n : Nat) (f : BandLeg → BandLeg) : (s.modLeg n f).clk = s.clk := rfl
@[simp] theorem State.modLeg_mtr (s : State) (n : Nat) (f : BandLeg → BandLeg) : (s.modLeg n f).mtr = s.mtr := rfl
@[simp] theorem State.modLeg_mem (s : State) (n : Nat) (f : BandLeg → BandLeg) : (s.modLeg n f).mem = s.mem := rfl
@[simp] theorem State.modLeg_hist (s : State) (n : Nat) (f : BandLeg → BandLeg) : (s.modLeg n f).hist = s.hist := rfl
@[simp] theorem State.modLeg_nvm (s : State) (n : Nat) (f : BandLeg → BandLeg) : (s.modLeg n f).nvm = s.nvm := rfl
@[simp] theorem State.modLeg_avail (s : State) (n : Nat) (f : BandLeg → BandLeg) : (s.modLeg n f).avail = s.avail := rfl

/-! ### `State.modUnit` -/

@[simp] theorem State.modUnit_pending (s : State) (n : Nat) (f : CarrierUnit → CarrierUnit) : (s.modUnit n f).pending = s.pending := rfl
@[simp] theorem State.modUnit_now (s : State) (n : Nat) (f : CarrierUnit → CarrierUnit) : (s.modUnit n f).now = s.now := rfl
@[simp] theorem State.modUnit_regs (s : State) (n : Nat) (f : CarrierUnit → CarrierUnit) : (s.modUnit n f).regs = s.regs := rfl
@[simp] theorem State.modUnit_eff (s : State) (n : Nat) (f : CarrierUnit → CarrierUnit) : (s.modUnit n f).eff = s.eff := rfl
@[simp] theorem State.modUnit_pend (s : State) (n : Nat) (f : CarrierUnit → CarrierUnit) : (s.modUnit n f).pend = s.pend := rfl
@[simp] theorem State.modUnit_snap (s : State) (n : Nat) (f : CarrierUnit → CarrierUnit) : (s.modUnit n f).snap = s.snap := rfl
@[simp] theorem State.modUnit_lowW (s : State) (n : Nat) (f : CarrierUnit → CarrierUnit) : (s.modUnit n f).lowW = s.lowW := rfl
@[simp] theorem State.modUnit_timers (s : State) (n : Nat) (f : CarrierUnit → CarrierUnit) : (s.modUnit n f).timers = s.timers := rfl
@[simp] theorem State.modUnit_free (s : State) (n : Nat) (f : CarrierUnit → CarrierUnit) : (s.modUnit n f).free = s.free := rfl
@[simp] theorem State.modUnit_hot (s : State) (n : Nat) (f : CarrierUnit → CarrierUnit) : (s.modUnit n f).hot = s.hot := rfl
@[simp] theorem State.modUnit_seq (s : State) (n : Nat) (f : CarrierUnit → CarrierUnit) : (s.modUnit n f).seq = s.seq := rfl
@[simp] theorem State.modUnit_band (s : State) (n : Nat) (f : CarrierUnit → CarrierUnit) : (s.modUnit n f).band = s.band := rfl
@[simp] theorem State.modUnit_cu (s : State) (n : Nat) (f : CarrierUnit → CarrierUnit) : (s.modUnit n f).cu = s.cu.upd n f := rfl
@[simp] theorem State.modUnit_clap (s : State) (n : Nat) (f : CarrierUnit → CarrierUnit) : (s.modUnit n f).clap = s.clap := rfl
@[simp] theorem State.modUnit_isl (s : State) (n : Nat) (f : CarrierUnit → CarrierUnit) : (s.modUnit n f).isl = s.isl := rfl
@[simp] theorem State.modUnit_trip (s : State) (n : Nat) (f : CarrierUnit → CarrierUnit) : (s.modUnit n f).trip = s.trip := rfl
@[simp] theorem State.modUnit_sys (s : State) (n : Nat) (f : CarrierUnit → CarrierUnit) : (s.modUnit n f).sys = s.sys := rfl
@[simp] theorem State.modUnit_faults (s : State) (n : Nat) (f : CarrierUnit → CarrierUnit) : (s.modUnit n f).faults = s.faults := rfl
@[simp] theorem State.modUnit_log (s : State) (n : Nat) (f : CarrierUnit → CarrierUnit) : (s.modUnit n f).log = s.log := rfl
@[simp] theorem State.modUnit_time (s : State) (n : Nat) (f : CarrierUnit → CarrierUnit) : (s.modUnit n f).time = s.time := rfl
@[simp] theorem State.modUnit_meas (s : State) (n : Nat) (f : CarrierUnit → CarrierUnit) : (s.modUnit n f).meas = s.meas := rfl
@[simp] theorem State.modUnit_sync (s : State) (n : Nat) (f : CarrierUnit → CarrierUnit) : (s.modUnit n f).sync = s.sync := rfl
@[simp] theorem State.modUnit_frt (s : State) (n : Nat) (f : CarrierUnit → CarrierUnit) : (s.modUnit n f).frt = s.frt := rfl
@[simp] theorem State.modUnit_feeds (s : State) (n : Nat) (f : CarrierUnit → CarrierUnit) : (s.modUnit n f).feeds = s.feeds := rfl
@[simp] theorem State.modUnit_isd (s : State) (n : Nat) (f : CarrierUnit → CarrierUnit) : (s.modUnit n f).isd = s.isd := rfl
@[simp] theorem State.modUnit_cue (s : State) (n : Nat) (f : CarrierUnit → CarrierUnit) : (s.modUnit n f).cue = s.cue := rfl
@[simp] theorem State.modUnit_bus (s : State) (n : Nat) (f : CarrierUnit → CarrierUnit) : (s.modUnit n f).bus = s.bus := rfl
@[simp] theorem State.modUnit_clk (s : State) (n : Nat) (f : CarrierUnit → CarrierUnit) : (s.modUnit n f).clk = s.clk := rfl
@[simp] theorem State.modUnit_mtr (s : State) (n : Nat) (f : CarrierUnit → CarrierUnit) : (s.modUnit n f).mtr = s.mtr := rfl
@[simp] theorem State.modUnit_mem (s : State) (n : Nat) (f : CarrierUnit → CarrierUnit) : (s.modUnit n f).mem = s.mem := rfl
@[simp] theorem State.modUnit_hist (s : State) (n : Nat) (f : CarrierUnit → CarrierUnit) : (s.modUnit n f).hist = s.hist := rfl
@[simp] theorem State.modUnit_nvm (s : State) (n : Nat) (f : CarrierUnit → CarrierUnit) : (s.modUnit n f).nvm = s.nvm := rfl
@[simp] theorem State.modUnit_avail (s : State) (n : Nat) (f : CarrierUnit → CarrierUnit) : (s.modUnit n f).avail = s.avail := rfl

/-! ### `State.modIsland` -/

@[simp] theorem State.modIsland_pending (s : State) (n : Nat) (f : Island → Island) : (s.modIsland n f).pending = s.pending := rfl
@[simp] theorem State.modIsland_now (s : State) (n : Nat) (f : Island → Island) : (s.modIsland n f).now = s.now := rfl
@[simp] theorem State.modIsland_regs (s : State) (n : Nat) (f : Island → Island) : (s.modIsland n f).regs = s.regs := rfl
@[simp] theorem State.modIsland_eff (s : State) (n : Nat) (f : Island → Island) : (s.modIsland n f).eff = s.eff := rfl
@[simp] theorem State.modIsland_pend (s : State) (n : Nat) (f : Island → Island) : (s.modIsland n f).pend = s.pend := rfl
@[simp] theorem State.modIsland_snap (s : State) (n : Nat) (f : Island → Island) : (s.modIsland n f).snap = s.snap := rfl
@[simp] theorem State.modIsland_lowW (s : State) (n : Nat) (f : Island → Island) : (s.modIsland n f).lowW = s.lowW := rfl
@[simp] theorem State.modIsland_timers (s : State) (n : Nat) (f : Island → Island) : (s.modIsland n f).timers = s.timers := rfl
@[simp] theorem State.modIsland_free (s : State) (n : Nat) (f : Island → Island) : (s.modIsland n f).free = s.free := rfl
@[simp] theorem State.modIsland_hot (s : State) (n : Nat) (f : Island → Island) : (s.modIsland n f).hot = s.hot := rfl
@[simp] theorem State.modIsland_seq (s : State) (n : Nat) (f : Island → Island) : (s.modIsland n f).seq = s.seq := rfl
@[simp] theorem State.modIsland_band (s : State) (n : Nat) (f : Island → Island) : (s.modIsland n f).band = s.band := rfl
@[simp] theorem State.modIsland_cu (s : State) (n : Nat) (f : Island → Island) : (s.modIsland n f).cu = s.cu := rfl
@[simp] theorem State.modIsland_clap (s : State) (n : Nat) (f : Island → Island) : (s.modIsland n f).clap = s.clap := rfl
@[simp] theorem State.modIsland_isl (s : State) (n : Nat) (f : Island → Island) : (s.modIsland n f).isl = s.isl.upd n f := rfl
@[simp] theorem State.modIsland_trip (s : State) (n : Nat) (f : Island → Island) : (s.modIsland n f).trip = s.trip := rfl
@[simp] theorem State.modIsland_sys (s : State) (n : Nat) (f : Island → Island) : (s.modIsland n f).sys = s.sys := rfl
@[simp] theorem State.modIsland_faults (s : State) (n : Nat) (f : Island → Island) : (s.modIsland n f).faults = s.faults := rfl
@[simp] theorem State.modIsland_log (s : State) (n : Nat) (f : Island → Island) : (s.modIsland n f).log = s.log := rfl
@[simp] theorem State.modIsland_time (s : State) (n : Nat) (f : Island → Island) : (s.modIsland n f).time = s.time := rfl
@[simp] theorem State.modIsland_meas (s : State) (n : Nat) (f : Island → Island) : (s.modIsland n f).meas = s.meas := rfl
@[simp] theorem State.modIsland_sync (s : State) (n : Nat) (f : Island → Island) : (s.modIsland n f).sync = s.sync := rfl
@[simp] theorem State.modIsland_frt (s : State) (n : Nat) (f : Island → Island) : (s.modIsland n f).frt = s.frt := rfl
@[simp] theorem State.modIsland_feeds (s : State) (n : Nat) (f : Island → Island) : (s.modIsland n f).feeds = s.feeds := rfl
@[simp] theorem State.modIsland_isd (s : State) (n : Nat) (f : Island → Island) : (s.modIsland n f).isd = s.isd := rfl
@[simp] theorem State.modIsland_cue (s : State) (n : Nat) (f : Island → Island) : (s.modIsland n f).cue = s.cue := rfl
@[simp] theorem State.modIsland_bus (s : State) (n : Nat) (f : Island → Island) : (s.modIsland n f).bus = s.bus := rfl
@[simp] theorem State.modIsland_clk (s : State) (n : Nat) (f : Island → Island) : (s.modIsland n f).clk = s.clk := rfl
@[simp] theorem State.modIsland_mtr (s : State) (n : Nat) (f : Island → Island) : (s.modIsland n f).mtr = s.mtr := rfl
@[simp] theorem State.modIsland_mem (s : State) (n : Nat) (f : Island → Island) : (s.modIsland n f).mem = s.mem := rfl
@[simp] theorem State.modIsland_hist (s : State) (n : Nat) (f : Island → Island) : (s.modIsland n f).hist = s.hist := rfl
@[simp] theorem State.modIsland_nvm (s : State) (n : Nat) (f : Island → Island) : (s.modIsland n f).nvm = s.nvm := rfl
@[simp] theorem State.modIsland_avail (s : State) (n : Nat) (f : Island → Island) : (s.modIsland n f).avail = s.avail := rfl

/-! ### `State.modReel` -/

@[simp] theorem State.modReel_pending (s : State) (r : Nat) (f : Reel → Reel) : (s.modReel r f).pending = s.pending := rfl
@[simp] theorem State.modReel_now (s : State) (r : Nat) (f : Reel → Reel) : (s.modReel r f).now = s.now := rfl
@[simp] theorem State.modReel_regs (s : State) (r : Nat) (f : Reel → Reel) : (s.modReel r f).regs = s.regs := rfl
@[simp] theorem State.modReel_eff (s : State) (r : Nat) (f : Reel → Reel) : (s.modReel r f).eff = s.eff := rfl
@[simp] theorem State.modReel_pend (s : State) (r : Nat) (f : Reel → Reel) : (s.modReel r f).pend = s.pend := rfl
@[simp] theorem State.modReel_snap (s : State) (r : Nat) (f : Reel → Reel) : (s.modReel r f).snap = s.snap := rfl
@[simp] theorem State.modReel_lowW (s : State) (r : Nat) (f : Reel → Reel) : (s.modReel r f).lowW = s.lowW := rfl
@[simp] theorem State.modReel_timers (s : State) (r : Nat) (f : Reel → Reel) : (s.modReel r f).timers = s.timers := rfl
@[simp] theorem State.modReel_free (s : State) (r : Nat) (f : Reel → Reel) : (s.modReel r f).free = s.free := rfl
@[simp] theorem State.modReel_hot (s : State) (r : Nat) (f : Reel → Reel) : (s.modReel r f).hot = s.hot := rfl
@[simp] theorem State.modReel_seq (s : State) (r : Nat) (f : Reel → Reel) : (s.modReel r f).seq = s.seq := rfl
@[simp] theorem State.modReel_band (s : State) (r : Nat) (f : Reel → Reel) : (s.modReel r f).band = s.band := rfl
@[simp] theorem State.modReel_cu (s : State) (r : Nat) (f : Reel → Reel) : (s.modReel r f).cu = s.cu := rfl
@[simp] theorem State.modReel_clap (s : State) (r : Nat) (f : Reel → Reel) : (s.modReel r f).clap = s.clap := rfl
@[simp] theorem State.modReel_isl (s : State) (r : Nat) (f : Reel → Reel) : (s.modReel r f).isl = s.isl := rfl
@[simp] theorem State.modReel_trip (s : State) (r : Nat) (f : Reel → Reel) : (s.modReel r f).trip = s.trip := rfl
@[simp] theorem State.modReel_sys (s : State) (r : Nat) (f : Reel → Reel) : (s.modReel r f).sys = s.sys := rfl
@[simp] theorem State.modReel_faults (s : State) (r : Nat) (f : Reel → Reel) : (s.modReel r f).faults = s.faults := rfl
@[simp] theorem State.modReel_log (s : State) (r : Nat) (f : Reel → Reel) : (s.modReel r f).log = s.log := rfl
@[simp] theorem State.modReel_time (s : State) (r : Nat) (f : Reel → Reel) : (s.modReel r f).time = s.time := rfl
@[simp] theorem State.modReel_meas (s : State) (r : Nat) (f : Reel → Reel) : (s.modReel r f).meas = s.meas := rfl
@[simp] theorem State.modReel_sync (s : State) (r : Nat) (f : Reel → Reel) : (s.modReel r f).sync = s.sync := rfl
@[simp] theorem State.modReel_frt (s : State) (r : Nat) (f : Reel → Reel) : (s.modReel r f).frt = s.frt := rfl
@[simp] theorem State.modReel_feeds (s : State) (r : Nat) (f : Reel → Reel) : (s.modReel r f).feeds = s.feeds := rfl
@[simp] theorem State.modReel_isd (s : State) (r : Nat) (f : Reel → Reel) : (s.modReel r f).isd = s.isd := rfl
@[simp] theorem State.modReel_cue (s : State) (r : Nat) (f : Reel → Reel) : (s.modReel r f).cue = s.cue := rfl
@[simp] theorem State.modReel_bus (s : State) (r : Nat) (f : Reel → Reel) : (s.modReel r f).bus = s.bus := rfl
@[simp] theorem State.modReel_clk (s : State) (r : Nat) (f : Reel → Reel) : (s.modReel r f).clk = s.clk := rfl
@[simp] theorem State.modReel_mtr (s : State) (r : Nat) (f : Reel → Reel) : (s.modReel r f).mtr = s.mtr := rfl
@[simp] theorem State.modReel_mem (s : State) (r : Nat) (f : Reel → Reel) : (s.modReel r f).mem = s.mem := rfl
@[simp] theorem State.modReel_hist (s : State) (r : Nat) (f : Reel → Reel) : (s.modReel r f).hist = { s.hist with reels := s.hist.reels.upd r f } := rfl
@[simp] theorem State.modReel_nvm (s : State) (r : Nat) (f : Reel → Reel) : (s.modReel r f).nvm = s.nvm := rfl
@[simp] theorem State.modReel_avail (s : State) (r : Nat) (f : Reel → Reel) : (s.modReel r f).avail = s.avail := rfl

/-! ### `State.modClk` -/

@[simp] theorem State.modClk_pending (s : State) (f : Clk → Clk) : (s.modClk f).pending = s.pending := rfl
@[simp] theorem State.modClk_now (s : State) (f : Clk → Clk) : (s.modClk f).now = s.now := rfl
@[simp] theorem State.modClk_regs (s : State) (f : Clk → Clk) : (s.modClk f).regs = s.regs := rfl
@[simp] theorem State.modClk_eff (s : State) (f : Clk → Clk) : (s.modClk f).eff = s.eff := rfl
@[simp] theorem State.modClk_pend (s : State) (f : Clk → Clk) : (s.modClk f).pend = s.pend := rfl
@[simp] theorem State.modClk_snap (s : State) (f : Clk → Clk) : (s.modClk f).snap = s.snap := rfl
@[simp] theorem State.modClk_lowW (s : State) (f : Clk → Clk) : (s.modClk f).lowW = s.lowW := rfl
@[simp] theorem State.modClk_timers (s : State) (f : Clk → Clk) : (s.modClk f).timers = s.timers := rfl
@[simp] theorem State.modClk_free (s : State) (f : Clk → Clk) : (s.modClk f).free = s.free := rfl
@[simp] theorem State.modClk_hot (s : State) (f : Clk → Clk) : (s.modClk f).hot = s.hot := rfl
@[simp] theorem State.modClk_seq (s : State) (f : Clk → Clk) : (s.modClk f).seq = s.seq := rfl
@[simp] theorem State.modClk_band (s : State) (f : Clk → Clk) : (s.modClk f).band = s.band := rfl
@[simp] theorem State.modClk_cu (s : State) (f : Clk → Clk) : (s.modClk f).cu = s.cu := rfl
@[simp] theorem State.modClk_clap (s : State) (f : Clk → Clk) : (s.modClk f).clap = s.clap := rfl
@[simp] theorem State.modClk_isl (s : State) (f : Clk → Clk) : (s.modClk f).isl = s.isl := rfl
@[simp] theorem State.modClk_trip (s : State) (f : Clk → Clk) : (s.modClk f).trip = s.trip := rfl
@[simp] theorem State.modClk_sys (s : State) (f : Clk → Clk) : (s.modClk f).sys = s.sys := rfl
@[simp] theorem State.modClk_faults (s : State) (f : Clk → Clk) : (s.modClk f).faults = s.faults := rfl
@[simp] theorem State.modClk_log (s : State) (f : Clk → Clk) : (s.modClk f).log = s.log := rfl
@[simp] theorem State.modClk_time (s : State) (f : Clk → Clk) : (s.modClk f).time = s.time := rfl
@[simp] theorem State.modClk_meas (s : State) (f : Clk → Clk) : (s.modClk f).meas = s.meas := rfl
@[simp] theorem State.modClk_sync (s : State) (f : Clk → Clk) : (s.modClk f).sync = s.sync := rfl
@[simp] theorem State.modClk_frt (s : State) (f : Clk → Clk) : (s.modClk f).frt = s.frt := rfl
@[simp] theorem State.modClk_feeds (s : State) (f : Clk → Clk) : (s.modClk f).feeds = s.feeds := rfl
@[simp] theorem State.modClk_isd (s : State) (f : Clk → Clk) : (s.modClk f).isd = s.isd := rfl
@[simp] theorem State.modClk_cue (s : State) (f : Clk → Clk) : (s.modClk f).cue = s.cue := rfl
@[simp] theorem State.modClk_bus (s : State) (f : Clk → Clk) : (s.modClk f).bus = s.bus := rfl
@[simp] theorem State.modClk_clk (s : State) (f : Clk → Clk) : (s.modClk f).clk = f s.clk := rfl
@[simp] theorem State.modClk_mtr (s : State) (f : Clk → Clk) : (s.modClk f).mtr = s.mtr := rfl
@[simp] theorem State.modClk_mem (s : State) (f : Clk → Clk) : (s.modClk f).mem = s.mem := rfl
@[simp] theorem State.modClk_hist (s : State) (f : Clk → Clk) : (s.modClk f).hist = s.hist := rfl
@[simp] theorem State.modClk_nvm (s : State) (f : Clk → Clk) : (s.modClk f).nvm = s.nvm := rfl
@[simp] theorem State.modClk_avail (s : State) (f : Clk → Clk) : (s.modClk f).avail = s.avail := rfl

/-! ### `State.modCue` -/

@[simp] theorem State.modCue_pending (s : State) (f : CueState → CueState) : (s.modCue f).pending = s.pending := rfl
@[simp] theorem State.modCue_now (s : State) (f : CueState → CueState) : (s.modCue f).now = s.now := rfl
@[simp] theorem State.modCue_regs (s : State) (f : CueState → CueState) : (s.modCue f).regs = s.regs := rfl
@[simp] theorem State.modCue_eff (s : State) (f : CueState → CueState) : (s.modCue f).eff = s.eff := rfl
@[simp] theorem State.modCue_pend (s : State) (f : CueState → CueState) : (s.modCue f).pend = s.pend := rfl
@[simp] theorem State.modCue_snap (s : State) (f : CueState → CueState) : (s.modCue f).snap = s.snap := rfl
@[simp] theorem State.modCue_lowW (s : State) (f : CueState → CueState) : (s.modCue f).lowW = s.lowW := rfl
@[simp] theorem State.modCue_timers (s : State) (f : CueState → CueState) : (s.modCue f).timers = s.timers := rfl
@[simp] theorem State.modCue_free (s : State) (f : CueState → CueState) : (s.modCue f).free = s.free := rfl
@[simp] theorem State.modCue_hot (s : State) (f : CueState → CueState) : (s.modCue f).hot = s.hot := rfl
@[simp] theorem State.modCue_seq (s : State) (f : CueState → CueState) : (s.modCue f).seq = s.seq := rfl
@[simp] theorem State.modCue_band (s : State) (f : CueState → CueState) : (s.modCue f).band = s.band := rfl
@[simp] theorem State.modCue_cu (s : State) (f : CueState → CueState) : (s.modCue f).cu = s.cu := rfl
@[simp] theorem State.modCue_clap (s : State) (f : CueState → CueState) : (s.modCue f).clap = s.clap := rfl
@[simp] theorem State.modCue_isl (s : State) (f : CueState → CueState) : (s.modCue f).isl = s.isl := rfl
@[simp] theorem State.modCue_trip (s : State) (f : CueState → CueState) : (s.modCue f).trip = s.trip := rfl
@[simp] theorem State.modCue_sys (s : State) (f : CueState → CueState) : (s.modCue f).sys = s.sys := rfl
@[simp] theorem State.modCue_faults (s : State) (f : CueState → CueState) : (s.modCue f).faults = s.faults := rfl
@[simp] theorem State.modCue_log (s : State) (f : CueState → CueState) : (s.modCue f).log = s.log := rfl
@[simp] theorem State.modCue_time (s : State) (f : CueState → CueState) : (s.modCue f).time = s.time := rfl
@[simp] theorem State.modCue_meas (s : State) (f : CueState → CueState) : (s.modCue f).meas = s.meas := rfl
@[simp] theorem State.modCue_sync (s : State) (f : CueState → CueState) : (s.modCue f).sync = s.sync := rfl
@[simp] theorem State.modCue_frt (s : State) (f : CueState → CueState) : (s.modCue f).frt = s.frt := rfl
@[simp] theorem State.modCue_feeds (s : State) (f : CueState → CueState) : (s.modCue f).feeds = s.feeds := rfl
@[simp] theorem State.modCue_isd (s : State) (f : CueState → CueState) : (s.modCue f).isd = s.isd := rfl
@[simp] theorem State.modCue_cue (s : State) (f : CueState → CueState) : (s.modCue f).cue = f s.cue := rfl
@[simp] theorem State.modCue_bus (s : State) (f : CueState → CueState) : (s.modCue f).bus = s.bus := rfl
@[simp] theorem State.modCue_clk (s : State) (f : CueState → CueState) : (s.modCue f).clk = s.clk := rfl
@[simp] theorem State.modCue_mtr (s : State) (f : CueState → CueState) : (s.modCue f).mtr = s.mtr := rfl
@[simp] theorem State.modCue_mem (s : State) (f : CueState → CueState) : (s.modCue f).mem = s.mem := rfl
@[simp] theorem State.modCue_hist (s : State) (f : CueState → CueState) : (s.modCue f).hist = s.hist := rfl
@[simp] theorem State.modCue_nvm (s : State) (f : CueState → CueState) : (s.modCue f).nvm = s.nvm := rfl
@[simp] theorem State.modCue_avail (s : State) (f : CueState → CueState) : (s.modCue f).avail = s.avail := rfl

/-! ### `State.modFeed` -/

@[simp] theorem State.modFeed_pending (s : State) (k : Nat) (f : Feed → Feed) : (s.modFeed k f).pending = s.pending := rfl
@[simp] theorem State.modFeed_now (s : State) (k : Nat) (f : Feed → Feed) : (s.modFeed k f).now = s.now := rfl
@[simp] theorem State.modFeed_regs (s : State) (k : Nat) (f : Feed → Feed) : (s.modFeed k f).regs = s.regs := rfl
@[simp] theorem State.modFeed_eff (s : State) (k : Nat) (f : Feed → Feed) : (s.modFeed k f).eff = s.eff := rfl
@[simp] theorem State.modFeed_pend (s : State) (k : Nat) (f : Feed → Feed) : (s.modFeed k f).pend = s.pend := rfl
@[simp] theorem State.modFeed_snap (s : State) (k : Nat) (f : Feed → Feed) : (s.modFeed k f).snap = s.snap := rfl
@[simp] theorem State.modFeed_lowW (s : State) (k : Nat) (f : Feed → Feed) : (s.modFeed k f).lowW = s.lowW := rfl
@[simp] theorem State.modFeed_timers (s : State) (k : Nat) (f : Feed → Feed) : (s.modFeed k f).timers = s.timers := rfl
@[simp] theorem State.modFeed_free (s : State) (k : Nat) (f : Feed → Feed) : (s.modFeed k f).free = s.free := rfl
@[simp] theorem State.modFeed_hot (s : State) (k : Nat) (f : Feed → Feed) : (s.modFeed k f).hot = s.hot := rfl
@[simp] theorem State.modFeed_seq (s : State) (k : Nat) (f : Feed → Feed) : (s.modFeed k f).seq = s.seq := rfl
@[simp] theorem State.modFeed_band (s : State) (k : Nat) (f : Feed → Feed) : (s.modFeed k f).band = s.band := rfl
@[simp] theorem State.modFeed_cu (s : State) (k : Nat) (f : Feed → Feed) : (s.modFeed k f).cu = s.cu := rfl
@[simp] theorem State.modFeed_clap (s : State) (k : Nat) (f : Feed → Feed) : (s.modFeed k f).clap = s.clap := rfl
@[simp] theorem State.modFeed_isl (s : State) (k : Nat) (f : Feed → Feed) : (s.modFeed k f).isl = s.isl := rfl
@[simp] theorem State.modFeed_trip (s : State) (k : Nat) (f : Feed → Feed) : (s.modFeed k f).trip = s.trip := rfl
@[simp] theorem State.modFeed_sys (s : State) (k : Nat) (f : Feed → Feed) : (s.modFeed k f).sys = s.sys := rfl
@[simp] theorem State.modFeed_faults (s : State) (k : Nat) (f : Feed → Feed) : (s.modFeed k f).faults = s.faults := rfl
@[simp] theorem State.modFeed_log (s : State) (k : Nat) (f : Feed → Feed) : (s.modFeed k f).log = s.log := rfl
@[simp] theorem State.modFeed_time (s : State) (k : Nat) (f : Feed → Feed) : (s.modFeed k f).time = s.time := rfl
@[simp] theorem State.modFeed_meas (s : State) (k : Nat) (f : Feed → Feed) : (s.modFeed k f).meas = s.meas := rfl
@[simp] theorem State.modFeed_sync (s : State) (k : Nat) (f : Feed → Feed) : (s.modFeed k f).sync = s.sync := rfl
@[simp] theorem State.modFeed_frt (s : State) (k : Nat) (f : Feed → Feed) : (s.modFeed k f).frt = s.frt := rfl
@[simp] theorem State.modFeed_feeds (s : State) (k : Nat) (f : Feed → Feed) : (s.modFeed k f).feeds = s.feeds.upd k f := rfl
@[simp] theorem State.modFeed_isd (s : State) (k : Nat) (f : Feed → Feed) : (s.modFeed k f).isd = s.isd := rfl
@[simp] theorem State.modFeed_cue (s : State) (k : Nat) (f : Feed → Feed) : (s.modFeed k f).cue = s.cue := rfl
@[simp] theorem State.modFeed_bus (s : State) (k : Nat) (f : Feed → Feed) : (s.modFeed k f).bus = s.bus := rfl
@[simp] theorem State.modFeed_clk (s : State) (k : Nat) (f : Feed → Feed) : (s.modFeed k f).clk = s.clk := rfl
@[simp] theorem State.modFeed_mtr (s : State) (k : Nat) (f : Feed → Feed) : (s.modFeed k f).mtr = s.mtr := rfl
@[simp] theorem State.modFeed_mem (s : State) (k : Nat) (f : Feed → Feed) : (s.modFeed k f).mem = s.mem := rfl
@[simp] theorem State.modFeed_hist (s : State) (k : Nat) (f : Feed → Feed) : (s.modFeed k f).hist = s.hist := rfl
@[simp] theorem State.modFeed_nvm (s : State) (k : Nat) (f : Feed → Feed) : (s.modFeed k f).nvm = s.nvm := rfl
@[simp] theorem State.modFeed_avail (s : State) (k : Nat) (f : Feed → Feed) : (s.modFeed k f).avail = s.avail := rfl

/-! ### `State.modFrt` -/

@[simp] theorem State.modFrt_pending (s : State) (f : Frt → Frt) : (s.modFrt f).pending = s.pending := rfl
@[simp] theorem State.modFrt_now (s : State) (f : Frt → Frt) : (s.modFrt f).now = s.now := rfl
@[simp] theorem State.modFrt_regs (s : State) (f : Frt → Frt) : (s.modFrt f).regs = s.regs := rfl
@[simp] theorem State.modFrt_eff (s : State) (f : Frt → Frt) : (s.modFrt f).eff = s.eff := rfl
@[simp] theorem State.modFrt_pend (s : State) (f : Frt → Frt) : (s.modFrt f).pend = s.pend := rfl
@[simp] theorem State.modFrt_snap (s : State) (f : Frt → Frt) : (s.modFrt f).snap = s.snap := rfl
@[simp] theorem State.modFrt_lowW (s : State) (f : Frt → Frt) : (s.modFrt f).lowW = s.lowW := rfl
@[simp] theorem State.modFrt_timers (s : State) (f : Frt → Frt) : (s.modFrt f).timers = s.timers := rfl
@[simp] theorem State.modFrt_free (s : State) (f : Frt → Frt) : (s.modFrt f).free = s.free := rfl
@[simp] theorem State.modFrt_hot (s : State) (f : Frt → Frt) : (s.modFrt f).hot = s.hot := rfl
@[simp] theorem State.modFrt_seq (s : State) (f : Frt → Frt) : (s.modFrt f).seq = s.seq := rfl
@[simp] theorem State.modFrt_band (s : State) (f : Frt → Frt) : (s.modFrt f).band = s.band := rfl
@[simp] theorem State.modFrt_cu (s : State) (f : Frt → Frt) : (s.modFrt f).cu = s.cu := rfl
@[simp] theorem State.modFrt_clap (s : State) (f : Frt → Frt) : (s.modFrt f).clap = s.clap := rfl
@[simp] theorem State.modFrt_isl (s : State) (f : Frt → Frt) : (s.modFrt f).isl = s.isl := rfl
@[simp] theorem State.modFrt_trip (s : State) (f : Frt → Frt) : (s.modFrt f).trip = s.trip := rfl
@[simp] theorem State.modFrt_sys (s : State) (f : Frt → Frt) : (s.modFrt f).sys = s.sys := rfl
@[simp] theorem State.modFrt_faults (s : State) (f : Frt → Frt) : (s.modFrt f).faults = s.faults := rfl
@[simp] theorem State.modFrt_log (s : State) (f : Frt → Frt) : (s.modFrt f).log = s.log := rfl
@[simp] theorem State.modFrt_time (s : State) (f : Frt → Frt) : (s.modFrt f).time = s.time := rfl
@[simp] theorem State.modFrt_meas (s : State) (f : Frt → Frt) : (s.modFrt f).meas = s.meas := rfl
@[simp] theorem State.modFrt_sync (s : State) (f : Frt → Frt) : (s.modFrt f).sync = s.sync := rfl
@[simp] theorem State.modFrt_frt (s : State) (f : Frt → Frt) : (s.modFrt f).frt = f s.frt := rfl
@[simp] theorem State.modFrt_feeds (s : State) (f : Frt → Frt) : (s.modFrt f).feeds = s.feeds := rfl
@[simp] theorem State.modFrt_isd (s : State) (f : Frt → Frt) : (s.modFrt f).isd = s.isd := rfl
@[simp] theorem State.modFrt_cue (s : State) (f : Frt → Frt) : (s.modFrt f).cue = s.cue := rfl
@[simp] theorem State.modFrt_bus (s : State) (f : Frt → Frt) : (s.modFrt f).bus = s.bus := rfl
@[simp] theorem State.modFrt_clk (s : State) (f : Frt → Frt) : (s.modFrt f).clk = s.clk := rfl
@[simp] theorem State.modFrt_mtr (s : State) (f : Frt → Frt) : (s.modFrt f).mtr = s.mtr := rfl
@[simp] theorem State.modFrt_mem (s : State) (f : Frt → Frt) : (s.modFrt f).mem = s.mem := rfl
@[simp] theorem State.modFrt_hist (s : State) (f : Frt → Frt) : (s.modFrt f).hist = s.hist := rfl
@[simp] theorem State.modFrt_nvm (s : State) (f : Frt → Frt) : (s.modFrt f).nvm = s.nvm := rfl
@[simp] theorem State.modFrt_avail (s : State) (f : Frt → Frt) : (s.modFrt f).avail = s.avail := rfl

/-! ### `State.modBus` -/

@[simp] theorem State.modBus_pending (s : State) (f : Bus → Bus) : (s.modBus f).pending = s.pending := rfl
@[simp] theorem State.modBus_now (s : State) (f : Bus → Bus) : (s.modBus f).now = s.now := rfl
@[simp] theorem State.modBus_regs (s : State) (f : Bus → Bus) : (s.modBus f).regs = s.regs := rfl
@[simp] theorem State.modBus_eff (s : State) (f : Bus → Bus) : (s.modBus f).eff = s.eff := rfl
@[simp] theorem State.modBus_pend (s : State) (f : Bus → Bus) : (s.modBus f).pend = s.pend := rfl
@[simp] theorem State.modBus_snap (s : State) (f : Bus → Bus) : (s.modBus f).snap = s.snap := rfl
@[simp] theorem State.modBus_lowW (s : State) (f : Bus → Bus) : (s.modBus f).lowW = s.lowW := rfl
@[simp] theorem State.modBus_timers (s : State) (f : Bus → Bus) : (s.modBus f).timers = s.timers := rfl
@[simp] theorem State.modBus_free (s : State) (f : Bus → Bus) : (s.modBus f).free = s.free := rfl
@[simp] theorem State.modBus_hot (s : State) (f : Bus → Bus) : (s.modBus f).hot = s.hot := rfl
@[simp] theorem State.modBus_seq (s : State) (f : Bus → Bus) : (s.modBus f).seq = s.seq := rfl
@[simp] theorem State.modBus_band (s : State) (f : Bus → Bus) : (s.modBus f).band = s.band := rfl
@[simp] theorem State.modBus_cu (s : State) (f : Bus → Bus) : (s.modBus f).cu = s.cu := rfl
@[simp] theorem State.modBus_clap (s : State) (f : Bus → Bus) : (s.modBus f).clap = s.clap := rfl
@[simp] theorem State.modBus_isl (s : State) (f : Bus → Bus) : (s.modBus f).isl = s.isl := rfl
@[simp] theorem State.modBus_trip (s : State) (f : Bus → Bus) : (s.modBus f).trip = s.trip := rfl
@[simp] theorem State.modBus_sys (s : State) (f : Bus → Bus) : (s.modBus f).sys = s.sys := rfl
@[simp] theorem State.modBus_faults (s : State) (f : Bus → Bus) : (s.modBus f).faults = s.faults := rfl
@[simp] theorem State.modBus_log (s : State) (f : Bus → Bus) : (s.modBus f).log = s.log := rfl
@[simp] theorem State.modBus_time (s : State) (f : Bus → Bus) : (s.modBus f).time = s.time := rfl
@[simp] theorem State.modBus_meas (s : State) (f : Bus → Bus) : (s.modBus f).meas = s.meas := rfl
@[simp] theorem State.modBus_sync (s : State) (f : Bus → Bus) : (s.modBus f).sync = s.sync := rfl
@[simp] theorem State.modBus_frt (s : State) (f : Bus → Bus) : (s.modBus f).frt = s.frt := rfl
@[simp] theorem State.modBus_feeds (s : State) (f : Bus → Bus) : (s.modBus f).feeds = s.feeds := rfl
@[simp] theorem State.modBus_isd (s : State) (f : Bus → Bus) : (s.modBus f).isd = s.isd := rfl
@[simp] theorem State.modBus_cue (s : State) (f : Bus → Bus) : (s.modBus f).cue = s.cue := rfl
@[simp] theorem State.modBus_bus (s : State) (f : Bus → Bus) : (s.modBus f).bus = f s.bus := rfl
@[simp] theorem State.modBus_clk (s : State) (f : Bus → Bus) : (s.modBus f).clk = s.clk := rfl
@[simp] theorem State.modBus_mtr (s : State) (f : Bus → Bus) : (s.modBus f).mtr = s.mtr := rfl
@[simp] theorem State.modBus_mem (s : State) (f : Bus → Bus) : (s.modBus f).mem = s.mem := rfl
@[simp] theorem State.modBus_hist (s : State) (f : Bus → Bus) : (s.modBus f).hist = s.hist := rfl
@[simp] theorem State.modBus_nvm (s : State) (f : Bus → Bus) : (s.modBus f).nvm = s.nvm := rfl
@[simp] theorem State.modBus_avail (s : State) (f : Bus → Bus) : (s.modBus f).avail = s.avail := rfl

/-! ### `State.modChan` -/

@[simp] theorem State.modChan_pending (s : State) (n : Nat) (f : Chan → Chan) : (s.modChan n f).pending = s.pending := rfl
@[simp] theorem State.modChan_now (s : State) (n : Nat) (f : Chan → Chan) : (s.modChan n f).now = s.now := rfl
@[simp] theorem State.modChan_regs (s : State) (n : Nat) (f : Chan → Chan) : (s.modChan n f).regs = s.regs := rfl
@[simp] theorem State.modChan_eff (s : State) (n : Nat) (f : Chan → Chan) : (s.modChan n f).eff = s.eff := rfl
@[simp] theorem State.modChan_pend (s : State) (n : Nat) (f : Chan → Chan) : (s.modChan n f).pend = s.pend := rfl
@[simp] theorem State.modChan_snap (s : State) (n : Nat) (f : Chan → Chan) : (s.modChan n f).snap = s.snap := rfl
@[simp] theorem State.modChan_lowW (s : State) (n : Nat) (f : Chan → Chan) : (s.modChan n f).lowW = s.lowW := rfl
@[simp] theorem State.modChan_timers (s : State) (n : Nat) (f : Chan → Chan) : (s.modChan n f).timers = s.timers := rfl
@[simp] theorem State.modChan_free (s : State) (n : Nat) (f : Chan → Chan) : (s.modChan n f).free = s.free := rfl
@[simp] theorem State.modChan_hot (s : State) (n : Nat) (f : Chan → Chan) : (s.modChan n f).hot = s.hot := rfl
@[simp] theorem State.modChan_seq (s : State) (n : Nat) (f : Chan → Chan) : (s.modChan n f).seq = s.seq := rfl
@[simp] theorem State.modChan_band (s : State) (n : Nat) (f : Chan → Chan) : (s.modChan n f).band = s.band := rfl
@[simp] theorem State.modChan_cu (s : State) (n : Nat) (f : Chan → Chan) : (s.modChan n f).cu = s.cu := rfl
@[simp] theorem State.modChan_clap (s : State) (n : Nat) (f : Chan → Chan) : (s.modChan n f).clap = s.clap := rfl
@[simp] theorem State.modChan_isl (s : State) (n : Nat) (f : Chan → Chan) : (s.modChan n f).isl = s.isl := rfl
@[simp] theorem State.modChan_trip (s : State) (n : Nat) (f : Chan → Chan) : (s.modChan n f).trip = s.trip := rfl
@[simp] theorem State.modChan_sys (s : State) (n : Nat) (f : Chan → Chan) : (s.modChan n f).sys = s.sys := rfl
@[simp] theorem State.modChan_faults (s : State) (n : Nat) (f : Chan → Chan) : (s.modChan n f).faults = s.faults := rfl
@[simp] theorem State.modChan_log (s : State) (n : Nat) (f : Chan → Chan) : (s.modChan n f).log = s.log := rfl
@[simp] theorem State.modChan_time (s : State) (n : Nat) (f : Chan → Chan) : (s.modChan n f).time = s.time := rfl
@[simp] theorem State.modChan_sync (s : State) (n : Nat) (f : Chan → Chan) : (s.modChan n f).sync = s.sync := rfl
@[simp] theorem State.modChan_frt (s : State) (n : Nat) (f : Chan → Chan) : (s.modChan n f).frt = s.frt := rfl
@[simp] theorem State.modChan_feeds (s : State) (n : Nat) (f : Chan → Chan) : (s.modChan n f).feeds = s.feeds := rfl
@[simp] theorem State.modChan_isd (s : State) (n : Nat) (f : Chan → Chan) : (s.modChan n f).isd = s.isd := rfl
@[simp] theorem State.modChan_cue (s : State) (n : Nat) (f : Chan → Chan) : (s.modChan n f).cue = s.cue := rfl
@[simp] theorem State.modChan_bus (s : State) (n : Nat) (f : Chan → Chan) : (s.modChan n f).bus = s.bus := rfl
@[simp] theorem State.modChan_clk (s : State) (n : Nat) (f : Chan → Chan) : (s.modChan n f).clk = s.clk := rfl
@[simp] theorem State.modChan_mtr (s : State) (n : Nat) (f : Chan → Chan) : (s.modChan n f).mtr = s.mtr := rfl
@[simp] theorem State.modChan_mem (s : State) (n : Nat) (f : Chan → Chan) : (s.modChan n f).mem = s.mem := rfl
@[simp] theorem State.modChan_hist (s : State) (n : Nat) (f : Chan → Chan) : (s.modChan n f).hist = s.hist := rfl
@[simp] theorem State.modChan_nvm (s : State) (n : Nat) (f : Chan → Chan) : (s.modChan n f).nvm = s.nvm := rfl
@[simp] theorem State.modChan_avail (s : State) (n : Nat) (f : Chan → Chan) : (s.modChan n f).avail = s.avail := rfl

/-! ### `State.modMeas` -/

@[simp] theorem State.modMeas_pending (s : State) (f : Meas → Meas) : (s.modMeas f).pending = s.pending := rfl
@[simp] theorem State.modMeas_now (s : State) (f : Meas → Meas) : (s.modMeas f).now = s.now := rfl
@[simp] theorem State.modMeas_regs (s : State) (f : Meas → Meas) : (s.modMeas f).regs = s.regs := rfl
@[simp] theorem State.modMeas_eff (s : State) (f : Meas → Meas) : (s.modMeas f).eff = s.eff := rfl
@[simp] theorem State.modMeas_pend (s : State) (f : Meas → Meas) : (s.modMeas f).pend = s.pend := rfl
@[simp] theorem State.modMeas_snap (s : State) (f : Meas → Meas) : (s.modMeas f).snap = s.snap := rfl
@[simp] theorem State.modMeas_lowW (s : State) (f : Meas → Meas) : (s.modMeas f).lowW = s.lowW := rfl
@[simp] theorem State.modMeas_timers (s : State) (f : Meas → Meas) : (s.modMeas f).timers = s.timers := rfl
@[simp] theorem State.modMeas_free (s : State) (f : Meas → Meas) : (s.modMeas f).free = s.free := rfl
@[simp] theorem State.modMeas_hot (s : State) (f : Meas → Meas) : (s.modMeas f).hot = s.hot := rfl
@[simp] theorem State.modMeas_seq (s : State) (f : Meas → Meas) : (s.modMeas f).seq = s.seq := rfl
@[simp] theorem State.modMeas_band (s : State) (f : Meas → Meas) : (s.modMeas f).band = s.band := rfl
@[simp] theorem State.modMeas_cu (s : State) (f : Meas → Meas) : (s.modMeas f).cu = s.cu := rfl
@[simp] theorem State.modMeas_clap (s : State) (f : Meas → Meas) : (s.modMeas f).clap = s.clap := rfl
@[simp] theorem State.modMeas_isl (s : State) (f : Meas → Meas) : (s.modMeas f).isl = s.isl := rfl
@[simp] theorem State.modMeas_trip (s : State) (f : Meas → Meas) : (s.modMeas f).trip = s.trip := rfl
@[simp] theorem State.modMeas_sys (s : State) (f : Meas → Meas) : (s.modMeas f).sys = s.sys := rfl
@[simp] theorem State.modMeas_faults (s : State) (f : Meas → Meas) : (s.modMeas f).faults = s.faults := rfl
@[simp] theorem State.modMeas_log (s : State) (f : Meas → Meas) : (s.modMeas f).log = s.log := rfl
@[simp] theorem State.modMeas_time (s : State) (f : Meas → Meas) : (s.modMeas f).time = s.time := rfl
@[simp] theorem State.modMeas_meas (s : State) (f : Meas → Meas) : (s.modMeas f).meas = f s.meas := rfl
@[simp] theorem State.modMeas_sync (s : State) (f : Meas → Meas) : (s.modMeas f).sync = s.sync := rfl
@[simp] theorem State.modMeas_frt (s : State) (f : Meas → Meas) : (s.modMeas f).frt = s.frt := rfl
@[simp] theorem State.modMeas_feeds (s : State) (f : Meas → Meas) : (s.modMeas f).feeds = s.feeds := rfl
@[simp] theorem State.modMeas_isd (s : State) (f : Meas → Meas) : (s.modMeas f).isd = s.isd := rfl
@[simp] theorem State.modMeas_cue (s : State) (f : Meas → Meas) : (s.modMeas f).cue = s.cue := rfl
@[simp] theorem State.modMeas_bus (s : State) (f : Meas → Meas) : (s.modMeas f).bus = s.bus := rfl
@[simp] theorem State.modMeas_clk (s : State) (f : Meas → Meas) : (s.modMeas f).clk = s.clk := rfl
@[simp] theorem State.modMeas_mtr (s : State) (f : Meas → Meas) : (s.modMeas f).mtr = s.mtr := rfl
@[simp] theorem State.modMeas_mem (s : State) (f : Meas → Meas) : (s.modMeas f).mem = s.mem := rfl
@[simp] theorem State.modMeas_hist (s : State) (f : Meas → Meas) : (s.modMeas f).hist = s.hist := rfl
@[simp] theorem State.modMeas_nvm (s : State) (f : Meas → Meas) : (s.modMeas f).nvm = s.nvm := rfl
@[simp] theorem State.modMeas_avail (s : State) (f : Meas → Meas) : (s.modMeas f).avail = s.avail := rfl

/-! ### `State.modMem` -/

@[simp] theorem State.modMem_pending (s : State) (f : Mem → Mem) : (s.modMem f).pending = s.pending := rfl
@[simp] theorem State.modMem_now (s : State) (f : Mem → Mem) : (s.modMem f).now = s.now := rfl
@[simp] theorem State.modMem_regs (s : State) (f : Mem → Mem) : (s.modMem f).regs = s.regs := rfl
@[simp] theorem State.modMem_eff (s : State) (f : Mem → Mem) : (s.modMem f).eff = s.eff := rfl
@[simp] theorem State.modMem_pend (s : State) (f : Mem → Mem) : (s.modMem f).pend = s.pend := rfl
@[simp] theorem State.modMem_snap (s : State) (f : Mem → Mem) : (s.modMem f).snap = s.snap := rfl
@[simp] theorem State.modMem_lowW (s : State) (f : Mem → Mem) : (s.modMem f).lowW = s.lowW := rfl
@[simp] theorem State.modMem_timers (s : State) (f : Mem → Mem) : (s.modMem f).timers = s.timers := rfl
@[simp] theorem State.modMem_free (s : State) (f : Mem → Mem) : (s.modMem f).free = s.free := rfl
@[simp] theorem State.modMem_hot (s : State) (f : Mem → Mem) : (s.modMem f).hot = s.hot := rfl
@[simp] theorem State.modMem_seq (s : State) (f : Mem → Mem) : (s.modMem f).seq = s.seq := rfl
@[simp] theorem State.modMem_band (s : State) (f : Mem → Mem) : (s.modMem f).band = s.band := rfl
@[simp] theorem State.modMem_cu (s : State) (f : Mem → Mem) : (s.modMem f).cu = s.cu := rfl
@[simp] theorem State.modMem_clap (s : State) (f : Mem → Mem) : (s.modMem f).clap = s.clap := rfl
@[simp] theorem State.modMem_isl (s : State) (f : Mem → Mem) : (s.modMem f).isl = s.isl := rfl
@[simp] theorem State.modMem_trip (s : State) (f : Mem → Mem) : (s.modMem f).trip = s.trip := rfl
@[simp] theorem State.modMem_sys (s : State) (f : Mem → Mem) : (s.modMem f).sys = s.sys := rfl
@[simp] theorem State.modMem_faults (s : State) (f : Mem → Mem) : (s.modMem f).faults = s.faults := rfl
@[simp] theorem State.modMem_log (s : State) (f : Mem → Mem) : (s.modMem f).log = s.log := rfl
@[simp] theorem State.modMem_time (s : State) (f : Mem → Mem) : (s.modMem f).time = s.time := rfl
@[simp] theorem State.modMem_meas (s : State) (f : Mem → Mem) : (s.modMem f).meas = s.meas := rfl
@[simp] theorem State.modMem_sync (s : State) (f : Mem → Mem) : (s.modMem f).sync = s.sync := rfl
@[simp] theorem State.modMem_frt (s : State) (f : Mem → Mem) : (s.modMem f).frt = s.frt := rfl
@[simp] theorem State.modMem_feeds (s : State) (f : Mem → Mem) : (s.modMem f).feeds = s.feeds := rfl
@[simp] theorem State.modMem_isd (s : State) (f : Mem → Mem) : (s.modMem f).isd = s.isd := rfl
@[simp] theorem State.modMem_cue (s : State) (f : Mem → Mem) : (s.modMem f).cue = s.cue := rfl
@[simp] theorem State.modMem_bus (s : State) (f : Mem → Mem) : (s.modMem f).bus = s.bus := rfl
@[simp] theorem State.modMem_clk (s : State) (f : Mem → Mem) : (s.modMem f).clk = s.clk := rfl
@[simp] theorem State.modMem_mtr (s : State) (f : Mem → Mem) : (s.modMem f).mtr = s.mtr := rfl
@[simp] theorem State.modMem_mem (s : State) (f : Mem → Mem) : (s.modMem f).mem = f s.mem := rfl
@[simp] theorem State.modMem_hist (s : State) (f : Mem → Mem) : (s.modMem f).hist = s.hist := rfl
@[simp] theorem State.modMem_nvm (s : State) (f : Mem → Mem) : (s.modMem f).nvm = s.nvm := rfl
@[simp] theorem State.modMem_avail (s : State) (f : Mem → Mem) : (s.modMem f).avail = s.avail := rfl

/-! ### `State.modMtr` -/

@[simp] theorem State.modMtr_pending (s : State) (f : Mtr → Mtr) : (s.modMtr f).pending = s.pending := rfl
@[simp] theorem State.modMtr_now (s : State) (f : Mtr → Mtr) : (s.modMtr f).now = s.now := rfl
@[simp] theorem State.modMtr_regs (s : State) (f : Mtr → Mtr) : (s.modMtr f).regs = s.regs := rfl
@[simp] theorem State.modMtr_eff (s : State) (f : Mtr → Mtr) : (s.modMtr f).eff = s.eff := rfl
@[simp] theorem State.modMtr_pend (s : State) (f : Mtr → Mtr) : (s.modMtr f).pend = s.pend := rfl
@[simp] theorem State.modMtr_snap (s : State) (f : Mtr → Mtr) : (s.modMtr f).snap = s.snap := rfl
@[simp] theorem State.modMtr_lowW (s : State) (f : Mtr → Mtr) : (s.modMtr f).lowW = s.lowW := rfl
@[simp] theorem State.modMtr_timers (s : State) (f : Mtr → Mtr) : (s.modMtr f).timers = s.timers := rfl
@[simp] theorem State.modMtr_free (s : State) (f : Mtr → Mtr) : (s.modMtr f).free = s.free := rfl
@[simp] theorem State.modMtr_hot (s : State) (f : Mtr → Mtr) : (s.modMtr f).hot = s.hot := rfl
@[simp] theorem State.modMtr_seq (s : State) (f : Mtr → Mtr) : (s.modMtr f).seq = s.seq := rfl
@[simp] theorem State.modMtr_band (s : State) (f : Mtr → Mtr) : (s.modMtr f).band = s.band := rfl
@[simp] theorem State.modMtr_cu (s : State) (f : Mtr → Mtr) : (s.modMtr f).cu = s.cu := rfl
@[simp] theorem State.modMtr_clap (s : State) (f : Mtr → Mtr) : (s.modMtr f).clap = s.clap := rfl
@[simp] theorem State.modMtr_isl (s : State) (f : Mtr → Mtr) : (s.modMtr f).isl = s.isl := rfl
@[simp] theorem State.modMtr_trip (s : State) (f : Mtr → Mtr) : (s.modMtr f).trip = s.trip := rfl
@[simp] theorem State.modMtr_sys (s : State) (f : Mtr → Mtr) : (s.modMtr f).sys = s.sys := rfl
@[simp] theorem State.modMtr_faults (s : State) (f : Mtr → Mtr) : (s.modMtr f).faults = s.faults := rfl
@[simp] theorem State.modMtr_log (s : State) (f : Mtr → Mtr) : (s.modMtr f).log = s.log := rfl
@[simp] theorem State.modMtr_time (s : State) (f : Mtr → Mtr) : (s.modMtr f).time = s.time := rfl
@[simp] theorem State.modMtr_meas (s : State) (f : Mtr → Mtr) : (s.modMtr f).meas = s.meas := rfl
@[simp] theorem State.modMtr_sync (s : State) (f : Mtr → Mtr) : (s.modMtr f).sync = s.sync := rfl
@[simp] theorem State.modMtr_frt (s : State) (f : Mtr → Mtr) : (s.modMtr f).frt = s.frt := rfl
@[simp] theorem State.modMtr_feeds (s : State) (f : Mtr → Mtr) : (s.modMtr f).feeds = s.feeds := rfl
@[simp] theorem State.modMtr_isd (s : State) (f : Mtr → Mtr) : (s.modMtr f).isd = s.isd := rfl
@[simp] theorem State.modMtr_cue (s : State) (f : Mtr → Mtr) : (s.modMtr f).cue = s.cue := rfl
@[simp] theorem State.modMtr_bus (s : State) (f : Mtr → Mtr) : (s.modMtr f).bus = s.bus := rfl
@[simp] theorem State.modMtr_clk (s : State) (f : Mtr → Mtr) : (s.modMtr f).clk = s.clk := rfl
@[simp] theorem State.modMtr_mtr (s : State) (f : Mtr → Mtr) : (s.modMtr f).mtr = f s.mtr := rfl
@[simp] theorem State.modMtr_mem (s : State) (f : Mtr → Mtr) : (s.modMtr f).mem = s.mem := rfl
@[simp] theorem State.modMtr_hist (s : State) (f : Mtr → Mtr) : (s.modMtr f).hist = s.hist := rfl
@[simp] theorem State.modMtr_nvm (s : State) (f : Mtr → Mtr) : (s.modMtr f).nvm = s.nvm := rfl
@[simp] theorem State.modMtr_avail (s : State) (f : Mtr → Mtr) : (s.modMtr f).avail = s.avail := rfl

/-! ### `State.modNvm` -/

@[simp] theorem State.modNvm_pending (s : State) (f : Nvm → Nvm) : (s.modNvm f).pending = s.pending := rfl
@[simp] theorem State.modNvm_now (s : State) (f : Nvm → Nvm) : (s.modNvm f).now = s.now := rfl
@[simp] theorem State.modNvm_regs (s : State) (f : Nvm → Nvm) : (s.modNvm f).regs = s.regs := rfl
@[simp] theorem State.modNvm_eff (s : State) (f : Nvm → Nvm) : (s.modNvm f).eff = s.eff := rfl
@[simp] theorem State.modNvm_pend (s : State) (f : Nvm → Nvm) : (s.modNvm f).pend = s.pend := rfl
@[simp] theorem State.modNvm_snap (s : State) (f : Nvm → Nvm) : (s.modNvm f).snap = s.snap := rfl
@[simp] theorem State.modNvm_lowW (s : State) (f : Nvm → Nvm) : (s.modNvm f).lowW = s.lowW := rfl
@[simp] theorem State.modNvm_timers (s : State) (f : Nvm → Nvm) : (s.modNvm f).timers = s.timers := rfl
@[simp] theorem State.modNvm_free (s : State) (f : Nvm → Nvm) : (s.modNvm f).free = s.free := rfl
@[simp] theorem State.modNvm_hot (s : State) (f : Nvm → Nvm) : (s.modNvm f).hot = s.hot := rfl
@[simp] theorem State.modNvm_seq (s : State) (f : Nvm → Nvm) : (s.modNvm f).seq = s.seq := rfl
@[simp] theorem State.modNvm_band (s : State) (f : Nvm → Nvm) : (s.modNvm f).band = s.band := rfl
@[simp] theorem State.modNvm_cu (s : State) (f : Nvm → Nvm) : (s.modNvm f).cu = s.cu := rfl
@[simp] theorem State.modNvm_clap (s : State) (f : Nvm → Nvm) : (s.modNvm f).clap = s.clap := rfl
@[simp] theorem State.modNvm_isl (s : State) (f : Nvm → Nvm) : (s.modNvm f).isl = s.isl := rfl
@[simp] theorem State.modNvm_trip (s : State) (f : Nvm → Nvm) : (s.modNvm f).trip = s.trip := rfl
@[simp] theorem State.modNvm_sys (s : State) (f : Nvm → Nvm) : (s.modNvm f).sys = s.sys := rfl
@[simp] theorem State.modNvm_faults (s : State) (f : Nvm → Nvm) : (s.modNvm f).faults = s.faults := rfl
@[simp] theorem State.modNvm_log (s : State) (f : Nvm → Nvm) : (s.modNvm f).log = s.log := rfl
@[simp] theorem State.modNvm_time (s : State) (f : Nvm → Nvm) : (s.modNvm f).time = s.time := rfl
@[simp] theorem State.modNvm_meas (s : State) (f : Nvm → Nvm) : (s.modNvm f).meas = s.meas := rfl
@[simp] theorem State.modNvm_sync (s : State) (f : Nvm → Nvm) : (s.modNvm f).sync = s.sync := rfl
@[simp] theorem State.modNvm_frt (s : State) (f : Nvm → Nvm) : (s.modNvm f).frt = s.frt := rfl
@[simp] theorem State.modNvm_feeds (s : State) (f : Nvm → Nvm) : (s.modNvm f).feeds = s.feeds := rfl
@[simp] theorem State.modNvm_isd (s : State) (f : Nvm → Nvm) : (s.modNvm f).isd = s.isd := rfl
@[simp] theorem State.modNvm_cue (s : State) (f : Nvm → Nvm) : (s.modNvm f).cue = s.cue := rfl
@[simp] theorem State.modNvm_bus (s : State) (f : Nvm → Nvm) : (s.modNvm f).bus = s.bus := rfl
@[simp] theorem State.modNvm_clk (s : State) (f : Nvm → Nvm) : (s.modNvm f).clk = s.clk := rfl
@[simp] theorem State.modNvm_mtr (s : State) (f : Nvm → Nvm) : (s.modNvm f).mtr = s.mtr := rfl
@[simp] theorem State.modNvm_mem (s : State) (f : Nvm → Nvm) : (s.modNvm f).mem = s.mem := rfl
@[simp] theorem State.modNvm_hist (s : State) (f : Nvm → Nvm) : (s.modNvm f).hist = s.hist := rfl
@[simp] theorem State.modNvm_nvm (s : State) (f : Nvm → Nvm) : (s.modNvm f).nvm = f s.nvm := rfl
@[simp] theorem State.modNvm_avail (s : State) (f : Nvm → Nvm) : (s.modNvm f).avail = s.avail := rfl

/-! ### `State.modIsd` -/

@[simp] theorem State.modIsd_pending (s : State) (f : Isd → Isd) : (s.modIsd f).pending = s.pending := rfl
@[simp] theorem State.modIsd_now (s : State) (f : Isd → Isd) : (s.modIsd f).now = s.now := rfl
@[simp] theorem State.modIsd_regs (s : State) (f : Isd → Isd) : (s.modIsd f).regs = s.regs := rfl
@[simp] theorem State.modIsd_eff (s : State) (f : Isd → Isd) : (s.modIsd f).eff = s.eff := rfl
@[simp] theorem State.modIsd_pend (s : State) (f : Isd → Isd) : (s.modIsd f).pend = s.pend := rfl
@[simp] theorem State.modIsd_snap (s : State) (f : Isd → Isd) : (s.modIsd f).snap = s.snap := rfl
@[simp] theorem State.modIsd_lowW (s : State) (f : Isd → Isd) : (s.modIsd f).lowW = s.lowW := rfl
@[simp] theorem State.modIsd_timers (s : State) (f : Isd → Isd) : (s.modIsd f).timers = s.timers := rfl
@[simp] theorem State.modIsd_free (s : State) (f : Isd → Isd) : (s.modIsd f).free = s.free := rfl
@[simp] theorem State.modIsd_hot (s : State) (f : Isd → Isd) : (s.modIsd f).hot = s.hot := rfl
@[simp] theorem State.modIsd_seq (s : State) (f : Isd → Isd) : (s.modIsd f).seq = s.seq := rfl
@[simp] theorem State.modIsd_band (s : State) (f : Isd → Isd) : (s.modIsd f).band = s.band := rfl
@[simp] theorem State.modIsd_cu (s : State) (f : Isd → Isd) : (s.modIsd f).cu = s.cu := rfl
@[simp] theorem State.modIsd_clap (s : State) (f : Isd → Isd) : (s.modIsd f).clap = s.clap := rfl
@[simp] theorem State.modIsd_isl (s : State) (f : Isd → Isd) : (s.modIsd f).isl = s.isl := rfl
@[simp] theorem State.modIsd_trip (s : State) (f : Isd → Isd) : (s.modIsd f).trip = s.trip := rfl
@[simp] theorem State.modIsd_sys (s : State) (f : Isd → Isd) : (s.modIsd f).sys = s.sys := rfl
@[simp] theorem State.modIsd_faults (s : State) (f : Isd → Isd) : (s.modIsd f).faults = s.faults := rfl
@[simp] theorem State.modIsd_log (s : State) (f : Isd → Isd) : (s.modIsd f).log = s.log := rfl
@[simp] theorem State.modIsd_time (s : State) (f : Isd → Isd) : (s.modIsd f).time = s.time := rfl
@[simp] theorem State.modIsd_meas (s : State) (f : Isd → Isd) : (s.modIsd f).meas = s.meas := rfl
@[simp] theorem State.modIsd_sync (s : State) (f : Isd → Isd) : (s.modIsd f).sync = s.sync := rfl
@[simp] theorem State.modIsd_frt (s : State) (f : Isd → Isd) : (s.modIsd f).frt = s.frt := rfl
@[simp] theorem State.modIsd_feeds (s : State) (f : Isd → Isd) : (s.modIsd f).feeds = s.feeds := rfl
@[simp] theorem State.modIsd_isd (s : State) (f : Isd → Isd) : (s.modIsd f).isd = f s.isd := rfl
@[simp] theorem State.modIsd_cue (s : State) (f : Isd → Isd) : (s.modIsd f).cue = s.cue := rfl
@[simp] theorem State.modIsd_bus (s : State) (f : Isd → Isd) : (s.modIsd f).bus = s.bus := rfl
@[simp] theorem State.modIsd_clk (s : State) (f : Isd → Isd) : (s.modIsd f).clk = s.clk := rfl
@[simp] theorem State.modIsd_mtr (s : State) (f : Isd → Isd) : (s.modIsd f).mtr = s.mtr := rfl
@[simp] theorem State.modIsd_mem (s : State) (f : Isd → Isd) : (s.modIsd f).mem = s.mem := rfl
@[simp] theorem State.modIsd_hist (s : State) (f : Isd → Isd) : (s.modIsd f).hist = s.hist := rfl
@[simp] theorem State.modIsd_nvm (s : State) (f : Isd → Isd) : (s.modIsd f).nvm = s.nvm := rfl
@[simp] theorem State.modIsd_avail (s : State) (f : Isd → Isd) : (s.modIsd f).avail = s.avail := rfl

/-! ### `State.modHist` -/

@[simp] theorem State.modHist_pending (s : State) (f : Hist → Hist) : (s.modHist f).pending = s.pending := rfl
@[simp] theorem State.modHist_now (s : State) (f : Hist → Hist) : (s.modHist f).now = s.now := rfl
@[simp] theorem State.modHist_regs (s : State) (f : Hist → Hist) : (s.modHist f).regs = s.regs := rfl
@[simp] theorem State.modHist_eff (s : State) (f : Hist → Hist) : (s.modHist f).eff = s.eff := rfl
@[simp] theorem State.modHist_pend (s : State) (f : Hist → Hist) : (s.modHist f).pend = s.pend := rfl
@[simp] theorem State.modHist_snap (s : State) (f : Hist → Hist) : (s.modHist f).snap = s.snap := rfl
@[simp] theorem State.modHist_lowW (s : State) (f : Hist → Hist) : (s.modHist f).lowW = s.lowW := rfl
@[simp] theorem State.modHist_timers (s : State) (f : Hist → Hist) : (s.modHist f).timers = s.timers := rfl
@[simp] theorem State.modHist_free (s : State) (f : Hist → Hist) : (s.modHist f).free = s.free := rfl
@[simp] theorem State.modHist_hot (s : State) (f : Hist → Hist) : (s.modHist f).hot = s.hot := rfl
@[simp] theorem State.modHist_seq (s : State) (f : Hist → Hist) : (s.modHist f).seq = s.seq := rfl
@[simp] theorem State.modHist_band (s : State) (f : Hist → Hist) : (s.modHist f).band = s.band := rfl
@[simp] theorem State.modHist_cu (s : State) (f : Hist → Hist) : (s.modHist f).cu = s.cu := rfl
@[simp] theorem State.modHist_clap (s : State) (f : Hist → Hist) : (s.modHist f).clap = s.clap := rfl
@[simp] theorem State.modHist_isl (s : State) (f : Hist → Hist) : (s.modHist f).isl = s.isl := rfl
@[simp] theorem State.modHist_trip (s : State) (f : Hist → Hist) : (s.modHist f).trip = s.trip := rfl
@[simp] theorem State.modHist_sys (s : State) (f : Hist → Hist) : (s.modHist f).sys = s.sys := rfl
@[simp] theorem State.modHist_faults (s : State) (f : Hist → Hist) : (s.modHist f).faults = s.faults := rfl
@[simp] theorem State.modHist_log (s : State) (f : Hist → Hist) : (s.modHist f).log = s.log := rfl
@[simp] theorem State.modHist_time (s : State) (f : Hist → Hist) : (s.modHist f).time = s.time := rfl
@[simp] theorem State.modHist_meas (s : State) (f : Hist → Hist) : (s.modHist f).meas = s.meas := rfl
@[simp] theorem State.modHist_sync (s : State) (f : Hist → Hist) : (s.modHist f).sync = s.sync := rfl
@[simp] theorem State.modHist_frt (s : State) (f : Hist → Hist) : (s.modHist f).frt = s.frt := rfl
@[simp] theorem State.modHist_feeds (s : State) (f : Hist → Hist) : (s.modHist f).feeds = s.feeds := rfl
@[simp] theorem State.modHist_isd (s : State) (f : Hist → Hist) : (s.modHist f).isd = s.isd := rfl
@[simp] theorem State.modHist_cue (s : State) (f : Hist → Hist) : (s.modHist f).cue = s.cue := rfl
@[simp] theorem State.modHist_bus (s : State) (f : Hist → Hist) : (s.modHist f).bus = s.bus := rfl
@[simp] theorem State.modHist_clk (s : State) (f : Hist → Hist) : (s.modHist f).clk = s.clk := rfl
@[simp] theorem State.modHist_mtr (s : State) (f : Hist → Hist) : (s.modHist f).mtr = s.mtr := rfl
@[simp] theorem State.modHist_mem (s : State) (f : Hist → Hist) : (s.modHist f).mem = s.mem := rfl
@[simp] theorem State.modHist_hist (s : State) (f : Hist → Hist) : (s.modHist f).hist = f s.hist := rfl
@[simp] theorem State.modHist_nvm (s : State) (f : Hist → Hist) : (s.modHist f).nvm = s.nvm := rfl
@[simp] theorem State.modHist_avail (s : State) (f : Hist → Hist) : (s.modHist f).avail = s.avail := rfl

/-! ### `State.modSync` -/

@[simp] theorem State.modSync_pending (s : State) (f : Sync → Sync) : (s.modSync f).pending = s.pending := rfl
@[simp] theorem State.modSync_now (s : State) (f : Sync → Sync) : (s.modSync f).now = s.now := rfl
@[simp] theorem State.modSync_regs (s : State) (f : Sync → Sync) : (s.modSync f).regs = s.regs := rfl
@[simp] theorem State.modSync_eff (s : State) (f : Sync → Sync) : (s.modSync f).eff = s.eff := rfl
@[simp] theorem State.modSync_pend (s : State) (f : Sync → Sync) : (s.modSync f).pend = s.pend := rfl
@[simp] theorem State.modSync_snap (s : State) (f : Sync → Sync) : (s.modSync f).snap = s.snap := rfl
@[simp] theorem State.modSync_lowW (s : State) (f : Sync → Sync) : (s.modSync f).lowW = s.lowW := rfl
@[simp] theorem State.modSync_timers (s : State) (f : Sync → Sync) : (s.modSync f).timers = s.timers := rfl
@[simp] theorem State.modSync_free (s : State) (f : Sync → Sync) : (s.modSync f).free = s.free := rfl
@[simp] theorem State.modSync_hot (s : State) (f : Sync → Sync) : (s.modSync f).hot = s.hot := rfl
@[simp] theorem State.modSync_seq (s : State) (f : Sync → Sync) : (s.modSync f).seq = s.seq := rfl
@[simp] theorem State.modSync_band (s : State) (f : Sync → Sync) : (s.modSync f).band = s.band := rfl
@[simp] theorem State.modSync_cu (s : State) (f : Sync → Sync) : (s.modSync f).cu = s.cu := rfl
@[simp] theorem State.modSync_clap (s : State) (f : Sync → Sync) : (s.modSync f).clap = s.clap := rfl
@[simp] theorem State.modSync_isl (s : State) (f : Sync → Sync) : (s.modSync f).isl = s.isl := rfl
@[simp] theorem State.modSync_trip (s : State) (f : Sync → Sync) : (s.modSync f).trip = s.trip := rfl
@[simp] theorem State.modSync_sys (s : State) (f : Sync → Sync) : (s.modSync f).sys = s.sys := rfl
@[simp] theorem State.modSync_faults (s : State) (f : Sync → Sync) : (s.modSync f).faults = s.faults := rfl
@[simp] theorem State.modSync_log (s : State) (f : Sync → Sync) : (s.modSync f).log = s.log := rfl
@[simp] theorem State.modSync_time (s : State) (f : Sync → Sync) : (s.modSync f).time = s.time := rfl
@[simp] theorem State.modSync_meas (s : State) (f : Sync → Sync) : (s.modSync f).meas = s.meas := rfl
@[simp] theorem State.modSync_sync (s : State) (f : Sync → Sync) : (s.modSync f).sync = f s.sync := rfl
@[simp] theorem State.modSync_frt (s : State) (f : Sync → Sync) : (s.modSync f).frt = s.frt := rfl
@[simp] theorem State.modSync_feeds (s : State) (f : Sync → Sync) : (s.modSync f).feeds = s.feeds := rfl
@[simp] theorem State.modSync_isd (s : State) (f : Sync → Sync) : (s.modSync f).isd = s.isd := rfl
@[simp] theorem State.modSync_cue (s : State) (f : Sync → Sync) : (s.modSync f).cue = s.cue := rfl
@[simp] theorem State.modSync_bus (s : State) (f : Sync → Sync) : (s.modSync f).bus = s.bus := rfl
@[simp] theorem State.modSync_clk (s : State) (f : Sync → Sync) : (s.modSync f).clk = s.clk := rfl
@[simp] theorem State.modSync_mtr (s : State) (f : Sync → Sync) : (s.modSync f).mtr = s.mtr := rfl
@[simp] theorem State.modSync_mem (s : State) (f : Sync → Sync) : (s.modSync f).mem = s.mem := rfl
@[simp] theorem State.modSync_hist (s : State) (f : Sync → Sync) : (s.modSync f).hist = s.hist := rfl
@[simp] theorem State.modSync_nvm (s : State) (f : Sync → Sync) : (s.modSync f).nvm = s.nvm := rfl
@[simp] theorem State.modSync_avail (s : State) (f : Sync → Sync) : (s.modSync f).avail = s.avail := rfl

/-! ### `State.keep` -/

@[simp] theorem State.keep_pending (s n : State) : (s.keep n).pending = s.pending := rfl
@[simp] theorem State.keep_now (s n : State) : (s.keep n).now = s.now := rfl
@[simp] theorem State.keep_regs (s n : State) : (s.keep n).regs = n.regs := rfl
@[simp] theorem State.keep_eff (s n : State) : (s.keep n).eff = n.eff := rfl
@[simp] theorem State.keep_pend (s n : State) : (s.keep n).pend = n.pend := rfl
@[simp] theorem State.keep_snap (s n : State) : (s.keep n).snap = n.snap := rfl
@[simp] theorem State.keep_lowW (s n : State) : (s.keep n).lowW = n.lowW := rfl
@[simp] theorem State.keep_timers (s n : State) : (s.keep n).timers = n.timers := rfl
@[simp] theorem State.keep_free (s n : State) : (s.keep n).free = n.free := rfl
@[simp] theorem State.keep_hot (s n : State) : (s.keep n).hot = n.hot := rfl
@[simp] theorem State.keep_seq (s n : State) : (s.keep n).seq = n.seq := rfl
@[simp] theorem State.keep_band (s n : State) : (s.keep n).band = n.band := rfl
@[simp] theorem State.keep_cu (s n : State) : (s.keep n).cu = n.cu := rfl
@[simp] theorem State.keep_clap (s n : State) : (s.keep n).clap = n.clap := rfl
@[simp] theorem State.keep_isl (s n : State) : (s.keep n).isl = n.isl := rfl
@[simp] theorem State.keep_trip (s n : State) : (s.keep n).trip = n.trip := rfl
@[simp] theorem State.keep_sys (s n : State) : (s.keep n).sys = n.sys := rfl
@[simp] theorem State.keep_faults (s n : State) : (s.keep n).faults = n.faults := rfl
@[simp] theorem State.keep_log (s n : State) : (s.keep n).log = n.log := rfl
@[simp] theorem State.keep_time (s n : State) : (s.keep n).time = n.time := rfl
@[simp] theorem State.keep_meas (s n : State) : (s.keep n).meas = n.meas := rfl
@[simp] theorem State.keep_sync (s n : State) : (s.keep n).sync = n.sync := rfl
@[simp] theorem State.keep_frt (s n : State) : (s.keep n).frt = n.frt := rfl
@[simp] theorem State.keep_feeds (s n : State) : (s.keep n).feeds = n.feeds := rfl
@[simp] theorem State.keep_isd (s n : State) : (s.keep n).isd = n.isd := rfl
@[simp] theorem State.keep_cue (s n : State) : (s.keep n).cue = n.cue := rfl
@[simp] theorem State.keep_bus (s n : State) : (s.keep n).bus = n.bus := rfl
@[simp] theorem State.keep_clk (s n : State) : (s.keep n).clk = n.clk := rfl
@[simp] theorem State.keep_mtr (s n : State) : (s.keep n).mtr = n.mtr := rfl
@[simp] theorem State.keep_mem (s n : State) : (s.keep n).mem = { n.mem with dram := s.mem.dram } := rfl
@[simp] theorem State.keep_hist (s n : State) : (s.keep n).hist = n.hist := rfl
@[simp] theorem State.keep_nvm (s n : State) : (s.keep n).nvm = n.nvm := rfl
@[simp] theorem State.keep_avail (s n : State) : (s.keep n).avail = n.avail := rfl

end Sys2Proof.Machine
end

