-- ==== Sys2Proof/Laws/Regs.lean ====
section
/-!
SUPPORT. Reading a register word or a field after a write of one.
-/
namespace Sys2Proof.Machine

/-- A field lies within its word. -/
abbrev Field.fits (f : Field) : Prop := f.lo + f.width ≤ 32

/-- Two fields share no bit: they lie in different words, or apart within one. -/
abbrev Field.apart (f g : Field) : Prop :=
  f.addr ≠ g.addr ∨ f.lo + f.width ≤ g.lo ∨ g.lo + g.width ≤ f.lo

theorem mask_getLsbD (f : Field) (h : f.fits) (i : Nat) :
    f.mask.getLsbD i = decide (f.lo ≤ i ∧ i < f.lo + f.width) := by
  unfold Field.mask
  have h' := h
  unfold Field.fits at h'
  rw [BitVec.getLsbD_shiftLeft, BitVec.getLsbD_ofNat, Nat.testBit_two_pow_sub_one, Bool.eq_iff_iff]
  simp only [Bool.and_eq_true, Bool.not_eq_true', decide_eq_true_eq, decide_eq_false_iff_not]
  omega

theorem putField_getLsbD (w : Word) (f : Field) (v i : Nat) (h : f.fits) :
    (putField w f v).getLsbD i =
      if f.lo ≤ i ∧ i < f.lo + f.width then v.testBit (i - f.lo) else w.getLsbD i := by
  unfold putField
  by_cases hi : i < 32
  · have hm := mask_getLsbD f h i
    simp only [BitVec.getLsbD_or, BitVec.getLsbD_and, BitVec.getLsbD_not, BitVec.getLsbD_shiftLeft,
      BitVec.getLsbD_ofNat, hm, hi, decide_true, Bool.true_and]
    split
    · rename_i h1
      have : i - f.lo < 32 := by omega
      simp [h1, this]
    · rename_i h1; simp [h1]
  · have h1 : ¬ (f.lo ≤ i ∧ i < f.lo + f.width) := by have := h; omega
    rw [if_neg h1]
    rw [BitVec.getLsbD_of_ge _ _ (by omega), BitVec.getLsbD_of_ge _ _ (by omega)]

theorem getField_testBit (w : Word) (f : Field) (i : Nat) :
    (getField w f).testBit i = (decide (i < f.width) && w.getLsbD (f.lo + i)) := by
  unfold getField
  simp [Nat.testBit_mod_two_pow, Nat.testBit_shiftRight, BitVec.testBit_toNat]

/-- A field reads back what was put into it. -/
theorem getField_putField (w : Word) (f : Field) (v : Nat) (h : f.fits) :
    getField (putField w f v) f = v % 2 ^ f.width := by
  apply Nat.eq_of_testBit_eq
  intro i
  rw [getField_testBit, putField_getLsbD w f v _ h, Nat.testBit_mod_two_pow]
  by_cases hi : i < f.width <;> simp [hi]

/-- Putting one field leaves a field apart from it. -/
theorem getField_putField_apart (w : Word) (f g : Field) (v : Nat) (h : f.fits)
    (ha : f.lo + f.width ≤ g.lo ∨ g.lo + g.width ≤ f.lo) : getField (putField w f v) g = getField w g := by
  apply Nat.eq_of_testBit_eq
  intro i
  rw [getField_testBit, getField_testBit, putField_getLsbD w f v _ h]
  by_cases hi : i < g.width
  · rw [if_neg (by omega)]
  · simp [hi]

theorem getField_lt (w : Word) (f : Field) : getField w f < 2 ^ f.width :=
  Nat.mod_lt _ (Nat.two_pow_pos _)

namespace State

variable (s : State)

theorem word_setWord (a b : Nat) (w : Word) : (s.setWord a w).word b = if b = a then w else s.word b := by
  unfold State.word State.setWord; exact mapGet_mapPut _ _ _ _ _

theorem word_setWord_same (a : Nat) (w : Word) : (s.setWord a w).word a = w := by simp [word_setWord]

theorem word_setWord_other {a b : Nat} (w : Word) (h : b ≠ a) : (s.setWord a w).word b = s.word b := by
  simp [word_setWord, h]

theorem word_wr_other (f : Field) (v : Nat) {b : Nat} (h : b ≠ f.addr) : (s.wr f v).word b = s.word b :=
  word_setWord_other s _ h

theorem word_wr_same (f : Field) (v : Nat) : (s.wr f v).word f.addr = putField (s.word f.addr) f v :=
  word_setWord_same s _ _

/-- A field reads the value written to it, as far as it is wide. -/
theorem rd_wr (f : Field) (v : Nat) (h : f.fits) : (s.wr f v).rd f = v % 2 ^ f.width := by
  unfold State.rd; rw [word_wr_same, getField_putField _ _ _ h]

/-- A write of a field leaves every field apart from it. -/
theorem rd_wr_apart (f g : Field) (v : Nat) (h : f.fits) (ha : f.apart g) : (s.wr f v).rd g = s.rd g := by
  unfold State.rd
  by_cases e : g.addr = f.addr
  · rw [e, word_wr_same]
    rcases ha with ha | ha
    · exact absurd e.symm ha
    · rw [getField_putField_apart _ _ _ _ h ha]
  · rw [word_wr_other s f v e]

theorem rd_wr_addr (f g : Field) (v : Nat) (h : g.addr ≠ f.addr) : (s.wr f v).rd g = s.rd g := by
  unfold State.rd; rw [word_wr_other s f v h]

theorem rd_setWord_other (a : Nat) (w : Word) (g : Field) (h : g.addr ≠ a) : (s.setWord a w).rd g = s.rd g := by
  unfold State.rd; rw [word_setWord_other s w h]

theorem on_wr (f : Field) (v : Nat) (h : f.fits) : (s.wr f v).on f = decide (v % 2 ^ f.width ≠ 0) := by
  unfold State.on; rw [rd_wr s f v h]

theorem on_wr_apart (f g : Field) (v : Nat) (h : f.fits) (ha : f.apart g) : (s.wr f v).on g = s.on g := by
  unfold State.on; rw [rd_wr_apart s f g v h ha]

theorem rd_lt (f : Field) : s.rd f < 2 ^ f.width := getField_lt _ _

theorem rd_eq_of_word {s t : State} (f : Field) (h : t.word f.addr = s.word f.addr) : t.rd f = s.rd f := by
  unfold State.rd; rw [h]

/-- States with the same window read the same. -/
theorem rd_congr {s t : State} (f : Field) (h : t.regs = s.regs) : t.rd f = s.rd f := by
  unfold State.rd State.word; rw [h]

/-! ### The spellings of a write -/

theorem set_eq (f : Field) : s.set f = (s.wr f 1).mark f.addr f.mask := rfl
theorem set_word (f : Field) (b : Nat) : (s.set f).word b = (s.wr f 1).word b := rfl
theorem set_rd (f g : Field) : (s.set f).rd g = (s.wr f 1).rd g := rfl
theorem set_on (f g : Field) : (s.set f).on g = (s.wr f 1).on g := rfl
theorem wrB_eq (f : Field) (b : Bool) : s.wrB f b = s.wr f (b2n b) := rfl
theorem inc_eq (f : Field) : s.inc f = s.wr f (s.rd f + 1) := rfl
theorem addTo_eq (f : Field) (n : Nat) : s.addTo f n = s.wr f (s.rd f + n) := rfl
theorem sat_eq (f : Field) : s.sat f = s.wr f (satInc (2 ^ f.width - 1) (s.rd f)) := rfl
theorem satAdd_eq (f : Field) (n : Nat) : s.satAdd f n = s.wr f (min (2 ^ f.width - 1) (s.rd f + n)) := rfl
theorem wrI_eq (f : Field) (v : Int) : s.wrI f v = s.wr f (BitVec.ofInt f.width v).toNat := rfl
theorem wrBit_eq (f : Field) (i : Nat) (b : Bool) : s.wrBit f i b = s.wr f (setBit (s.rd f) i b) := rfl

/-! ### The window and the updates of the other records -/

end State

end Sys2Proof.Machine
end

