-- ==== Sys2Proof/Laws/Window.lean ====
section
/-!
SUPPORT. The updates of the records beside the window leave the window, and the updates of the window leave its
other words: what a register reads after each.
-/
namespace Sys2Proof.Machine

@[simp] theorem State.at_word (s : State) (t : Time) (b : Nat) : (s.at' t).word b = s.word b := rfl
@[simp] theorem State.at_rd (s : State) (t : Time) (g : Field) : (s.at' t).rd g = s.rd g := rfl
@[simp] theorem State.at_on (s : State) (t : Time) (g : Field) : (s.at' t).on g = s.on g := rfl
@[simp] theorem State.at_rdE (s : State) (t : Time) (g : Field) : (s.at' t).rdE g = s.rdE g := rfl
@[simp] theorem State.mark_word (s : State) (a : Nat) (m : Word) (b : Nat) : (s.mark a m).word b = s.word b := rfl
@[simp] theorem State.mark_rd (s : State) (a : Nat) (m : Word) (g : Field) : (s.mark a m).rd g = s.rd g := rfl
@[simp] theorem State.mark_on (s : State) (a : Nat) (m : Word) (g : Field) : (s.mark a m).on g = s.on g := rfl
@[simp] theorem State.mark_rdE (s : State) (a : Nat) (m : Word) (g : Field) : (s.mark a m).rdE g = s.rdE g := rfl
@[simp] theorem State.start_word (s : State) (k : TimerKey) (b : Nat) : (s.start k).word b = s.word b := rfl
@[simp] theorem State.start_rd (s : State) (k : TimerKey) (g : Field) : (s.start k).rd g = s.rd g := rfl
@[simp] theorem State.start_on (s : State) (k : TimerKey) (g : Field) : (s.start k).on g = s.on g := rfl
@[simp] theorem State.start_rdE (s : State) (k : TimerKey) (g : Field) : (s.start k).rdE g = s.rdE g := rfl
@[simp] theorem State.stop_word (s : State) (k : TimerKey) (b : Nat) : (s.stop k).word b = s.word b := rfl
@[simp] theorem State.stop_rd (s : State) (k : TimerKey) (g : Field) : (s.stop k).rd g = s.rd g := rfl
@[simp] theorem State.stop_on (s : State) (k : TimerKey) (g : Field) : (s.stop k).on g = s.on g := rfl
@[simp] theorem State.stop_rdE (s : State) (k : TimerKey) (g : Field) : (s.stop k).rdE g = s.rdE g := rfl
@[simp] theorem State.modSeq_word (s : State) (f : Seq → Seq) (b : Nat) : (s.modSeq f).word b = s.word b := rfl
@[simp] theorem State.modSeq_rd (s : State) (f : Seq → Seq) (g : Field) : (s.modSeq f).rd g = s.rd g := rfl
@[simp] theorem State.modSeq_on (s : State) (f : Seq → Seq) (g : Field) : (s.modSeq f).on g = s.on g := rfl
@[simp] theorem State.modSeq_rdE (s : State) (f : Seq → Seq) (g : Field) : (s.modSeq f).rdE g = s.rdE g := rfl
@[simp] theorem State.modTrip_word (s : State) (f : Trip → Trip) (b : Nat) : (s.modTrip f).word b = s.word b := rfl
@[simp] theorem State.modTrip_rd (s : State) (f : Trip → Trip) (g : Field) : (s.modTrip f).rd g = s.rd g := rfl
@[simp] theorem State.modTrip_on (s : State) (f : Trip → Trip) (g : Field) : (s.modTrip f).on g = s.on g := rfl
@[simp] theorem State.modTrip_rdE (s : State) (f : Trip → Trip) (g : Field) : (s.modTrip f).rdE g = s.rdE g := rfl
@[simp] theorem State.modSys_word (s : State) (f : Sys → Sys) (b : Nat) : (s.modSys f).word b = s.word b := rfl
@[simp] theorem State.modSys_rd (s : State) (f : Sys → Sys) (g : Field) : (s.modSys f).rd g = s.rd g := rfl
@[simp] theorem State.modSys_on (s : State) (f : Sys → Sys) (g : Field) : (s.modSys f).on g = s.on g := rfl
@[simp] theorem State.modSys_rdE (s : State) (f : Sys → Sys) (g : Field) : (s.modSys f).rdE g = s.rdE g := rfl
@[simp] theorem State.modLeg_word (s : State) (n : Nat) (f : BandLeg → BandLeg) (b : Nat) : (s.modLeg n f).word b = s.word b := rfl
@[simp] theorem State.modLeg_rd (s : State) (n : Nat) (f : BandLeg → BandLeg) (g : Field) : (s.modLeg n f).rd g = s.rd g := rfl
@[simp] theorem State.modLeg_on (s : State) (n : Nat) (f : BandLeg → BandLeg) (g : Field) : (s.modLeg n f).on g = s.on g := rfl
@[simp] theorem State.modLeg_rdE (s : State) (n : Nat) (f : BandLeg → BandLeg) (g : Field) : (s.modLeg n f).rdE g = s.rdE g := rfl
@[simp] theorem State.modUnit_word (s : State) (n : Nat) (f : CarrierUnit → CarrierUnit) (b : Nat) : (s.modUnit n f).word b = s.word b := rfl
@[simp] theorem State.modUnit_rd (s : State) (n : Nat) (f : CarrierUnit → CarrierUnit) (g : Field) : (s.modUnit n f).rd g = s.rd g := rfl
@[simp] theorem State.modUnit_on (s : State) (n : Nat) (f : CarrierUnit → CarrierUnit) (g : Field) : (s.modUnit n f).on g = s.on g := rfl
@[simp] theorem State.modUnit_rdE (s : State) (n : Nat) (f : CarrierUnit → CarrierUnit) (g : Field) : (s.modUnit n f).rdE g = s.rdE g := rfl
@[simp] theorem State.modIsland_word (s : State) (n : Nat) (f : Island → Island) (b : Nat) : (s.modIsland n f).word b = s.word b := rfl
@[simp] theorem State.modIsland_rd (s : State) (n : Nat) (f : Island → Island) (g : Field) : (s.modIsland n f).rd g = s.rd g := rfl
@[simp] theorem State.modIsland_on (s : State) (n : Nat) (f : Island → Island) (g : Field) : (s.modIsland n f).on g = s.on g := rfl
@[simp] theorem State.modIsland_rdE (s : State) (n : Nat) (f : Island → Island) (g : Field) : (s.modIsland n f).rdE g = s.rdE g := rfl
@[simp] theorem State.modReel_word (s : State) (r : Nat) (f : Reel → Reel) (b : Nat) : (s.modReel r f).word b = s.word b := rfl
@[simp] theorem State.modReel_rd (s : State) (r : Nat) (f : Reel → Reel) (g : Field) : (s.modReel r f).rd g = s.rd g := rfl
@[simp] theorem State.modReel_on (s : State) (r : Nat) (f : Reel → Reel) (g : Field) : (s.modReel r f).on g = s.on g := rfl
@[simp] theorem State.modReel_rdE (s : State) (r : Nat) (f : Reel → Reel) (g : Field) : (s.modReel r f).rdE g = s.rdE g := rfl
@[simp] theorem State.modClk_word (s : State) (f : Clk → Clk) (b : Nat) : (s.modClk f).word b = s.word b := rfl
@[simp] theorem State.modClk_rd (s : State) (f : Clk → Clk) (g : Field) : (s.modClk f).rd g = s.rd g := rfl
@[simp] theorem State.modClk_on (s : State) (f : Clk → Clk) (g : Field) : (s.modClk f).on g = s.on g := rfl
@[simp] theorem State.modClk_rdE (s : State) (f : Clk → Clk) (g : Field) : (s.modClk f).rdE g = s.rdE g := rfl
@[simp] theorem State.modCue_word (s : State) (f : CueState → CueState) (b : Nat) : (s.modCue f).word b = s.word b := rfl
@[simp] theorem State.modCue_rd (s : State) (f : CueState → CueState) (g : Field) : (s.modCue f).rd g = s.rd g := rfl
@[simp] theorem State.modCue_on (s : State) (f : CueState → CueState) (g : Field) : (s.modCue f).on g = s.on g := rfl
@[simp] theorem State.modCue_rdE (s : State) (f : CueState → CueState) (g : Field) : (s.modCue f).rdE g = s.rdE g := rfl
@[simp] theorem State.modFeed_word (s : State) (k : Nat) (f : Feed → Feed) (b : Nat) : (s.modFeed k f).word b = s.word b := rfl
@[simp] theorem State.modFeed_rd (s : State) (k : Nat) (f : Feed → Feed) (g : Field) : (s.modFeed k f).rd g = s.rd g := rfl
@[simp] theorem State.modFeed_on (s : State) (k : Nat) (f : Feed → Feed) (g : Field) : (s.modFeed k f).on g = s.on g := rfl
@[simp] theorem State.modFeed_rdE (s : State) (k : Nat) (f : Feed → Feed) (g : Field) : (s.modFeed k f).rdE g = s.rdE g := rfl
@[simp] theorem State.modFrt_word (s : State) (f : Frt → Frt) (b : Nat) : (s.modFrt f).word b = s.word b := rfl
@[simp] theorem State.modFrt_rd (s : State) (f : Frt → Frt) (g : Field) : (s.modFrt f).rd g = s.rd g := rfl
@[simp] theorem State.modFrt_on (s : State) (f : Frt → Frt) (g : Field) : (s.modFrt f).on g = s.on g := rfl
@[simp] theorem State.modFrt_rdE (s : State) (f : Frt → Frt) (g : Field) : (s.modFrt f).rdE g = s.rdE g := rfl
@[simp] theorem State.modBus_word (s : State) (f : Bus → Bus) (b : Nat) : (s.modBus f).word b = s.word b := rfl
@[simp] theorem State.modBus_rd (s : State) (f : Bus → Bus) (g : Field) : (s.modBus f).rd g = s.rd g := rfl
@[simp] theorem State.modBus_on (s : State) (f : Bus → Bus) (g : Field) : (s.modBus f).on g = s.on g := rfl
@[simp] theorem State.modBus_rdE (s : State) (f : Bus → Bus) (g : Field) : (s.modBus f).rdE g = s.rdE g := rfl
@[simp] theorem State.modChan_word (s : State) (n : Nat) (f : Chan → Chan) (b : Nat) : (s.modChan n f).word b = s.word b := rfl
@[simp] theorem State.modChan_rd (s : State) (n : Nat) (f : Chan → Chan) (g : Field) : (s.modChan n f).rd g = s.rd g := rfl
@[simp] theorem State.modChan_on (s : State) (n : Nat) (f : Chan → Chan) (g : Field) : (s.modChan n f).on g = s.on g := rfl
@[simp] theorem State.modChan_rdE (s : State) (n : Nat) (f : Chan → Chan) (g : Field) : (s.modChan n f).rdE g = s.rdE g := rfl
@[simp] theorem State.modMeas_word (s : State) (f : Meas → Meas) (b : Nat) : (s.modMeas f).word b = s.word b := rfl
@[simp] theorem State.modMeas_rd (s : State) (f : Meas → Meas) (g : Field) : (s.modMeas f).rd g = s.rd g := rfl
@[simp] theorem State.modMeas_on (s : State) (f : Meas → Meas) (g : Field) : (s.modMeas f).on g = s.on g := rfl
@[simp] theorem State.modMeas_rdE (s : State) (f : Meas → Meas) (g : Field) : (s.modMeas f).rdE g = s.rdE g := rfl
@[simp] theorem State.modMem_word (s : State) (f : Mem → Mem) (b : Nat) : (s.modMem f).word b = s.word b := rfl
@[simp] theorem State.modMem_rd (s : State) (f : Mem → Mem) (g : Field) : (s.modMem f).rd g = s.rd g := rfl
@[simp] theorem State.modMem_on (s : State) (f : Mem → Mem) (g : Field) : (s.modMem f).on g = s.on g := rfl
@[simp] theorem State.modMem_rdE (s : State) (f : Mem → Mem) (g : Field) : (s.modMem f).rdE g = s.rdE g := rfl
@[simp] theorem State.modMtr_word (s : State) (f : Mtr → Mtr) (b : Nat) : (s.modMtr f).word b = s.word b := rfl
@[simp] theorem State.modMtr_rd (s : State) (f : Mtr → Mtr) (g : Field) : (s.modMtr f).rd g = s.rd g := rfl
@[simp] theorem State.modMtr_on (s : State) (f : Mtr → Mtr) (g : Field) : (s.modMtr f).on g = s.on g := rfl
@[simp] theorem State.modMtr_rdE (s : State) (f : Mtr → Mtr) (g : Field) : (s.modMtr f).rdE g = s.rdE g := rfl
@[simp] theorem State.modNvm_word (s : State) (f : Nvm → Nvm) (b : Nat) : (s.modNvm f).word b = s.word b := rfl
@[simp] theorem State.modNvm_rd (s : State) (f : Nvm → Nvm) (g : Field) : (s.modNvm f).rd g = s.rd g := rfl
@[simp] theorem State.modNvm_on (s : State) (f : Nvm → Nvm) (g : Field) : (s.modNvm f).on g = s.on g := rfl
@[simp] theorem State.modNvm_rdE (s : State) (f : Nvm → Nvm) (g : Field) : (s.modNvm f).rdE g = s.rdE g := rfl
@[simp] theorem State.modIsd_word (s : State) (f : Isd → Isd) (b : Nat) : (s.modIsd f).word b = s.word b := rfl
@[simp] theorem State.modIsd_rd (s : State) (f : Isd → Isd) (g : Field) : (s.modIsd f).rd g = s.rd g := rfl
@[simp] theorem State.modIsd_on (s : State) (f : Isd → Isd) (g : Field) : (s.modIsd f).on g = s.on g := rfl
@[simp] theorem State.modIsd_rdE (s : State) (f : Isd → Isd) (g : Field) : (s.modIsd f).rdE g = s.rdE g := rfl
@[simp] theorem State.modHist_word (s : State) (f : Hist → Hist) (b : Nat) : (s.modHist f).word b = s.word b := rfl
@[simp] theorem State.modHist_rd (s : State) (f : Hist → Hist) (g : Field) : (s.modHist f).rd g = s.rd g := rfl
@[simp] theorem State.modHist_on (s : State) (f : Hist → Hist) (g : Field) : (s.modHist f).on g = s.on g := rfl
@[simp] theorem State.modHist_rdE (s : State) (f : Hist → Hist) (g : Field) : (s.modHist f).rdE g = s.rdE g := rfl
@[simp] theorem State.modSync_word (s : State) (f : Sync → Sync) (b : Nat) : (s.modSync f).word b = s.word b := rfl
@[simp] theorem State.modSync_rd (s : State) (f : Sync → Sync) (g : Field) : (s.modSync f).rd g = s.rd g := rfl
@[simp] theorem State.modSync_on (s : State) (f : Sync → Sync) (g : Field) : (s.modSync f).on g = s.on g := rfl
@[simp] theorem State.modSync_rdE (s : State) (f : Sync → Sync) (g : Field) : (s.modSync f).rdE g = s.rdE g := rfl
@[simp] theorem State.setWord_rdE (s : State) (a : Nat) (w : Word) (g : Field) : (s.setWord a w).rdE g = s.rdE g := rfl
@[simp] theorem State.wr_rdE (s : State) (f : Field) (v : Nat) (g : Field) : (s.wr f v).rdE g = s.rdE g := rfl
@[simp] theorem State.wr64_rdE (s : State) (f : Field) (v : Nat) (g : Field) : (s.wr64 f v).rdE g = s.rdE g := rfl
@[simp] theorem State.set_rdE (s : State) (f : Field) (g : Field) : (s.set f).rdE g = s.rdE g := rfl
@[simp] theorem State.keep_word (s n : State) (b : Nat) : (s.keep n).word b = n.word b := rfl
@[simp] theorem State.keep_rd (s n : State) (g : Field) : (s.keep n).rd g = n.rd g := rfl
@[simp] theorem State.keep_on (s n : State) (g : Field) : (s.keep n).on g = n.on g := rfl
@[simp] theorem State.keep_rdE (s n : State) (g : Field) : (s.keep n).rdE g = n.rdE g := rfl
@[simp] theorem State.keep_rdI (s n : State) (g : Field) : (s.keep n).rdI g = n.rdI g := rfl
@[simp] theorem State.keep_rd64 (s n : State) (g : Field) : (s.keep n).rd64 g = n.rd64 g := rfl
@[simp] theorem State.keep_island (s n : State) (k : Nat) : (s.keep n).island k = n.island k := rfl
@[simp] theorem State.keep_leg (s n : State) (k : Nat) : (s.keep n).leg k = n.leg k := rfl
@[simp] theorem State.keep_unit (s n : State) (k : Nat) : (s.keep n).unit k = n.unit k := rfl
@[simp] theorem State.keep_reel (s n : State) (k : Nat) : (s.keep n).reel k = n.reel k := rfl
@[simp] theorem State.keep_code (s n : State) : (s.keep n).code = n.code := rfl

end Sys2Proof.Machine
end

