-- ==== Sys2Proof/Laws/Record.lean ====
section
/-!
SUPPORT. What the records every block writes leave alone: the fault collector (R418), the continuity log (R408)
and the event reels (R365).
-/
namespace Sys2Proof.Machine
open Reg

/-- A fold of steps that each keep a quantity keeps it. -/
theorem each_keeps {β : Type} (q : State → β) (f : State → Nat → State) (h : ∀ s n, q (f s n) = q s) (l : List Nat)
    (s : State) : q (s.each l f) = q s := by
  unfold State.each
  induction l generalizing s with
  | nil => rfl
  | cons n l ih => rw [List.foldl_cons, ih, h]

/-- A fold of steps that each keep a proposition keeps it. -/
theorem each_induct (p : State → Prop) (f : State → Nat → State) (h : ∀ s n, p s → p (f s n)) (l : List Nat)
    (s : State) (hs : p s) : p (s.each l f) := by
  unfold State.each
  induction l generalizing s with
  | nil => exact hs
  | cons n l ih => exact ih _ (h s n hs)

/-- What a state shows that no change of the event reels' records reaches. -/
theorem reelEvent_keeps {β : Type} (q : State → β) (h : ∀ (s : State) r f, q (s.modReel r f) = q s) (s : State)
    (te : Time) (ch kind lvl : Nat) : q (s.reelEvent te ch kind lvl) = q s := by
  unfold State.reelEvent
  refine each_keeps q _ ?_ _ _
  intro t n
  split
  · exact h _ _ _
  · rfl

theorem reelFault_keeps {β : Type} (q : State → β) (h : ∀ (s : State) r f, q (s.modReel r f) = q s) (s : State) :
    q s.reelFault = q s := by
  unfold State.reelFault
  refine each_keeps q _ ?_ _ _
  intro t n
  split
  · exact h _ _ _
  · rfl

/-- A bit that an event sets: its register and the mark of this cycle. -/
theorem set_keeps {β : Type} (q : State → β) (hh : ∀ (s : State) h, q { s with hot := h } = q s) (s : State) (f : Field)
    (hw : q (s.wr f 1) = q s) : q (s.set f) = q s := (hh _ _).trans hw

/-- A word of the fault collector's status, index, last-entry and lost registers. -/
abbrev fltHead (a : Nat) : Prop := 0x1E000 ≤ a ∧ a ≤ 0x1E00C

/-- What a state shows that neither the fault entries nor the fault collector's head registers reach, a new fault
entry leaves. -/
theorem newFault_keeps {β : Type} (q : State → β)
    (hr : ∀ (s : State) a w, fltHead a → q (s.setWord a w) = q s) (hh : ∀ (s : State) h, q { s with hot := h } = q s)
    (hf : ∀ (s : State) l, q { s with faults := l } = q s) (s : State) (c d r : Nat) : q (s.newFault c d r) = q s := by
  have hw : ∀ (s : State) (f : Field) (v : Nat), fltHead f.addr → q (s.wr f v) = q s := fun s f v h => hr s _ _ h
  unfold State.newFault State.refreshFaults State.wrB State.inc
  rw [hw _ _ _ (by decide), hw _ _ _ (by decide), hw _ _ _ (by decide), hw _ _ _ (by decide), hw _ _ _ (by decide),
    hw _ _ _ (by decide), hw _ _ _ (by decide), hf]
  split
  · rfl
  · split
    · exact hf _ _
    · rw [hf]
      unfold State.sat
      rw [set_keeps q hh _ _ (hw _ _ _ (by decide)), hw _ _ _ (by decide)]

/-- The same for a detection, whose class count is one more register. -/
theorem detect_keeps {β : Type} (q : State → β) (c : Nat)
    (hr : ∀ (s : State) a w, fltHead a ∨ a = 0x1E100 + 4 * c → q (s.setWord a w) = q s)
    (hh : ∀ (s : State) h, q { s with hot := h } = q s)
    (hf : ∀ (s : State) l, q { s with faults := l } = q s) (s : State) (d r : Nat) : q (s.detect c d r) = q s := by
  have hc : q (s.sat (FLT.CLASS_CNT.COUNT c)) = q s := hr s _ _ (Or.inr rfl)
  unfold State.detect
  split
  · exact hc
  · dsimp only
    split
    · rw [hf, hc]
    · rw [newFault_keeps q (fun s a w h => hr s a w (Or.inl h)) hh hf, hc]

/-- A word outside the fault collector's registers. -/
abbrev outsideFlt (a : Nat) : Prop := a < 0x1E000 ∨ 0x1F000 ≤ a

/-- A detection leaves every register outside the fault collector's. -/
theorem detect_word (s : State) {c : Nat} (d r : Nat) {a : Nat} (hc : c ≤ 0x29) (h : outsideFlt a) :
    (s.detect c d r).word a = s.word a :=
  detect_keeps (fun s => s.word a) c
    (fun s b w hb => State.word_setWord_other s w (by unfold outsideFlt at h; unfold fltHead at hb; omega))
    (fun _ _ => rfl) (fun _ _ => rfl) s d r

theorem detect_rd (s : State) {c : Nat} (d r : Nat) (f : Field) (hc : c ≤ 0x29) (h : outsideFlt f.addr) :
    (s.detect c d r).rd f = s.rd f := State.rd_eq_of_word f (detect_word s d r hc h)

@[simp] theorem reelEvent_word (s : State) (te : Time) (ch kind lvl a : Nat) :
    (s.reelEvent te ch kind lvl).word a = s.word a := reelEvent_keeps (·.word a) (fun _ _ _ => rfl) s te ch kind lvl
@[simp] theorem reelEvent_rd (s : State) (te : Time) (ch kind lvl : Nat) (f : Field) :
    (s.reelEvent te ch kind lvl).rd f = s.rd f := reelEvent_keeps (·.rd f) (fun _ _ _ => rfl) s te ch kind lvl
@[simp] theorem reelFault_word (s : State) (a : Nat) : s.reelFault.word a = s.word a :=
  reelFault_keeps (·.word a) (fun _ _ _ => rfl) s
@[simp] theorem reelFault_rd (s : State) (f : Field) : s.reelFault.rd f = s.rd f :=
  reelFault_keeps (·.rd f) (fun _ _ _ => rfl) s

/-- A word of the log's registers. -/
abbrev logWord (a : Nat) : Prop := 0x1D000 ≤ a ∧ a ≤ 0x1D018

/-- What a state shows that neither the log, nor the fault entries, nor their registers reach, a log entry
leaves. -/
theorem pushLog_keeps {β : Type} (q : State → β)
    (hr : ∀ (s : State) a w, logWord a ∨ fltHead a ∨ a = 0x1E190 → q (s.setWord a w) = q s)
    (hl : ∀ (s : State) l, q { s with log := l } = q s) (hh : ∀ (s : State) h, q { s with hot := h } = q s)
    (hf : ∀ (s : State) l, q { s with faults := l } = q s) (s : State) (e : LogEntry) : q (s.pushLog e) = q s := by
  have hw : ∀ (s : State) (f : Field) (v : Nat), logWord f.addr → q (s.wr f v) = q s :=
    fun s f v h => hr s _ _ (Or.inl h)
  have h64 : ∀ (s : State) (v : Nat), q (s.wr64 LOG.NEXT.INDEX v) = q s := fun s v => by
    unfold State.wr64; rw [hr _ _ _ (by decide), hr _ _ _ (by decide)]
  have hd : ∀ (s : State) (d r : Nat), q (s.detect 0x24 d r) = q s := fun s d r =>
    detect_keeps q 0x24 (fun s a w h => hr s a w (Or.inr h)) hh hf s d r
  unfold State.pushLog
  dsimp only
  split
  · rw [hd]
    unfold State.sat
    rw [set_keeps q hh _ _ (hw _ _ _ (by decide)), hw _ _ _ (by decide)]
    split
    · rw [hl, set_keeps q hh _ _ (hw _ _ _ (by decide)), h64, hl]
    · rw [h64, hl]
  · split
    · rw [hl, set_keeps q hh _ _ (hw _ _ _ (by decide)), h64, hl]
    · rw [h64, hl]

theorem logIt_keeps {β : Type} (q : State → β)
    (hr : ∀ (s : State) a w, logWord a ∨ fltHead a ∨ a = 0x1E190 → q (s.setWord a w) = q s)
    (hl : ∀ (s : State) l, q { s with log := l } = q s) (hh : ∀ (s : State) h, q { s with hot := h } = q s) (hf : ∀ (s : State) l, q { s with faults := l } = q s)
    (s : State) (o r : Nat) (x c : Bool) (op tg ov nv : Nat) : q (s.logIt o r x c op tg ov nv) = q s :=
  pushLog_keeps q hr hl hh hf s _

/-- A word outside the registers of the log and of the fault collector. -/
abbrev outsideLog (a : Nat) : Prop := a < 0x1D000 ∨ 0x1F000 ≤ a

/-- A log entry leaves every register outside the log's and the fault collector's. -/
theorem logIt_word (s : State) (o r : Nat) (x c : Bool) (op tg ov nv : Nat) {a : Nat} (h : outsideLog a) :
    (s.logIt o r x c op tg ov nv).word a = s.word a :=
  logIt_keeps (fun s => s.word a)
    (fun s b w hb => State.word_setWord_other s w (by
      unfold outsideLog at h; unfold fltHead logWord at hb; omega)) (fun _ _ => rfl) (fun _ _ => rfl) (fun _ _ => rfl) s o r x c op tg ov nv
theorem logEvent_word (s : State) (op tg ov nv : Nat) {a : Nat} (h : outsideLog a) :
    (s.logEvent op tg ov nv).word a = s.word a := logIt_word s _ _ _ _ _ _ _ _ h
theorem logIt_rd (s : State) (o r : Nat) (x c : Bool) (op tg ov nv : Nat) (f : Field) (h : outsideLog f.addr) :
    (s.logIt o r x c op tg ov nv).rd f = s.rd f := State.rd_eq_of_word f (logIt_word s o r x c op tg ov nv h)
theorem logEvent_rd (s : State) (op tg ov nv : Nat) (f : Field) (h : outsideLog f.addr) :
    (s.logEvent op tg ov nv).rd f = s.rd f := State.rd_eq_of_word f (logEvent_word s op tg ov nv h)

/-! ### Component by component -/

@[simp] theorem State.detect_pending (s : State) (c d r : Nat) : (s.detect c d r).pending = s.pending :=
  detect_keeps (·.pending) c (fun _ _ _ _ => rfl) (fun _ _ => rfl) (fun _ _ => rfl) s d r
@[simp] theorem State.detect_now (s : State) (c d r : Nat) : (s.detect c d r).now = s.now :=
  detect_keeps (·.now) c (fun _ _ _ _ => rfl) (fun _ _ => rfl) (fun _ _ => rfl) s d r
@[simp] theorem State.detect_eff (s : State) (c d r : Nat) : (s.detect c d r).eff = s.eff :=
  detect_keeps (·.eff) c (fun _ _ _ _ => rfl) (fun _ _ => rfl) (fun _ _ => rfl) s d r
@[simp] theorem State.detect_pend (s : State) (c d r : Nat) : (s.detect c d r).pend = s.pend :=
  detect_keeps (·.pend) c (fun _ _ _ _ => rfl) (fun _ _ => rfl) (fun _ _ => rfl) s d r
@[simp] theorem State.detect_snap (s : State) (c d r : Nat) : (s.detect c d r).snap = s.snap :=
  detect_keeps (·.snap) c (fun _ _ _ _ => rfl) (fun _ _ => rfl) (fun _ _ => rfl) s d r
@[simp] theorem State.detect_lowW (s : State) (c d r : Nat) : (s.detect c d r).lowW = s.lowW :=
  detect_keeps (·.lowW) c (fun _ _ _ _ => rfl) (fun _ _ => rfl) (fun _ _ => rfl) s d r
@[simp] theorem State.detect_timers (s : State) (c d r : Nat) : (s.detect c d r).timers = s.timers :=
  detect_keeps (·.timers) c (fun _ _ _ _ => rfl) (fun _ _ => rfl) (fun _ _ => rfl) s d r
@[simp] theorem State.detect_free (s : State) (c d r : Nat) : (s.detect c d r).free = s.free :=
  detect_keeps (·.free) c (fun _ _ _ _ => rfl) (fun _ _ => rfl) (fun _ _ => rfl) s d r
@[simp] theorem State.detect_seq (s : State) (c d r : Nat) : (s.detect c d r).seq = s.seq :=
  detect_keeps (·.seq) c (fun _ _ _ _ => rfl) (fun _ _ => rfl) (fun _ _ => rfl) s d r
@[simp] theorem State.detect_band (s : State) (c d r : Nat) : (s.detect c d r).band = s.band :=
  detect_keeps (·.band) c (fun _ _ _ _ => rfl) (fun _ _ => rfl) (fun _ _ => rfl) s d r
@[simp] theorem State.detect_cu (s : State) (c d r : Nat) : (s.detect c d r).cu = s.cu :=
  detect_keeps (·.cu) c (fun _ _ _ _ => rfl) (fun _ _ => rfl) (fun _ _ => rfl) s d r
@[simp] theorem State.detect_clap (s : State) (c d r : Nat) : (s.detect c d r).clap = s.clap :=
  detect_keeps (·.clap) c (fun _ _ _ _ => rfl) (fun _ _ => rfl) (fun _ _ => rfl) s d r
@[simp] theorem State.detect_isl (s : State) (c d r : Nat) : (s.detect c d r).isl = s.isl :=
  detect_keeps (·.isl) c (fun _ _ _ _ => rfl) (fun _ _ => rfl) (fun _ _ => rfl) s d r
@[simp] theorem State.detect_trip (s : State) (c d r : Nat) : (s.detect c d r).trip = s.trip :=
  detect_keeps (·.trip) c (fun _ _ _ _ => rfl) (fun _ _ => rfl) (fun _ _ => rfl) s d r
@[simp] theorem State.detect_sys (s : State) (c d r : Nat) : (s.detect c d r).sys = s.sys :=
  detect_keeps (·.sys) c (fun _ _ _ _ => rfl) (fun _ _ => rfl) (fun _ _ => rfl) s d r
@[simp] theorem State.detect_log (s : State) (c d r : Nat) : (s.detect c d r).log = s.log :=
  detect_keeps (·.log) c (fun _ _ _ _ => rfl) (fun _ _ => rfl) (fun _ _ => rfl) s d r
@[simp] theorem State.detect_time (s : State) (c d r : Nat) : (s.detect c d r).time = s.time :=
  detect_keeps (·.time) c (fun _ _ _ _ => rfl) (fun _ _ => rfl) (fun _ _ => rfl) s d r
@[simp] theorem State.detect_meas (s : State) (c d r : Nat) : (s.detect c d r).meas = s.meas :=
  detect_keeps (·.meas) c (fun _ _ _ _ => rfl) (fun _ _ => rfl) (fun _ _ => rfl) s d r
@[simp] theorem State.detect_sync (s : State) (c d r : Nat) : (s.detect c d r).sync = s.sync :=
  detect_keeps (·.sync) c (fun _ _ _ _ => rfl) (fun _ _ => rfl) (fun _ _ => rfl) s d r
@[simp] theorem State.detect_frt (s : State) (c d r : Nat) : (s.detect c d r).frt = s.frt :=
  detect_keeps (·.frt) c (fun _ _ _ _ => rfl) (fun _ _ => rfl) (fun _ _ => rfl) s d r
@[simp] theorem State.detect_feeds (s : State) (c d r : Nat) : (s.detect c d r).feeds = s.feeds :=
  detect_keeps (·.feeds) c (fun _ _ _ _ => rfl) (fun _ _ => rfl) (fun _ _ => rfl) s d r
@[simp] theorem State.detect_isd (s : State) (c d r : Nat) : (s.detect c d r).isd = s.isd :=
  detect_keeps (·.isd) c (fun _ _ _ _ => rfl) (fun _ _ => rfl) (fun _ _ => rfl) s d r
@[simp] theorem State.detect_cue (s : State) (c d r : Nat) : (s.detect c d r).cue = s.cue :=
  detect_keeps (·.cue) c (fun _ _ _ _ => rfl) (fun _ _ => rfl) (fun _ _ => rfl) s d r
@[simp] theorem State.detect_bus (s : State) (c d r : Nat) : (s.detect c d r).bus = s.bus :=
  detect_keeps (·.bus) c (fun _ _ _ _ => rfl) (fun _ _ => rfl) (fun _ _ => rfl) s d r
@[simp] theorem State.detect_clk (s : State) (c d r : Nat) : (s.detect c d r).clk = s.clk :=
  detect_keeps (·.clk) c (fun _ _ _ _ => rfl) (fun _ _ => rfl) (fun _ _ => rfl) s d r
@[simp] theorem State.detect_mtr (s : State) (c d r : Nat) : (s.detect c d r).mtr = s.mtr :=
  detect_keeps (·.mtr) c (fun _ _ _ _ => rfl) (fun _ _ => rfl) (fun _ _ => rfl) s d r
@[simp] theorem State.detect_mem (s : State) (c d r : Nat) : (s.detect c d r).mem = s.mem :=
  detect_keeps (·.mem) c (fun _ _ _ _ => rfl) (fun _ _ => rfl) (fun _ _ => rfl) s d r
@[simp] theorem State.detect_hist (s : State) (c d r : Nat) : (s.detect c d r).hist = s.hist :=
  detect_keeps (·.hist) c (fun _ _ _ _ => rfl) (fun _ _ => rfl) (fun _ _ => rfl) s d r
@[simp] theorem State.detect_nvm (s : State) (c d r : Nat) : (s.detect c d r).nvm = s.nvm :=
  detect_keeps (·.nvm) c (fun _ _ _ _ => rfl) (fun _ _ => rfl) (fun _ _ => rfl) s d r
@[simp] theorem State.detect_avail (s : State) (c d r : Nat) : (s.detect c d r).avail = s.avail :=
  detect_keeps (·.avail) c (fun _ _ _ _ => rfl) (fun _ _ => rfl) (fun _ _ => rfl) s d r
@[simp] theorem State.reelEvent_pending (s : State) (te : Time) (ch kind lvl : Nat) : (s.reelEvent te ch kind lvl).pending = s.pending :=
  reelEvent_keeps (·.pending) (fun _ _ _ => rfl) s te ch kind lvl
@[simp] theorem State.reelEvent_now (s : State) (te : Time) (ch kind lvl : Nat) : (s.reelEvent te ch kind lvl).now = s.now :=
  reelEvent_keeps (·.now) (fun _ _ _ => rfl) s te ch kind lvl
@[simp] theorem State.reelEvent_regs (s : State) (te : Time) (ch kind lvl : Nat) : (s.reelEvent te ch kind lvl).regs = s.regs :=
  reelEvent_keeps (·.regs) (fun _ _ _ => rfl) s te ch kind lvl
@[simp] theorem State.reelEvent_eff (s : State) (te : Time) (ch kind lvl : Nat) : (s.reelEvent te ch kind lvl).eff = s.eff :=
  reelEvent_keeps (·.eff) (fun _ _ _ => rfl) s te ch kind lvl
@[simp] theorem State.reelEvent_pend (s : State) (te : Time) (ch kind lvl : Nat) : (s.reelEvent te ch kind lvl).pend = s.pend :=
  reelEvent_keeps (·.pend) (fun _ _ _ => rfl) s te ch kind lvl
@[simp] theorem State.reelEvent_snap (s : State) (te : Time) (ch kind lvl : Nat) : (s.reelEvent te ch kind lvl).snap = s.snap :=
  reelEvent_keeps (·.snap) (fun _ _ _ => rfl) s te ch kind lvl
@[simp] theorem State.reelEvent_lowW (s : State) (te : Time) (ch kind lvl : Nat) : (s.reelEvent te ch kind lvl).lowW = s.lowW :=
  reelEvent_keeps (·.lowW) (fun _ _ _ => rfl) s te ch kind lvl
@[simp] theorem State.reelEvent_timers (s : State) (te : Time) (ch kind lvl : Nat) : (s.reelEvent te ch kind lvl).timers = s.timers :=
  reelEvent_keeps (·.timers) (fun _ _ _ => rfl) s te ch kind lvl
@[simp] theorem State.reelEvent_free (s : State) (te : Time) (ch kind lvl : Nat) : (s.reelEvent te ch kind lvl).free = s.free :=
  reelEvent_keeps (·.free) (fun _ _ _ => rfl) s te ch kind lvl
@[simp] theorem State.reelEvent_hot (s : State) (te : Time) (ch kind lvl : Nat) : (s.reelEvent te ch kind lvl).hot = s.hot :=
  reelEvent_keeps (·.hot) (fun _ _ _ => rfl) s te ch kind lvl
@[simp] theorem State.reelEvent_seq (s : State) (te : Time) (ch kind lvl : Nat) : (s.reelEvent te ch kind lvl).seq = s.seq :=
  reelEvent_keeps (·.seq) (fun _ _ _ => rfl) s te ch kind lvl
@[simp] theorem State.reelEvent_band (s : State) (te : Time) (ch kind lvl : Nat) : (s.reelEvent te ch kind lvl).band = s.band :=
  reelEvent_keeps (·.band) (fun _ _ _ => rfl) s te ch kind lvl
@[simp] theorem State.reelEvent_cu (s : State) (te : Time) (ch kind lvl : Nat) : (s.reelEvent te ch kind lvl).cu = s.cu :=
  reelEvent_keeps (·.cu) (fun _ _ _ => rfl) s te ch kind lvl
@[simp] theorem State.reelEvent_clap (s : State) (te : Time) (ch kind lvl : Nat) : (s.reelEvent te ch kind lvl).clap = s.clap :=
  reelEvent_keeps (·.clap) (fun _ _ _ => rfl) s te ch kind lvl
@[simp] theorem State.reelEvent_isl (s : State) (te : Time) (ch kind lvl : Nat) : (s.reelEvent te ch kind lvl).isl = s.isl :=
  reelEvent_keeps (·.isl) (fun _ _ _ => rfl) s te ch kind lvl
@[simp] theorem State.reelEvent_trip (s : State) (te : Time) (ch kind lvl : Nat) : (s.reelEvent te ch kind lvl).trip = s.trip :=
  reelEvent_keeps (·.trip) (fun _ _ _ => rfl) s te ch kind lvl
@[simp] theorem State.reelEvent_sys (s : State) (te : Time) (ch kind lvl : Nat) : (s.reelEvent te ch kind lvl).sys = s.sys :=
  reelEvent_keeps (·.sys) (fun _ _ _ => rfl) s te ch kind lvl
@[simp] theorem State.reelEvent_faults (s : State) (te : Time) (ch kind lvl : Nat) : (s.reelEvent te ch kind lvl).faults = s.faults :=
  reelEvent_keeps (·.faults) (fun _ _ _ => rfl) s te ch kind lvl
@[simp] theorem State.reelEvent_log (s : State) (te : Time) (ch kind lvl : Nat) : (s.reelEvent te ch kind lvl).log = s.log :=
  reelEvent_keeps (·.log) (fun _ _ _ => rfl) s te ch kind lvl
@[simp] theorem State.reelEvent_time (s : State) (te : Time) (ch kind lvl : Nat) : (s.reelEvent te ch kind lvl).time = s.time :=
  reelEvent_keeps (·.time) (fun _ _ _ => rfl) s te ch kind lvl
@[simp] theorem State.reelEvent_meas (s : State) (te : Time) (ch kind lvl : Nat) : (s.reelEvent te ch kind lvl).meas = s.meas :=
  reelEvent_keeps (·.meas) (fun _ _ _ => rfl) s te ch kind lvl
@[simp] theorem State.reelEvent_sync (s : State) (te : Time) (ch kind lvl : Nat) : (s.reelEvent te ch kind lvl).sync = s.sync :=
  reelEvent_keeps (·.sync) (fun _ _ _ => rfl) s te ch kind lvl
@[simp] theorem State.reelEvent_frt (s : State) (te : Time) (ch kind lvl : Nat) : (s.reelEvent te ch kind lvl).frt = s.frt :=
  reelEvent_keeps (·.frt) (fun _ _ _ => rfl) s te ch kind lvl
@[simp] theorem State.reelEvent_feeds (s : State) (te : Time) (ch kind lvl : Nat) : (s.reelEvent te ch kind lvl).feeds = s.feeds :=
  reelEvent_keeps (·.feeds) (fun _ _ _ => rfl) s te ch kind lvl
@[simp] theorem State.reelEvent_isd (s : State) (te : Time) (ch kind lvl : Nat) : (s.reelEvent te ch kind lvl).isd = s.isd :=
  reelEvent_keeps (·.isd) (fun _ _ _ => rfl) s te ch kind lvl
@[simp] theorem State.reelEvent_cue (s : State) (te : Time) (ch kind lvl : Nat) : (s.reelEvent te ch kind lvl).cue = s.cue :=
  reelEvent_keeps (·.cue) (fun _ _ _ => rfl) s te ch kind lvl
@[simp] theorem State.reelEvent_bus (s : State) (te : Time) (ch kind lvl : Nat) : (s.reelEvent te ch kind lvl).bus = s.bus :=
  reelEvent_keeps (·.bus) (fun _ _ _ => rfl) s te ch kind lvl
@[simp] theorem State.reelEvent_clk (s : State) (te : Time) (ch kind lvl : Nat) : (s.reelEvent te ch kind lvl).clk = s.clk :=
  reelEvent_keeps (·.clk) (fun _ _ _ => rfl) s te ch kind lvl
@[simp] theorem State.reelEvent_mtr (s : State) (te : Time) (ch kind lvl : Nat) : (s.reelEvent te ch kind lvl).mtr = s.mtr :=
  reelEvent_keeps (·.mtr) (fun _ _ _ => rfl) s te ch kind lvl
@[simp] theorem State.reelEvent_mem (s : State) (te : Time) (ch kind lvl : Nat) : (s.reelEvent te ch kind lvl).mem = s.mem :=
  reelEvent_keeps (·.mem) (fun _ _ _ => rfl) s te ch kind lvl
@[simp] theorem State.reelEvent_nvm (s : State) (te : Time) (ch kind lvl : Nat) : (s.reelEvent te ch kind lvl).nvm = s.nvm :=
  reelEvent_keeps (·.nvm) (fun _ _ _ => rfl) s te ch kind lvl
@[simp] theorem State.reelEvent_avail (s : State) (te : Time) (ch kind lvl : Nat) : (s.reelEvent te ch kind lvl).avail = s.avail :=
  reelEvent_keeps (·.avail) (fun _ _ _ => rfl) s te ch kind lvl
@[simp] theorem State.reelFault_pending (s : State) : (s.reelFault).pending = s.pending :=
  reelFault_keeps (·.pending) (fun _ _ _ => rfl) s
@[simp] theorem State.reelFault_now (s : State) : (s.reelFault).now = s.now :=
  reelFault_keeps (·.now) (fun _ _ _ => rfl) s
@[simp] theorem State.reelFault_regs (s : State) : (s.reelFault).regs = s.regs :=
  reelFault_keeps (·.regs) (fun _ _ _ => rfl) s
@[simp] theorem State.reelFault_eff (s : State) : (s.reelFault).eff = s.eff :=
  reelFault_keeps (·.eff) (fun _ _ _ => rfl) s
@[simp] theorem State.reelFault_pend (s : State) : (s.reelFault).pend = s.pend :=
  reelFault_keeps (·.pend) (fun _ _ _ => rfl) s
@[simp] theorem State.reelFault_snap (s : State) : (s.reelFault).snap = s.snap :=
  reelFault_keeps (·.snap) (fun _ _ _ => rfl) s
@[simp] theorem State.reelFault_lowW (s : State) : (s.reelFault).lowW = s.lowW :=
  reelFault_keeps (·.lowW) (fun _ _ _ => rfl) s
@[simp] theorem State.reelFault_timers (s : State) : (s.reelFault).timers = s.timers :=
  reelFault_keeps (·.timers) (fun _ _ _ => rfl) s
@[simp] theorem State.reelFault_free (s : State) : (s.reelFault).free = s.free :=
  reelFault_keeps (·.free) (fun _ _ _ => rfl) s
@[simp] theorem State.reelFault_hot (s : State) : (s.reelFault).hot = s.hot :=
  reelFault_keeps (·.hot) (fun _ _ _ => rfl) s
@[simp] theorem State.reelFault_seq (s : State) : (s.reelFault).seq = s.seq :=
  reelFault_keeps (·.seq) (fun _ _ _ => rfl) s
@[simp] theorem State.reelFault_band (s : State) : (s.reelFault).band = s.band :=
  reelFault_keeps (·.band) (fun _ _ _ => rfl) s
@[simp] theorem State.reelFault_cu (s : State) : (s.reelFault).cu = s.cu :=
  reelFault_keeps (·.cu) (fun _ _ _ => rfl) s
@[simp] theorem State.reelFault_clap (s : State) : (s.reelFault).clap = s.clap :=
  reelFault_keeps (·.clap) (fun _ _ _ => rfl) s
@[simp] theorem State.reelFault_isl (s : State) : (s.reelFault).isl = s.isl :=
  reelFault_keeps (·.isl) (fun _ _ _ => rfl) s
@[simp] theorem State.reelFault_trip (s : State) : (s.reelFault).trip = s.trip :=
  reelFault_keeps (·.trip) (fun _ _ _ => rfl) s
@[simp] theorem State.reelFault_sys (s : State) : (s.reelFault).sys = s.sys :=
  reelFault_keeps (·.sys) (fun _ _ _ => rfl) s
@[simp] theorem State.reelFault_faults (s : State) : (s.reelFault).faults = s.faults :=
  reelFault_keeps (·.faults) (fun _ _ _ => rfl) s
@[simp] theorem State.reelFault_log (s : State) : (s.reelFault).log = s.log :=
  reelFault_keeps (·.log) (fun _ _ _ => rfl) s
@[simp] theorem State.reelFault_time (s : State) : (s.reelFault).time = s.time :=
  reelFault_keeps (·.time) (fun _ _ _ => rfl) s
@[simp] theorem State.reelFault_meas (s : State) : (s.reelFault).meas = s.meas :=
  reelFault_keeps (·.meas) (fun _ _ _ => rfl) s
@[simp] theorem State.reelFault_sync (s : State) : (s.reelFault).sync = s.sync :=
  reelFault_keeps (·.sync) (fun _ _ _ => rfl) s
@[simp] theorem State.reelFault_frt (s : State) : (s.reelFault).frt = s.frt :=
  reelFault_keeps (·.frt) (fun _ _ _ => rfl) s
@[simp] theorem State.reelFault_feeds (s : State) : (s.reelFault).feeds = s.feeds :=
  reelFault_keeps (·.feeds) (fun _ _ _ => rfl) s
@[simp] theorem State.reelFault_isd (s : State) : (s.reelFault).isd = s.isd :=
  reelFault_keeps (·.isd) (fun _ _ _ => rfl) s
@[simp] theorem State.reelFault_cue (s : State) : (s.reelFault).cue = s.cue :=
  reelFault_keeps (·.cue) (fun _ _ _ => rfl) s
@[simp] theorem State.reelFault_bus (s : State) : (s.reelFault).bus = s.bus :=
  reelFault_keeps (·.bus) (fun _ _ _ => rfl) s
@[simp] theorem State.reelFault_clk (s : State) : (s.reelFault).clk = s.clk :=
  reelFault_keeps (·.clk) (fun _ _ _ => rfl) s
@[simp] theorem State.reelFault_mtr (s : State) : (s.reelFault).mtr = s.mtr :=
  reelFault_keeps (·.mtr) (fun _ _ _ => rfl) s
@[simp] theorem State.reelFault_mem (s : State) : (s.reelFault).mem = s.mem :=
  reelFault_keeps (·.mem) (fun _ _ _ => rfl) s
@[simp] theorem State.reelFault_nvm (s : State) : (s.reelFault).nvm = s.nvm :=
  reelFault_keeps (·.nvm) (fun _ _ _ => rfl) s
@[simp] theorem State.reelFault_avail (s : State) : (s.reelFault).avail = s.avail :=
  reelFault_keeps (·.avail) (fun _ _ _ => rfl) s
@[simp] theorem State.logIt_pending (s : State) (o r : Nat) (x c : Bool) (op tg ov nv : Nat) : (s.logIt o r x c op tg ov nv).pending = s.pending :=
  logIt_keeps (·.pending) (fun _ _ _ _ => rfl) (fun _ _ => rfl) (fun _ _ => rfl) (fun _ _ => rfl) s o r x c op tg ov nv
@[simp] theorem State.logIt_now (s : State) (o r : Nat) (x c : Bool) (op tg ov nv : Nat) : (s.logIt o r x c op tg ov nv).now = s.now :=
  logIt_keeps (·.now) (fun _ _ _ _ => rfl) (fun _ _ => rfl) (fun _ _ => rfl) (fun _ _ => rfl) s o r x c op tg ov nv
@[simp] theorem State.logIt_eff (s : State) (o r : Nat) (x c : Bool) (op tg ov nv : Nat) : (s.logIt o r x c op tg ov nv).eff = s.eff :=
  logIt_keeps (·.eff) (fun _ _ _ _ => rfl) (fun _ _ => rfl) (fun _ _ => rfl) (fun _ _ => rfl) s o r x c op tg ov nv
@[simp] theorem State.logIt_pend (s : State) (o r : Nat) (x c : Bool) (op tg ov nv : Nat) : (s.logIt o r x c op tg ov nv).pend = s.pend :=
  logIt_keeps (·.pend) (fun _ _ _ _ => rfl) (fun _ _ => rfl) (fun _ _ => rfl) (fun _ _ => rfl) s o r x c op tg ov nv
@[simp] theorem State.logIt_snap (s : State) (o r : Nat) (x c : Bool) (op tg ov nv : Nat) : (s.logIt o r x c op tg ov nv).snap = s.snap :=
  logIt_keeps (·.snap) (fun _ _ _ _ => rfl) (fun _ _ => rfl) (fun _ _ => rfl) (fun _ _ => rfl) s o r x c op tg ov nv
@[simp] theorem State.logIt_lowW (s : State) (o r : Nat) (x c : Bool) (op tg ov nv : Nat) : (s.logIt o r x c op tg ov nv).lowW = s.lowW :=
  logIt_keeps (·.lowW) (fun _ _ _ _ => rfl) (fun _ _ => rfl) (fun _ _ => rfl) (fun _ _ => rfl) s o r x c op tg ov nv
@[simp] theorem State.logIt_timers (s : State) (o r : Nat) (x c : Bool) (op tg ov nv : Nat) : (s.logIt o r x c op tg ov nv).timers = s.timers :=
  logIt_keeps (·.timers) (fun _ _ _ _ => rfl) (fun _ _ => rfl) (fun _ _ => rfl) (fun _ _ => rfl) s o r x c op tg ov nv
@[simp] theorem State.logIt_free (s : State) (o r : Nat) (x c : Bool) (op tg ov nv : Nat) : (s.logIt o r x c op tg ov nv).free = s.free :=
  logIt_keeps (·.free) (fun _ _ _ _ => rfl) (fun _ _ => rfl) (fun _ _ => rfl) (fun _ _ => rfl) s o r x c op tg ov nv
@[simp] theorem State.logIt_seq (s : State) (o r : Nat) (x c : Bool) (op tg ov nv : Nat) : (s.logIt o r x c op tg ov nv).seq = s.seq :=
  logIt_keeps (·.seq) (fun _ _ _ _ => rfl) (fun _ _ => rfl) (fun _ _ => rfl) (fun _ _ => rfl) s o r x c op tg ov nv
@[simp] theorem State.logIt_band (s : State) (o r : Nat) (x c : Bool) (op tg ov nv : Nat) : (s.logIt o r x c op tg ov nv).band = s.band :=
  logIt_keeps (·.band) (fun _ _ _ _ => rfl) (fun _ _ => rfl) (fun _ _ => rfl) (fun _ _ => rfl) s o r x c op tg ov nv
@[simp] theorem State.logIt_cu (s : State) (o r : Nat) (x c : Bool) (op tg ov nv : Nat) : (s.logIt o r x c op tg ov nv).cu = s.cu :=
  logIt_keeps (·.cu) (fun _ _ _ _ => rfl) (fun _ _ => rfl) (fun _ _ => rfl) (fun _ _ => rfl) s o r x c op tg ov nv
@[simp] theorem State.logIt_clap (s : State) (o r : Nat) (x c : Bool) (op tg ov nv : Nat) : (s.logIt o r x c op tg ov nv).clap = s.clap :=
  logIt_keeps (·.clap) (fun _ _ _ _ => rfl) (fun _ _ => rfl) (fun _ _ => rfl) (fun _ _ => rfl) s o r x c op tg ov nv
@[simp] theorem State.logIt_isl (s : State) (o r : Nat) (x c : Bool) (op tg ov nv : Nat) : (s.logIt o r x c op tg ov nv).isl = s.isl :=
  logIt_keeps (·.isl) (fun _ _ _ _ => rfl) (fun _ _ => rfl) (fun _ _ => rfl) (fun _ _ => rfl) s o r x c op tg ov nv
@[simp] theorem State.logIt_trip (s : State) (o r : Nat) (x c : Bool) (op tg ov nv : Nat) : (s.logIt o r x c op tg ov nv).trip = s.trip :=
  logIt_keeps (·.trip) (fun _ _ _ _ => rfl) (fun _ _ => rfl) (fun _ _ => rfl) (fun _ _ => rfl) s o r x c op tg ov nv
@[simp] theorem State.logIt_sys (s : State) (o r : Nat) (x c : Bool) (op tg ov nv : Nat) : (s.logIt o r x c op tg ov nv).sys = s.sys :=
  logIt_keeps (·.sys) (fun _ _ _ _ => rfl) (fun _ _ => rfl) (fun _ _ => rfl) (fun _ _ => rfl) s o r x c op tg ov nv
@[simp] theorem State.logIt_time (s : State) (o r : Nat) (x c : Bool) (op tg ov nv : Nat) : (s.logIt o r x c op tg ov nv).time = s.time :=
  logIt_keeps (·.time) (fun _ _ _ _ => rfl) (fun _ _ => rfl) (fun _ _ => rfl) (fun _ _ => rfl) s o r x c op tg ov nv
@[simp] theorem State.logIt_meas (s : State) (o r : Nat) (x c : Bool) (op tg ov nv : Nat) : (s.logIt o r x c op tg ov nv).meas = s.meas :=
  logIt_keeps (·.meas) (fun _ _ _ _ => rfl) (fun _ _ => rfl) (fun _ _ => rfl) (fun _ _ => rfl) s o r x c op tg ov nv
@[simp] theorem State.logIt_sync (s : State) (o r : Nat) (x c : Bool) (op tg ov nv : Nat) : (s.logIt o r x c op tg ov nv).sync = s.sync :=
  logIt_keeps (·.sync) (fun _ _ _ _ => rfl) (fun _ _ => rfl) (fun _ _ => rfl) (fun _ _ => rfl) s o r x c op tg ov nv
@[simp] theorem State.logIt_frt (s : State) (o r : Nat) (x c : Bool) (op tg ov nv : Nat) : (s.logIt o r x c op tg ov nv).frt = s.frt :=
  logIt_keeps (·.frt) (fun _ _ _ _ => rfl) (fun _ _ => rfl) (fun _ _ => rfl) (fun _ _ => rfl) s o r x c op tg ov nv
@[simp] theorem State.logIt_feeds (s : State) (o r : Nat) (x c : Bool) (op tg ov nv : Nat) : (s.logIt o r x c op tg ov nv).feeds = s.feeds :=
  logIt_keeps (·.feeds) (fun _ _ _ _ => rfl) (fun _ _ => rfl) (fun _ _ => rfl) (fun _ _ => rfl) s o r x c op tg ov nv
@[simp] theorem State.logIt_isd (s : State) (o r : Nat) (x c : Bool) (op tg ov nv : Nat) : (s.logIt o r x c op tg ov nv).isd = s.isd :=
  logIt_keeps (·.isd) (fun _ _ _ _ => rfl) (fun _ _ => rfl) (fun _ _ => rfl) (fun _ _ => rfl) s o r x c op tg ov nv
@[simp] theorem State.logIt_cue (s : State) (o r : Nat) (x c : Bool) (op tg ov nv : Nat) : (s.logIt o r x c op tg ov nv).cue = s.cue :=
  logIt_keeps (·.cue) (fun _ _ _ _ => rfl) (fun _ _ => rfl) (fun _ _ => rfl) (fun _ _ => rfl) s o r x c op tg ov nv
@[simp] theorem State.logIt_bus (s : State) (o r : Nat) (x c : Bool) (op tg ov nv : Nat) : (s.logIt o r x c op tg ov nv).bus = s.bus :=
  logIt_keeps (·.bus) (fun _ _ _ _ => rfl) (fun _ _ => rfl) (fun _ _ => rfl) (fun _ _ => rfl) s o r x c op tg ov nv
@[simp] theorem State.logIt_clk (s : State) (o r : Nat) (x c : Bool) (op tg ov nv : Nat) : (s.logIt o r x c op tg ov nv).clk = s.clk :=
  logIt_keeps (·.clk) (fun _ _ _ _ => rfl) (fun _ _ => rfl) (fun _ _ => rfl) (fun _ _ => rfl) s o r x c op tg ov nv
@[simp] theorem State.logIt_mtr (s : State) (o r : Nat) (x c : Bool) (op tg ov nv : Nat) : (s.logIt o r x c op tg ov nv).mtr = s.mtr :=
  logIt_keeps (·.mtr) (fun _ _ _ _ => rfl) (fun _ _ => rfl) (fun _ _ => rfl) (fun _ _ => rfl) s o r x c op tg ov nv
@[simp] theorem State.logIt_mem (s : State) (o r : Nat) (x c : Bool) (op tg ov nv : Nat) : (s.logIt o r x c op tg ov nv).mem = s.mem :=
  logIt_keeps (·.mem) (fun _ _ _ _ => rfl) (fun _ _ => rfl) (fun _ _ => rfl) (fun _ _ => rfl) s o r x c op tg ov nv
@[simp] theorem State.logIt_hist (s : State) (o r : Nat) (x c : Bool) (op tg ov nv : Nat) : (s.logIt o r x c op tg ov nv).hist = s.hist :=
  logIt_keeps (·.hist) (fun _ _ _ _ => rfl) (fun _ _ => rfl) (fun _ _ => rfl) (fun _ _ => rfl) s o r x c op tg ov nv
@[simp] theorem State.logIt_nvm (s : State) (o r : Nat) (x c : Bool) (op tg ov nv : Nat) : (s.logIt o r x c op tg ov nv).nvm = s.nvm :=
  logIt_keeps (·.nvm) (fun _ _ _ _ => rfl) (fun _ _ => rfl) (fun _ _ => rfl) (fun _ _ => rfl) s o r x c op tg ov nv
@[simp] theorem State.logIt_avail (s : State) (o r : Nat) (x c : Bool) (op tg ov nv : Nat) : (s.logIt o r x c op tg ov nv).avail = s.avail :=
  logIt_keeps (·.avail) (fun _ _ _ _ => rfl) (fun _ _ => rfl) (fun _ _ => rfl) (fun _ _ => rfl) s o r x c op tg ov nv
@[simp] theorem State.logEvent_pending (s : State) (op tg ov nv : Nat) : (s.logEvent op tg ov nv).pending = s.pending :=
  logIt_keeps (·.pending) (fun _ _ _ _ => rfl) (fun _ _ => rfl) (fun _ _ => rfl) (fun _ _ => rfl) s _ _ _ _ op tg ov nv
@[simp] theorem State.logEvent_now (s : State) (op tg ov nv : Nat) : (s.logEvent op tg ov nv).now = s.now :=
  logIt_keeps (·.now) (fun _ _ _ _ => rfl) (fun _ _ => rfl) (fun _ _ => rfl) (fun _ _ => rfl) s _ _ _ _ op tg ov nv
@[simp] theorem State.logEvent_eff (s : State) (op tg ov nv : Nat) : (s.logEvent op tg ov nv).eff = s.eff :=
  logIt_keeps (·.eff) (fun _ _ _ _ => rfl) (fun _ _ => rfl) (fun _ _ => rfl) (fun _ _ => rfl) s _ _ _ _ op tg ov nv
@[simp] theorem State.logEvent_pend (s : State) (op tg ov nv : Nat) : (s.logEvent op tg ov nv).pend = s.pend :=
  logIt_keeps (·.pend) (fun _ _ _ _ => rfl) (fun _ _ => rfl) (fun _ _ => rfl) (fun _ _ => rfl) s _ _ _ _ op tg ov nv
@[simp] theorem State.logEvent_snap (s : State) (op tg ov nv : Nat) : (s.logEvent op tg ov nv).snap = s.snap :=
  logIt_keeps (·.snap) (fun _ _ _ _ => rfl) (fun _ _ => rfl) (fun _ _ => rfl) (fun _ _ => rfl) s _ _ _ _ op tg ov nv
@[simp] theorem State.logEvent_lowW (s : State) (op tg ov nv : Nat) : (s.logEvent op tg ov nv).lowW = s.lowW :=
  logIt_keeps (·.lowW) (fun _ _ _ _ => rfl) (fun _ _ => rfl) (fun _ _ => rfl) (fun _ _ => rfl) s _ _ _ _ op tg ov nv
@[simp] theorem State.logEvent_timers (s : State) (op tg ov nv : Nat) : (s.logEvent op tg ov nv).timers = s.timers :=
  logIt_keeps (·.timers) (fun _ _ _ _ => rfl) (fun _ _ => rfl) (fun _ _ => rfl) (fun _ _ => rfl) s _ _ _ _ op tg ov nv
@[simp] theorem State.logEvent_free (s : State) (op tg ov nv : Nat) : (s.logEvent op tg ov nv).free = s.free :=
  logIt_keeps (·.free) (fun _ _ _ _ => rfl) (fun _ _ => rfl) (fun _ _ => rfl) (fun _ _ => rfl) s _ _ _ _ op tg ov nv
@[simp] theorem State.logEvent_seq (s : State) (op tg ov nv : Nat) : (s.logEvent op tg ov nv).seq = s.seq :=
  logIt_keeps (·.seq) (fun _ _ _ _ => rfl) (fun _ _ => rfl) (fun _ _ => rfl) (fun _ _ => rfl) s _ _ _ _ op tg ov nv
@[simp] theorem State.logEvent_band (s : State) (op tg ov nv : Nat) : (s.logEvent op tg ov nv).band = s.band :=
  logIt_keeps (·.band) (fun _ _ _ _ => rfl) (fun _ _ => rfl) (fun _ _ => rfl) (fun _ _ => rfl) s _ _ _ _ op tg ov nv
@[simp] theorem State.logEvent_cu (s : State) (op tg ov nv : Nat) : (s.logEvent op tg ov nv).cu = s.cu :=
  logIt_keeps (·.cu) (fun _ _ _ _ => rfl) (fun _ _ => rfl) (fun _ _ => rfl) (fun _ _ => rfl) s _ _ _ _ op tg ov nv
@[simp] theorem State.logEvent_clap (s : State) (op tg ov nv : Nat) : (s.logEvent op tg ov nv).clap = s.clap :=
  logIt_keeps (·.clap) (fun _ _ _ _ => rfl) (fun _ _ => rfl) (fun _ _ => rfl) (fun _ _ => rfl) s _ _ _ _ op tg ov nv
@[simp] theorem State.logEvent_isl (s : State) (op tg ov nv : Nat) : (s.logEvent op tg ov nv).isl = s.isl :=
  logIt_keeps (·.isl) (fun _ _ _ _ => rfl) (fun _ _ => rfl) (fun _ _ => rfl) (fun _ _ => rfl) s _ _ _ _ op tg ov nv
@[simp] theorem State.logEvent_trip (s : State) (op tg ov nv : Nat) : (s.logEvent op tg ov nv).trip = s.trip :=
  logIt_keeps (·.trip) (fun _ _ _ _ => rfl) (fun _ _ => rfl) (fun _ _ => rfl) (fun _ _ => rfl) s _ _ _ _ op tg ov nv
@[simp] theorem State.logEvent_sys (s : State) (op tg ov nv : Nat) : (s.logEvent op tg ov nv).sys = s.sys :=
  logIt_keeps (·.sys) (fun _ _ _ _ => rfl) (fun _ _ => rfl) (fun _ _ => rfl) (fun _ _ => rfl) s _ _ _ _ op tg ov nv
@[simp] theorem State.logEvent_time (s : State) (op tg ov nv : Nat) : (s.logEvent op tg ov nv).time = s.time :=
  logIt_keeps (·.time) (fun _ _ _ _ => rfl) (fun _ _ => rfl) (fun _ _ => rfl) (fun _ _ => rfl) s _ _ _ _ op tg ov nv
@[simp] theorem State.logEvent_meas (s : State) (op tg ov nv : Nat) : (s.logEvent op tg ov nv).meas = s.meas :=
  logIt_keeps (·.meas) (fun _ _ _ _ => rfl) (fun _ _ => rfl) (fun _ _ => rfl) (fun _ _ => rfl) s _ _ _ _ op tg ov nv
@[simp] theorem State.logEvent_sync (s : State) (op tg ov nv : Nat) : (s.logEvent op tg ov nv).sync = s.sync :=
  logIt_keeps (·.sync) (fun _ _ _ _ => rfl) (fun _ _ => rfl) (fun _ _ => rfl) (fun _ _ => rfl) s _ _ _ _ op tg ov nv
@[simp] theorem State.logEvent_frt (s : State) (op tg ov nv : Nat) : (s.logEvent op tg ov nv).frt = s.frt :=
  logIt_keeps (·.frt) (fun _ _ _ _ => rfl) (fun _ _ => rfl) (fun _ _ => rfl) (fun _ _ => rfl) s _ _ _ _ op tg ov nv
@[simp] theorem State.logEvent_feeds (s : State) (op tg ov nv : Nat) : (s.logEvent op tg ov nv).feeds = s.feeds :=
  logIt_keeps (·.feeds) (fun _ _ _ _ => rfl) (fun _ _ => rfl) (fun _ _ => rfl) (fun _ _ => rfl) s _ _ _ _ op tg ov nv
@[simp] theorem State.logEvent_isd (s : State) (op tg ov nv : Nat) : (s.logEvent op tg ov nv).isd = s.isd :=
  logIt_keeps (·.isd) (fun _ _ _ _ => rfl) (fun _ _ => rfl) (fun _ _ => rfl) (fun _ _ => rfl) s _ _ _ _ op tg ov nv
@[simp] theorem State.logEvent_cue (s : State) (op tg ov nv : Nat) : (s.logEvent op tg ov nv).cue = s.cue :=
  logIt_keeps (·.cue) (fun _ _ _ _ => rfl) (fun _ _ => rfl) (fun _ _ => rfl) (fun _ _ => rfl) s _ _ _ _ op tg ov nv
@[simp] theorem State.logEvent_bus (s : State) (op tg ov nv : Nat) : (s.logEvent op tg ov nv).bus = s.bus :=
  logIt_keeps (·.bus) (fun _ _ _ _ => rfl) (fun _ _ => rfl) (fun _ _ => rfl) (fun _ _ => rfl) s _ _ _ _ op tg ov nv
@[simp] theorem State.logEvent_clk (s : State) (op tg ov nv : Nat) : (s.logEvent op tg ov nv).clk = s.clk :=
  logIt_keeps (·.clk) (fun _ _ _ _ => rfl) (fun _ _ => rfl) (fun _ _ => rfl) (fun _ _ => rfl) s _ _ _ _ op tg ov nv
@[simp] theorem State.logEvent_mtr (s : State) (op tg ov nv : Nat) : (s.logEvent op tg ov nv).mtr = s.mtr :=
  logIt_keeps (·.mtr) (fun _ _ _ _ => rfl) (fun _ _ => rfl) (fun _ _ => rfl) (fun _ _ => rfl) s _ _ _ _ op tg ov nv
@[simp] theorem State.logEvent_mem (s : State) (op tg ov nv : Nat) : (s.logEvent op tg ov nv).mem = s.mem :=
  logIt_keeps (·.mem) (fun _ _ _ _ => rfl) (fun _ _ => rfl) (fun _ _ => rfl) (fun _ _ => rfl) s _ _ _ _ op tg ov nv
@[simp] theorem State.logEvent_hist (s : State) (op tg ov nv : Nat) : (s.logEvent op tg ov nv).hist = s.hist :=
  logIt_keeps (·.hist) (fun _ _ _ _ => rfl) (fun _ _ => rfl) (fun _ _ => rfl) (fun _ _ => rfl) s _ _ _ _ op tg ov nv
@[simp] theorem State.logEvent_nvm (s : State) (op tg ov nv : Nat) : (s.logEvent op tg ov nv).nvm = s.nvm :=
  logIt_keeps (·.nvm) (fun _ _ _ _ => rfl) (fun _ _ => rfl) (fun _ _ => rfl) (fun _ _ => rfl) s _ _ _ _ op tg ov nv
@[simp] theorem State.logEvent_avail (s : State) (op tg ov nv : Nat) : (s.logEvent op tg ov nv).avail = s.avail :=
  logIt_keeps (·.avail) (fun _ _ _ _ => rfl) (fun _ _ => rfl) (fun _ _ => rfl) (fun _ _ => rfl) s _ _ _ _ op tg ov nv

end Sys2Proof.Machine
end

