-- ==== Sys2Proof/Laws/Shots.lean ====
section
/-!
SUPPORT. What a shot that issues does (R42 to R47): its words, and all it leaves alone.
-/
namespace Sys2Proof.Machine
open Reg

theorem sw_putSw (s : State) (a b : Nat) (v : F32) : (s.putSw a v).sw b = if b = a then v else s.sw b := by
  unfold State.putSw State.sw State.modSeq; exact mapGet_mapPut _ _ _ _ _

theorem sw_putAll (l : List (Nat × F32)) (s : State) (a : Nat) (h : ∀ e ∈ l, a ≠ e.1) :
    (l.foldl (fun s e => s.putSw e.1 e.2) s).sw a = s.sw a := by
  induction l generalizing s with
  | nil => rfl
  | cons e l ih =>
    rw [List.foldl_cons, ih _ (fun x hx => h x (by simp [hx])), sw_putSw, if_neg (h e (by simp))]

theorem sw_putAll_mem (l : List Nat) (hl : l.Nodup) (g : Nat → F32) (b : Nat) (s : State) (i : Nat) (hi : i ∈ l) :
    ((l.map (fun i => (b + i, g i))).foldl (fun s e => s.putSw e.1 e.2) s).sw (b + i) = g i := by
  induction l generalizing s with
  | nil => simp at hi
  | cons j l ih =>
    rw [List.map_cons, List.foldl_cons]
    rw [List.nodup_cons] at hl
    by_cases h : i ∈ l
    · exact ih hl.2 _ h
    · have : i = j := by simpa [h] using hi
      subst this
      rw [sw_putAll, sw_putSw, if_pos rfl]
      intro e he
      simp only [List.mem_map] at he
      obtain ⟨k, hk, rfl⟩ := he
      intro h2; apply h; have : i = k := by simpa using h2
      rw [this]; exact hk

theorem shot_on_nodup (w : Shot) : w.on.Nodup := List.Nodup.filter _ (List.nodup_range)

/-- Writing words changes nothing but state memory. -/
theorem putAll_eq (l : List (Nat × F32)) (s : State) :
    ∃ m, l.foldl (fun s e => s.putSw e.1 e.2) s = s.modSeq (fun q => { q with st := m }) := by
  induction l generalizing s with
  | nil => exact ⟨s.seq.st, rfl⟩
  | cons e l ih =>
    obtain ⟨m, hm⟩ := ih (s.putSw e.1 e.2)
    exact ⟨m, by rw [List.foldl_cons, hm]; rfl⟩

theorem shot_apply (s : State) (op : ShotOp) (w : Shot) (l lat : Nat) (h : ShotRuns s op w l) (hl : op.latency lat = l) :
    s.shot op w .good lat = s.applyShot op w (issueCycle s.seq (op.reads w ++ op.writes w)) l := by
  obtain ⟨h1, hf, h2, h3, h4⟩ := h
  unfold State.shot
  rw [hl]
  have : ¬ (s.seq.period ≤ issueCycle s.seq (op.reads w ++ op.writes w)) := by omega
  simp [h1, hf, h2, this]

theorem laneShot (c : Shot → ShotCheck → Instr) (op : ShotOp) (l lat : Nat) (f : State → Shot → Nat → F32)
    (hc : ∀ s w, exec (c w .good) s = s.doing (fun s => s.shot op w .good lat))
    (hl : op.latency lat = l) (hw : ∀ s w, (op.result s w).writes = (perLane w (f s w)).writes)
    (h1 : op ≠ .pub) (h2 : op ≠ .store) : LaneShot c op l f := by
  intro s w h
  refine ⟨_, hc s w, ?_⟩
  simp only
  rw [shot_apply s op w l lat h hl]
  generalize hci : issueCycle s.seq (op.reads w ++ op.writes w) = ci
  have hle : ci + l ≤ s.seq.period := by have := h.2.2.2.2; omega
  unfold State.applyShot
  simp only [hle, if_true]
  rw [hw]
  simp only [perLane]
  generalize hL : (List.map (fun i => (w.dst.toNat + i, f32Flush (f s w i))) w.on) = L
  obtain ⟨m, hm⟩ := putAll_eq L s
  have ha : ∀ i ∈ w.on, mapGet (fun _ => (0 : Word)) m (w.dst.toNat + i) = f32Flush (f s w i) := by
    intro i hi
    have := sw_putAll_mem w.on (shot_on_nodup w) (fun i => f32Flush (f s w i)) w.dst.toNat s i hi
    rw [hL, hm] at this; exact this
  have hb : ∀ a, (∀ i ∈ w.on, a ≠ w.dst.toNat + i) → mapGet (fun _ => (0 : Word)) m a = s.sw a := by
    intro a h
    have := sw_putAll L s a (by rw [← hL]; simpa using h)
    rw [hm] at this; exact this
  rw [hm]
  by_cases hd : (op.result s w).domain = true
  · simp only [hd, if_true, h1, h2, if_false]
    refine ⟨fun i hi => ha i hi, fun a h => hb a h, rfl, rfl, rfl, fun a h => ?_, rfl, rfl, rfl, rfl, rfl, rfl⟩
    exact State.word_wr_other _ SEQ.STATUS.DOMAIN 1 h
  · simp only [hd, if_false, h1, h2]
    refine ⟨fun i hi => ha i hi, fun a h => hb a h, rfl, rfl, rfl, fun a h => rfl, rfl, rfl, rfl, rfl, rfl, rfl⟩

theorem applyShot_shape (s : State) (op : ShotOp) (w : Shot) (l lat : Nat) (h : ShotRuns s op w l) (hl : op.latency lat = l)
    (c : Instr) (hc : exec c s = s.doing (fun s => s.shot op w .good lat)) :
    ∃ t, exec c s = .next t ∧
      (∀ a, t.sw a = ((op.result s w).writes.foldl (fun s e => s.putSw e.1 e.2) s).sw a) ∧
      (op ≠ .pub → t.seq.pub = s.seq.pub) ∧ (op ≠ .store → t.seq.sto = s.seq.sto) ∧ ShotKeeps s t := by
  refine ⟨_, hc, ?_⟩
  simp only
  rw [shot_apply s op w l lat h hl]
  generalize hci : issueCycle s.seq (op.reads w ++ op.writes w) = ci
  have hle : ci + l ≤ s.seq.period := by have := h.2.2.2.2; omega
  unfold State.applyShot
  simp only [hle, if_true]
  obtain ⟨m, hm⟩ := putAll_eq (op.result s w).writes s
  rw [hm]
  by_cases hd : (op.result s w).domain = true
  · simp only [hd, if_true]
    refine ⟨fun a => rfl, fun h => by simp [h], fun h => by simp [h], rfl, fun a h => ?_, rfl, rfl, rfl, rfl, rfl, rfl⟩
    exact State.word_wr_other _ SEQ.STATUS.DOMAIN 1 h
  · have hd' : (op.result s w).domain = false := by simpa using hd
    simp only [hd', Bool.false_eq_true, if_false]
    exact ⟨fun a => rfl, fun h => by simp [h], fun h => by simp [h], rfl, fun a h => rfl, rfl, rfl, rfl, rfl, rfl, rfl⟩

theorem on_lt (w : Shot) : ∀ i ∈ w.on, i < 4 := by
  intro i hi; unfold Shot.on at hi; simp at hi; exact hi.1

theorem sincos_fold (l : List Nat) (h4 : ∀ i ∈ l, i < 4) (hn : l.Nodup) (g k : Nat → F32) (d : Nat) (s : State) :
   (∀ i ∈ l, ((l.flatMap (fun i => [(d + i, g i), (d + i + 4, k i)])).foldl (fun s e => s.putSw e.1 e.2) s).sw (d + i) = g i ∧
    ((l.flatMap (fun i => [(d + i, g i), (d + i + 4, k i)])).foldl (fun s e => s.putSw e.1 e.2) s).sw (d + i + 4) = k i) ∧
   (∀ a, (∀ i ∈ l, a ≠ d + i ∧ a ≠ d + i + 4) → ((l.flatMap (fun i => [(d + i, g i), (d + i + 4, k i)])).foldl (fun s e => s.putSw e.1 e.2) s).sw a = s.sw a) := by
  constructor
  · induction l generalizing s with
    | nil => simp
    | cons j l ih =>
      rw [List.nodup_cons] at hn
      intro i hi
      simp only [List.flatMap_cons, List.foldl_append, List.foldl_cons, List.foldl_nil]
      by_cases h : i ∈ l
      · exact ih (fun i hi => h4 i (by simp [hi])) hn.2 _ i h
      · have : i = j := by simpa [h] using hi
        subst this
        have hi4 := h4 i (by simp)
        constructor
        · rw [sw_putAll, sw_putSw, if_neg (by omega), sw_putSw, if_pos rfl]
          intro e he
          simp only [List.mem_flatMap] at he
          obtain ⟨x, hx, he⟩ := he
          have := h4 x (by simp [hx])
          have hne : i ≠ x := fun e => h (e ▸ hx)
          simp at he; rcases he with rfl | rfl <;> simp only <;> omega
        · rw [sw_putAll, sw_putSw, if_pos rfl]
          intro e he
          simp only [List.mem_flatMap] at he
          obtain ⟨x, hx, he⟩ := he
          have := h4 x (by simp [hx])
          have hne : i ≠ x := fun e => h (e ▸ hx)
          simp at he; rcases he with rfl | rfl <;> simp only <;> omega
  · intro a ha
    apply sw_putAll
    intro e he
    simp only [List.mem_flatMap] at he
    obtain ⟨x, hx, he⟩ := he
    have := ha x hx
    simp at he; rcases he with rfl | rfl <;> simp only <;> omega

end Sys2Proof.Machine
end

