-- ==== Sys2Proof/Laws/Trip.lean ====
section
/-!
SUPPORT. What the trip network's operations leave alone (R257 to R262).
-/
namespace Sys2Proof.Machine
open Reg

/-- A word the trip network writes: its own registers, the band law's, PWM.OUT, CU9's hold and SYS.AUXIO. -/
abbrev tripWord (a : Nat) : Prop :=
  (0x7000 ≤ a ∧ a < 0x8000) ∨ (0xB000 ≤ a ∧ a < 0xC000) ∨ a = PWM.OUT.FD.addr ∨
    a = (PWM.CU.CFG.PROT_HOLD 9).addr ∨ a = SYS.AUXIO.BRK_OPEN.addr

/-- What a state shows that no trip reaches. -/
structure TripBlind {β : Type} (q : State → β) : Prop where
  regs : ∀ (s : State) a w, tripWord a → q (s.setWord a w) = q s
  timers : ∀ (s : State) l, q { s with timers := l } = q s
  hot : ∀ (s : State) h, q { s with hot := h } = q s
  leg : ∀ (s : State) n f, q (s.modLeg n f) = q s
  trip : ∀ (s : State) f, q (s.modTrip f) = q s
  sys : ∀ (s : State) f, q (s.modSys f) = q s
  island : ∀ (s : State) n f, q (s.modIsland n f) = q s
  unit : ∀ (s : State) n f, q (s.modUnit n f) = q s
  reel : ∀ (s : State) n f, q (s.modReel n f) = q s
  ramps : ∀ (s : State) l, q { s with band := { s.band with ramps := l } } = q s

theorem legChannel_le (n : Nat) : legChannel n ≤ 11 := Nat.min_le_right _ _

section
variable {β : Type} {q : State → β} (h : TripBlind q)
include h

theorem TripBlind.wr (s : State) (f : Field) (v : Nat) (hf : tripWord f.addr) : q (s.wr f v) = q s := h.regs s _ _ hf

theorem TripBlind.set (s : State) (f : Field) (hf : tripWord f.addr) : q (s.set f) = q s :=
  (h.hot _ _).trans (h.wr s f 1 hf)

theorem TripBlind.start (s : State) (k : TimerKey) : q (s.start k) = q s := h.timers s _

theorem TripBlind.stop (s : State) (k : TimerKey) : q (s.stop k) = q s := h.timers s _

theorem TripBlind.startIf (s : State) (k : TimerKey) : q (s.startIf k) = q s := by
  unfold State.startIf; split
  · rfl
  · exact h.start _ _

theorem TripBlind.fault (s : State) : q s.reelFault = q s := reelFault_keeps q h.reel s

theorem TripBlind.groupOff (s : State) : q s.groupOff = q s := by
  unfold State.groupOff State.sendDown
  rw [h.startIf, each_keeps q _ (fun s n => h.island _ _ _), each_keeps q _ (fun s n => h.island _ _ _)]

theorem TripBlind.dumpOff (s : State) : q s.dumpOff = q s := by
  unfold State.dumpOff State.sendDown
  rw [h.unit, each_keeps q _ (fun s n => h.island _ _ _)]

theorem TripBlind.legState (s : State) (n lo w v : Nat) :
    q (s.wr ⟨(BND.CH.STATE.LEVEL (legChannel n)).addr, lo, w⟩ v) = q s := by
  apply h.regs
  have := legChannel_le n
  left; constructor <;> (simp only; omega)

theorem TripBlind.showReturning (s : State) : q s.showReturning = q s := h.wr _ _ _ (by decide)

theorem TripBlind.legOff (s : State) (n : Nat) : q (s.legOff n) = q s := by
  unfold State.legOff
  dsimp only
  split
  · rw [h.wr _ _ _ (by decide), h.legState, h.legState, h.showReturning, h.leg]
  · rw [h.legState, h.legState, h.showReturning, h.leg]

theorem TripBlind.feedLow (s : State) (k : Nat) (hk : k ≤ 7) : q (s.feedLow k) = q s := by
  unfold State.feedLow
  dsimp only
  have e : tripWord (BND.CH.STATE.ARMED (k + 3)).addr := by left; constructor <;> (simp only; omega)
  rw [h.unit, h.wr _ _ _ e, h.leg, h.wr _ _ _ (by decide)]

theorem TripBlind.stopDischarge (s : State) : q s.stopDischarge = q s := by
  unfold State.stopDischarge
  dsimp only
  rw [h.trip, h.stop, h.stop, h.wr _ _ _ (by decide), h.wr _ _ _ (by decide)]

theorem TripBlind.hardOff (s : State) (g : Nat) : q (s.hardOff g) = q s := by
  unfold State.hardOff
  dsimp only
  have e : ∀ s : State, q (s.each (targetLegs g) (fun s n => (s.legOff n).set (BND.CH.STATE.TRIPPED (legChannel n)))) = q s :=
    fun s => each_keeps q _ (fun s n => by
      have := legChannel_le n
      rw [h.set _ _ (by left; constructor <;> (simp only; omega)), h.legOff]) _ _
  split
  · rw [h.groupOff, h.trip, e]
  · split
    · rw [h.feedLow _ _ (by omega), h.trip, e]
    · split
      · rw [h.stopDischarge, h.dumpOff, h.trip, e]
      · rw [h.start, h.wr _ _ _ (by decide), h.set _ _ (by decide), h.trip, e]

theorem TripBlind.rampsTakeFrt (s : State) : q s.rampsTakeFrt = q s := by
  unfold State.rampsTakeFrt
  split
  · rfl
  · exact h.ramps _ _

theorem TripBlind.softOff (s : State) (g : Nat) : q (s.softOff g) = q s := by
  unfold State.softOff
  dsimp only
  split
  · rfl
  · rw [h.trip, each_keeps q _ (fun s n => h.leg _ _ _)]
    split
    · exact h.rampsTakeFrt _
    · rfl

theorem TripBlind.actOn (s : State) (mask : Nat) (soft : Bool) : q (s.actOn mask soft) = q s := by
  unfold State.actOn
  refine each_keeps q _ (fun s g => ?_) _ _
  split
  · exact h.softOff _ _
  · exact h.hardOff _ _

theorem TripBlind.putSrc (s : State) (n : Nat) (b : Bool) : q (s.putSrc n b) = q s := by
  unfold State.putSrc State.wrBit; split <;> exact h.wr _ _ _ (by decide)

theorem TripBlind.putLatch (s : State) (n : Nat) (b : Bool) : q (s.putLatch n b) = q s := by
  unfold State.putLatch
  dsimp only
  have e : tripWord (if n < 32 then TRP.LATCH_LO.SRC else TRP.LATCH_HI.SRC).addr := by split <;> decide
  split
  · exact (h.hot _ _).trans (h.wr _ _ _ e)
  · exact h.wr _ _ _ e

theorem TripBlind.refreshTrips (s : State) : q s.refreshTrips = q s := by
  unfold State.refreshTrips
  dsimp only
  have e : ∀ (s : State) l, q (s.each l (fun s g => s.each (targetLegs g)
      (fun s n => s.wr (BND.CH.STATE.TRIPPED (legChannel n)) 0))) = q s :=
    fun s l => each_keeps q _ (fun s n => each_keeps q _ (fun s n => h.legState _ _ _ _ _) _ _) _ _
  have w : ∀ (s : State) (v v' : Nat), q ((s.wr TRP.TGT.TRIPPED v).wr TRP.TGT.LATCHED v') = q s :=
    fun s v v' => by rw [h.wr _ _ _ (by decide), h.wr _ _ _ (by decide)]
  repeat (first | rw [h.sys] | rw [h.trip] | rw [h.fault] | rw [e] | rw [w] | split)

theorem TripBlind.recordFirst (s : State) (b : Bool) (n : Nat) : q (s.recordFirst b n) = q s := by
  unfold State.recordFirst State.wr64
  dsimp only
  have hf : ∀ (s : State), q (if s.on TRP.FIRST.VALID = true then s else s.reelFault) = q s := fun s => by
    split; rfl; exact h.fault s
  split
  · rw [h.trip, h.regs _ _ _ (by decide), h.regs _ _ _ (by decide), h.wr _ _ _ (by decide), h.set _ _ (by decide), hf]
  · rfl

theorem TripBlind.assertSrc (s : State) (n : Nat) : q (s.assertSrc n) = q s := by
  unfold State.assertSrc
  dsimp only
  split
  · rfl
  · rw [h.refreshTrips, h.actOn]
    have hl : ∀ (s : State) (b : Bool), q (if b = true then s.putLatch n true else s) = q s := fun s b => by
      split; exact h.putLatch _ _ _; rfl
    split
    · rw [hl, h.putSrc]
    · rw [h.recordFirst, hl, h.putSrc]

theorem TripBlind.dropSrc (s : State) (n : Nat) : q (s.dropSrc n) = q s := by
  unfold State.dropSrc; rw [h.refreshTrips, h.putSrc]

theorem TripBlind.putSource (s : State) (n : Nat) (b : Bool) : q (s.putSource n b) = q s := by
  unfold State.putSource; split
  · exact h.assertSrc _ _
  · split
    · exact h.dropSrc _ _
    · rfl

theorem TripBlind.forceTrip (s : State) (n mask : Nat) : q (s.forceTrip n mask) = q s := by
  unfold State.forceTrip State.putForced
  dsimp only
  rw [h.refreshTrips, h.actOn, h.recordFirst, h.trip, h.putLatch]

theorem TripBlind.pulseSrc (s : State) (n : Nat) : q (s.pulseSrc n) = q s := by
  unfold State.pulseSrc; rw [h.start, h.assertSrc]
end

/-- A register word outside those the trip network writes is blind to it. -/
theorem tripBlind_word {a : Nat} (h : ¬ tripWord a) : TripBlind (fun s => s.word a) where
  regs s _ w hb := State.word_setWord_other s w (fun e => h (e ▸ hb))
  timers _ _ := rfl
  hot _ _ := rfl
  leg _ _ _ := rfl
  trip _ _ := rfl
  sys _ _ := rfl
  island _ _ _ := rfl
  unit _ _ _ := rfl
  reel _ _ _ := rfl
  ramps _ _ := rfl

/-- A field of such a word is blind to it. -/
theorem tripBlind_rd {f : Field} (h : ¬ tripWord f.addr) : TripBlind (fun s => s.rd f) where
  regs s _ w hb := State.rd_setWord_other s _ w f (fun e => h (e ▸ hb))
  timers _ _ := rfl
  hot _ _ := rfl
  leg _ _ _ := rfl
  trip _ _ := rfl
  sys _ _ := rfl
  island _ _ _ := rfl
  unit _ _ _ := rfl
  reel _ _ _ := rfl
  ramps _ _ := rfl

/-- The sequencer is blind to it. -/
theorem tripBlind_seq : TripBlind (fun s : State => s.seq) where
  regs _ _ _ _ := rfl
  timers _ _ := rfl
  hot _ _ := rfl
  leg _ _ _ := rfl
  trip _ _ := rfl
  sys _ _ := rfl
  island _ _ _ := rfl
  unit _ _ _ := rfl
  reel _ _ _ := rfl
  ramps _ _ := rfl

end Sys2Proof.Machine
end

