-- ==== Sys2Proof/Laws/Units.lean ====
section
/-!
SUPPORT. Reading a unit after a change of units (islands, feeds, channels, reels and the like).
-/
namespace Sys2Proof.Machine

theorem getD_updAt {α : Type} (l : List α) (i j : Nat) (f : α → α) (d : α) (h : i < l.length) :
    (updAt l i f).getD j d = if j = i then f (l.getD i d) else l.getD j d := by
  induction l generalizing i j with
  | nil => simp at h
  | cons x xs ih =>
    cases i with
    | zero => cases j <;> simp [updAt]
    | succ i =>
      cases j with
      | zero => simp [updAt]
      | succ j => simpa [updAt] using ih i j (by simpa using h)

theorem Units.get_upd {α : Type} {n : Nat} (u : Units α n) {i : Nat} (j : Nat) (f : α → α) (d : α) (h : i < n) :
    (u.upd i f).get j d = if j = i then f (u.get i d) else u.get j d :=
  getD_updAt u.list i j f d (by rw [u.len]; exact h)

theorem Units.get_upd_same {α : Type} {n : Nat} (u : Units α n) {i : Nat} (f : α → α) (d : α) (h : i < n) :
    (u.upd i f).get i d = f (u.get i d) := by rw [Units.get_upd u i f d h, if_pos rfl]

theorem updAt_beyond {α : Type} (l : List α) {i : Nat} (f : α → α) (h : l.length ≤ i) : updAt l i f = l := by
  induction l generalizing i with
  | nil => rfl
  | cons x xs ih =>
    cases i with
    | zero => simp at h
    | succ i => simp [updAt, ih (by simpa using h)]

theorem Units.get_upd_other {α : Type} {n : Nat} (u : Units α n) {i j : Nat} (f : α → α) (d : α) (h : j ≠ i) :
    (u.upd i f).get j d = u.get j d := by
  by_cases hi : i < n
  · rw [Units.get_upd u j f d hi, if_neg h]
  · have : u.upd i f = u := by
      cases u with | mk l hl => unfold Units.upd; congr 1; exact updAt_beyond l f (by omega)
    rw [this]

theorem Units.get_map {α β : Type} {n : Nat} (u : Units α n) (f : α → β) (i : Nat) (d : α) :
    (u.map f).get i (f d) = f (u.get i d) := by
  unfold Units.map Units.get
  simp only [List.getD_eq_getElem?_getD, List.getElem?_map]
  cases u.list[i]? <;> rfl

theorem State.island_modIsland (s : State) {n : Nat} (m : Nat) (f : Island → Island) (h : n < 14) :
    (s.modIsland n f).island m = if m = n then f (s.island n) else s.island m := Units.get_upd s.isl m f _ h

theorem State.reel_modReel (s : State) {r : Nat} (q : Nat) (f : Reel → Reel) (h : r < 16) :
    (s.modReel r f).reel q = if q = r then f (s.reel r) else s.reel q := Units.get_upd s.hist.reels q f _ h

end Sys2Proof.Machine
end

