-- ==== Sys2Proof/Tests/Slice0.lean ====
section
/-!
SUPPORT. Tests of the model on small states, and for every statement that has hypotheses a state and operands that
meet them.
-/
namespace Sys2Proof.Tests
set_option Elab.async false
open Sys2Proof Sys2Proof.Machine Sys2Proof.Machine.Reg

/-! ### Well-formed commands (R44, R318, R347, R427) -/

theorem test_load_latency : (Instr.load ⟨1, 0x600, 0x600, 0, 0, 0⟩ .good 14).wellFormed = true
    ∧ (Instr.load ⟨1, 0x600, 0x600, 0, 0, 0⟩ .good 0).wellFormed = false
    ∧ (Instr.load ⟨1, 0x600, 0x600, 0, 0, 0⟩ .good 15).wellFormed = false := by decide

theorem test_one_transfer_per_line :
    (Instr.extAccess 0 [⟨0, false, false, 0, 0⟩, ⟨1, false, false, 0, 0⟩] ⟨false, []⟩).wellFormed = true
    ∧ (Instr.extAccess 0 [⟨1, false, false, 0, 0⟩, ⟨1, false, false, 4, 0⟩] ⟨false, []⟩).wellFormed = false := by decide

theorem test_late_words : (Instr.regRead 0 0 2 [0, 1]).wellFormed = true
    ∧ (Instr.regRead 0 0 2 [2]).wellFormed = false := by decide

theorem test_sv_frame_has_asdus (h : NetHdr) : (Instr.svFrame 0 h true []).wellFormed = false := rfl

/-! ### Steps -/

/-- What a command leaves; the state after reset where it stops. -/
def left (o : Host.Outcome State Fault Refusal) : State := match o with | .next s => s | _ => State.reset

/-- No word spells a command, so the queue stays. -/
theorem test_no_word_is_a_command : State.reset.withFetchWord 32 0x12345678 = State.reset := rfl

theorem test_first_in_first_out : (left (step { State.reset with
    pending := [.digestCheck 3 true, .digestCheck 9 true] })).pending = [.digestCheck 9 true] := by decide +kernel

/-- R36: the frame period after reset is 4,000 cycles. -/
theorem test_reset_period : State.reset.rd SEQ.PERIOD.CYCLES = 4000 := by decide +kernel

/-- R36: 1,999 cycles are too few, and the reset value stands. -/
theorem test_short_period : (left (exec (.periodWrite 0 1999) State.reset)).on SEQ.STATUS.PERIOD_REJECT = true
    ∧ (left (exec (.periodWrite 0 1999) State.reset)).rd SEQ.PERIOD.CYCLES = 4000 := by decide +kernel

/-- R12: a one clears its W1C bit and no other. -/
theorem test_w1c : (left (exec (.registerFieldWrite 0 0x3008 0x01) (State.reset.setWord 0x3008 0x03))).word 0x3008 = 0x02 := by
  decide +kernel

/-- R388: the identity begins with the part number 0x8820. -/
theorem test_identity : (left (exec (.identify 0 ⟨2, 0, 0, 7, 0, 0, []⟩) (State.reset.wr SYS.STATE.CODE 4))).cue.entries.map
    (fun e => e.data.take 4) = [[0x20, 0x88, 0, 0]] := by decide +kernel

/-! ### Small states -/

/-- The state after reset with an operating state. -/
def inState (c : Nat) : State := State.reset.wr SYS.STATE.CODE c
/-- The same state at a much later instant. -/
def later (s : State) : State := { s with now := 10 ^ 20 }
/-- A timer that started at 0, and the state much later. -/
def since0 (s : State) (k : TimerKey) : State := later { s with timers := (k, 0) :: s.timers }
/-- Feed 2 waits in mode 2 with every start condition of R199. -/
def feedReadyState : State :=
  let s := ((((inState 8).wr (FED.STATE.STATE 2) 1).wr (FED.CFG.MODE 2) 2).set (BND.CH.CFG.ENABLE 5)).set
    (PWM.CU.CFG.ENABLE 3)
  let s := ((s.wr (PWM.CU.CFG.SRC 3) 0).wr TRP.TGT.TRIPPED 0).modFeed 2 (fun f => { f with fixNew := true })
  let s := (s.wr (FED.CFG.VSRC 2) 0).modChan 0 (fun c => { c with cur := { fix := 2 ^ 19, ok := true } })
  let s := s.modTrip (fun t => { t with vUp := 2 ^ 20 })
  { s with eff := (State.reset.wr (FED.FIX.VFIX 2) 5000).regs }
/-- Chips whose impedance is 4 pu. -/
def zChips : List Chip := [{ vRe := ⟨4, 0⟩, vIm := ⟨0, 0⟩, iRe := ⟨1, 0⟩, iIm := ⟨0, 0⟩, minus := true }]
/-- A context block of zeros but for a destination and a rate of 4,800 samples a second. -/
def ctxBlock : List Byte := [1, 0, 0, 3, 0, 0, 0, 0, 0, 2, 0, 0, 0, 0, 0, 0, 0, 0, 0xC0, 0x12] ++ List.replicate 44 0
/-- A sampled-value subscription. -/
def svCtx0 : Ctx := { idx := 3, kind := 1, block := ctxBlock }
/-- A GOOSE subscription. -/
def gooseCtx0 : Ctx := { idx := 3, kind := 3, block := ctxBlock }
/-- Port A enabled and one context. -/
def busState (c : Ctx) : State := (State.reset.wr NET.CTRL.PA_EN 1).modBus (fun b => { b with ctxs := [c] })
/-- A cue of the host port's session 0. -/
def cue (p : List Byte) : Cue := ⟨2, 0, 0, 7, 0, 0, p⟩
/-- Comparator 3 may be tested. -/
def testReady : State := (inState 4).set (CMP.CFG.EN 3)
/-- A discharge may start. -/
def dischargeState : State :=
  let s := (((inState 10).wr TRP.TGT.TRIPPED 0).set (ISL.STATUS.LINK_UP 12)).set (ISL.STATUS.LINK_UP 13)
  (s.wr SYS.RAT_DC.VDC 8000).modTrip (fun t => { t with vUp := 2 ^ 20, vLo := 2 ^ 20, vUpOk := true })
/-- A running frame with a few words of state memory that fetches a shot of an opcode number. -/
def runState (op : Nat) (w : Shot) : State :=
  let word := (((((op * 2 ^ 4 + w.lanes.toNat) * 2 ^ 13 + w.dst.toNat) * 2 ^ 13 + w.srcA.toNat) * 2 ^ 13 + w.srcB.toNat) * 2 ^ 12
    + w.coef.toNat) * 8 + w.mode.toNat
  ((State.reset.wr SEQ.MODE.ACTIVE 0).modActive (fun b => { b with
    valid := true, scenes := [{ first := 0, len := 2 }], shots := [(0, BitVec.ofNat 64 word)] })).modSeq (fun q => { q with
    phase := .running, st := [(0x610, 0x3F800000), (0x611, 0x40490FDB),
    (0x612, 0xC0000000), (0x613, 0x3E800000), (0x614, 0x41200000), (0x615, 0x42000000), (0x616, 0x40000000),
    (0x617, 0x3F000000)] })
/-- Channel n enabled. -/
def chan1 (n : Nat) : State := State.reset.set (MOD.CH.CFG.ENABLE n)
/-- A point of setpoint 5 with handle 7 that clients may control. -/
def setPoint5 : Point :=
  { record := [5, 4, 0, 0, 1, 0, 32, 1] ++ List.replicate 12 0 ++ [7, 0, 0, 0, 0, 0, 1, 0] ++ List.replicate 36 1 }
/-- A block for a GOOSE subscription of one member. -/
def ctxBytes : List Byte := [3, 3, 0, 1] ++ List.replicate 20 0 ++ [30, 0, 1, 65, 1, 66, 0]
/-- A device of the profile names context 3. -/
def namedCtx : State := ((inState 2).set (ISD.DEV.EN 5)).wr (ISD.DEV.CTX 5) 3
/-- A stored record of reel 3. -/
def aRecord : Record :=
  { reel := 3, taps := [0x100], cfg := 0, trigTime := 9, trigRow := 4, cause := 8, short := false, period := 4000,
    rows := [], events := [] }
/-- Reel 3 is configured and has room. -/
def armReady : State := ((inState 4).modReel 3 (fun x => { x with conf := true, taps := [0x100] })).wr (REL.AREA.SIZE 3) 100
/-- Reel 3 is armed, with one record. -/
def armed3 : State :=
  (armReady.wr (REL.STATUS.STATE 3) 3).modReel 3 (fun x => { x with records := [aRecord], taps := [0x100] })
/-- Reel 3 holds a record. -/
def withRecord : State := (inState 4).modReel 3 (fun x => { x with records := [aRecord] })
/-- The archive holds record 7. -/
def withFile : State := (inState 4).modHist (fun h => { h with files := [(7, 99, [1, 2, 3])] })
/-- A record of reel 3 ends. -/
def ended3 : State := (inState 4).modReel 3 (fun x => { x with ended := true })
/-- A log entry of zeros. -/
def anEntry : LogEntry := ⟨0, 0, 0, 0, 0, 0, 0, 0⟩
/-- The ring holds entries 3 and 4. -/
def logged : State := { (inState 4).wr64 LOG.NEXT.INDEX 5 with log := { State.reset.log with ring := [anEntry, anEntry] } }
/-- The same, the archive present and nothing of it known to be spilled. -/
def spillable : State := logged.wr MEM.STATUS.EMMC_ABSENT 0
/-- The bytes of a cue of an opcode and a class, sequence 7, with their CRC. -/
def cueWords (op cls : Nat) (p : List Byte) : List Byte :=
  let b := [1, 0] ++ leBytes 2 op ++ leBytes 2 7 ++ leBytes 2 p.length ++ [0, 0, 0] ++ leBytes 1 cls ++ leBytes 4 0 ++ p
  b ++ leBytes 4 (crc32 b).toNat
/-- A state of the host port with a free slot. -/
def hostState : State := (inState 4).wr HOST.STATUS.IN_FREE 5
/-- Slot 0 has channel 3, whose window of a supraharmonic transform is full. -/
def fullWindow : State :=
  (State.reset.setWord 0x4010 0x83).modChan 3 (fun c => { c with supWin := List.replicate 15625 0 })
/-- A device that ticks, its last tick at an SCLK cycle; a write of the period waits. -/
def tickReady (c : Nat) : State :=
  let s : State := { inState 4 with pend := [{ space := .reg, addr := 0x3000, val := 2500, cycle := 5 }] }
  (s.modSeq (fun q => { q with ticked := true, tickCycle := c, period := 4000 })).modSys (fun y => { y with dark := false })
/-- A running frame of the stock script in scene 2. -/
def stockState : State :=
  ((State.reset.wr SEQ.MODE.ACTIVE 2).modActive (fun _ => stockBank)).modSeq (fun q => { q with phase := .running })
/-- Unit n enabled in RUN with nothing tripped. -/
def driveState (n : Nat) : State := ((inState 8).set (PWM.CU.CFG.ENABLE n)).wr TRP.TGT.TRIPPED 0
/-- Unit 3 of feed 2 in band mode, enabled and free to drive. -/
def feedDrives : State :=
  (((driveState 3).wr (PWM.CU.CFG.SRC 3) 0).wr (BND.CH.CFG.LEVELS 5) 0).wr (PWM.CU.CFG.COMP 3) 0
/-- Unit 10 in direct mode, enabled and free to drive its pins. -/
def auxDrives : State :=
  ((((driveState 10).wr (PWM.CU.CFG.SRC 10) 1).wr PWM.PINSEL.AUX 15).wr (PWM.CU.PRD.ACTIVE 10) 1000).wr
    (PWM.CU.CMPA_ACT.VALUE 10) 0x8000
/-- Settings with every bit set. -/
def allCfg : List (Nat × Byte) := cfgItems.map (fun k => (k, 255))
/-- Island n changed, much later than reset. -/
def islLater (n : Nat) (f : Island → Island) : State := later (State.reset.modIsland n f)
/-- A CFG frame sent once. -/
def anEcho : Echo := { seq := 4, done := 0, frame := .cfg 3 9 }

/-! ### Shots (R44) -/

/-- What a shot leaves of a running frame that fetches it. -/
def ran (op : Nat) (f : Shot → ShotCheck → Instr) (w : Shot) : State := left (exec (f w .good) (runState op w))

theorem test_add : (ran 2 .add ⟨1, 0x620, 0x610, 0x616, 0, 0⟩).sw 0x620 = 0x40400000 := by decide +kernel
theorem test_sub : (ran 3 .sub ⟨1, 0x620, 0x610, 0x616, 0, 0⟩).sw 0x620 = 0xBF800000 := by decide +kernel
theorem test_mul : (ran 4 .mul ⟨1, 0x620, 0x616, 0x616, 0, 0⟩).sw 0x620 = 0x40800000 := by decide +kernel
theorem test_min_takes_the_lower : (ran 6 .min ⟨1, 0x620, 0x616, 0x612, 0, 0⟩).sw 0x620 = 0xC0000000 := by decide +kernel
theorem test_max_takes_the_higher : (ran 7 .max ⟨1, 0x620, 0x616, 0x612, 0, 0⟩).sw 0x620 = 0x40000000 := by decide +kernel
theorem test_abs : (ran 12 .abs ⟨1, 0x620, 0x612, 0, 0, 0⟩).sw 0x620 = 0x40000000 := by decide +kernel
theorem test_sqrt : (ran 13 .sqrt ⟨1, 0x620, 0x613, 0, 0, 0⟩).sw 0x620 = 0x3F000000 := by decide +kernel
theorem test_sqrt_of_a_negative : (ran 13 .sqrt ⟨1, 0x620, 0x612, 0, 0, 0⟩).on SEQ.STATUS.DOMAIN = true := by decide +kernel
theorem test_recip : (ran 14 .recip ⟨1, 0x620, 0x616, 0, 0, 0⟩).sw 0x620 = 0x3F000000 := by decide +kernel
theorem test_recip_of_zero : (ran 14 .recip ⟨1, 0x620, 0x618, 0, 0, 0⟩).on SEQ.STATUS.DOMAIN = true := by decide +kernel

/-- R49: a shot that the scene's bank does not hold is a mismatch of the fetch and writes nothing. -/
theorem test_shot_of_another_word : (left (exec (.add ⟨1, 0x620, 0x610, 0x616, 0, 0⟩ .good)
    (runState 2 ⟨1, 0x621, 0x610, 0x616, 0, 0⟩))).sw 0x620 = 0 := by decide +kernel

/-! ### Link frames (R157, R158) -/

/-- A PING of SEQ 5 and payload 0x1234 carries its type, ARG and SEQ in bits 31:24; a flipped bit fails its CRC. -/
theorem test_link_frame : (linkFrame 0 0 5 0x1234).extractLsb' 8 24 = 0x051234
    ∧ frameGood (linkFrame 0 0 5 0x1234) = true ∧ frameGood (linkFrame 0 0 5 0x1234 ^^^ 0x100) = false := by decide +kernel

/-! ### States and operands that meet the hypotheses -/

/-- An address other than the device's own. -/
theorem another_mac : Config.mac + 1 ≠ Config.mac := by
  generalize Config.mac = m
  bv_omega

/-- The hypotheses of ShotsWriteTheLanesOfArithmetic can be met. -/
theorem witness_ShotsWriteTheLanesOfArithmetic :
    (∃ (s : State) (w : Shot), ShotRuns s .mov w 1) ∧
    (∃ (s : State) (w : Shot), ShotRuns s .add w 1) ∧
    (∃ (s : State) (w : Shot), ShotRuns s .sub w 1) ∧
    (∃ (s : State) (w : Shot), ShotRuns s .mul w 1) ∧
    (∃ (s : State) (w : Shot), ShotRuns s .fma w 1) ∧
    (∃ (s : State) (w : Shot), ShotRuns s .min w 1) ∧
    (∃ (s : State) (w : Shot), ShotRuns s .max w 1) ∧
    (∃ (s : State) (w : Shot), ShotRuns s .lim w 1) ∧
    (∃ (s : State) (w : Shot), ShotRuns s .abs w 1) :=
  ⟨⟨runState 1 ⟨5, 0x640, 0x610, 0, 0, 0⟩, ⟨5, 0x640, 0x610, 0, 0, 0⟩, by unfold ShotRuns; decide +kernel⟩,
    ⟨runState 2 ⟨15, 0x610, 0x610, 0x611, 0, 0⟩, ⟨15, 0x610, 0x610, 0x611, 0, 0⟩, by unfold ShotRuns; decide +kernel⟩,
    ⟨runState 3 ⟨15, 0x610, 0x610, 0x611, 0, 0⟩, ⟨15, 0x610, 0x610, 0x611, 0, 0⟩, by unfold ShotRuns; decide +kernel⟩,
    ⟨runState 4 ⟨15, 0x610, 0x610, 0x611, 0, 0⟩, ⟨15, 0x610, 0x610, 0x611, 0, 0⟩, by unfold ShotRuns; decide +kernel⟩,
    ⟨runState 5 ⟨15, 0x610, 0x610, 0x611, 3, 4⟩, ⟨15, 0x610, 0x610, 0x611, 3, 4⟩, by unfold ShotRuns; decide +kernel⟩,
    ⟨runState 6 ⟨15, 0x611, 0x610, 0x611, 0, 0⟩, ⟨15, 0x611, 0x610, 0x611, 0, 0⟩, by unfold ShotRuns; decide +kernel⟩,
    ⟨runState 7 ⟨15, 0x611, 0x610, 0x611, 0, 0⟩, ⟨15, 0x611, 0x610, 0x611, 0, 0⟩, by unfold ShotRuns; decide +kernel⟩,
    ⟨runState 8 ⟨15, 0x612, 0x610, 0x614, 0, 1⟩, ⟨15, 0x612, 0x610, 0x614, 0, 1⟩, by unfold ShotRuns; decide +kernel⟩,
    ⟨runState 12 ⟨15, 0x612, 0x610, 0, 0, 0⟩, ⟨15, 0x612, 0x610, 0, 0, 0⟩, by unfold ShotRuns; decide +kernel⟩⟩

/-- The hypotheses of ShotsWriteTheLanesOfIntegrationAndTables can be met. -/
theorem witness_ShotsWriteTheLanesOfIntegrationAndTables :
    (∃ (s : State) (w : Shot), ShotRuns s .int w 1) ∧
    (∃ (s : State) (w : Shot), ShotRuns s .lpf w 1) ∧
    (∃ (s : State) (w : Shot), ShotRuns s .sqrt w 4) ∧
    (∃ (s : State) (w : Shot), ShotRuns s .recip w 4) ∧
    (∃ lat : Nat, lat ≤ 14 ∧ ∃ (s : State) (w : Shot), ShotRuns s .load w lat) ∧
    (∃ (s : State) (w : Shot), ShotRuns s .sqrt w 4) ∧
    (∃ (s : State) (w : Shot), ShotRuns s .recip w 4) ∧
    (∃ lat : Nat, lat ≤ 14 ∧ ∃ (s : State) (w : Shot), ShotRuns s .load w lat) :=
  ⟨⟨runState 9 ⟨15, 0x612, 0x610, 0x614, 3, 1⟩, ⟨15, 0x612, 0x610, 0x614, 3, 1⟩, by unfold ShotRuns; decide +kernel⟩,
    ⟨runState 10 ⟨15, 0x612, 0x610, 0, 3, 0⟩, ⟨15, 0x612, 0x610, 0, 3, 0⟩, by unfold ShotRuns; decide +kernel⟩,
    ⟨runState 13 ⟨15, 0x612, 0x610, 0, 0, 0⟩, ⟨15, 0x612, 0x610, 0, 0, 0⟩, by unfold ShotRuns; decide +kernel⟩,
    ⟨runState 14 ⟨15, 0x612, 0x610, 0, 0, 0⟩, ⟨15, 0x612, 0x610, 0, 0, 0⟩, by unfold ShotRuns; decide +kernel⟩,
    ⟨14, by decide, runState 19 ⟨15, 0x612, 0x610, 0, 3, 0⟩, ⟨15, 0x612, 0x610, 0, 3, 0⟩, by unfold ShotRuns; decide +kernel⟩,
    ⟨runState 13 ⟨15, 0x612, 0x610, 0, 0, 0⟩, ⟨15, 0x612, 0x610, 0, 0, 0⟩, by unfold ShotRuns; decide +kernel⟩,
    ⟨runState 14 ⟨15, 0x612, 0x614, 0, 0, 0⟩, ⟨15, 0x612, 0x614, 0, 0, 0⟩, by unfold ShotRuns; decide +kernel⟩,
    ⟨14, by decide, runState 19 ⟨15, 0x612, 0x610, 0, 3, 0⟩, ⟨15, 0x612, 0x610, 0, 3, 0⟩, by unfold ShotRuns; decide +kernel⟩⟩

/-- The hypotheses of ShotsWriteSeveralWordsOrStage can be met. -/
theorem witness_ShotsWriteSeveralWordsOrStage :
    (∃ (s : State) (w : Shot), ShotRuns s .dif w 1) ∧
    (∃ (s : State) (w : Shot), ShotRuns s .sincos w 4) ∧
    (∃ (s : State) (w : Shot), ShotRuns s .clarke w 1) ∧
    (∃ (s : State) (w : Shot), ShotRuns s .park w 1) ∧
    (∃ (s : State) (w : Shot), ShotRuns s .ipark w 1) ∧
    (∃ (s : State) (w : Shot), ShotRuns s .pub w 1) ∧
    (∃ (s : State) (w : Shot), ShotRuns s .store w 1) :=
  ⟨⟨runState 11 ⟨15, 0x612, 0x610, 0x614, 3, 0⟩, ⟨15, 0x612, 0x610, 0x614, 3, 0⟩, by unfold ShotRuns; decide +kernel⟩,
    ⟨runState 15 ⟨15, 0x612, 0x610, 0, 0, 0⟩, ⟨15, 0x612, 0x610, 0, 0, 0⟩, by unfold ShotRuns; decide +kernel⟩,
    ⟨runState 16 ⟨7, 0x612, 0x610, 0, 0, 0⟩, ⟨7, 0x612, 0x610, 0, 0, 0⟩, by unfold ShotRuns; decide +kernel⟩,
    ⟨runState 17 ⟨3, 0x612, 0x610, 0x614, 0, 0⟩, ⟨3, 0x612, 0x610, 0x614, 0, 0⟩, by unfold ShotRuns; decide +kernel⟩,
    ⟨runState 18 ⟨3, 0x612, 0x610, 0x614, 0, 0⟩, ⟨3, 0x612, 0x610, 0x614, 0, 0⟩, by unfold ShotRuns; decide +kernel⟩,
    ⟨runState 21 ⟨15, 0, 0x610, 0, 3, 0⟩, ⟨15, 0, 0x610, 0, 3, 0⟩, by unfold ShotRuns; decide +kernel⟩,
    ⟨runState 20 ⟨15, 0, 0x610, 0, 8, 0⟩, ⟨15, 0, 0x610, 0, 8, 0⟩, by unfold ShotRuns; decide +kernel⟩⟩

/-- The hypotheses of EndEndsTheFrame can be met. -/
theorem witness_EndEndsTheFrame :
    (∃ (s : State) (r : Nat), s.seq.phase = .running ∧ s.fetches none ⟨0, 0, 0, 0, 0, 0⟩ = true ∧ r = max
      (s.seq.lastIssue + 1) s.seq.lastReady + 1 ∧ r < s.seq.period ∧ s.seq.period ≤ 20000) ∧
    (∃ (s : State), s.seq.phase = .running ∧ s.stockFrame = true ∧ s.sceneEntry.worst < s.seq.period ∧ s.seq.period
      ≤ 20000) :=
  ⟨⟨runState 63 ⟨0, 0, 0, 0, 0, 0⟩, 3, by decide +kernel⟩,
    ⟨stockState, by decide +kernel⟩⟩

/-- The hypotheses of BadShotsEndTheFrame can be met. -/
theorem witness_BadShotsEndTheFrame :
    (∃ e ∈ shotTable, ∃ (s : State) (w : Shot), ShotRuns s e.2 w 1) ∧
    (∃ e ∈ shotTable, ∃ (s : State) (w : Shot) (c : ShotCheck), s.seq.phase = .running ∧ (c = .uncorrectable ∨
      (s.fetches (some e.2) w = true ∧ e.2.legal s.activeBank.res w = false))) :=
  ⟨⟨(Instr.mov, ShotOp.mov), by simp [shotTable], runState 1 ⟨5, 0x640, 0x610, 0, 0, 0⟩, ⟨5, 0x640, 0x610, 0, 0, 0⟩, by unfold ShotRuns; decide +kernel⟩,
    ⟨(Instr.mov, ShotOp.mov), by simp [shotTable], runState 1 ⟨5, 0x640, 0x610, 0, 0, 0⟩, ⟨5, 0x640, 0x610, 0, 0, 0⟩, .uncorrectable, rfl, Or.inl rfl⟩⟩

/-- The hypotheses of SamplesAndMonitors can be met. -/
theorem witness_SamplesAndMonitors :
    (∃ (s : State) (t : Time) (n : Fin 40) (_ : BitVec 64) (_ : Bool), s.on (MOD.CH.CFG.ENABLE n) = true ∧ (s.at'
      t).windowEnds n = true ∧ s.on (MOD.CH.STATUS.VALID_C n) = true) ∧
    (∃ (s : State) (t : Time) (n : Fin 40) (_ : BitVec 64) (_ : Bool), s.on (MOD.CH.CFG.ENABLE n) = true ∧ (s.at'
      t).windowEnds n = true ∧ s.on (MOD.CH.STATUS.VALID_C n) = false) ∧
    (∃ (s : State) (_ : Time) (n : Fin 40) (_ : BitVec 24), s.on (MOD.CH.CFG.ENABLE n) = true ∧ mtrOsr s n ≤
      (s.chan n).newM) ∧
    (∃ (s : State) (_ : Time) (n : Fin 16) (_ : BitVec 24), (slotOf s n).isSome = true ∧ 64 ≤ (s.chan n).newS) ∧
    (∃ (s : State) (_ : Time) (n : Fin 40), s.on (MOD.CH.CFG.ENABLE n) = true ∧ s.on (MOD.CH.STATUS.STUCK_NOW n) =
      false ∧ s.still n = true) ∧
    (∃ (s : State) (_ : Time) (n : Fin 40) (rate : Option (BitVec 16)), s.on (MOD.CH.CFG.ENABLE n) = true ∧ s.on
      (MOD.CH.STATUS.NOCLK_NOW n) = false ∧ rate.all (fun r => !onModule n && rateError s n r.toNat) = true) ∧
    (∃ (s : State) (_ : Time) (n : Fin 40) (r : BitVec 16), s.on (MOD.CH.CFG.ENABLE n) = true ∧ s.on
      (MOD.CH.STATUS.NOCLK_NOW n) = true ∧ onModule n = false ∧ rateError s n r.toNat = false) ∧
    (∃ (s : State) (t : Time) (n : Fin 40), (s.chan n).lost = true ∧ s.on (MOD.CH.STATUS.STUCK_NOW n) = false ∧
      s.on (MOD.CH.STATUS.NOCLK_NOW n) = false ∧ elapsedBits (s.at' t) n (s.chan n).lostAt 4096 = true) ∧
    (∃ (s : State) (t : Time) (n : Fin 40) (p : Fin 3), s.on (MOD.CH.CFG.ENABLE n) = true ∧ (s.chan n).lost = false
      ∧ pathSettle (s.at' t) n p = true) ∧
    (∃ (s : State) (_ : Time) (n : Fin 40), s.on (MOD.CH.CFG.ENABLE n) = true ∧ s.on (MOD.CH.STATUS.OVR_NOW n) =
      false ∧ s.rd (MOD.CH.MON_CFG.OVR_FILT n) + 1 ≤ (s.chan n).ovrUp) ∧
    (∃ (s : State) (_ : Time) (n : Fin 40), s.on (MOD.CH.CFG.ENABLE n) = true ∧ s.on (MOD.CH.STATUS.OVR_NOW n) =
      true ∧ s.rd (MOD.CH.MON_CFG.OVR_FILT n) + 1 ≤ (s.chan n).ovrDn) :=
  ⟨⟨(chan1 20).set (MOD.CH.STATUS.VALID_C 20), 0, 20, 0x1234567812345678, false, by decide +kernel⟩,
    ⟨chan1 20, 0, 20, 0x1234567812345678, false, by decide +kernel⟩,
    ⟨(chan1 3).modChan 3 (fun c => { c with newM := 100000 }), 0, 3, 0x800000, by decide +kernel⟩,
    ⟨(State.reset.setWord 0x4010 0x83).modChan 3 (fun c => { c with newS := 70 }), 0, 3, 5, by decide +kernel⟩,
    ⟨chan1 3, 0, 3, by decide +kernel⟩,
    ⟨chan1 3, 0, 3, none, by decide +kernel⟩,
    ⟨(chan1 20).set (MOD.CH.STATUS.NOCLK_NOW 20), 0, 20, 20000, by decide +kernel⟩,
    ⟨later ((chan1 3).modChan 3 (fun c => { c with lost := true })), 0, 3, by decide +kernel⟩,
    ⟨later ((chan1 3).modChan 3 (fun c => { c with lost := false })), 0, 3, 0, by decide +kernel⟩,
    ⟨(chan1 3).modChan 3 (fun c => { c with ovrUp := 300 }), 0, 3, by decide +kernel⟩,
    ⟨((chan1 3).set (MOD.CH.STATUS.OVR_NOW 3)).modChan 3 (fun c => { c with ovrDn := 300 }), 0, 3, by decide +kernel⟩⟩

/-- The hypotheses of SlotsCalibrationVisitsAndHousekeeping can be met. -/
theorem witness_SlotsCalibrationVisitsAndHousekeeping :
    (∃ (s : State) (_ : Time) (hi : Bool) (v : Word), slotsLegal v (slotsWith s hi v) = true) ∧
    (∃ (s : State) (_ : Time) (hi : Bool) (v : Word), slotsLegal v (slotsWith s hi v) = false) ∧
    (∃ (s : State) (_ : Time) (n : Fin 16), s.on MOD.CTRL.BG_CAL_EN = true ∧ s.meas.bg = none ∧ s.bgDue = some
      n.val) ∧
    (∃ (s : State) (_ : Time) (n : Fin 16) (b : BgRun), s.meas.bg = some b ∧ b.ch = n.val ∧ b.sub = false ∧ 4096 ≤
      b.count) ∧
    (∃ (s : State) (_ : Time) (n : Fin 16) (b : BgRun), s.meas.bg = some b ∧ b.ch = n.val ∧ b.sub = true ∧ 4096 ≤
      b.count) ∧
    (∃ (s : State) (_ : Time) (_ : Fin 16) (b : BgRun), s.meas.bg = some b) ∧
    (∃ (s : State) (t : Time) (_ _ : Word), s.meas.hk.at' + s.hkPeriod ≤ max s.now t ∧ (s.rd MOD.HK_CTL.EN).testBit
      s.meas.hk.input = true ∧ s.meas.hk.fresh = true) ∧
    (∃ (s : State) (t : Time) (_ _ : Word), s.meas.hk.at' + s.hkPeriod ≤ max s.now t ∧ (s.rd MOD.HK_CTL.EN).testBit
      s.meas.hk.input = true ∧ s.meas.hk.fresh = false ∧ s.meas.hk.count + 1 < 2 ^ s.meas.hk.shift) ∧
    (∃ (s : State) (t : Time) (_ _ : Word), s.meas.hk.at' + s.hkPeriod ≤ max s.now t ∧ (s.rd MOD.HK_CTL.EN).testBit
      s.meas.hk.input = true ∧ s.meas.hk.fresh = false ∧ 2 ^ s.meas.hk.shift ≤ s.meas.hk.count + 1) :=
  ⟨⟨State.reset, 0, false, 0x83, by decide +kernel⟩,
    ⟨State.reset, 0, false, 0x8383, by decide +kernel⟩,
    ⟨(chan1 3).set MOD.CTRL.BG_CAL_EN, 0, 3, by decide +kernel⟩,
    ⟨State.reset.modMeas (fun m => { m with bg := some { ch := 3, count := 4096 } }), 0, 3, { ch := 3, count := 4096 }, by decide +kernel⟩,
    ⟨(State.reset.set (MOD.CH.STATUS.SPARE 3)).modMeas (fun m => { m with bg := some { ch := 3, sub := true, count := 4096, sz := ⟨5, -9⟩ } }), 0, 3, { ch := 3, sub := true, count := 4096, sz := ⟨5, -9⟩ }, by decide +kernel⟩,
    ⟨(State.reset.set (MOD.CH.STATUS.SPARE 3)).modMeas (fun m => { m with bg := some { ch := 3, sub := true } }), 0, 3, { ch := 3, sub := true }, by decide +kernel⟩,
    ⟨later ((State.reset.wr MOD.HK_CTL.EN 3).modMeas (fun m => { m with hk := { m.hk with fresh := true } })), 0, 9, 7, by decide +kernel⟩,
    ⟨later ((State.reset.wr MOD.HK_CTL.EN 3).modMeas (fun m => { m with hk := { m.hk with fresh := false, shift := 4 } })), 0, 9, 7, by decide +kernel⟩,
    ⟨later ((State.reset.wr MOD.HK_CTL.EN 3).modMeas (fun m => { m with hk := { m.hk with fresh := false, shift := 4, count := 300, sum := 4000 } })), 0, 9, 7, by decide +kernel⟩⟩

/-- The hypotheses of SyncSampleWrapsAndQueries can be met. -/
theorem witness_SyncSampleWrapsAndQueries :
    (∃ (s : State) (t : Time), s.sync.lastWin ≠ some (winIndex (s.at' t).tai - 1)) ∧
    (∃ (s : State) (t : Time), s.sync.lastWin = some (winIndex (s.at' t).tai - 1)) ∧
    (∃ (s : State) (t : Time), s.sync.lastWin ≠ some (winIndex (s.at' t).tai - 1) ∧ s.on SYN.CTRL.ENABLE = false ∧
      s.rd SYN.STATUS.STATE ≠ syOFF) ∧
    (∃ (s : State) (t : Time), s.sync.lastWin ≠ some (winIndex (s.at' t).tai - 1) ∧ s.on SYN.CTRL.ENABLE = true ∧
      s.rd SYN.STATUS.STATE = syOFF) ∧
    (∃ (s : State) (t : Time), s.sync.lastWin ≠ some (winIndex (s.at' t).tai - 1) ∧ s.on SYN.CTRL.ENABLE = true ∧
      (s.rd SYN.STATUS.STATE = syACQUIRE ∨ s.rd SYN.STATUS.STATE = syLOCKED) ∧ ((s.at' t).syncIn (winIndex (s.at'
      t).tai - 1)).ok = false) ∧
    (∃ (s : State) (t : Time), s.sync.lastWin ≠ some (winIndex (s.at' t).tai - 1) ∧ s.on SYN.CTRL.ENABLE = true) ∧
    (∃ (s : State) (t : Time) (tw : Nat) (rest : List Nat), s.sync.wraps ++ s.sync.loc.zeros (s.at' t).cycle = tw
      :: rest) ∧
    (∃ (s : State) (t : Time) (tw t0 f0 : Nat) (rest : List Nat) (h : List (Nat × Nat)), s.sync.wraps ++
      s.sync.loc.zeros (s.at' t).cycle = tw :: rest ∧ s.rd SYN.STATUS.STATE ≠ syOFF ∧ s.sync.wrapHist = (f0, t0) ::
      h ∧ t0 < tw) :=
  ⟨⟨State.reset, 0, by decide +kernel⟩,
    ⟨State.reset.modSync (fun y => { y with lastWin := some 0 }), 0, by decide +kernel⟩,
    ⟨((State.reset.wr SYN.CTRL.ENABLE 0).wr SYN.STATUS.STATE syLOCKED).wr SYN.F_PC.VALUE 50000000, 0, by decide +kernel⟩,
    ⟨(State.reset.set SYN.CTRL.ENABLE).wr SYN.F_PC.VALUE 50000000, 0, by decide +kernel⟩,
    ⟨(State.reset.set SYN.CTRL.ENABLE).wr SYN.STATUS.STATE syLOCKED, 0, by decide +kernel⟩,
    ⟨State.reset.set SYN.CTRL.ENABLE, 0, by decide +kernel⟩,
    ⟨State.reset.modSync (fun y => { y with wraps := [5, 7] }), 0, 5, [7], by decide +kernel⟩,
    ⟨(State.reset.wr SYN.STATUS.STATE syLOCKED).modSync (fun y => { y with wraps := [20000000], wrapHist := [(5, 7)] }), 0, 20000000, 7, 5, [], [], by decide +kernel⟩⟩

/-- The hypotheses of SynchronizerStatesAndEvents can be met. -/
theorem witness_SynchronizerStatesAndEvents :
    (∃ (s : State) (_ : Time), s.rd SYN.STATUS.STATE = syACQUIRE ∧ s.on SYN.CTRL.ENABLE = true ∧ 2 ^ 32 ≤
      s.sync.loc.lockArc ∧ 81 * hz32 ≤ 2 * s.sync.loc.f ∧ 2 * s.sync.loc.f ≤ 143 * hz32) ∧
    (∃ (s : State) (_ : Time) (f : Int) (a : Nat), s.rd SYN.STATUS.STATE = syLOCKED ∧ s.rd SYN.LOW.FILT + 1 ≤
      s.sync.lowRun ∧ (s.on SYN.STATUS.BORROW_OK && s.on SYN.CTRL.BORROW_EN) = false ∧ s.sync.back[s.rd
      SYN.LOW.FILT + 1]? = some (f, a)) ∧
    (∃ (s : State) (_ : Time), s.rd SYN.STATUS.STATE = syLOCKED ∧ s.rd SYN.LOW.FILT + 1 ≤ s.sync.lowRun ∧ (s.on
      SYN.STATUS.BORROW_OK && s.on SYN.CTRL.BORROW_EN) = true) ∧
    (∃ (s : State) (_ : Time), (s.rd SYN.STATUS.STATE = syHOLD ∨ s.rd SYN.STATUS.STATE = syBORROW) ∧ s.rd
      SYN.LOW.FILT + 1 ≤ s.sync.highRun ∧ s.on SYN.CTRL.ENABLE = true) ∧
    (∃ (s : State) (_ : Time), s.rd SYN.STATUS.STATE = syLOST ∧ s.rd SYN.LOW.FILT + 1 ≤ s.sync.highRun ∧ s.on
      SYN.CTRL.ENABLE = true) ∧
    (∃ (s : State) (_ : Time), s.rd SYN.STATUS.STATE = syLOCKED ∧ 16 ≤ s.sync.clampRun ∧ s.sync.lowRun < s.rd
      SYN.LOW.FILT + 1) ∧
    (∃ (s : State) (_ : Time), s.rd SYN.STATUS.STATE = syHOLD ∧ s.rd SYN.HOLD.TIME * 100000 ≤ s.sync.holdN * 1024 ∧
      s.sync.highRun < s.rd SYN.LOW.FILT + 1) ∧
    (∃ (s : State) (_ : Time), s.rd SYN.STATUS.STATE = syLOCKED ∧ s.rd SYN.JUMP_CFG.FILT + 1 ≤ s.sync.jumpN) ∧
    (∃ (s : State) (_ : Time), s.on SYN.STATUS.REALIGN = true ∧ 16 ≤ s.sync.realignRun) ∧
    (∃ (s : State) (t : Time), s.on SYN.STATUS.REALIGN = true ∧ (s.at' t).due .realign ms = true) ∧
    (∃ (s : State) (t : Time) (t0 : Time), s.sync.beyond = some t0 ∧ t0 + sec ≤ max s.now t) ∧
    (∃ (s : State) (t : Time) (t0 : Time), s.sync.beyond = none ∧ s.sync.within = some t0 ∧ t0 + sec ≤ max s.now t) ∧
    (∃ (s : State) (_ : Time), 4 ≤ s.sync.rateRun ∧ s.rd SYN.STATUS.STATE ≠ syOFF) :=
  ⟨⟨((State.reset.wr SYN.STATUS.STATE syACQUIRE).set SYN.CTRL.ENABLE).modSync (fun y => { y with loc := { y.loc with lockArc := 2^32, f := 50 * hz32 } }), 0, by decide +kernel⟩,
    ⟨(State.reset.wr SYN.STATUS.STATE syLOCKED).modSync (fun y => { y with lowRun := 99, back := List.replicate 60 (49 * hz32, 12345) }), 0, 49 * hz32, 12345, by decide +kernel⟩,
    ⟨(((State.reset.wr SYN.STATUS.STATE syLOCKED).set SYN.STATUS.BORROW_OK).set SYN.CTRL.BORROW_EN).modSync (fun y => { y with lowRun := 99 }), 0, by decide +kernel⟩,
    ⟨((State.reset.wr SYN.STATUS.STATE syHOLD).set SYN.CTRL.ENABLE).modSync (fun y => { y with highRun := 99 }), 0, by decide +kernel⟩,
    ⟨((State.reset.wr SYN.STATUS.STATE syLOST).set SYN.CTRL.ENABLE).modSync (fun y => { y with highRun := 99 }), 0, by decide +kernel⟩,
    ⟨(State.reset.wr SYN.STATUS.STATE syLOCKED).modSync (fun y => { y with clampRun := 16 }), 0, by decide +kernel⟩,
    ⟨(State.reset.wr SYN.STATUS.STATE syHOLD).modSync (fun y => { y with holdN := 10 ^ 9 }), 0, by decide +kernel⟩,
    ⟨(State.reset.wr SYN.STATUS.STATE syLOCKED).modSync (fun y => { y with jumpN := 99, recovering := true, jumpAt := 77, jumpFirst := 2 ^ 40 }), 0, by decide +kernel⟩,
    ⟨(State.reset.set SYN.STATUS.REALIGN).modSync (fun y => { y with realignRun := 16 }), 0, by decide +kernel⟩,
    ⟨since0 (State.reset.set SYN.STATUS.REALIGN) .realign, 0, by decide +kernel⟩,
    ⟨later (State.reset.modSync (fun y => { y with beyond := some 0 })), 0, 0, by decide +kernel⟩,
    ⟨later (State.reset.modSync (fun y => { y with within := some 0 })), 0, 0, by decide +kernel⟩,
    ⟨(State.reset.wr SYN.STATUS.STATE syLOCKED).modSync (fun y => { y with rateRun := 4 }), 0, by decide +kernel⟩⟩

/-- The hypotheses of BandLawEdgesAndReturns can be met. -/
theorem witness_BandLawEdgesAndReturns :
    (∃ (s : State) (t : Time), (s.at' t).slewNow = 0) ∧
    (∃ (s : State) (t : Time) (l : Fin 11), (s.leg l).ret = .waiting ∧ s.phaseOf (s.legCarrier l).1 (s.legCarrier
      l).2 (max s.now t) % Nat.max 1 (s.halfPeriod (s.legCarrier l).1) = s.halfPeriod (s.legCarrier l).1 / 2) ∧
    (∃ (s : State) (t : Time) (l : Fin 11) (start dur : Nat), (s.leg l).ret = .ramp start dur ∧ start + dur ≤ max
      s.now t) ∧
    (∃ (s : State) (t : Time) (k : Fin 8) (e : Edge), (s.leg (k.val + 3)).edges.reverse.find? (fun e =>
      !e.withdrawn && decide (e.te ≤ max s.now t)) = some e) ∧
    (∃ (s : State) (t : Time) (k : Fin 8) (e : Edge), (s.leg (k.val + 3)).edges.reverse.find? (fun e =>
      !e.withdrawn && decide (e.te ≤ max s.now t)) = some e ∧ (s.unit (k.val + 1)).notch = none ∧ s.mayDrive (k.val
      + 1) = true) ∧
    (∃ (s : State) (t : Time) (n : Fin 12) (r : Release), n ≠ 0 ∧ n ≠ 9 ∧ (s.unit n).rel = some r ∧ r.out ≤ 1 ∧
      (s.releaseTime n r).1 ≤ max s.now t ∧ ((10 ≤ n.val → s.bitOf PWM.PINSEL.AUX (2 * (n.val - 10) + r.out) =
      true))) ∧
    (∃ (s : State) (t : Time) (n : Fin 14) (r : Release), (s.island n).rel = some r ∧ (s.islandRelease n r).1 ≤ max
      s.now t ∧ (s.at' t).acceptsOn n = true) ∧
    (∃ (s : State) (t : Time) (k : Fin 8) (t0 : Time) (wks : Bool), (s.unit (k.val + 1)).notch = some t0 ∧ t0 +
      sclk * s.rd (PWM.CU.WICK.W (k.val + 1)) ≤ max s.now t ∧ (wks || !(s.unit (k.val + 1)).lowNotch) = true) ∧
    (∃ (s : State) (t : Time) (k : Fin 8) (t0 : Time), (s.unit (k.val + 1)).notch = some t0 ∧ t0 + sclk * s.rd
      (PWM.CU.WICK.W (k.val + 1)) ≤ max s.now t ∧ (s.unit (k.val + 1)).lowNotch = true) ∧
    (∃ (s : State) (_ : Time) (k : Fin 8), s.on (PWM.CU.WICK.EN (k.val + 1)) = true ∧ s.padOn (k.val + 1) (s.rd
      (PWM.CU.WICK.OUT (k.val + 1))) = true) :=
  ⟨⟨State.reset, 0, by decide +kernel⟩,
    ⟨State.reset.modLeg 5 (fun b => { b with ret := .waiting }), State.reset.halfPeriod 3 / 2, 5, by decide +kernel⟩,
    ⟨later (State.reset.modLeg 2 (fun b => { b with ret := .ramp 0 5 })), 0, 2, 0, 5, by decide +kernel⟩,
    ⟨later (State.reset.modLeg 5 (fun b => { b with edges := [⟨false, 0, 1, 5, 6, none, false, none⟩] })), 0, 2, ⟨false, 0, 1, 5, 6, none, false, none⟩, by decide +kernel⟩,
    ⟨later (feedDrives.modLeg 5 (fun b => { b with edges := [⟨true, 0, 2, 5, 6, none, false, none⟩] })), 0, 2, ⟨true, 0, 2, 5, 6, none, false, none⟩, by decide +kernel⟩,
    ⟨later ((feedDrives.wr (PWM.CU.DT.ADAPT 3) 0).modUnit 3 (fun u => { u with rel := some { out := 1, te := 0 } })), 0, 3, { out := 1, te := 0 }, by decide +kernel⟩,
    ⟨later ((State.reset.wr (PWM.CU.DT.ADAPT 0) 0).modIsland 3 (fun i => { i with trained := true, held := false, goodSince := some 0, rel := some { out := 3, te := 0 } })), 0, 3, { out := 3, te := 0 }, by decide +kernel⟩,
    ⟨later (State.reset.modUnit 3 (fun u => { u with notch := some 0 })), 0, 2, 0, true, by decide +kernel⟩,
    ⟨later (State.reset.modUnit 3 (fun u => { u with notch := some 0, lowNotch := true })), 0, 2, 0, by decide +kernel⟩,
    ⟨((State.reset.set (PWM.CU.WICK.EN 3)).wr PWM.OUT.FD 0xFFFF), 0, 2, by decide +kernel⟩⟩

/-- The hypotheses of CarrierUnitsDelayLinesAndClapper can be met. -/
theorem witness_CarrierUnitsDelayLinesAndClapper :
    (∃ (s : State) (t : Time) (n : Fin 12), s.on (PWM.CU.CFG.ENABLE n) = true ∧ s.phaseOf n 0 (max s.now t) = 0 ∧
      s.govHolds n = false ∧ s.reloadsAt n false = true ∧ s.on (PWM.CU.CFG.FREE n) = false ∧ (s.unit n).commit =
      true ∧ (s.unit n).commitAt ≠ (s.at' t).cycle ∧ (s.unit n).commitLast ≠ (s.at' t).cycle ∧ (s.unit n).wr = []) ∧
    (∃ (s : State) (t : Time) (n : Fin 12), s.on (PWM.CU.CFG.ENABLE n) = true ∧ s.phaseOf n 0 (max s.now t) = 0 ∧
      s.govHolds n = false ∧ s.on (PWM.CU.CFG.FREE n) = false ∧ (s.unit n).commit = false) ∧
    (∃ (s : State) (t : Time), s.on (PWM.CU.CFG.PROT_HOLD 9) = true ∧ s.phaseOf 9 0 (max s.now t) = 0) ∧
    (∃ (s : State) (t : Time) (n : Fin 12), s.on (PWM.CU.CFG.ENABLE n) = true ∧ s.phaseOf n 0 (max s.now t) =
      s.halfPeriod n ∧ s.govHolds n = false ∧ s.reloadsAt n true = true ∧ s.on (PWM.CU.CFG.FREE n) = false ∧
      (s.unit n).commit = true ∧ (s.unit n).commitAt ≠ (s.at' t).cycle ∧ (s.unit n).commitLast ≠ (s.at' t).cycle ∧
      (s.unit n).wr = []) ∧
    (∃ (s : State) (t : Time) (n : Fin 12), s.on (PWM.CU.CFG.ENABLE n) = true ∧ s.phaseOf n 0 (max s.now t) =
      s.halfPeriod n) ∧
    (∃ (s : State) (t : Time) (n : Fin 12), s.on (PWM.CU.CFG.ENABLE n) = true ∧ s.phaseOf n 0 (max s.now t) %
      Nat.max 1 (s.halfPeriod n) = s.halfPeriod n / 2) ∧
    (∃ (_ : State) (_ : Time) (_ : Fin 12) (v : Word), 16 ≤ v.toNat % 65536) ∧
    (∃ (_ : State) (_ : Time) (_ : Fin 12) (v : Word), v.toNat % 65536 < 16) ∧
    (∃ (s : State) (_ : Time) (n : Fin 12), n ≠ 0 ∧ n ≠ 9 ∧ s.rd (PWM.CU.CFG.SRC n) = 1 ∧ s.mayDrive n = true ∧
      s.on (PWM.CU.CFG.COMP n) = false ∧ ((10 ≤ n.val → s.rd PWM.PINSEL.AUX = 15))) ∧
    (∃ (s : State) (t : Time) (n : Fin 12), n ≠ 0 ∧ n ≠ 9 ∧ s.rd (PWM.CU.CFG.SRC n) = 1 ∧ s.mayDrive n = true ∧
      s.on (PWM.CU.CFG.COMP n) = true ∧ ((10 ≤ n.val → s.rd PWM.PINSEL.AUX = 15)) ∧ s.directPair n 0 (max s.now t)
      = none) ∧
    (∃ (s : State) (_ : Time), s.rd (PWM.CU.CFG.SRC 0) = 1 ∧ s.mayDrive 0 = true) ∧
    (∃ (s : State) (_ : Time), s.direct 9 = true ∧ s.mayDrive 9 = true ∧ (s.on (PWM.CU.CFG.COMP 9) && !s.govHolds
      9) = false) ∧
    (∃ (s : State) (t : Time) (line : Fin 21), (s.at' t).lineBusy line = false ∧ s.rd PWM.STATUS.SPARE_FOR = 0x1F) ∧
    (∃ (s : State) (t : Time) (line : Fin 21), (s.at' t).lineBusy line = false ∧ s.rd PWM.STATUS.SPARE_FOR = line) ∧
    (∃ (s : State) (_ : Time) (high : Nat), s.on PWM.CLAP.IN_EN = true ∧ s.on PWM.PINSEL.CLAP_IN = true ∧ 4 * sclk
      ≤ high) ∧
    (∃ (s : State) (t : Time), s.on PWM.CLAP.VIRT_EN = true ∧ ((s.at' t).tai % 10 ^ 9 + 10 ^ 9 - s.rd
      PWM.VCLAP_OFS.NS * 2 / 5 * 5 / 2) % 10 ^ 9 % (Nat.max 1 (s.rd PWM.VCLAP_INT.MS) * 10 ^ 6) < 3) ∧
    (∃ (s : State) (t : Time), (s.on PWM.CLAP.IN_EN || s.on PWM.CLAP.VIRT_EN) = true ∧ s.clap.last + (if s.on
      PWM.CLAP.VIRT_EN then s.rd PWM.CLAP.WIN * s.rd PWM.VCLAP_INT.MS * ms else s.rd PWM.CLAP.WIN * 2 *
      s.halfPeriod (s.rd PWM.CLAP.OUT_CU)) ≤ max s.now t) :=
  ⟨⟨(later ((State.reset.set (PWM.CU.CFG.ENABLE 10)).wr (PWM.CU.PRD.SHADOW 10) 77)).modUnit 10 (fun u => { u with commit := true, org := 10 ^ 20 }), 0, 10, by decide +kernel⟩,
    ⟨(later (State.reset.set (PWM.CU.CFG.ENABLE 10))).modUnit 10 (fun u => { u with org := 10 ^ 20 }), 0, 10, by decide +kernel⟩,
    ⟨State.reset.set (PWM.CU.CFG.PROT_HOLD 9), 0, by decide +kernel⟩,
    ⟨(((State.reset.set (PWM.CU.CFG.ENABLE 10)).wr (PWM.CU.CFG.RLD 10) 1).wr (PWM.CU.PRD.SHADOW 10) 77).modUnit 10 (fun u => { u with commit := true, commitAt := 3, commitLast := 3 }), State.reset.halfPeriod 10, 10, by decide +kernel⟩,
    ⟨State.reset.set (PWM.CU.CFG.ENABLE 3), State.reset.halfPeriod 3, 3, by decide +kernel⟩,
    ⟨State.reset.set (PWM.CU.CFG.ENABLE 3), State.reset.halfPeriod 3 / 2, 3, by decide +kernel⟩,
    ⟨State.reset, 0, 3, 16, by decide +kernel⟩,
    ⟨State.reset, 0, 3, 15, by decide +kernel⟩,
    ⟨auxDrives.wr (PWM.CU.CFG.COMP 10) 0, 0, 10, by decide +kernel⟩,
    ⟨(auxDrives.wr (PWM.CU.CFG.COMP 10) 1).wr (PWM.CU.PRD.ACTIVE 10) 16, 0, 10, by decide +kernel⟩,
    ⟨((driveState 0).wr (PWM.CU.CFG.SRC 0) 1), 0, by decide +kernel⟩,
    ⟨((driveState 9).wr (PWM.CU.CFG.SRC 9) 1).wr (PWM.CU.CFG.COMP 9) 0, 0, by decide +kernel⟩,
    ⟨State.reset.wr PWM.STATUS.SPARE_FOR 31, 0, 5, by decide +kernel⟩,
    ⟨State.reset.wr PWM.STATUS.SPARE_FOR 5, 0, 5, by decide +kernel⟩,
    ⟨(State.reset.set PWM.CLAP.IN_EN).set PWM.PINSEL.CLAP_IN, 0, 4 * sclk, by decide +kernel⟩,
    ⟨State.reset.set PWM.CLAP.VIRT_EN, 0, by decide +kernel⟩,
    ⟨later (State.reset.set PWM.CLAP.VIRT_EN), 0, by decide +kernel⟩⟩

/-- The hypotheses of ComparatorsAndSelfTests can be met. -/
theorem witness_ComparatorsAndSelfTests :
    (∃ (s : State) (_ : Time) (n : Fin 24) (_ : BitVec 32), s.on (CMP.CFG.EN n) = true ∧ s.sys.vana = true ∧
      s.cmpMasked n = false) ∧
    (∃ (s : State) (_ : Time) (n : Fin 24) (_ : BitVec 32), s.on (CMP.CFG.EN n) = true ∧ s.sys.vana = true ∧
      s.cmpMasked n = true) ∧
    (∃ (s : State) (t : Time) (n : Fin 24), s.on (CMP.CFG.EN n) = true ∧ s.trip.boot.testBit n = true ∧ (s.at'
      t).due .profileApplied ms = true) ∧
    (∃ (s : State) (_ : Time) (n : Fin 24), s.testAllowed n = true) ∧
    (∃ (s : State) (_ : Time) (n : Fin 24), s.testAllowed n = false) ∧
    (∃ (s : State) (t : Time) (n : Fin 24), ((∀ m, m < n.val → (s.testAllowed m && (!s.running (.cmpLast m) ||
      (s.at' t).due (.cmpLast m) (s.rd CMP.TEST.INT * 3600 * sec))) = false)) ∧ s.testAllowed n = true ∧
      (!s.running (.cmpLast n) || (s.at' t).due (.cmpLast n) (s.rd CMP.TEST.INT * 3600 * sec)) = true) ∧
    (∃ (s : State) (t : Time) (n : Fin 24) (k : Nat) (was out : Bool), s.trip.test = some (n.val, k, was) ∧ (s.at'
      t).due (.cmpTest n) (2 * us) = true ∧ out ≠ testExpect (s.rd (CMP.CFG.MODE n)) k was) ∧
    (∃ (s : State) (t : Time) (n : Fin 24) (k : Nat) (was out : Bool), s.trip.test = some (n.val, k, was) ∧ (s.at'
      t).due (.cmpTest n) (2 * us) = true ∧ out = testExpect (s.rd (CMP.CFG.MODE n)) k was ∧ k = (if n.val ≤ 15
      then 4 else 3)) ∧
    (∃ (s : State) (t : Time) (n : Fin 24) (k : Nat) (was out : Bool), s.trip.test = some (n.val, k, was) ∧ (s.at'
      t).due (.cmpTest n) (2 * us) = true ∧ out = testExpect (s.rd (CMP.CFG.MODE n)) k was ∧ k ≠ (if n.val ≤ 15
      then 4 else 3)) ∧
    (∃ (s : State) (t : Time) (n : Fin 24), s.on (CMP.CFG.EN n) = true ∧ (s.at' t).due (.cmpLast n) (s.rd
      CMP.TEST.INT * 3600 * sec + 600 * sec) = true) :=
  ⟨⟨((State.reset.set (CMP.CFG.EN 3)).wr CMP.ALARM.CMP 0).modSys (fun y => { y with vana := true }), 0, 3, 0x7FFFFFFF, by decide +kernel⟩,
    ⟨((State.reset.set (CMP.CFG.EN 3)).modSys (fun y => { y with vana := true })).modTrip (fun t => { t with masked := 8 }), 0, 3, 0x7FFFFFFF, by decide +kernel⟩,
    ⟨since0 ((State.reset.set (CMP.CFG.EN 3)).modTrip (fun t => { t with boot := 8 })) .profileApplied, 0, 3, by decide +kernel⟩,
    ⟨testReady, 0, 3, by decide +kernel⟩,
    ⟨State.reset, 0, 3, by decide +kernel⟩,
    ⟨testReady, 0, 3, by decide +kernel⟩,
    ⟨since0 (State.reset.modTrip (fun t => { t with test := some (3, 1, false) })) (.cmpTest 3), 0, 3, 1, false, !testExpect 0 1 false, by decide +kernel⟩,
    ⟨since0 (State.reset.modTrip (fun t => { t with test := some (3, 4, false) })) (.cmpTest 3), 0, 3, 4, false, testExpect 0 4 false, by decide +kernel⟩,
    ⟨since0 (State.reset.modTrip (fun t => { t with test := some (3, 2, true) })) (.cmpTest 3), 0, 3, 2, true, testExpect 0 2 true, by decide +kernel⟩,
    ⟨since0 (State.reset.set (CMP.CFG.EN 3)) (.cmpLast 3), 0, 3, by decide +kernel⟩⟩

/-- The hypotheses of TripSourcesLatchAndClear can be met. -/
theorem witness_TripSourcesLatchAndClear :
    (∃ (s : State) (_ : Time) (n : Fin 4), s.srcOn (24 + n.val) = false) ∧
    (∃ (s : State) (t : Time) (b : Bool), (s.at' t).due (if b then .pulse33 else .pulse32) us = true) ∧
    (∃ (s : State) (t : Time), (s.at' t).due .innerDelay (s.rd TRP.HARDOFF.INNER_DLY * 2560) = true) ∧
    (∃ (s : State) (t : Time), (s.at' t).due .brkPulse (s.rd TRP.HARDOFF.BRK_T * 10 * ms) = true) :=
  ⟨⟨State.reset.wr TRP.SRC_LO.SRC 0, 0, 2, by decide +kernel⟩,
    ⟨since0 (State.reset.putSrc 33 true) .pulse33, 0, true, by decide +kernel⟩,
    ⟨since0 (State.reset.modIsland 4 (fun i => { i with offLater := true })) .innerDelay, 0, by decide +kernel⟩,
    ⟨since0 State.reset .brkPulse, 0, by decide +kernel⟩⟩

/-- The hypotheses of GovernorDischargesTheLink can be met. -/
theorem witness_GovernorDischargesTheLink :
    (∃ (s : State) (_ : Time), s.dischargeMay = true ∧ s.on TRP.GOV_STAT.DIS_RUN = false ∧ s.linkLow = false ∧
      s.dischargeBlocked = false) ∧
    (∃ (s : State) (_ : Time), s.dischargeMay = true ∧ s.on TRP.GOV_STAT.DIS_RUN = false ∧ s.linkLow = false ∧
      s.dischargeBlocked = true ∧ s.on TRP.GOV_STAT.DIS_BLOCKED = false) ∧
    (∃ (s : State) (t : Time), s.trip.disWait = true ∧ (s.at' t).due .dcdOpenWait (200 * ms + 1) = false ∧
      s.dischargeBlocked = false) ∧
    (∃ (s : State) (t : Time), s.trip.disWait = true ∧ (s.at' t).due .dcdOpenWait (200 * ms) = true) ∧
    (∃ (s : State) (_ : Time), s.on TRP.GOV_STAT.DIS_RUN = true ∧ s.trip.disWait = false ∧ s.linkLow = true) ∧
    (∃ (s : State) (t : Time), s.on TRP.GOV_STAT.DIS_RUN = true ∧ s.on TRP.GOV_STAT.DIS_LATE = false ∧ (s.at'
      t).due .discharge (s.rd TRP.DIS.DIS_T * sec) = true) ∧
    (∃ (s : State) (_ : Time), (s.on TRP.GOV_STAT.DIS_RUN || s.on TRP.GOV_STAT.DIS_BLOCKED) = true) :=
  ⟨⟨dischargeState, 0, by decide +kernel⟩,
    ⟨dischargeState.wr (ISL.STATUS.LINK_UP 12) 0, 0, by decide +kernel⟩,
    ⟨dischargeState.modTrip (fun t => { t with disWait := true }), 0, by decide +kernel⟩,
    ⟨since0 (dischargeState.modTrip (fun t => { t with disWait := true })) .dcdOpenWait, 0, by decide +kernel⟩,
    ⟨State.reset.set TRP.GOV_STAT.DIS_RUN, 0, by decide +kernel⟩,
    ⟨since0 (State.reset.set TRP.GOV_STAT.DIS_RUN) .discharge, 0, by decide +kernel⟩,
    ⟨(State.reset.set TRP.GOV_STAT.DIS_RUN).modTrip (fun t => { t with vUp := 2 ^ 20 }), 0, by decide +kernel⟩⟩

/-- The hypotheses of OperatingFeedAndPinCues can be met. -/
theorem witness_OperatingFeedAndPinCues :
    (∃ (s : State) (t : Time) (c : Cue), (s.at' t).admits 0x0010 c = true ∧ (fun s c => c.payload.length = 1 ∧ c.u
      0 1 ≤ 11 ∧ s.rd SYS.STATE.REQ = 0xF ∧ s.requestFails (c.u 0 1) = none) (s.at' t) c) ∧
    (∃ (s : State) (t : Time) (c : Cue), (s.at' t).admits 0x0010 c = true ∧ (fun s c => c.payload.length = 1 ∧ c.u
      0 1 ≤ 11 ∧ s.rd SYS.STATE.REQ = 0xF ∧ s.requestFails (c.u 0 1) ≠ none) (s.at' t) c) ∧
    (∃ (s : State) (t : Time) (c : Cue), (s.at' t).admits 0x0011 c = true ∧ (fun s c => c.payload.length = 1 ∧
      s.hasScene (c.u 0 1) = true ∧ c.u 0 1 < 2 ^ SEQ.MODE.SCENE.width) (s.at' t) c) ∧
    (∃ (s : State) (t : Time) (c : Cue), (s.at' t).admits 0x0012 c = true ∧ (fun s c => c.payload = [0x5A, 0xA5] ∧
      s.on TRP.GOV_STAT.DIS_RUN = false ∧ s.cue.resetBy = none) (s.at' t) c) ∧
    (∃ (s : State) (t : Time) (c : Cue), (s.at' t).admits 0x0013 c = true ∧ (fun _ c => c.payload = [0x5A, 0xA5])
      (s.at' t) c) ∧
    (∃ (s : State) (t : Time) (c : Cue), (s.at' t).admits 0x0016 c = true ∧ (fun _ c => c.payload.length = 1)
      (s.at' t) c) ∧
    (∃ (s : State) (t : Time) (c : Cue), (s.at' t).admits 0x0017 c = true ∧ (fun s c => c.payload.length = 1 ∧ c.u
      0 1 < 64 ∧ (∀ i : Fin 4, (s.word PWM.PINSEL.AUX.addr).toNat.testBit i = true → (c.u 0 1).testBit i = false →
      s.auxInUse i = false) ∧ (s.on PWM.PINSEL.CLAP_OUT = true → (c.u 0 1).testBit 4 = false → s.on PWM.CLAP.OUT_EN
      = false) ∧ (s.on PWM.PINSEL.CLAP_IN = true → (c.u 0 1).testBit 5 = false → s.on PWM.CLAP.IN_EN = false))
      (s.at' t) c) ∧
    (∃ (s : State) (t : Time) (c : Cue), (s.at' t).admits 0x0017 c = true ∧ (fun s c => c.payload.length = 1 ∧ c.u
      0 1 < 64 ∧ ∃ i : Fin 4, (s.word PWM.PINSEL.AUX.addr).toNat.testBit i = true ∧ (c.u 0 1).testBit i = false ∧
      s.auxInUse i = true) (s.at' t) c) :=
  ⟨⟨(inState 5).wr SYS.STATE.REQ 0xF, 0, cue [4], by decide +kernel⟩,
    ⟨(inState 5).wr SYS.STATE.REQ 0xF, 0, cue [7], by decide +kernel⟩,
    ⟨(inState 4).modActive (fun b => { b with valid := true, scenes := [{ len := 0 }, { len := 5 }] }), 0, cue [1], by decide +kernel⟩,
    ⟨inState 4, 0, cue [0x5A, 0xA5], by decide +kernel⟩,
    ⟨inState 4, 0, cue [0x5A, 0xA5], by decide +kernel⟩,
    ⟨((inState 4).wr (FED.STATE.STATE 2) fsFAULT).wr (FED.STATE.STATE 5) fsFAULT, 0, cue [6], by decide +kernel⟩,
    ⟨inState 2, 0, cue [0x21], by decide +kernel⟩,
    ⟨(((inState 2).wr PWM.PINSEL.AUX 15).set (PWM.CU.CFG.ENABLE 11)).wr (PWM.CU.CMPA_ACT.VALUE 11) 5, 0, cue [0x21], by decide +kernel⟩⟩

/-- The hypotheses of SessionIdentityAndFaultCues can be met. -/
theorem witness_SessionIdentityAndFaultCues :
    (∃ (s : State) (t : Time) (c : Cue), (s.at' t).admits 0x0001 c = true ∧ c.cls = 2 ∧ c.payload = [0, 0, 0, 0,
      255]) ∧
    (∃ (s : State) (t : Time) (c : Cue), (s.at' t).admits 0x0002 c = true ∧ (fun _ c => c.payload = [] ∧ 1 <
      c.session.toNat) (s.at' t) c) ∧
    (∃ (s : State) (t : Time) (c : Cue), (s.at' t).admits 0x0003 c = true ∧ (fun _ c => c.payload = []) (s.at' t)
      c) ∧
    (∃ (s : State) (t : Time) (c : Cue), (s.at' t).admits 0x0018 c = true ∧ (fun s c => c.payload.length = 3 ∧ 1 ≤
      c.u 2 1 ∧ c.u 2 1 ≤ 254 ∧ s.faults.any (fun e => decide (e.index = c.u 0 2)) = true) (s.at' t) c) ∧
    (∃ (s : State) (t : Time) (c : Cue), (s.at' t).admits 0x0019 c = true ∧ (fun s c => c.payload.length = 2 ∧
      s.faultMade (c.u 0 2) = true) (s.at' t) c) :=
  ⟨⟨inState 4, 0, cue [0, 0, 0, 0, 255], by decide +kernel⟩,
    ⟨(inState 4).modCue (fun q => { q with sessions := q.sessions ++ [{ id := 2, path := .host, roles := 7 }] }), 0, ⟨2, 2, 5, 7, 0, 0, []⟩, by decide +kernel⟩,
    ⟨inState 4, 0, cue [], by decide +kernel⟩,
    ⟨{ inState 4 with faults := [⟨9, 3, 1, 2, 1, false, 5, 7⟩, ⟨3, 2, 4, 2, 1, false, 5, 7⟩] }, 0, cue [2, 0, 3], by decide +kernel⟩,
    ⟨{ (inState 4).wr FLT.INDEX.NEXT 4 with faults := [⟨9, 3, 1, 2, 1, false, 5, 7⟩, ⟨3, 2, 4, 2, 1, false, 5, 7⟩] }, 0, cue [2, 0], by decide +kernel⟩⟩

/-- The hypotheses of RegisterWritesFollowTheAccessCodes can be met. -/
theorem witness_RegisterWritesFollowTheAccessCodes :
    (∃ (_ : State) (_ : Time) (a : BitVec 17) (_ : Word), a.toNat ∈ clearWords) ∧
    (∃ (_ : State) (_ : Time) (v : Word), getField v SYN.LOW.HYST ≤ 50 ∧ 50 ≤ getField v SYN.LOW.THR ∧ getField v
      SYN.LOW.THR ≤ 300) ∧
    (∃ (s : State) (_ : Time) (v : Word), getField v SYN.LOW.HYST ≤ 50 ∧ (getField v SYN.LOW.THR < 50 ∨ 300 <
      getField v SYN.LOW.THR) ∧ getField v SYN.LOW.THR ≠ s.rd SYN.LOW.THR) :=
  ⟨⟨State.reset.setWord 0x3008 0x7F, 5, 0x3008, 0x55, by decide +kernel⟩,
    ⟨State.reset, 5, putField (putField (putField 0 SYN.LOW.HYST 50) SYN.LOW.THR 300) SYN.LOW.FILT 3, by decide +kernel⟩,
    ⟨State.reset, 5, putField (putField (putField 0 SYN.LOW.HYST 49) SYN.LOW.THR 301) SYN.LOW.FILT 3, by decide +kernel⟩⟩

/-- The hypotheses of UnlistedAddressesReadZeroAndIgnoreWrites can be met. -/
theorem witness_UnlistedAddressesReadZeroAndIgnoreWrites :
    (∃ (_ : State) (_ : Time) (a : BitVec 17) (_ : Word), rowOf a.toNat = none) ∧
    (∃ (s : State) (_ : Time) (a : Word) (vs : List Word), stBOOT ≤ s.code ∧ s.on HOST.STATUS.KEYED = false ∧
      a.toNat % 4 = 0 ∧ 1 ≤ vs.length ∧ vs.length ≤ 256 ∧ a.toNat + 4 * vs.length ≤ 0x20000 ∧ ((∀ i, i < vs.length
      → rowOf (a.toNat + 4 * i) = none))) ∧
    (∃ (s : State) (_ : Time) (a : Word) (n : BitVec 16), stBOOT ≤ s.code ∧ a.toNat % 4 = 0 ∧ 1 ≤ n.toNat ∧ n.toNat
      ≤ 256 ∧ a.toNat + 4 * n.toNat ≤ 0x20000 ∧ ((∀ i, i < n.toNat → rowOf (a.toNat + 4 * i) = none))) ∧
    (∃ (s : State) (t : Time) (c : Cue), (s.at' t).admits 0x0100 c = true ∧ (fun _ c => c.payload.length = 6 ∧ c.u
      0 4 % 4 = 0 ∧ 1 ≤ c.u 4 2 ∧ c.u 4 2 ≤ 1019 ∧ c.u 0 4 + 4 * c.u 4 2 ≤ 0x20000 ∧ ∀ i, i < c.u 4 2 → rowOf (c.u
      0 4 + 4 * i) = none) (s.at' t) c) ∧
    (∃ (s : State) (t : Time) (c : Cue), (s.at' t).admits 0x0101 c = true ∧ (fun _ c => c.payload.length = 12 ∧
      addrOk (c.u 0 4) = true ∧ rowOf (c.u 0 4) = none) (s.at' t) c) ∧
    (∃ (s : State) (t : Time) (c : Cue), (s.at' t).admits 0x0102 c = true ∧ (fun _ c => 1 ≤ c.u 0 2 ∧ c.u 0 2 ≤ 339
      ∧ c.payload.length = 2 + 12 * c.u 0 2 ∧ ∀ i, i < c.u 0 2 → addrOk (c.u (2 + 12 * i) 4) = true ∧ rowOf (c.u (2
      + 12 * i) 4) = none) (s.at' t) c) ∧
    (∃ (_ : State) (_ : Time) (r : ExtReq) (_ : Bool) (_ : List (List (Fin 13) × Bool)), r.dram = false ∧ r.write =
      false ∧ r.addr.toNat % 4 = 0 ∧ r.addr.toNat < 0x20000 ∧ rowOf r.addr.toNat = none) :=
  ⟨⟨State.reset, 5, 0x3ffc, 77, by decide +kernel⟩,
    ⟨inState 4, 5, 0x18000, [77, 78], by decide +kernel⟩,
    ⟨inState 4, 5, 0x18000, 256, by decide +kernel⟩,
    ⟨inState 4, 5, cue (leBytes 4 0x18000 ++ leBytes 2 1019), by decide +kernel⟩,
    ⟨inState 4, 5, cue (leBytes 4 0x18000 ++ leBytes 4 0xFFFFFFFF ++ leBytes 4 0xFFFF), by decide +kernel⟩,
    ⟨inState 4, 5, cue ([2, 0] ++ leBytes 4 0x18000 ++ leBytes 4 0xF0 ++ leBytes 4 0xFFFF ++ leBytes 4 0x3ffc ++ leBytes 4 0xFFFFF0FF ++ leBytes 4 0xFFFF), by decide +kernel⟩,
    ⟨inState 4, 5, (⟨3, false, false, 0x18000, 7⟩ : ExtReq), true, [], by decide +kernel⟩⟩

/-- The hypotheses of DirectRegisterAccess can be met. -/
theorem witness_DirectRegisterAccess :
    (∃ (s : State) (_ : Time) (a _ : Word), stBOOT ≤ s.code ∧ s.on HOST.STATUS.KEYED = false ∧ a.toNat ∈
      clearWords) ∧
    (∃ (s : State) (_ : Time) (a : Word) (_ : List Word) (_ : Bool), stBOOT ≤ s.code ∧ a.toNat % 4 ≠ 0) ∧
    (∃ (s : State) (_ : Time) (a _ : Word), stBOOT ≤ s.code ∧ a.toNat % 4 = 0 ∧ a.toNat + 4 ≤ 0x20000 ∧ s.on
      HOST.STATUS.KEYED = true) ∧
    (∃ (s : State) (_ : Time) (a : Word) (n : BitVec 16), stBOOT ≤ s.code ∧ a.toNat % 4 = 0 ∧ 1 ≤ n.toNat ∧ n.toNat
      ≤ 256 ∧ ((∀ i, i < n.toNat → plainBlock (a.toNat + 4 * i) = true))) ∧
    (∃ (s : State) (_ : Time) (a : Word) (n : BitVec 16) (_ : List Nat), stBOOT ≤ s.code ∧ a.toNat % 4 = 0 ∧
      (n.toNat = 0 ∨ 256 < n.toNat ∨ 0x20000 < a.toNat + 4 * n.toNat)) :=
  ⟨⟨(inState 4).setWord 0x3008 0x7F, 5, 0x3008, 0x55, by decide +kernel⟩,
    ⟨inState 4, 5, 0x3009, [1, 2], true, by decide +kernel⟩,
    ⟨(inState 4).set HOST.STATUS.KEYED, 5, 0x3008, 77, by decide +kernel⟩,
    ⟨inState 4, 5, 0x4000, 256, by decide +kernel⟩,
    ⟨inState 4, 5, 0x7000, 0, [], by decide +kernel⟩⟩

/-- The hypotheses of RegisterCues can be met. -/
theorem witness_RegisterCues :
    (∃ (s : State) (t : Time) (c : Cue), (s.at' t).admits 0x0100 c = true ∧ (fun _ c => c.payload.length = 6 ∧ c.u
      0 4 % 4 = 0 ∧ 1 ≤ c.u 4 2 ∧ c.u 4 2 ≤ 1019 ∧ ∀ i, i < c.u 4 2 → plainBlock (c.u 0 4 + 4 * i) = true) (s.at'
      t) c) ∧
    (∃ (s : State) (t : Time) (c : Cue), (s.at' t).admits 0x0101 c = true ∧ (fun _ c => c.payload.length = 12 ∧ c.u
      0 4 ∈ clearWords ∧ c.cls.toNat ≠ orDIRECTOR) (s.at' t) c) ∧
    (∃ (s : State) (t : Time) (c : Cue), (s.at' t).admits 0x0101 c = true ∧ (fun _ c => c.payload.length = 12 ∧ c.u
      0 4 ∈ clearWords ∧ c.cls.toNat = orDIRECTOR) (s.at' t) c) ∧
    (∃ (s : State) (t : Time) (c : Cue), (s.at' t).admits 0x0101 c = true ∧ (fun _ c => c.payload.length = 12 ∧
      addrOk (c.u 0 4) = true ∧ BitVec.ofNat 32 (c.u 4 4) &&& seldBits (c.u 0 4) (·.mCue) = 0 ∧ BitVec.ofNat 32
      (c.u 4 4) &&& seldBits (c.u 0 4) (·.mSeal) ≠ 0) (s.at' t) c) ∧
    (∃ (s : State) (t : Time) (c : Cue), (s.at' t).admits 0x0102 c = true ∧ (fun _ c => 1 ≤ c.u 0 2 ∧ c.u 0 2 ≤ 339
      ∧ c.payload.length = 2 + 12 * c.u 0 2 ∧ c.cls.toNat ≠ orDIRECTOR ∧ (∀ i, i < c.u 0 2 → c.u (2 + 12 * i) 4 ∈
      clearWords) ∧ ∀ j, j < c.u 0 2 → ∀ i, i < j → c.u (2 + 12 * i) 4 ≠ c.u (2 + 12 * j) 4) (s.at' t) c) :=
  ⟨⟨inState 4, 5, cue (leBytes 4 0x4010 ++ [3, 0]), by decide +kernel⟩,
    ⟨(inState 4).setWord 0x3008 0x7F, 5, cue (leBytes 4 0x3008 ++ leBytes 4 0xF0 ++ leBytes 4 0xFFFF), by decide +kernel⟩,
    ⟨inState 4, 5, ⟨5, 0, 0, 7, 0, 0, leBytes 4 0x3008 ++ leBytes 4 0xFF ++ leBytes 4 0xFFFF⟩, by decide +kernel⟩,
    ⟨inState 4, 5, cue (leBytes 4 0x7010 ++ leBytes 4 0xFF ++ leBytes 4 0xFFFF), by decide +kernel⟩,
    ⟨((inState 4).setWord 0x3008 0x7F).setWord 0x16004 0xFFFF, 5, cue ([2, 0] ++ leBytes 4 0x3008 ++ leBytes 4 0xF0 ++ leBytes 4 0xFFFF ++ leBytes 4 0x16004 ++ leBytes 4 0xFFFFF0FF ++ leBytes 4 0xFFFF), by decide +kernel⟩⟩

/-- The hypotheses of ScriptSetpointFeedAndMmsCues can be met. -/
theorem witness_ScriptSetpointFeedAndMmsCues :
    (∃ (s : State) (t : Time) (c : Cue), (s.at' t).admits 0x0200 c = true ∧ s.on SEQ.STATUS.SWAP_PENDING = false) ∧
    (∃ (s : State) (t : Time) (c : Cue), (s.at' t).admits 0x0201 c = true ∧ (fun s c => c.payload.length = 1 ∧ s.on
      SEQ.STATUS.SWAP_PENDING = false ∧ s.swapFails (c.u 0 1) = none) (s.at' t) c) ∧
    (∃ (s : State) (t : Time) (c : Cue), (s.at' t).admits 0x0201 c = true ∧ (fun s c => c.payload.length = 1 ∧ s.on
      SEQ.STATUS.SWAP_PENDING = false ∧ s.swapFails (c.u 0 1) ≠ none) (s.at' t) c) ∧
    (∃ (s : State) (t : Time) (c : Cue), (s.at' t).admits 0x0202 c = true ∧ (fun s c => c.payload.length = 4 + 4 *
      c.u 2 2 ∧ c.u 0 2 + c.u 2 2 ≤ 4096 ∧ c.u 0 2 < 4096 ∧ s.on SEQ.STATUS.SWAP_PENDING = false ∧ ∀ i, i < c.u 2 2
      → s.tunable (c.u 0 2 + i) = true) (s.at' t) c) ∧
    (∃ (s : State) (t : Time) (c : Cue), (s.at' t).admits 0x0203 c = true ∧ (fun _ c => c.payload.length = 8 + 4 *
      c.u 4 4 ∧ c.u 0 4 < 65536 ∧ c.u 0 4 + c.u 4 4 ≤ 65536) (s.at' t) c) ∧
    (∃ (s : State) (t : Time) (c : Cue), (s.at' t).admits 0x0204 c = true ∧ (fun _ c => c.payload = []) (s.at' t)
      c) ∧
    (∃ (s : State) (t : Time) (c : Cue), (s.at' t).admits 0x0300 c = true ∧ (fun _ c => c.payload.length = 4 + 4 *
      c.u 2 2 ∧ c.u 0 2 < 512 ∧ c.u 0 2 + c.u 2 2 ≤ 512) (s.at' t) c) ∧
    (∃ (s : State) (t : Time) (c : Cue), (s.at' t).admits 0x0301 c = true ∧ (fun _ c => c.payload.length = 4 ∧ c.u
      0 2 < 512 ∧ c.u 0 2 + c.u 2 2 ≤ 512) (s.at' t) c) ∧
    (∃ (s : State) (t : Time) (c : Cue), (s.at' t).admits 0x0302 c = true ∧ (fun _ c => c.payload.length = 9 ∧ c.u
      0 1 < 8 ∧ (c.u 1 2 = 0 ∨ (3000 ≤ c.u 1 2 ∧ c.u 1 2 ≤ 9500)) ∧ c.u 3 2 ≤ 1500 ∧ c.u 5 2 ≤ 1500) (s.at' t) c) ∧
    (∃ (s : State) (_ : Time) (_ : Fin 8) (_ : BitVec 3) (handle _ : BitVec 32), s.bus.points.find? (fun p =>
      decide (p.u 20 4 = handle.toNat)) = none) ∧
    (∃ (s : State) (_ : Time) (_ : Fin 8) (_ : BitVec 3) (handle _ : BitVec 32) (p : Point), s.bus.points.find?
      (fun p => decide (p.u 20 4 = handle.toNat)) = some p ∧ p.u 26 2 % 2 = 0) ∧
    (∃ (s : State) (_ : Time) (assoc : Fin 8) (roles : BitVec 3) (handle _ : BitVec 32) (p : Point),
      s.bus.points.find? (fun p => decide (p.u 20 4 = handle.toNat)) = some p ∧ p.u 26 2 % 2 = 1 ∧ p.u 4 1 = 1 ∧
      0x400 ≤ p.u 0 4 ∧ p.u 0 4 < 0x600 ∧ s.bitOf SYS.HOLD.ACTIVE 0 = false ∧ s.cue.entries.length < 256 ∧ (∀ x ∈
      s.cue.inbox, x.entry.session ≠ mmsSession assoc) ∧ roles ≠ 0 ∧ s.code ≠ stPILOT ∧ ssLIVE.testBit s.code =
      true) :=
  ⟨⟨inState 4, 5, cue [1, 2, 3], by decide +kernel⟩,
    ⟨(inState 4).modStandby (fun b => { b with valid := true, scenes := [{ len := 0 }, { len := 5 }] }), 5, cue [1], by decide +kernel⟩,
    ⟨(inState 4).modStandby (fun b => { b with valid := true, scenes := [{ len := 0 }, { len := 5 }] }), 5, cue [0], by decide +kernel⟩,
    ⟨(inState 4).modActive (fun b => { b with valid := true, tunable := List.replicate 512 255 }), 5, cue ([5, 0, 2, 0] ++ leBytes 4 77 ++ leBytes 4 78), by decide +kernel⟩,
    ⟨inState 4, 5, cue ([5, 0, 0, 0, 2, 0, 0, 0] ++ leBytes 4 77 ++ leBytes 4 78), by decide +kernel⟩,
    ⟨inState 4, 5, cue [], by decide +kernel⟩,
    ⟨inState 4, 5, cue ([5, 0, 2, 0] ++ leBytes 4 77 ++ leBytes 4 78), by decide +kernel⟩,
    ⟨inState 4, 5, cue ([5, 0, 2, 0]), by decide +kernel⟩,
    ⟨inState 4, 5, cue ([7] ++ leBytes 2 9500 ++ leBytes 2 1500 ++ leBytes 2 0 ++ [255, 255]), by decide +kernel⟩,
    ⟨State.reset, 5, 1, 1, 7, 5, by decide +kernel⟩,
    ⟨(inState 4).modBus (fun b => { b with points := [{ setPoint5 with record := setPoint5.record.set 26 0 }] }), 5, 1, 1, 7, 5, { setPoint5 with record := setPoint5.record.set 26 0 }, by decide +kernel⟩,
    ⟨(inState 8).modBus (fun b => { b with points := [setPoint5] }), 5, 1, 1, 7, 5, setPoint5, by decide +kernel⟩⟩

/-- The hypotheses of MeasurementAndCalibrationCues can be met. -/
theorem witness_MeasurementAndCalibrationCues :
    (∃ (s : State) (t : Time) (c : Cue), (s.at' t).admits 0x0400 c = true ∧ (fun _ c => c.payload = []) (s.at' t)
      c) ∧
    (∃ (s : State) (t : Time) (c : Cue), (s.at' t).admits 0x0401 c = true ∧ (fun _ c => c.payload.length = 2 ∧ c.u
      0 1 < 16 ∧ c.u 1 1 < 4) (s.at' t) c) ∧
    (∃ (s : State) (t : Time) (c : Cue), (s.at' t).admits 0x0402 c = true ∧ (fun _ c => c.payload.length = 1 ∧ c.u
      0 1 < 8) (s.at' t) c) ∧
    (∃ (s : State) (t : Time) (c : Cue), (s.at' t).admits 0x0720 c = true ∧ (fun s c => c.payload.length = 5 ∧ 1 ≤
      c.u 4 1 ∧ c.u 4 1 ≤ 11 ∧ (s.mtr.stored ++ s.mtr.signed).any (fun b => decide (leAt b 8 4 = c.u 0 4)) = true)
      (s.at' t) c) ∧
    (∃ (s : State) (t : Time) (c : Cue), (s.at' t).admits 0x0410 c = true ∧ (fun s c => c.payload.length = 1 ∧ c.u
      0 1 < 40 ∧ s.metroLocked (c.u 0 1) = false ∧ (s.chan (c.u 0 1)).cal = none) (s.at' t) c) ∧
    (∃ (s : State) (t : Time) (c : Cue), (s.at' t).admits 0x0411 c = true ∧ (fun s c => c.payload.length = 6 ∧ c.u
      0 1 < 40 ∧ c.u 1 1 < 2 ∧ s.metroLocked (c.u 0 1) = false ∧ (s.chan (c.u 0 1)).cal = none) (s.at' t) c) ∧
    (∃ (s : State) (t : Time) (c : Cue), (s.at' t).admits 0x0410 c = true ∧ (fun s c => c.payload.length = 1 ∧ c.u
      0 1 < 40 ∧ s.on MOD.CTRL.METRO_SEALED = true ∧ s.on (MOD.CH.STATUS.METER (c.u 0 1)) = true) (s.at' t) c) ∧
    (∃ (s : State) (t : Time) (c : Cue), (s.at' t).admits 0x0412 c = true ∧ (fun s c => c.payload.length = 8 ∧ c.u
      0 1 < 40 ∧ -4096 ≤ (BitVec.ofNat 16 (c.u 5 2)).toInt ∧ (BitVec.ofNat 16 (c.u 5 2)).toInt ≤ 4096 ∧ c.u 7 1 < 2
      ∧ s.metroLocked (c.u 0 1) = false) (s.at' t) c) ∧
    (∃ (s : State) (t : Time) (c : Cue), (s.at' t).admits 0x0413 c = true ∧ (fun _ c => c.payload = []) (s.at' t)
      c) ∧
    (∃ (s : State) (t : Time) (c : Cue), (s.at' t).admits 0x0414 c = true ∧ (fun _ c => c.payload = [0x5A, 0xA5])
      (s.at' t) c) :=
  ⟨⟨inState 4, 5, cue [], by decide +kernel⟩,
    ⟨inState 4, 5, cue [15, 3], by decide +kernel⟩,
    ⟨inState 4, 5, cue [7], by decide +kernel⟩,
    ⟨(inState 4).modMtr (fun m => { m with stored := [List.replicate 8 1 ++ [3, 0, 0, 0] ++ List.replicate 340 4] }), 5, cue [3, 0, 0, 0, 11], by decide +kernel⟩,
    ⟨inState 2, 5, cue [39], by decide +kernel⟩,
    ⟨inState 2, 5, cue [39, 1, 1, 2, 3, 4], by decide +kernel⟩,
    ⟨(inState 2).set (MOD.CH.STATUS.METER 3) |>.set MOD.CTRL.METRO_SEALED, 5, cue [3], by decide +kernel⟩,
    ⟨inState 2, 5, cue ([3] ++ leBytes 4 0x12345678 ++ [0, 0xF0, 1]), by decide +kernel⟩,
    ⟨inState 2, 5, cue [], by decide +kernel⟩,
    ⟨(inState 2).set (MOD.CH.STATUS.METER 3), 5, cue [0x5A, 0xA5], by decide +kernel⟩⟩

/-- The hypotheses of ProfileAndNetworkCues can be met. -/
theorem witness_ProfileAndNetworkCues :
    (∃ (s : State) (t : Time) (c : Cue), (s.at' t).admits 0x0500 c = true ∧ (fun s c => c.payload.length = 5 ∧
      ((c.u 0 1 = 0 ∧ s.nvm.applied.isSome = true) ∨ (c.u 0 1 = 1 ∧ s.nvm.profile.isSome = true))) (s.at' t) c) ∧
    (∃ (s : State) (t : Time) (c : Cue), (s.at' t).admits 0x0501 c = true) ∧
    (∃ (s : State) (t : Time) (c : Cue), (s.at' t).admits 0x0502 c = true ∧ (fun _ c => c.payload.length = 1 ∧ c.u
      0 1 < 2) (s.at' t) c) ∧
    (∃ (s : State) (t : Time) (c : Cue), (s.at' t).admits 0x0610 c = true ∧ (fun s c => ctxBad c.payload = none ∧
      (s.ctxNamed (c.u 0 1) = false ∨ ∃ b ∈ s.nextBlock (c.u 0 1), leAt b 1 1 = c.u 1 1) ∧ s.othersOf (c.u 1 1)
      (c.u 0 1) < kindLimit (c.u 1 1)) (s.at' t) c) ∧
    (∃ (s : State) (t : Time) (c : Cue), (s.at' t).admits 0x0611 c = true ∧ (fun s c => c.payload.length = 1 ∧
      s.ctxNamed (c.u 0 1) = false) (s.at' t) c) ∧
    (∃ (s : State) (t : Time) (c : Cue), (s.at' t).admits 0x0611 c = true ∧ (fun s c => c.payload.length = 1 ∧
      s.ctxNamed (c.u 0 1) = true) (s.at' t) c) ∧
    (∃ (s : State) (t : Time) (c : Cue), (s.at' t).admits 0x0612 c = true ∧ (fun s c => c.payload.length = 1 ∧
      (s.ctx (c.u 0 1)).isSome = true) (s.at' t) c) ∧
    (∃ (s : State) (t : Time) (c : Cue), (s.at' t).admits 0x0620 c = true ∧ (fun _ c => c.payload.length = 10 ∧ c.u
      0 1 < 64 ∧ c.u 1 1 < 8 ∧ codeOk (c.u 1 1 / 4) (c.u 2 2) = true ∧ (c.u 4 2 = 0x3FFF ∨ codeOk (c.u 1 1 / 4)
      (c.u 4 2) = true) ∧ (c.u 6 2 = 0 ∨ c.u 8 2 < c.u 6 2)) (s.at' t) c) ∧
    (∃ (s : State) (t : Time) (c : Cue), (s.at' t).admits 0x0621 c = true ∧ (fun _ c => c.payload.length = 2 ∧ c.u
      0 1 < 64 ∧ c.u 1 1 ≤ 1) (s.at' t) c) ∧
    (∃ (s : State) (t : Time) (c : Cue), (s.at' t).admits 0x0630 c = true ∧ (fun s c => 4 ≤ c.payload.length ∧ c.u
      0 4 ≤ 131072 ∧ c.payload.length = 4 + 32 * c.u 0 4 ∧ firstBadRecord ((Config.sclLeaves s.nextModel).getD 0) 0
      [] ((List.range (c.u 0 4)).map (fun i => slice c.payload (4 + 32 * i) 32)) = none) (s.at' t) c) ∧
    (∃ (s : State) (t : Time) (c : Cue), (s.at' t).admits 0x0631 c = true) ∧
    (∃ (s : State) (t : Time) (c : Cue), (s.at' t).admits 0x0640 c = true ∧ (fun _ c => c.payload = []) (s.at' t)
      c) :=
  ⟨⟨{ inState 4 with nvm := { State.reset.nvm with applied := some [1, 2, 3] } }, 5, cue [0, 1, 0, 0, 0], by decide +kernel⟩,
    ⟨inState 2, 5, cue [0, 1, 0, 0, 0], by decide +kernel⟩,
    ⟨inState 2, 5, cue [1], by decide +kernel⟩,
    ⟨inState 2, 5, cue ctxBytes, by decide +kernel⟩,
    ⟨inState 2, 5, cue [3], by decide +kernel⟩,
    ⟨namedCtx, 5, cue [3], by decide +kernel⟩,
    ⟨(inState 2).modBus (fun b => { b with ctxs := [svCtx0] }), 5, cue [3], by decide +kernel⟩,
    ⟨inState 2, 5, cue ([63, 7] ++ leBytes 2 5 ++ leBytes 2 0x3FFF ++ leBytes 2 9 ++ leBytes 2 8), by decide +kernel⟩,
    ⟨inState 4, 5, cue [63, 1], by decide +kernel⟩,
    ⟨inState 2, 5, cue [0, 0, 0, 0], by decide +kernel⟩,
    ⟨inState 2, 5, cue [0, 0, 0, 0], by decide +kernel⟩,
    ⟨inState 2, 5, cue [], by decide +kernel⟩⟩

/-- The hypotheses of ReelRecordAndDailiesCues can be met. -/
theorem witness_ReelRecordAndDailiesCues :
    (∃ (s : State) (t : Time) (c : Cue), (s.at' t).admits 0x0700 c = true ∧ (fun s c => c.payload.length = 5 ∧ c.u
      0 1 < 16 ∧ s.reelArmed (c.u 0 1) = false ∧ ((((List.range 16).filter (fun k => decide (k ≠ c.u 0 1))).map
      (fun k => s.rd (REL.AREA.SIZE k))).foldl (· + ·) (c.u 3 2)) ≤ 2048 ∧ (∀ k : Fin 16, k.val ≠ c.u 0 1 →
      overlaps (c.u 1 2) (c.u 3 2) (s.rd (REL.AREA.BASE k)) (s.rd (REL.AREA.SIZE k)) = false) ∧ overlaps (c.u 1 2)
      (c.u 3 2) (s.rd GAF.EXT_WIN.BASE) (s.rd GAF.EXT_WIN.SIZE) = false ∧ c.u 1 2 + c.u 3 2 ≤ 6144) (s.at' t) c) ∧
    (∃ (s : State) (t : Time) (c : Cue), (s.at' t).admits 0x0701 c = true ∧ (fun s c => c.payload.length = 25 + 2 *
      (c.u 1 4 / 65536 % 32 + 1) ∧ c.u 0 1 < 16 ∧ 0 < c.u 1 2 ∧ c.u 13 4 / 256 % 32 < c.u 1 4 / 65536 % 32 + 1 ∧
      s.reelArmed (c.u 0 1) = false ∧ (tapsOf c).all (tapOk ((c.u 1 4).testBit 24)) = true) (s.at' t) c) ∧
    (∃ (s : State) (t : Time) (c : Cue), (s.at' t).admits 0x0702 c = true ∧ (fun s c => c.payload.length = 2 ∧
      (((List.range 16).filter (fun r => s.reelArmed r || (c.u 0 2).testBit r)).map s.writeRate).foldl (· + ·) 0 ≤
      800000000 ∧ ∀ r : Fin 16, (c.u 0 2).testBit r = true → s.reelArmed r = false → (s.reel r).conf = true ∧
      s.fullRecord r ≤ s.areaBytes r) (s.at' t) c) ∧
    (∃ (s : State) (t : Time) (c : Cue), (s.at' t).admits 0x0703 c = true ∧ (fun _ c => c.payload.length = 2)
      (s.at' t) c) ∧
    (∃ (s : State) (t : Time) (c : Cue), (s.at' t).admits 0x0704 c = true ∧ (fun _ c => c.payload.length = 2)
      (s.at' t) c) ∧
    (∃ (s : State) (t : Time) (c : Cue), (s.at' t).admits 0x0705 c = true ∧ (fun s c => c.payload.length = 9 ∧ c.u
      0 1 < 16 ∧ ((s.reel (c.u 0 1)).records[c.u 1 4]?).isSome = true) (s.at' t) c) ∧
    (∃ (s : State) (t : Time) (c : Cue), (s.at' t).admits 0x0710 c = true ∧ (fun _ c => c.payload.length = 4)
      (s.at' t) c) ∧
    (∃ (s : State) (t : Time) (c : Cue), (s.at' t).admits 0x0711 c = true ∧ (fun s c => c.payload.length = 8 ∧
      (s.hist.files.find? (fun f => decide (f.1 = c.u 0 4))).isSome = true) (s.at' t) c) ∧
    (∃ (s : State) (t : Time) (c : Cue), (s.at' t).admits 0x0712 c = true ∧ (fun s c => c.payload.length = 4 ∧
      s.hist.files.any (fun f => decide (f.1 = c.u 0 4)) = true) (s.at' t) c) ∧
    (∃ (s : State) (t : Time) (c : Cue), (s.at' t).admits 0x0730 c = true ∧ (fun s c => c.u 0 2 ≤ 256 ∧
      c.payload.length = 2 + 4 * c.u 0 2 ∧ ∀ i, i < c.u 0 2 → c.u (2 + 4 * i) 4 < s.bus.points.length) (s.at' t) c) ∧
    (∃ (s : State) (t : Time) (c : Cue), (s.at' t).admits 0x0731 c = true ∧ (fun s c => c.payload.length = 11 ∧ c.u
      0 1 < 3 ∧ ((if c.u 0 1 = 0 then s.hist.secs else if c.u 0 1 = 1 then s.hist.mins else s.hist.days).any (fun d
      => decide (d.start = c.u 1 8))) = true) (s.at' t) c) :=
  ⟨⟨inState 4, 5, cue ([3] ++ leBytes 2 4096 ++ leBytes 2 2048), by decide +kernel⟩,
    ⟨inState 4, 5, cue ([3] ++ leBytes 4 5 ++ leBytes 4 7 ++ leBytes 4 8 ++ leBytes 4 9 ++ leBytes 4 10 ++ leBytes 4 11 ++ leBytes 2 0x100), by decide +kernel⟩,
    ⟨armReady, 5, cue [8, 0], by decide +kernel⟩,
    ⟨armed3, 5, cue [8, 0], by decide +kernel⟩,
    ⟨armed3, 5, cue [8, 0], by decide +kernel⟩,
    ⟨withRecord, 5, cue [3, 0, 0, 0, 0, 0, 0, 0, 0], by decide +kernel⟩,
    ⟨withFile, 5, cue [0, 0, 0, 0], by decide +kernel⟩,
    ⟨withFile, 5, cue [7, 0, 0, 0, 1, 0, 0, 0], by decide +kernel⟩,
    ⟨withFile, 5, cue [7, 0, 0, 0], by decide +kernel⟩,
    ⟨(inState 4).modBus (fun b => { b with points := [setPoint5] }), 5, cue [1, 0, 0, 0, 0, 0], by decide +kernel⟩,
    ⟨(inState 4).modHist (fun h => { h with mins := [{ start := 60 }] }), 5, cue [1, 60, 0, 0, 0, 0, 0, 0, 0, 0, 0], by decide +kernel⟩⟩

/-- The hypotheses of ReelsRecordAndKeep can be met. -/
theorem witness_ReelsRecordAndKeep :
    (∃ (s : State) (t : Time) (r : Fin 16) (_ : Bool), (s.at' t).rowInstant r = none) ∧
    (∃ (s : State) (t : Time) (r : Fin 16) (i : Nat), (s.at' t).rowInstant r = some i ∧
      (let b := (s.at' t).recordEnd r; b.reelArmed r = true)) ∧
    (∃ (s : State) (t : Time) (r : Fin 16) (i : Nat), (s.at' t).rowInstant r = some i ∧
      (let b := (s.at' t).recordEnd r; (b.rd (REL.STATUS.STATE r) = 2 ∨ b.rd (REL.STATUS.STATE r) = 3) ∧
      (b.reelFires r (b.nodeRow r).1).1 = 0)) ∧
    (∃ (s : State) (t : Time) (r : Fin 16) (i : Nat), (s.at' t).rowInstant r = some i ∧
      (let b := (s.at' t).recordEnd r; (b.rd (REL.STATUS.STATE r) = 2 ∨ b.rd (REL.STATUS.STATE r) = 3) ∧
      (b.reelFires r (b.nodeRow r).1).1 ≠ 0)) ∧
    (∃ (s : State) (t : Time) (r : Fin 16) (i c : Nat), (s.at' t).rowInstant r = some i ∧
      (let b := (s.at' t).recordEnd r; (b.rd (REL.STATUS.STATE r) = 2 ∨ b.rd (REL.STATUS.STATE r) = 3) ∧ (b.rd
      (REL.TRIG.EN r)).testBit 3 = true ∧ (b.reel r).cueReq = some c ∧ c < (s.at' t).cycle)) ∧
    (∃ (s : State) (t : Time) (r : Fin 16) (i : Nat), (s.at' t).rowInstant r = some i ∧ (s.reel r).ended = false ∧
      s.rd (REL.STATUS.STATE r) = 4 ∧ ((s.at' t).reelFires r ((s.at' t).nodeRow r).1).1 = 0) ∧
    (∃ (s : State) (_ : Time) (r : Fin 16) (l : List Record), (s.reel r).ended = true ∧ (l = (s.reel r).records ∧
      (((s.reel r).records.map Record.size).foldl (· + ·) 0) + (s.recordOf r).size ≤ s.areaBytes r ∨ (s.areaBytes r
      < (((s.reel r).records.map Record.size).foldl (· + ·) 0) + (s.recordOf r).size ∧ s.on (REL.CFG.OVERWRITE r) =
      true ∧ makeRoom (s.areaBytes r) (s.recordOf r).size (s.reel r).records = some l))) ∧
    (∃ (s : State) (_ : Time) (r : Fin 16), (s.reel r).ended = true ∧ s.areaBytes r < (((s.reel r).records.map
      Record.size).foldl (· + ·) 0) + (s.recordOf r).size ∧ (s.on (REL.CFG.OVERWRITE r) = false ∨ makeRoom
      (s.areaBytes r) (s.recordOf r).size (s.reel r).records = none)) ∧
    (∃ (s : State) (_ : Time) (x : Record) (rest : List Record), s.hist.exports = x :: rest ∧ s.on
      MEM.STATUS.EMMC_ABSENT = false) ∧
    (∃ (s : State) (t : Time), s.hist.lastMs ≠ some ((s.at' t).tai / 1000000)) ∧
    (∃ (s : State) (t : Time), s.hist.lastMs = some ((s.at' t).tai / 1000000)) ∧
    (∃ (s : State) (t : Time) (k : Fin 3), s.hist.ended.get k 0 ≠ (s.at' t).tai / digestSpan k) :=
  ⟨⟨armed3, 70, 3, true, by decide +kernel⟩,
    ⟨armed3, 5, 3, 0, by decide +kernel⟩,
    ⟨armed3, 5, 3, 0, by decide +kernel⟩,
    ⟨(armed3.wr (REL.TRIG.EN 3) 4).modReel 3 (fun x => { x with fault := true }), 5, 3, 0, by decide +kernel⟩,
    ⟨(armed3.wr (REL.TRIG.EN 3) 8).modReel 3 (fun x => { x with cueReq := some 3 }), 2048, 3, 2048, 3, by decide +kernel⟩,
    ⟨armed3.wr (REL.STATUS.STATE 3) 4, 5, 3, 0, by decide +kernel⟩,
    ⟨ended3.wr (REL.AREA.SIZE 3) 100, 5, 3, [], by decide +kernel⟩,
    ⟨ended3, 5, 3, by decide +kernel⟩,
    ⟨((inState 4).wr MEM.STATUS.EMMC_ABSENT 0).modHist (fun h => { h with exports := [aRecord] }), 5, aRecord, [], by decide +kernel⟩,
    ⟨inState 4, 5, by decide +kernel⟩,
    ⟨(inState 4).modHist (fun h => { h with lastMs := some 0 }), 5, by decide +kernel⟩,
    ⟨later (inState 4), 5, 0, by decide +kernel⟩⟩

/-- The hypotheses of SecurityKeyAndLifecycleCues can be met. -/
theorem witness_SecurityKeyAndLifecycleCues :
    (∃ (s : State) (t : Time) (c : Cue), (s.at' t).admits 0x0800 c = true ∧ (fun s c => c.payload.length = 32 ∧
      s.nvm.lifecycle ≠ 3) (s.at' t) c) ∧
    (∃ (s : State) (t : Time) (c : Cue), (s.at' t).admits 0x0801 c = true ∧ (fun s c => c.payload.length = 3 ∧ c.u
      0 1 < 3 ∧ c.u 1 2 < (s.nvm.certs.getD (c.u 0 1) []).length) (s.at' t) c) ∧
    (∃ (s : State) (t : Time) (c : Cue), (s.at' t).admits 0x0900 c = true ∧ (fun s c => c.payload.length = 10 ∧ 1 ≤
      c.u 8 2 ∧ c.u 8 2 ≤ 127 ∧ c.u 0 8 < s.rd64 LOG.NEXT.INDEX ∧ ∀ i, i < min (c.u 8 2) (s.rd64 LOG.NEXT.INDEX -
      c.u 0 8) → (s.logEntry (c.u 0 8 + i)).isSome = true) (s.at' t) c) ∧
    (∃ (s : State) (t : Time) (c : Cue), (s.at' t).admits 0x0901 c = true ∧ (fun s c => c.payload.length = 8 ∧
      (s.log.seals.find? (fun x => decide (x.1 = c.u 0 8))).isSome = true) (s.at' t) c) ∧
    (∃ (s : State) (t : Time) (c : Cue), (s.at' t).admits 0x0902 c = true ∧ (fun _ c => c.payload = []) (s.at' t)
      c) ∧
    (∃ (s : State) (t : Time) (c : Cue), (s.at' t).admits 0x0810 c = true ∧ c.payload.length = 52 ∧ c.u 0 2 < 264 ∧
      c.u 2 1 < 2) ∧
    (∃ (s : State) (t : Time) (c : Cue), (s.at' t).admits 0x0811 c = true ∧ (fun s c => c.payload.length = 2 ∧ c.u
      0 2 < 264 ∧ (s.keysOf (c.u 0 2)).next.isSome = true) (s.at' t) c) ∧
    (∃ (s : State) (t : Time) (c : Cue), (s.at' t).admits 0x0812 c = true ∧ (fun _ c => c.payload.length = 2 ∧ c.u
      0 1 < 8 ∧ c.u 1 1 < 8) (s.at' t) c) ∧
    (∃ (s : State) (t : Time) (c : Cue), (s.at' t).admits 0x0820 c = true ∧ (fun s c => c.payload.length = 3 ∧ c.u
      1 2 = 0xA55A ∧ ((s.nvm.lifecycle = 0 ∧ c.u 0 1 = 1 ∧ s.nvm.certs.all (fun b => !b.isEmpty) = true) ∨
      (s.nvm.lifecycle = 1 ∧ c.u 0 1 = 2 ∧ s.nvm.anchor.isSome = true ∧ ssCFG.testBit s.code = true))) (s.at' t) c) ∧
    (∃ (s : State) (t : Time) (c : Cue), (s.at' t).admits 0x0820 c = true ∧ (fun s c => c.payload.length = 3 ∧ c.u
      1 2 = 0xA55A ∧ c.u 0 1 = 3 ∧ (s.nvm.lifecycle = 1 ∨ s.nvm.lifecycle = 2) ∧ ssCFG.testBit s.code = true)
      (s.at' t) c) :=
  ⟨⟨inState 4, 5, cue (List.replicate 32 7), by decide +kernel⟩,
    ⟨{ inState 4 with nvm := { State.reset.nvm with certs := [[], [1, 2, 3], []] } }, 5, cue [1, 1, 0], by decide +kernel⟩,
    ⟨logged, 5, cue ([3, 0, 0, 0, 0, 0, 0, 0, 2, 0]), by decide +kernel⟩,
    ⟨{ inState 4 with log := { State.reset.log with seals := [(0, 5, 6)] } }, 5, cue ([0, 0, 0, 0, 0, 0, 0, 0]), by decide +kernel⟩,
    ⟨logged, 5, cue [], by decide +kernel⟩,
    ⟨inState 4, 5, cue (List.replicate 52 0), by decide +kernel⟩,
    ⟨(inState 4).modBus (fun b => { b with keys := [(5, { next := some { id := 1, bytes := [1], till := 99 } })] }), 5, cue [5, 0], by decide +kernel⟩,
    ⟨inState 2, 5, cue [5, 0], by decide +kernel⟩,
    ⟨{ inState 2 with nvm := { State.reset.nvm with lifecycle := 0, certs := [[1], [2], [3]] } }, 5, cue [1, 0x5A, 0xA5], by decide +kernel⟩,
    ⟨{ inState 2 with nvm := { State.reset.nvm with lifecycle := 1, anchor := some 5 } }, 5, cue [3, 0x5A, 0xA5], by decide +kernel⟩⟩

/-- The hypotheses of UpdateCues can be met. -/
theorem witness_UpdateCues :
    (∃ (s : State) (t : Time) (c : Cue), (s.at' t).admits 0x0A00 c = true ∧ s.updateBusy = false) ∧
    (∃ (s : State) (t : Time) (c : Cue), (s.at' t).admits 0x0A00 c = true ∧ (fun s _ => s.updateBusy = true) (s.at'
      t) c) ∧
    (∃ (s : State) (t : Time) (c : Cue) (k : Package), (s.at' t).admits 0x0A01 c = true ∧ c.payload.length = 1 ∧
      c.u 0 1 = 1 ∧ s.updateBusy = false ∧ s.nvm.pkg = some k ∧ s.nvm.stage = .loaded ∧ k.kind = 0 ∧ k.target = 1 ∧
      s.pairRuns 1 = true ∧ stBOOT < s.code) ∧
    (∃ (s : State) (t : Time) (c : Cue), (s.at' t).admits 0x0A01 c = true ∧ (fun s c => c.payload.length = 1 ∧ c.u
      0 1 < 2 ∧ s.updateBusy = false ∧ s.nvm.stage = .loaded ∧ s.nvm.pkg.any (fun k => decide (k.kind = 2)) = true)
      (s.at' t) c) ∧
    (∃ (s : State) (t : Time) (c : Cue), (s.at' t).admits 0x0A02 c = true ∧ (fun _ c => c.payload = []) (s.at' t)
      c) :=
  ⟨⟨inState 4, 5, cue [1, 2, 3], by decide +kernel⟩,
    ⟨{ inState 4 with sys := { State.reset.sys with updating := some 1 } }, 5, cue [], by decide +kernel⟩,
    ⟨{ inState 4 with nvm := { State.reset.nvm with stage := .loaded, pkg := some ⟨0, 1, 0, 0, [], 0⟩ } }, 5, cue [1], ⟨0, 1, 0, 0, [], 0⟩, by decide +kernel⟩,
    ⟨{ inState 4 with nvm := { State.reset.nvm with stage := .loaded, pkg := some ⟨2, 1, 0, 0, [], 0⟩ } }, 5, cue [1], by decide +kernel⟩,
    ⟨inState 4, 5, cue [], by decide +kernel⟩⟩

/-- The hypotheses of ViolationsAndTheContinuityLog can be met. -/
theorem witness_ViolationsAndTheContinuityLog :
    (∃ (s : State) (_ : Time), s.nvm.tamper = false ∧ s.sys.dark = false) ∧
    (∃ (s : State) (_ : Time), s.nvm.tamper = true) ∧
    (∃ (s : State) (_ : Time) (_ : DebugOp), s.sys.dark = false ∧ 2 ≤ s.nvm.lifecycle) ∧
    (∃ (s : State) (_ : Time) (_ : Fin 3) (_ : List Byte), s.sys.dark = false ∧ s.nvm.lifecycle = 0) ∧
    (∃ (s : State) (_ : Time), s.sys.dark = true) ∧
    (∃ (s : State) (_ : Time) (f last : Nat × LogEntry), s.on MEM.STATUS.EMMC_ABSENT = false ∧ stBOOT < s.code ∧
      (s.ringed.filter (fun e => decide (s.firstUnspilled ≤ e.1))).head? = some f ∧ (s.ringed.filter (fun e =>
      decide (s.firstUnspilled ≤ e.1))).getLast? = some last ∧ ((chainOver s.log.spillHead (s.ringed.filter (fun e
      => decide (s.firstUnspilled ≤ e.1)))).1 = true ∨ f.1 ≠ s.firstUnspilled)) ∧
    (∃ (s : State) (_ : Time) (intact : Bool) (f : Nat × LogEntry), s.on MEM.STATUS.EMMC_ABSENT = false ∧ stBOOT <
      s.code ∧ (s.ringed.filter (fun e => decide (s.firstUnspilled ≤ e.1))).head? = some f ∧ (intact = false ∨
      ((chainOver s.log.spillHead (s.ringed.filter (fun e => decide (s.firstUnspilled ≤ e.1)))).1 = false ∧ f.1 =
      s.firstUnspilled))) ∧
    (∃ (s : State) (_ : Time) (_ : Bool), (s.on MEM.STATUS.EMMC_ABSENT = true ∨ s.code ≤ stBOOT)) ∧
    (∃ (s : State) (_ : Time) (k : Nat) (h : BitVec 384) (rest : List (Nat × BitVec 384)), s.log.sealWait = (k, h)
      :: rest ∧ s.nvm.identity = true) ∧
    (∃ (s : State) (_ : Time), (s.log.sealWait = [] ∨ s.nvm.identity = false)) :=
  ⟨⟨{ State.reset with sys := { State.reset.sys with dark := false } }, 5, by decide +kernel⟩,
    ⟨{ State.reset with nvm := { State.reset.nvm with tamper := true } }, 5, by decide +kernel⟩,
    ⟨{ inState 4 with nvm := { State.reset.nvm with lifecycle := 2 }, sys := { State.reset.sys with dark := false } }, 5, .halt 1, by decide +kernel⟩,
    ⟨{ inState 4 with sys := { State.reset.sys with dark := false } }, 5, 1, [1, 2], by decide +kernel⟩,
    ⟨{ State.reset with sys := { State.reset.sys with dark := true } }, 5, by decide +kernel⟩,
    ⟨spillable, 5, (3, anEntry), (4, anEntry), by decide +kernel⟩,
    ⟨spillable, 5, false, (3, anEntry), by decide +kernel⟩,
    ⟨State.reset, 5, true, by decide +kernel⟩,
    ⟨{ State.reset with log := { State.reset.log with sealWait := [(3, 4)] }, nvm := { State.reset.nvm with identity := true } }, 5, 3, 4, [], by decide +kernel⟩,
    ⟨State.reset, 5, by decide +kernel⟩⟩

/-- The hypotheses of CuesArriveAndAreAnswered can be met. -/
theorem witness_CuesArriveAndAreAnswered :
    (∃ (s : State) (_ : Time) (b : List Byte) (x : Sess), stBOOT ≤ s.code ∧ s.rd HOST.STATUS.IN_FREE ≠ 0 ∧ s.bitOf
      SYS.HOLD.ACTIVE 0 = false ∧ b.length = cueBytes b ∧ headOk b = true ∧ (cueOf b).crc = crc32 (b.take (16 +
      leAt b 6 2)) ∧ (cueOf b).auth = false ∧ (cueOf b).cls = 2 ∧ s.cueSession (cueOf b) .host none = some x ∧
      x.slot = none ∧ s.cue.entries.any (fun e => decide (e.session = x.id ∧ e.seq = leAt b 4 2)) = false ∧
      s.cue.inbox.any (fun i => decide (i.entry.session = x.id ∧ i.entry.seq = leAt b 4 2)) = false ∧ x.seen.any
      (fun y => decide (y.1 = leAt b 4 2)) = false ∧ (opSpec (leAt b 2 2)).isSome = true ∧ (cueOf b).flags.getLsbD
      3 = false) ∧
    (∃ (s : State) (_ : Time) (_ : List Byte), stBOOT ≤ s.code ∧ s.rd HOST.STATUS.IN_FREE = 0) ∧
    (∃ (s : State) (_ : Time) (b : List Byte), stBOOT ≤ s.code ∧ s.rd HOST.STATUS.IN_FREE ≠ 0 ∧ s.bitOf
      SYS.HOLD.ACTIVE 0 = false ∧ b.length = cueBytes b ∧ headOk b = true ∧ (cueOf b).crc ≠ crc32 (b.take (16 +
      leAt b 6 2))) ∧
    (∃ (s : State) (_ : Time) (m : OutMsg) (rest : List OutMsg) (_ : Bool), stBOOT ≤ s.code ∧ s.cue.out = m ::
      rest) ∧
    (∃ (s : State) (_ : Time) (_ : Bool), stBOOT ≤ s.code ∧ s.cue.out = []) :=
  ⟨⟨hostState, 5, cueWords 3 2 [], { id := 0, path := .host, roles := 7 }, by decide +kernel⟩,
    ⟨(inState 4).wr HOST.STATUS.IN_FREE 0, 5, cueWords 3 2 [], by decide +kernel⟩,
    ⟨hostState, 5, (cueWords 3 2 []).take 19 ++ [0x55], by decide +kernel⟩,
    ⟨hostState.modCue (fun q => { q with out := [OutMsg.mk 0 7 true [1, 2, 3]] }), 5, OutMsg.mk 0 7 true [1, 2, 3], [], true, by decide +kernel⟩,
    ⟨hostState, 5, true, by decide +kernel⟩⟩

/-- The hypotheses of ConnectionsFragmentsAndSessions can be met. -/
theorem witness_ConnectionsFragmentsAndSessions :
    (∃ (s : State) (_ : Time) (k : Fin 4) (_ : BitVec 32) (_ : BitVec 3) (b : List Byte), stBOOT ≤ s.code ∧ s.bitOf
      SYS.HOLD.ACTIVE 0 = false ∧ s.cue.conns.get k none = none ∧ 16 ≤ b.length ∧ headOk b = true ∧ b.length =
      cueBytes b ∧ leAt b 2 2 = 1 ∧ (cueOf b).cls = 3 ∧ (cueOf b).auth = false ∧ (cueOf b).crc = crc32 (b.take (16
      + leAt b 6 2)) ∧ (∀ x ∈ s.cue.sessions, x.conn ≠ some k.val)) ∧
    (∃ (s : State) (_ : Time) (_ : Fin 4) (_ : BitVec 32) (_ : BitVec 3) (b : List Byte), stBOOT ≤ s.code ∧ s.bitOf
      SYS.HOLD.ACTIVE 0 = false ∧ b.length < 16) ∧
    (∃ (s : State) (t : Time) (k : Fin 4), (s.at' t).due (.mgmtIdle k) (300 * sec) = true) ∧
    (∃ (s : State) (t : Time) (k : Fin 4), (s.at' t).due (.mgmtIdle k) (300 * sec) = false) :=
  ⟨⟨hostState, 5, 2, 77, 3, cueWords 1 3 [0, 0, 0, 0, 255], by decide +kernel⟩,
    ⟨hostState, 5, 2, 77, 3, [1, 2], by decide +kernel⟩,
    ⟨since0 (hostState.modCue (fun q => { q with conns := q.conns.upd 2 (fun _ => some { cert := 7, roles := 3, serial := 0 }) })) (.mgmtIdle 2), 5, 2, by decide +kernel⟩,
    ⟨hostState, 5, 2, by decide +kernel⟩⟩

/-- The hypotheses of PrechargeSequence can be met. -/
theorem witness_PrechargeSequence :
    (∃ (s : State) (t : Time), s.code = stPRECHARGE ∧ s.sys.pchClosed = false ∧ s.sys.pchFail = false ∧ (s.at'
      t).due .pchHold (10 * ms) = true ∧ s.on SYS.AUXIO.DCD_AUX = false) ∧
    (∃ (s : State) (t : Time), s.code = stPRECHARGE ∧ s.sys.pchClosed = false ∧ s.sys.pchFail = false ∧ (s.at'
      t).due .pchHold (10 * ms) = true ∧ s.on SYS.AUXIO.DCD_AUX = true) ∧
    (∃ (s : State) (_ : Time), s.code = stPRECHARGE ∧ s.sys.pchClosed = true ∧ s.sys.pchFail = false) ∧
    (∃ (s : State) (_ : Time), (s.code ≠ stPRECHARGE ∨ s.sys.pchClosed = false ∨ s.sys.pchFail = true)) ∧
    (∃ (s : State) (t : Time), s.code = stPRECHARGE ∧ s.sys.pchClosed = false ∧ (s.at' t).due .pchEntry (s.rd
      SYS.SEQ.PCH_T * sec) = true) ∧
    (∃ (s : State) (t : Time), s.code = stPRECHARGE ∧ s.sys.pchClosed = true ∧ s.sys.dcdOk = false ∧ (s.at' t).due
      .dcdClose (s.rd SYS.SEQ_T.DCD_CT * 10 * ms) = true) :=
  ⟨⟨since0 (inState 5) .pchHold, 0, by decide +kernel⟩,
    ⟨since0 ((inState 5).set SYS.AUXIO.DCD_AUX) .pchHold, 0, by decide +kernel⟩,
    ⟨(inState 5).modSys (fun y => { y with pchClosed := true }), 0, by decide +kernel⟩,
    ⟨inState 4, 0, by decide +kernel⟩,
    ⟨since0 (inState 5) .pchEntry, 0, by decide +kernel⟩,
    ⟨since0 ((inState 5).modSys (fun y => { y with pchClosed := true })) .dcdClose, 0, by decide +kernel⟩⟩

/-- The hypotheses of EnergizeAndStopSequence can be met. -/
theorem witness_EnergizeAndStopSequence :
    (∃ (s : State) (_ : Time), s.code = stENERGIZE ∧ s.running .brkClose = true) ∧
    (∃ (s : State) (t : Time), s.code = stENERGIZE ∧ (s.at' t).due .gridWait (2 * s.gridCycle) = true) ∧
    (∃ (s : State) (t : Time), s.code = stENERGIZE ∧ (s.at' t).due .brkClose (s.rd SYS.SEQ_T.BRK_CT * 10 * ms) =
      true) ∧
    (∃ (s : State) (t : Time), s.code = stSTOPPING ∧ s.sys.gridOff = false ∧ (s.at' t).due .stopLow ms = true) ∧
    (∃ (s : State) (t : Time), s.code = stSTOPPING ∧ s.sys.gridOff = false ∧ (s.at' t).due .stopEntry (s.rd
      SYS.SEQ_T.STOP_T * ms) = true) ∧
    (∃ (s : State) (_ : Time), s.code = stSTOPPING ∧ s.sys.gridOff = true ∧ s.running .brkOpen = true) ∧
    (∃ (s : State) (t : Time), s.code = stSTOPPING ∧ s.sys.gridOff = true ∧ (s.at' t).due .brkOpen (s.rd
      SYS.SEQ_T.BRK_CT * 10 * ms) = true) :=
  ⟨⟨since0 (inState 7) .brkClose, 0, by decide +kernel⟩,
    ⟨since0 (inState 7) .gridWait, 0, by decide +kernel⟩,
    ⟨since0 (inState 7) .brkClose, 0, by decide +kernel⟩,
    ⟨since0 ((inState 9).set SYS.AUXIO.BRK_AUX) .stopLow, 0, by decide +kernel⟩,
    ⟨since0 ((inState 9).wr SYS.AUXIO.BRK_AUX 0) .stopEntry, 0, by decide +kernel⟩,
    ⟨since0 ((inState 9).modSys (fun y => { y with gridOff := true })) .brkOpen, 0, by decide +kernel⟩,
    ⟨since0 ((inState 9).modSys (fun y => { y with gridOff := true })) .brkOpen, 0, by decide +kernel⟩⟩

/-- The hypotheses of HoldOverBridgesThePairs can be met. -/
theorem witness_HoldOverBridgesThePairs :
    (∃ (s : State) (t : Time), (s.at' t).due .directorEval (30 * ms) = true ∧ s.bitOf SYS.HOLD.ACTIVE 1 = false ∧
      stBOOT < s.code ∧ s.running .holdover = false) ∧
    (∃ (s : State) (_ : Time) (p : Fin 2), s.pairRuns p = true ∧ stBOOT < s.code ∧ s.running .holdover = false) ∧
    (∃ (s : State) (_ : Time), s.pairRuns 0 = false ∧ s.sys.updating = none) ∧
    (∃ (s : State) (_ : Time), s.pairRuns 1 = false ∧ s.sys.updating ≠ some 1) ∧
    (∃ (s : State) (_ : Time) (p : Nat) (k : Package), s.sys.updating = some p ∧ s.nvm.pkg = some k ∧ s.pairRuns p
      = false ∧ k.kind = 0) ∧
    (∃ (s : State) (t : Time), stBOOT < s.code ∧ s.pairRuns 0 = true ∧ s.pairRuns 1 = true ∧ s.running .holdover =
      true ∧ s.sys.updating = none ∧ (s.running .directorEval = false ∨ (s.at' t).due .directorEval (10 * ms) =
      true)) ∧
    (∃ (s : State) (t : Time), s.running .directorEval = true ∧ (s.at' t).due .directorEval (10 * ms) = false) ∧
    (∃ (s : State) (t : Time), (s.at' t).due .holdover (s.sys.holdLimit * sec) = true ∧ s.sys.holdOut = false ∧
      (s.code = stRUN ∨ s.code = stENERGIZE) ∧ s.sys.updating = none) ∧
    (∃ (s : State) (t : Time), (s.at' t).due .holdover (s.sys.holdLimit * sec) = true ∧ s.sys.holdOut = false ∧
      stCOMMISSION ≤ s.code ∧ s.code ≤ stSYNC ∧ s.sys.updating = none) ∧
    (∃ (s : State) (t : Time), (s.at' t).due .checker sec = true) ∧
    (∃ (s : State) (t : Time), (s.at' t).due .checker sec = true) ∧
    (∃ (s : State) (t : Time), (s.at' t).due .checker sec = true ∧ s.pairRuns 1 = true ∧ stBOOT < s.code) ∧
    (∃ (s : State) (t : Time) (_ : BitVec 4), (s.at' t).due .checker sec = false) :=
  ⟨⟨since0 (inState 4) .directorEval, 0, by decide +kernel⟩,
    ⟨inState 4, 0, 0, by decide +kernel⟩,
    ⟨(inState 4).modSys (fun y => { y with pairRunning := 2 }), 0, by decide +kernel⟩,
    ⟨(inState 4).modSys (fun y => { y with pairRunning := 1 }), 0, by decide +kernel⟩,
    ⟨((inState 4).modSys (fun y => { y with pairRunning := 2, updating := some 0 })).modNvm (fun n => { n with pkg := some ⟨0, 0, 1, 1, [], 0⟩ }), 0, 0, ⟨0, 0, 1, 1, [], 0⟩, by decide +kernel⟩,
    ⟨(inState 8).start .holdover, 0, by decide +kernel⟩,
    ⟨(inState 8).start .directorEval, 0, by decide +kernel⟩,
    ⟨since0 (inState 8) .holdover, 0, by decide +kernel⟩,
    ⟨since0 (inState 4) .holdover, 0, by decide +kernel⟩,
    ⟨since0 (inState 4) .checker, 0, by decide +kernel⟩,
    ⟨since0 (inState 4) .checker, 0, by decide +kernel⟩,
    ⟨since0 (inState 4) .checker, 0, by decide +kernel⟩,
    ⟨inState 4, 0, 3, by decide +kernel⟩⟩

/-- The hypotheses of RampsResetsAndPads can be met. -/
theorem witness_RampsResetsAndPads :
    (∃ (s : State) (_ : Time) (g : Fin 9), s.softDone g = true ∧ s.trip.ramping.testBit g = true) ∧
    (∃ (s : State) (t : Time) (c : Cue), (s.at' t).admits 0x0014 c = true ∧ (fun s c => c.payload.length = 8 ∧ c.u
      0 8 < 2 ^ 40 ∧ s.trip.resetMask = none ∧ s.deepReset = true ∧ (c.u 0 8).testBit 34 = true ∧ s.lostLinks ≠ [])
      (s.at' t) c) ∧
    (∃ (s : State) (t : Time) (c : Cue), (s.at' t).admits 0x0014 c = true ∧ c.payload.length = 8 ∧ c.u 0 8 < 2 ^ 40
      ∧ s.trip.resetMask = none ∧ (s.deepReset = false ∨ ((c.u 0 8).testBit 28 = false ∧ (c.u 0 8).testBit 31 =
      false ∧ (c.u 0 8).testBit 34 = false))) ∧
    (∃ (s : State) (t : Time) (m : BitVec 40), s.trip.resetMask = some m ∧ (s.lostLinks = [] ∨ (s.at' t).due
      .releaseGrid (100 * us) = true)) ∧
    (∃ (s : State) (t : Time) (c : Cue), (s.at' t).admits 0x0015 c = true ∧ (fun _ c => c.payload.length = 1 ∧ c.u
      0 1 < 4) (s.at' t) c) :=
  ⟨⟨(inState 8).modTrip (fun t => { t with ramping := 1 }), 0, 0, by decide +kernel⟩,
    ⟨((inState 4).putLatch 34 true).modIsland 3 (fun i => { i with muted := true }), 0, cue (leBytes 8 (2 ^ 34)), by decide +kernel⟩,
    ⟨((inState 8).putLatch 5 true).putLatch 6 true, 0, cue (leBytes 8 32), by decide +kernel⟩,
    ⟨((inState 8).putLatch 5 true).modTrip (fun t => { t with resetMask := some 32 }), 0, 32, by decide +kernel⟩,
    ⟨(inState 4).set TRP.GOV_STAT.LOCK_GRID, 0, cue [1], by decide +kernel⟩⟩

/-- The hypotheses of SuppliesResetAndBoot can be met. -/
theorem witness_SuppliesResetAndBoot :
    (∃ (s : State) (_ : Time), s.sys.dark = false) ∧
    (∃ (s : State) (t : Time) (admin : Bool) (id seq : Nat), s.cue.resetBy = some (admin, id, seq) ∧ (s.replyGone
      id seq = true ∨ (s.at' t).due .resetQueued (100 * ms) = true)) ∧
    (∃ (s : State) (_ : Time), s.sys.dark = false ∧ s.sys.vana = true) ∧
    (∃ (s : State) (_ : Time), s.sys.dark = false ∧ s.sys.vana = false) ∧
    (∃ (s : State) (_ : Time) (_ : Bool), s.sys.dark = false) ∧
    (∃ (s : State) (_ : Time) (bad : BitVec 4) (_ : BitVec 8) (_ : List Byte), s.code = stBOOT ∧ s.sys.dark = false
      ∧ s.nvm.bootFrom bad = none) ∧
    (∃ (s : State) (_ : Time) (bad : BitVec 4) (_ : BitVec 8) (_ : List Byte) (b : Nat), s.code = stBOOT ∧
      s.sys.dark = false ∧ s.nvm.bootFrom bad = some b ∧ s.nvm.profile = none) :=
  ⟨⟨(inState 4).modSys (fun y => { y with dark := false }), 0, by decide +kernel⟩,
    ⟨since0 (((inState 4).modCue (fun q => { q with resetBy := some (true, 0, 7) })).putDram 4 5) .resetQueued, 0, true, 0, 7, by decide +kernel⟩,
    ⟨(inState 4).modSys (fun y => { y with dark := false }), 0, by decide +kernel⟩,
    ⟨(inState 4).modSys (fun y => { y with dark := false, vana := false }), 0, by decide +kernel⟩,
    ⟨(inState 4).modSys (fun y => { y with dark := false }), 0, true, by decide +kernel⟩,
    ⟨State.reset.modSys (fun y => { y with dark := false }), 0, 15, 1, [], by decide +kernel⟩,
    ⟨State.reset.modSys (fun y => { y with dark := false }), 0, 0, 1, [], 0, by decide +kernel⟩⟩

/-- The hypotheses of LinkSlotsAndRepeats can be met. -/
theorem witness_LinkSlotsAndRepeats :
    (∃ (s : State) (_ : Time) (n : Fin 14), s.clk.stopped = false ∧ (s.island n).txq = [] ∧ (s.island n).upq = [] ∧
      (s.island n).muted = false ∧ (s.island n).lost = false) ∧
    (∃ (s : State) (t : Time) (n : Fin 14) (q : Queued Down) (l₁ l₂ : List (Queued Down)), s.clk.stopped = false ∧
      (s.island n).txq = l₁ ++ q :: l₂ ∧ q.frame = .stateOff ∧ q.ready ≤ max s.now t / slot * slot ∧ (∀ e ∈ l₁,
      e.frame ≠ .stateOff) ∧ (q.sent = true ∨ (∀ e ∈ l₂, e.frame = .stateOff → e.sent = false))) ∧
    (∃ (s : State) (_ : Time) (n : Fin 14), s.clk.stopped = false ∧ (s.island n).txq = [] ∧ (s.island n).muted =
      true) ∧
    (∃ (s : State) (_ : Time) (n : Fin 14), s.clk.stopped = false ∧ (s.island n).lost = true ∧ (s.island n).upq =
      []) ∧
    (∃ (s : State) (_ : Time) (_ : Fin 14), s.clk.stopped = true) ∧
    (∃ (s : State) (_ : Time) (n : Fin 14) (seq : BitVec 3) (_ _ : Bool) (_ : BitVec 16), (s.island n).repeatDown 1
      seq.toNat = true) ∧
    (∃ (s : State) (_ : Time) (n : Fin 14) (seq : BitVec 3) (_ : BitVec 16), (s.island n).repeatDown 2 seq.toNat =
      true) ∧
    (∃ (s : State) (_ : Time) (n : Fin 14) (seq : BitVec 3), (s.island n).repeatDown 3 seq.toNat = true) ∧
    (∃ (s : State) (_ : Time) (n : Fin 14) (seq : BitVec 3), (s.island n).repeatDown 3 seq.toNat = true) ∧
    (∃ (s : State) (_ : Time) (n : Fin 14) (seq : BitVec 3), (s.island n).repeatDown 3 seq.toNat = true) ∧
    (∃ (s : State) (_ : Time) (n : Fin 14) (seq : BitVec 3) (_ : Fin 3) (_ : BitVec 16), (s.island n).upSeen = some
      (1, seq.toNat)) ∧
    (∃ (s : State) (_ : Time) (n : Fin 14) (seq : BitVec 3) (_ : Byte), (s.island n).upSeen = some (3, seq.toNat)) ∧
    (∃ (s : State) (_ : Time) (n : Fin 14) (seq : BitVec 3) (_ : BitVec 16), (s.island n).upSeen = some (4,
      seq.toNat)) :=
  ⟨⟨later State.reset, 0, 3, by decide +kernel⟩,
    ⟨State.reset.modIsland 3 (fun i => { i with txq := [{ frame := .stateOff, seq := 2 }, { frame := .clear, seq := 3 }] }), 0, 3, { frame := .stateOff, seq := 2 }, [], [{ frame := .clear, seq := 3 }], by decide +kernel⟩,
    ⟨State.reset.modIsland 3 (fun i => { i with muted := true }), 0, 3, by decide +kernel⟩,
    ⟨State.reset.modIsland 3 (fun i => { i with lost := true }), 0, 3, by decide +kernel⟩,
    ⟨{ State.reset with clk := { State.reset.clk with stopped := true } }, 0, 3, by decide +kernel⟩,
    ⟨islLater 3 (fun i => { i with downSeen := [(1, 2)] }), 0, 3, 2, true, true, 7, by decide +kernel⟩,
    ⟨islLater 3 (fun i => { i with downSeen := [(1, 2), (2, 5)] }), 0, 3, 5, 7, by decide +kernel⟩,
    ⟨islLater 3 (fun i => { i with downSeen := [(3, 2)], on := true }), 0, 3, 2, by decide +kernel⟩,
    ⟨islLater 3 (fun i => { i with downSeen := [(3, 2)], on := true }), 0, 3, 2, by decide +kernel⟩,
    ⟨islLater 3 (fun i => { i with downSeen := [(3, 2)], on := true }), 0, 3, 2, by decide +kernel⟩,
    ⟨islLater 3 (fun i => { i with upSeen := some (1, 2) }), 0, 3, 2, 2, 9, by decide +kernel⟩,
    ⟨islLater 3 (fun i => { i with upSeen := some (3, 2) }), 0, 3, 2, 9, by decide +kernel⟩,
    ⟨islLater 3 (fun i => { i with upSeen := some (4, 2) }), 0, 3, 2, 9, by decide +kernel⟩⟩

/-- The hypotheses of IslandsActOnFrames can be met. -/
theorem witness_IslandsActOnFrames :
    (∃ (s : State) (t : Time) (n : Fin 14) (seq : BitVec 3) (on _ : Bool) (off : BitVec 16), (s.island
      n).repeatDown 1 seq.toNat = false ∧ max s.now t ≤ max s.now t - slot + off.toNat ∧ (on = false ∨ (s.island
      n).latched = false)) ∧
    (∃ (s : State) (_ : Time) (n : Fin 14) (seq : BitVec 3) (_ : Bool) (_ : BitVec 16), (s.island n).repeatDown 1
      seq.toNat = false ∧ (s.island n).latched = true) ∧
    (∃ (s : State) (t : Time) (n : Fin 14) (seq : BitVec 3) (on _ : Bool) (off : BitVec 16), (s.island
      n).repeatDown 1 seq.toNat = false ∧ max s.now t - slot + off.toNat < max s.now t ∧ ((on = true ∧ (s.island
      n).latched = false) ∨ (on = false ∧ (s.island n).on = false))) ∧
    (∃ (s : State) (t : Time) (n : Fin 14) (seq : BitVec 3) (_ : Bool) (off : BitVec 16), (s.island n).repeatDown 1
      seq.toNat = false ∧ max s.now t - slot + off.toNat < max s.now t ∧ (s.island n).on = true ∧ (s.island n).oc =
      false ∧ (s.island n).sc = false) ∧
    (∃ (s : State) (t : Time) (n : Fin 14) (seq : BitVec 3) (off : BitVec 16) (on imm : Bool) (te : Time),
      (s.island n).repeatDown 2 seq.toNat = false ∧ (s.island n).armed = some (on, imm, te) ∧ te = max s.now t -
      slot + off.toNat ∧ max s.now t + slot ≤ te) ∧
    (∃ (s : State) (t : Time) (n : Fin 14) (seq : BitVec 3) (off : BitVec 16), (s.island n).repeatDown 2 seq.toNat
      = false ∧ ((∀ on imm te, (s.island n).armed = some (on, imm, te) → te ≠ max s.now t - slot + off.toNat ∨ te <
      max s.now t + slot))) ∧
    (∃ (s : State) (_ : Time) (n : Fin 14) (seq : BitVec 3), (s.island n).repeatDown 3 seq.toNat = false ∧
      (s.island n).on = true ∧ (s.island n).oc = false ∧ (s.island n).sc = false) ∧
    (∃ (s : State) (_ : Time) (n : Fin 14) (seq : BitVec 3), (s.island n).repeatDown 3 seq.toNat = false ∧
      (s.island n).on = true ∧ (s.island n).soft = none ∧ ((s.island n).oc = true ∨ (s.island n).sc = true)) ∧
    (∃ (s : State) (_ : Time) (n : Fin 14) (seq : BitVec 3), (s.island n).repeatDown 3 seq.toNat = false ∧
      (s.island n).on = false) ∧
    (∃ (s : State) (_ : Time) (n : Fin 14) (seq : BitVec 3), (s.island n).repeatDown 3 seq.toNat = false ∧
      (s.island n).cfgDone = true) ∧
    (∃ (s : State) (_ : Time) (n : Fin 14) (seq : BitVec 3), (s.island n).repeatDown 3 seq.toNat = false ∧
      (s.island n).cfgDone = false) ∧
    (∃ (s : State) (_ : Time) (n : Fin 14) (seq : BitVec 3) (t0 : Time), (s.island n).repeatDown 3 seq.toNat =
      false ∧ (s.island n).scWait = some t0 ∧ (s.island n).soft = none ∧ (s.island n).on = true) ∧
    (∃ (s : State) (_ : Time) (n : Fin 14) (seq : BitVec 3), (s.island n).repeatDown 3 seq.toNat = false ∧
      (s.island n).scWait = none) :=
  ⟨⟨later State.reset, 0, 3, 2, true, false, 0xFFFF, by decide +kernel⟩,
    ⟨islLater 3 (fun i => { i with latched := true }), 0, 3, 2, true, 5, by decide +kernel⟩,
    ⟨later State.reset, 0, 3, 2, true, true, 5, by decide +kernel⟩,
    ⟨islLater 3 (fun i => { i with on := true }), 0, 3, 2, true, 5, by decide +kernel⟩,
    ⟨islLater 3 (fun i => { i with armed := some (true, false, 10 ^ 20 - slot + 0xFFFF) }), 0, 3, 2, 0xFFFF, true, false, 10 ^ 20 - slot + 0xFFFF, by decide +kernel⟩,
    ⟨later State.reset, 0, 3, 2, 5, by decide +kernel, fun _ _ _ h => by rw [show ((later State.reset).island (3 : Fin 14)).armed = none by decide +kernel] at h; cases h⟩,
    ⟨islLater 3 (fun i => { i with on := true }), 0, 3, 2, by decide +kernel⟩,
    ⟨islLater 3 (fun i => { i with on := true, oc := true }), 0, 3, 2, by decide +kernel⟩,
    ⟨islLater 3 (fun i => { i with armed := some (true, false, 9) }), 0, 3, 2, by decide +kernel⟩,
    ⟨islLater 3 (fun i => { i with cfgDone := true, latched := true }), 0, 3, 2, by decide +kernel⟩,
    ⟨islLater 3 (fun i => { i with latched := true }), 0, 3, 2, by decide +kernel⟩,
    ⟨islLater 3 (fun i => { i with on := true, scWait := some 0 }), 0, 3, 2, 0, by decide +kernel⟩,
    ⟨later State.reset, 0, 3, 2, by decide +kernel⟩⟩

/-- The hypotheses of PrimaryTakesReportsAndFaults can be met. -/
theorem witness_PrimaryTakesReportsAndFaults :
    (∃ (s : State) (_ : Time) (n : Fin 14) (_ _ : BitVec 3), ((s.island n).joined = false ∨ s.on
      (ISL.STATUS.LINK_UP n) = true)) ∧
    (∃ (s : State) (_ : Time) (n : Fin 14) (_ echo : BitVec 3), (s.island n).joined = true ∧ s.on
      (ISL.STATUS.LINK_UP n) = false ∧ (∀ k ∈ (s.island n).cfgTodo, ∃ e ∈ (s.island n).echoes, e.seq = echo.toNat ∧
      ∃ v, e.frame = .cfg k v)) ∧
    (∃ (s : State) (_ : Time) (n : Fin 14) (seq : BitVec 3) (_ : BitVec 16), (s.island n).upSeen ≠ some (1,
      seq.toNat)) ∧
    (∃ (s : State) (_ : Time) (n : Fin 14) (seq : BitVec 3) (_ : BitVec 16), (s.island n).upSeen ≠ some (1,
      seq.toNat)) ∧
    (∃ (s : State) (_ : Time) (n : Fin 14) (seq : BitVec 3) (_ : BitVec 16), (s.island n).upSeen ≠ some (1,
      seq.toNat)) ∧
    (∃ (s : State) (_ : Time) (n : Fin 14) (seq : BitVec 3) (_ : BitVec 16), (s.island n).upSeen ≠ some (4,
      seq.toNat)) ∧
    (∃ (s : State) (_ : Time) (n : Fin 14) (_ : BitVec 3) (_ : Fin 3) (_ : BitVec 16), (s.island n).muted = false) ∧
    (∃ (s : State) (_ : Time) (n : Fin 14) (_ : BitVec 3) (_ : Fin 3) (_ : BitVec 16), (s.island n).muted = true) ∧
    (∃ (s : State) (_ : Time) (n : Fin 14) (_ failed : BitVec 3) (e : Echo), (s.island n).echoes.find? (fun e =>
      decide (e.seq = failed.toNat)) = some e ∧ e.resent = false) ∧
    (∃ (s : State) (t : Time) (n : Fin 14) (seq : BitVec 3) (e : Echo), (s.island n).echoes.find? (fun e => decide
      (e.seq = seq.toNat)) = some e ∧ e.resent = false ∧ e.done + 200 * us / 1000 ≤ max s.now t) ∧
    (∃ (s : State) (_ : Time) (n : Fin 14) (seq : BitVec 3) (e : Echo), (s.island n).echoes.find? (fun e => decide
      (e.seq = seq.toNat)) = some e ∧ e.resent = true) ∧
    (∃ (s : State) (_ : Time) (n : Fin 14) (seq : BitVec 3) (_ : Byte), (s.island n).upSeen ≠ some (3, seq.toNat) ∧
      (s.island n).muted = false) ∧
    (∃ (s : State) (_ : Time) (n : Fin 14) (seq : BitVec 3) (_ : Byte), (s.island n).upSeen ≠ some (3, seq.toNat) ∧
      (s.island n).muted = true) ∧
    (∃ (s : State) (_ : Time) (n : Fin 14) (seq : BitVec 3) (bits : Byte), (s.island n).upSeen ≠ some (3,
      seq.toNat) ∧ bits.getLsbD 0 = true) ∧
    (∃ (s : State) (_ : Time) (n : Fin 14) (seq : BitVec 3) (bits : Byte), (s.island n).upSeen ≠ some (3,
      seq.toNat) ∧ (s.island n).joined = true ∧ (bits.getLsbD 5 = true ∨ bits.getLsbD 7 = true)) :=
  ⟨⟨State.reset, 0, 3, 2, 1, by decide +kernel⟩,
    ⟨islLater 3 (fun i => { i with joined := true, cfgTodo := [3], echoes := [anEcho] }), 0, 3, 2, 4, by decide +kernel, by decide +kernel, fun k h => ⟨anEcho, by decide +kernel, by decide +kernel, 9, by rw [show k = 3 by rw [show ((islLater 3 (fun i => { i with joined := true, cfgTodo := [3], echoes := [anEcho] })).island (3 : Fin 14)).cfgTodo = [3] by decide +kernel] at h; simpa using h]; rfl⟩⟩,
    ⟨later State.reset, 0, 3, 2, 5, by decide +kernel⟩,
    ⟨later State.reset, 0, 3, 2, 5, by decide +kernel⟩,
    ⟨later State.reset, 0, 3, 2, 0x123, by decide +kernel⟩,
    ⟨later State.reset, 0, 3, 2, 5, by decide +kernel⟩,
    ⟨later State.reset, 0, 3, 2, 0, 0x123, by decide +kernel⟩,
    ⟨islLater 3 (fun i => { i with muted := true }), 0, 3, 2, 1, 0x123, by decide +kernel⟩,
    ⟨islLater 3 (fun i => { i with echoes := [anEcho] }), 0, 3, 2, 4, anEcho, by decide +kernel⟩,
    ⟨islLater 3 (fun i => { i with echoes := [anEcho] }), 0, 3, 4, anEcho, by decide +kernel⟩,
    ⟨islLater 3 (fun i => { i with echoes := [{ anEcho with resent := true }] }), 0, 3, 4, { anEcho with resent := true }, by decide +kernel⟩,
    ⟨State.reset, 0, 3, 2, 2, by decide +kernel⟩,
    ⟨islLater 3 (fun i => { i with muted := true }), 0, 3, 2, 2, by decide +kernel⟩,
    ⟨State.reset, 0, 1, 2, 1, by decide +kernel⟩,
    ⟨islLater 3 (fun i => { i with joined := true }), 0, 3, 2, 0x20, by decide +kernel⟩⟩

/-- The hypotheses of LinksFailAndTrain can be met. -/
theorem witness_LinksFailAndTrain :
    (∃ (_ : State) (_ : Time) (_ : Fin 14) (w : Word), frameGood w = false) ∧
    (∃ (_ : State) (_ : Time) (_ : Fin 14) (w : Word), frameGood w = false) ∧
    (∃ (_ : State) (_ : Time) (_ : Fin 14) (b : Bool) (w : Word), frameGood w = true ∧ frameReserved b w = true) ∧
    (∃ (_ : State) (_ : Time) (_ : Fin 14) (b : Bool) (w : Word), frameGood w = true ∧ frameReserved b w = false) ∧
    (∃ (s : State) (_ : Time) (n : Fin 14) (cfgTwice : Bool), (2 ≤ (s.island n).runDown ∨ (cfgTwice = true ∧
      (s.island n).echoes.any (·.resent) = true))) ∧
    (∃ (s : State) (_ : Time) (n : Fin 14) (_ : Bool), 2 ≤ (s.island n).runUp ∧ (s.island n).joined = true) ∧
    (∃ (s : State) (t : Time) (n : Fin 14), (s.island n).goodUp + 2 * us ≤ max s.now t ∧ (s.island n).joined =
      true) ∧
    (∃ (s : State) (t : Time) (n : Fin 14), (s.island n).linked = true ∧ (s.island n).goodDown + s.selfOffTime n ≤
      max s.now t) ∧
    (∃ (s : State) (_ : Time) (n : Fin 14), (s.island n).training = true ∧ (s.island n).goodSince.isSome = true) ∧
    (∃ (s : State) (_ : Time) (n : Fin 14), ((s.island n).training = false ∨ (s.island n).goodSince = none)) :=
  ⟨⟨State.reset, 0, 3, 1, by decide +kernel⟩,
    ⟨State.reset, 0, 3, 1, by decide +kernel⟩,
    ⟨State.reset, 0, 3, true, linkFrame 5 0 2 9, by decide +kernel⟩,
    ⟨State.reset, 0, 3, true, linkFrame 4 0 2 9, by decide +kernel⟩,
    ⟨State.reset.modIsland 3 (fun i => { i with runDown := 2 }), 0, 3, false, by decide +kernel⟩,
    ⟨State.reset.modIsland 3 (fun i => { i with runUp := 2, joined := true }), 0, 3, false, by decide +kernel⟩,
    ⟨islLater 3 (fun i => { i with joined := true }), 0, 3, by decide +kernel⟩,
    ⟨islLater 3 (fun i => { i with on := true, linked := true }), 0, 3, by decide +kernel⟩,
    ⟨State.reset.modIsland 3 (fun i => { i with goodSince := some 0 }), 0, 3, by decide +kernel⟩,
    ⟨State.reset, 0, 3, by decide +kernel⟩⟩

/-- The hypotheses of IslandsActByThemselves can be met. -/
theorem witness_IslandsActByThemselves :
    (∃ (s : State) (t : Time) (n : Fin 14) (imm : Bool) (te : Time), (s.island n).armed = some (true, imm, te) ∧ te
      ≤ max s.now t ∧ (s.island n).on = false ∧ (s.at' t).acceptsOn n = true) ∧
    (∃ (s : State) (t : Time) (n : Fin 14) (imm : Bool) (te : Time), (s.island n).armed = some (false, imm, te) ∧
      te ≤ max s.now t ∧ (s.island n).on = true ∧ (s.island n).oc = false ∧ (s.island n).sc = false) ∧
    (∃ (s : State) (t : Time) (n : Fin 14) (on imm : Bool) (te : Time), (s.island n).armed = some (on, imm, te) ∧
      te ≤ max s.now t ∧ (s.island n).on = on) ∧
    (∃ (s : State) (_ : Time) (n : Fin 14), s.islRd n (ISL.SENSE.SNS_EN n) ≠ 0 ∧ isInner n = true) ∧
    (∃ (s : State) (_ : Time) (n : Fin 14), s.islRd n (ISL.SENSE.SNS_EN n) ≠ 0 ∧ isInner n = false) ∧
    (∃ (s : State) (_ : Time) (n : Fin 14), s.islRd n (ISL.SENSE.SNS_EN n) ≠ 0 ∧ (s.island n).oc = false) ∧
    (∃ (s : State) (t : Time) (n : Fin 14), (s.island n).ocWait = true ∧ (s.island n).blankEnd ≤ max s.now t) ∧
    (∃ (s : State) (t : Time) (n : Fin 14) (t0 : Time), (s.island n).scWait = some t0 ∧ t0 + 2 * us ≤ max s.now t ∧
      (s.island n).on = true ∧ (s.island n).soft = none) ∧
    (∃ (s : State) (t : Time) (n : Fin 14) (t0 : Time), (s.island n).soft = some t0 ∧ t0 + s.islRd n
      (ISL.TIMING.SOFT_T n) * us / 10 ≤ max s.now t) ∧
    (∃ (s : State) (_ : Time) (n : Fin 14), (s.island n).uvlo = false ∧ (s.island n).on = true ∧ (s.island n).soft
      = none) ∧
    (∃ (s : State) (_ : Time) (n : Fin 14) (_ : Bool), s.islRd n (ISL.CFG.VCE_EN n) = 1) ∧
    (∃ (s : State) (t : Time) (n : Fin 14) (kind : Fin 3) (_ : Word), (s.island n).trained = true ∧ (if kind = 0
      then (s.island n).measAt.1 + ms else if kind = 1 then (s.island n).measAt.2.1 + 100 * us else (s.island
      n).measAt.2.2 + 100 * us) ≤ max s.now t) :=
  ⟨⟨islLater 3 (fun i => { i with armed := some (true, true, 0), goodSince := some 0, trained := true, cfgDone := true, held := false }), 0, 3, true, 0, by decide +kernel⟩,
    ⟨State.reset.modIsland 3 (fun i => { i with armed := some (false, true, 0), on := true }), 0, 3, true, 0, by decide +kernel⟩,
    ⟨State.reset.modIsland 3 (fun i => { i with armed := some (false, true, 0) }), 0, 3, false, true, 0, by decide +kernel⟩,
    ⟨State.reset.modIsland 1 (fun i => { i with cfg := allCfg }), 0, 1, by decide +kernel⟩,
    ⟨State.reset.modIsland 3 (fun i => { i with cfg := allCfg, on := true }), 0, 3, by decide +kernel⟩,
    ⟨State.reset.modIsland 3 (fun i => { i with cfg := allCfg }), 0, 3, by decide +kernel⟩,
    ⟨State.reset.modIsland 3 (fun i => { i with ocWait := true }), 0, 3, by decide +kernel⟩,
    ⟨islLater 1 (fun i => { i with on := true, scWait := some 0 }), 0, 1, 0, by decide +kernel⟩,
    ⟨islLater 1 (fun i => { i with soft := some 0 }), 0, 1, 0, by decide +kernel⟩,
    ⟨State.reset.modIsland 3 (fun i => { i with on := true }), 0, 3, by decide +kernel⟩,
    ⟨State.reset.modIsland 3 (fun i => { i with cfg := [(0, 255)] }), 0, 3, false, by decide +kernel⟩,
    ⟨islLater 3 (fun i => { i with trained := true }), 0, 3, 1, 7, by decide +kernel⟩⟩

/-- The hypotheses of FeedsStartRunAndStop can be met. -/
theorem witness_FeedsStartRunAndStop :
    (∃ (s : State) (_ : Time) (k : Fin 8) (v : Word), (s.feedSt k = 0 ∨ s.feedSt k = 1 ∨ s.feedSt k = 5) ∧ getField
      v (FED.CFG.MODE k) ≠ 3 ∧ (getField v (FED.CFG.MODE k) = 0 ∨ s.rd (SYS.RAT_PF.PF k) ≠ 0)) ∧
    (∃ (s : State) (_ : Time) (k : Fin 8) (v : Word), (s.feedSt k = 0 ∨ s.feedSt k = 1 ∨ s.feedSt k = 5) ∧
      (getField v (FED.CFG.MODE k) = 3 ∨ (getField v (FED.CFG.MODE k) ≠ 0 ∧ s.rd (SYS.RAT_PF.PF k) = 0))) ∧
    (∃ (s : State) (_ : Time) (k : Fin 8) (_ : Word), s.feedSt k ≠ 0 ∧ s.feedSt k ≠ 1 ∧ s.feedSt k ≠ 5) ∧
    (∃ (s : State) (t : Time) (k : Fin 8), (s.at' t).feedReady k = true) ∧
    (∃ (s : State) (_ : Time) (k : Fin 8), s.feedSt k = 2 ∧ (s.feed k).vTrack = s.startTarget k) ∧
    (∃ (s : State) (t : Time) (k : Fin 8), (s.feedSt k = 2 ∨ s.feedSt k = 3) ∧ s.rd (FED.CFG.MODE k) = 1 ∧ (s.at'
      t).due (.feedLow k) (s.rd (FED.STOP.T_STOP k) * sec) = true) ∧
    (∃ (s : State) (t : Time) (k : Fin 8) (t0 : Time), s.feedSt k = 4 ∧ (s.feed k).gone = some t0 ∧ t0 + ms ≤ max
      s.now t) ∧
    (∃ (_ : State) (_ : Time) (k : Fin 8) (v : Word), (getField v (FED.FIX.VFIX k) = 0 ∨ (3000 ≤ getField v
      (FED.FIX.VFIX k) ∧ getField v (FED.FIX.VFIX k) ≤ 9500))) ∧
    (∃ (_ : State) (_ : Time) (k : Fin 8) (v : Word), getField v (FED.FIX.VFIX k) ≠ 0 ∧ (getField v (FED.FIX.VFIX
      k) < 3000 ∨ 9500 < getField v (FED.FIX.VFIX k))) ∧
    (∃ (s : State) (t : Time) (k : Fin 8), (s.feedSt k = 2 ∨ s.feedSt k = 3) ∧ s.rd (FED.CFG.MODE k) = 2 ∧ s.rdE
      (FED.FIX.FIX_WD k) ≠ 0 ∧ (s.at' t).due (.feedFix k) (s.rdE (FED.FIX.FIX_WD k) * 10 * ms) = true) :=
  ⟨⟨State.reset.wr (SYS.RAT_PF.PF 2) 1, 0, 2, 0x00030101, by decide +kernel⟩,
    ⟨(State.reset.wr (FED.STATE.STATE 2) 1).wr (FED.CFG.MODE 2) 1, 0, 2, 0x00030300, by decide +kernel⟩,
    ⟨State.reset.wr (FED.STATE.STATE 2) 3, 0, 2, 0x00030101, by decide +kernel⟩,
    ⟨feedReadyState, 0, 2, by decide +kernel⟩,
    ⟨State.reset.wr (FED.STATE.STATE 2) 2, 0, 2, by decide +kernel⟩,
    ⟨since0 ((State.reset.wr (FED.STATE.STATE 2) 3).wr (FED.CFG.MODE 2) 1) (.feedLow 2), 0, 2, by decide +kernel⟩,
    ⟨later ((State.reset.wr (FED.STATE.STATE 2) 4).modFeed 2 (fun f => { f with gone := some 0 })), 0, 2, 0, by decide +kernel⟩,
    ⟨State.reset, 0, 2, 0x0BB80101, by decide +kernel⟩,
    ⟨State.reset, 0, 2, 0x0BB70101, by decide +kernel⟩,
    ⟨since0 { (State.reset.wr (FED.STATE.STATE 2) 3).wr (FED.CFG.MODE 2) 2 with eff := (State.reset.wr (FED.FIX.FIX_WD 2) 1).regs } (.feedFix 2), 0, 2, by decide +kernel⟩⟩

/-- The hypotheses of FeedFaultsAndRetries can be met. -/
theorem witness_FeedFaultsAndRetries :
    (∃ (s : State) (_ : Time) (k : Fin 8), (s.feedSt k = 2 ∨ s.feedSt k = 3) ∧ 100 ≤ (s.feed k).ovRun) ∧
    (∃ (s : State) (_ : Time) (k : Fin 8), s.feedSt k ≠ 0 ∧ s.feedSt k ≠ 5 ∧ 16 ≤ (s.feed k).revRun) ∧
    (∃ (s : State) (t : Time) (k : Fin 8), s.feedSt k = 5 ∧ (s.at' t).due (.feedRetry k) (60 * sec) = true ∧
      s.causeClear k = true ∧ s.rd (FED.STATE.RETRIES k) < s.rd (FED.STOP.RETRY_MAX k) ∧ (s.code = stENERGIZE ∨
      s.code = stRUN)) ∧
    (∃ (s : State) (_ : Time) (k : Fin 8), s.feedSt k = 5 ∧ s.rd (FED.STOP.RETRY_MAX k) ≤ s.rd (FED.STATE.RETRIES
      k)) ∧
    (∃ (s : State) (t : Time) (k : Fin 8), s.feedSt k = 3 ∧ (s.at' t).due (.feedRun k) (3600 * sec) = true) :=
  ⟨⟨(State.reset.wr (FED.STATE.STATE 2) 3).modFeed 2 (fun f => { f with ovRun := 100 }), 0, 2, by decide +kernel⟩,
    ⟨(State.reset.wr (FED.STATE.STATE 2) 4).modFeed 2 (fun f => { f with revRun := 16 }), 0, 2, by decide +kernel⟩,
    ⟨since0 (((inState 8).wr (FED.STATE.STATE 2) 5).modFeed 2 (fun f => { f with cause := 1 })) (.feedRetry 2), 0, 2, by decide +kernel⟩,
    ⟨(State.reset.wr (FED.STATE.STATE 2) 5).wr (FED.STATE.RETRIES 2) 15, 0, 2, by decide +kernel⟩,
    ⟨since0 ((State.reset.wr (FED.STATE.STATE 2) 3).wr (FED.STATE.RETRIES 2) 3) (.feedRun 2), 0, 2, by decide +kernel⟩⟩

/-- The hypotheses of TrackingWindowsAndSweeps can be met. -/
theorem witness_TrackingWindowsAndSweeps :
    (∃ (s : State) (_ : Time) (k : Fin 8), s.rd (FED.RC.RC_WIN k) + 1 ≤ (s.feed k).winPer ∧ s.rd (FED.CFG.MODE k) ≠
      1) ∧
    (∃ (s : State) (_ : Time) (k : Fin 8), s.rd (FED.RC.RC_WIN k) + 1 ≤ (s.feed k).winPer ∧ s.rd (FED.CFG.MODE k) =
      1) ∧
    (∃ (s : State) (t : Time) (k : Fin 8) (x : Nat), x = (if s.on PTP.STATUS.TRACEABLE then (s.at' t).tai else
      (s.at' t).rtc) % (Nat.max 1 (s.rd FED.SWEEP_SCHED.INT) * 10 ^ 9) ∧ s.rd FED.SWEEP_SCHED.SLOT * 10 ^ 8 + k.val
      * 12500000 ≤ x ∧ x < s.rd FED.SWEEP_SCHED.SLOT * 10 ^ 8 + k.val * 12500000 + 3) ∧
    (∃ (s : State) (t : Time) (k : Fin 8) (x : Nat), x = (if s.on PTP.STATUS.TRACEABLE then (s.at' t).tai else
      (s.at' t).rtc) % (Nat.max 1 (s.rd FED.SWEEP_SCHED.INT) * 10 ^ 9) ∧ (x < s.rd FED.SWEEP_SCHED.SLOT * 10 ^ 8 +
      k.val * 12500000 ∨ s.rd FED.SWEEP_SCHED.SLOT * 10 ^ 8 + k.val * 12500000 + 3 ≤ x)) ∧
    (∃ (s : State) (_ : Time) (k : Fin 8) (run : Nat) (vOp pOp vHi vLo : Int), (s.feed k).sweep = .path run vOp pOp
      vHi vLo ∧ pathLeg run vOp vHi vLo = 3) ∧
    (∃ (s : State) (_ : Time) (k : Fin 8) (dest rate : Int), (s.feed k).sweep = .reloc dest rate ∧ (s.feed
      k).vTrack = dest) :=
  ⟨⟨State.reset.modFeed 2 (fun f => { f with winPer := 256, winN := 3, winP := 40 }), 0, 2, by decide +kernel⟩,
    ⟨(State.reset.wr (FED.CFG.MODE 2) 1).modFeed 2 (fun f => { f with winPer := 256, winN := 3, winP := 40 }), 0, 2, by decide +kernel⟩,
    ⟨State.reset, 12500000 * 128 / 5, 1, 12500000, by decide +kernel⟩,
    ⟨State.reset, 5, 1, 0, by decide +kernel⟩,
    ⟨State.reset.modFeed 2 (fun f => { f with sweep := .path (2 ^ 30) (2 ^ 47) 0 (2 ^ 48) (2 ^ 46) }), 0, 2, 2 ^ 30, 2 ^ 47, 0, 2 ^ 48, 2 ^ 46, by decide +kernel⟩,
    ⟨State.reset.modFeed 2 (fun f => { f with sweep := .reloc 0 5 }), 0, 2, 0, 5, by decide +kernel⟩⟩

/-- The hypotheses of RideThroughDetectorRules can be met. -/
theorem witness_RideThroughDetectorRules :
    (∃ (s : State) (_ : Time), s.code = stRUN ∧ s.rd FRT.STATUS.STATE ≠ frFAULT ∧ s.rd FRT.DET.FILT + 1 ≤
      s.frt.outRun ∧ s.on FRT.ENV_CFG.EN = true ∧ s.frt.outCause < 16) ∧
    (∃ (s : State) (_ : Time), s.code = stRUN ∧ s.rd FRT.STATUS.STATE ≠ frFAULT ∧ s.rd FRT.DET.FILT + 1 ≤
      s.frt.outRun ∧ s.on FRT.ENV_CFG.EN = false ∧ s.srcOn 38 = false) ∧
    (∃ (s : State) (t : Time), (s.at' t).due .frtJumpHold (s.rd FRT.JUMP.JUMP_T * ms) = true) ∧
    (∃ (s : State) (t t0 : Time), s.rd FRT.STATUS.STATE = frFAULT ∧ s.frt.inSince = some t0 ∧ t0 + s.rd
      FRT.DET.EXIT_T * ms ≤ max s.now t ∧ s.on FRT.STATUS.JUMP_HOLD = false ∧ (s.frt.exitWin.isSome = false ∨
      s.frt.exitWin ≠ s.sync.lastWin)) ∧
    (∃ (s : State) (_ : Time) (d q d2 q2 : Int), s.rd FRT.STATUS.STATE ≠ frFAULT ∧ 2 ≤ s.frt.ticks ∧ s.band.frt =
      some (d, q, d2, q2) ∧ (s.leg 0).soft = false) ∧
    (∃ (s : State) (_ : Time), s.rd FRT.STATUS.STATE ≠ frFAULT ∧ 2 ≤ s.frt.ticks ∧ (s.leg 0).soft = true) ∧
    (∃ (s : State) (_ : Time), s.rd FRT.STATUS.STATE = frFAULT ∧ s.rd FRT.ENV_CFG.ENV_FILT + 1 ≤ s.frt.uvRun ∧
      s.srcOn 38 = false) ∧
    (∃ (s : State) (_ : Time), s.rd FRT.STATUS.STATE = frFAULT ∧ s.frt.uvRun ≤ s.rd FRT.ENV_CFG.ENV_FILT ∧ s.rd
      FRT.ENV_CFG.ENV_FILT + 1 ≤ s.frt.ovRun ∧ s.srcOn 38 = false) ∧
    (∃ (s : State) (_ : Time), s.rd FRT.STATUS.STATE = frFAULT ∧ s.srcOn 38 = true ∧ (s.frt.exitWin.isSome = false
      ∨ s.frt.exitWin ≠ s.sync.lastWin)) ∧
    (∃ (s : State) (t t0 : Time), s.frt.zvAt = some t0 ∧ s.code = stRUN ∧ t0 + s.rd FRT.ZV.ZV_MAX * ms < max s.now
      t ∧ s.srcOn 38 = false) :=
  ⟨⟨(((inState 8).wr FRT.DET.FILT 0).wr FRT.ENV_CFG.EN 1).modFrt (fun f => { f with outRun := 5, outAt := 99, outCause := 2 }), 0, by decide +kernel⟩,
    ⟨(((inState 8).wr FRT.DET.FILT 0).wr FRT.ENV_CFG.EN 0).modFrt (fun f => { f with outRun := 5, outAt := 99, outCause := 2 }), 0, by decide +kernel⟩,
    ⟨since0 (State.reset.set FRT.STATUS.JUMP_HOLD) .frtJumpHold, 0, by decide +kernel⟩,
    ⟨later (((inState 8).wr FRT.STATUS.STATE 1).modFrt (fun f => { f with inSince := some 0 })), 0, 0, by decide +kernel⟩,
    ⟨{ State.reset.modFrt (fun f => { f with ticks := 2 }) with band := { State.reset.band with frt := some (1, 2, 3, 4) } }, 0, 1, 2, 3, 4, by decide +kernel⟩,
    ⟨{ State.reset.modFrt (fun f => { f with ticks := 2 }) with band := { State.reset.band with legs := State.reset.band.legs.upd 0 (fun l => { l with soft := true }) } }, 0, by decide +kernel⟩,
    ⟨((inState 8).wr FRT.STATUS.STATE 1).modFrt (fun f => { f with uvRun := 16 }), 0, by decide +kernel⟩,
    ⟨((inState 8).wr FRT.STATUS.STATE 1).modFrt (fun f => { f with ovRun := 16 }), 0, by decide +kernel⟩,
    ⟨((inState 8).wr FRT.STATUS.STATE 1).putSource 38 true, 0, by decide +kernel⟩,
    ⟨later ((inState 8).modFrt (fun f => { f with zvAt := some 0 })), 0, 0, by decide +kernel⟩⟩

/-- The hypotheses of IslandingDecisionsAndReconnection can be met. -/
theorem witness_IslandingDecisionsAndReconnection :
    (∃ (s : State) (t : Time), s.on ISD.CTRL.TOPO_EN = true ∧ s.on ISD.STATUS.TIED = false ∧ (s.at' t).due .topo
      (s.rd ISD.TOPO_CFG.TOPO_FILT * 100 * us) = true) ∧
    (∃ (s : State) (t : Time) (dev : Fin 96), s.supvLost dev = true ∧ (s.at' t).due (.supvHold dev) (s.rd
      ISD.TOPO_CFG.SUPV_HOLD * ms) = true) ∧
    (∃ (s : State) (t t0 : Time) (w : Fin 7), s.isd.since.get w none = some t0 ∧ t0 + s.passDelay w ≤ max s.now t ∧
      s.isd.picked.testBit w = false ∧ s.passBlocked w = false ∧ s.passAct w ≠ 2) ∧
    (∃ (s : State) (t t0 : Time) (w : Fin 7), s.isd.since.get w none = some t0 ∧ t0 + s.passDelay w ≤ max s.now t ∧
      s.isd.picked.testBit w = false ∧ s.passBlocked w = false ∧ s.passAct w = 2) ∧
    (∃ (s : State) (t : Time), s.isd.chip ≠ some ((s.at' t).tai / 20000000)) ∧
    (∃ (s : State) (t : Time), s.isd.chip = some ((s.at' t).tai / 20000000)) ∧
    (∃ (s : State) (t b : Time), s.isd.boundary = some b ∧ b + ms ≤ max s.now t ∧ s.on ISD.STATUS.Z_VALID = false) ∧
    (∃ (s : State) (t b : Time), s.isd.boundary = some b ∧ b + ms ≤ max s.now t ∧ s.on ISD.STATUS.Z_VALID = true) ∧
    (∃ (s : State) (t : Time), (s.at' t).due .recon (s.rd ISD.RECON_T.DELAY * sec) = true ∧ s.on
      ISD.STATUS.RECON_OK = false) :=
  ⟨⟨since0 (((inState 8).set ISD.CTRL.TOPO_EN).wr ISD.STATUS.TIED 0) .topo, 0, by decide +kernel⟩,
    ⟨since0 (State.reset.wrBit (ISD.SUPV.WORD 1) 3 true) (.supvHold 35), 0, 35, by decide +kernel⟩,
    ⟨later (((State.reset.set ISD.CTRL.PASS_EN).wr ISD.P_ACT.ACT 4).modIsd (fun i => { i with since := i.since.upd 1 (fun _ => some 0) })), 0, 0, 1, by decide +kernel⟩,
    ⟨later (((State.reset.set ISD.CTRL.PASS_EN).wr ISD.P_ACT.ACT 8).modIsd (fun i => { i with since := i.since.upd 1 (fun _ => some 0) })), 0, 0, 1, by decide +kernel⟩,
    ⟨State.reset, 5, by decide +kernel⟩,
    ⟨State.reset.modIsd (fun i => { i with chip := some 0 }), 5, by decide +kernel⟩,
    ⟨later (State.reset.modIsd (fun i => { i with boundary := some 0 })), 0, 0, by decide +kernel⟩,
    ⟨later ((((State.reset.set ISD.STATUS.Z_VALID).set ISD.CTRL.ACT_EN).wr ISD.ACT_CFG.Z_FILT 0).modIsd (fun i => { i with boundary := some 0, zRun := 0, chips := zChips })), 0, 0, by decide +kernel⟩,
    ⟨since0 State.reset .recon, 0, by decide +kernel⟩⟩

/-- The hypotheses of MeteringAndSettlement can be met. -/
theorem witness_MeteringAndSettlement :
    (∃ (s : State) (t : Time) (_ : Fin 51),
      (let a := (s.at' t).rsmAngle (s.rd MOD.RSM_INDEX.INDEX) s.meas.rsm.tk; a.rsmNext.1 ≤ max s.now t)) ∧
    (∃ (s : State) (_ : Time) (n : Fin 40) (r : CalRun) (d : Nat), (s.chan n).cal = some r ∧ r.fail = some d) ∧
    (∃ (s : State) (_ : Time) (n : Fin 40) (r : CalRun), (s.chan n).cal = some r ∧ r.fail = none ∧ r.kind = .zero ∧
      65536 ≤ r.count) ∧
    (∃ (s : State) (_ : Time) (n : Fin 40) (r : CalRun), (s.chan n).cal = some r ∧ r.fail = none ∧ r.kind = .dc ∧
      65536 ≤ r.count) ∧
    (∃ (s : State) (_ : Time) (n : Fin 40) (r : CalRun), (s.chan n).cal = some r ∧ r.fail = none ∧ r.kind = .ac ∧
      25600 ≤ r.count) ∧
    (∃ (s : State) (t : Time) (m : Fin 8), s.bitOf MTR.EP_CTRL.EN m = true ∧ 0 < s.rd (MTR.EP_STAT.PENDING m) ∧
      (s.mtr.pulse.get m none = none ∨ (∃ t0, s.mtr.pulse.get m none = some (false, t0) ∧ t0 + s.pulseWidth m ≤ max
      s.now t))) ∧
    (∃ (s : State) (t t0 : Time) (m : Fin 8), s.mtr.pulse.get m none = some (true, t0) ∧ t0 + s.rd (MTR.EP_CFG.PW
      (m.val / 4)) * ms ≤ max s.now t) ∧
    (∃ (s : State) (_ : Time) (tk : Nat), s.mtr.tPrev = some tk ∧ s.rd MTR.LATCH_CFG.N ≤ s.mtr.wraps ∧ s.mtr.wraps
      ≠ 0 ∧ s.rd MOD.RSM_INDEX.INDEX = 0) ∧
    (∃ (s : State) (_ : Time), (s.rd MOD.RSM_INDEX.INDEX ≠ 0 ∨ s.mtr.tPrev = none ∨ s.mtr.wraps < s.rd
      MTR.LATCH_CFG.N)) ∧
    (∃ (s : State) (_ : Time) (b : List Byte) (rest : List (List Byte)), s.mtr.unsigned = b :: rest ∧
      s.mtr.signWait = false) ∧
    (∃ (s : State) (_ : Time), s.mtr.unsigned ≠ [] ∧ s.mtr.signWait = false) ∧
    (∃ (s : State) (_ : Time) (_ : Bool), (s.mtr.unsigned = [] ∨ s.mtr.signWait = true)) ∧
    (∃ (s : State) (_ : Time) (b : List Byte) (rest : List (List Byte)), s.mtr.signed = b :: rest ∧ s.on
      MEM.STATUS.EMMC_ABSENT = false) ∧
    (∃ (s : State) (_ : Time) (ok : Bool), s.mtr.signed ≠ [] ∧ (ok = false ∨ s.on MEM.STATUS.EMMC_ABSENT = true)) :=
  ⟨⟨later (State.reset.wr MOD.RSM_INDEX.INDEX 511), 5, 0, by decide +kernel⟩,
    ⟨State.reset.modChan 3 (fun c => { c with cal := some { kind := .zero, x := 0, fail := some 2 } }), 5, 3, { kind := .zero, x := 0, fail := some 2 }, 2, by decide +kernel⟩,
    ⟨State.reset.modChan 3 (fun c => { c with cal := some { kind := .zero, x := 0, count := 65536, sum := ⟨100, 0⟩ } }), 5, 3, { kind := .zero, x := 0, count := 65536, sum := ⟨100, 0⟩ }, by decide +kernel⟩,
    ⟨State.reset.modChan 3 (fun c => { c with cal := some { kind := .dc, x := 0x3F800000, count := 65536, sum := ⟨1000000, 0⟩ } }), 5, 3, { kind := .dc, x := 0x3F800000, count := 65536, sum := ⟨1000000, 0⟩ }, by decide +kernel⟩,
    ⟨State.reset.modChan 3 (fun c => { c with cal := some { kind := .ac, x := 0x3F800000, count := 25600, sum := ⟨1000000, 0⟩ } }), 5, 3, { kind := .ac, x := 0x3F800000, count := 25600, sum := ⟨1000000, 0⟩ }, by decide +kernel⟩,
    ⟨(State.reset.wr MTR.EP_CTRL.EN 255).wr (MTR.EP_STAT.PENDING 2) 3, 5, 2, by decide +kernel, by decide +kernel, Or.inl (by decide +kernel)⟩,
    ⟨later (State.reset.modMtr (fun m => { m with pulse := m.pulse.upd 0 (fun _ => some (true, 0)) })), 5, 0, 0, by decide +kernel⟩,
    ⟨(State.reset.wr MTR.LATCH_CFG.N 1).modMtr (fun m => { m with tPrev := some 9, wraps := 1, acc := [2 ^ 100, 1, 2, 3, 4, 5, 6, 7, 8, 9] }), 5, 9, by decide +kernel⟩,
    ⟨State.reset, 5, by decide +kernel⟩,
    ⟨State.reset.modMtr (fun m => { m with unsigned := [[1], [2]] }), 5, [1], [[2]], by decide +kernel⟩,
    ⟨State.reset.modMtr (fun m => { m with unsigned := [[1]] }), 5, by decide +kernel⟩,
    ⟨State.reset, 5, true, by decide +kernel⟩,
    ⟨(State.reset.wr MEM.STATUS.EMMC_ABSENT 0).modMtr (fun m => { m with signed := [[1, 2, 3, 4, 5, 6, 7, 8, 9, 10, 11, 12]] }), 5, [1, 2, 3, 4, 5, 6, 7, 8, 9, 10, 11, 12], [], by decide +kernel⟩,
    ⟨State.reset.modMtr (fun m => { m with signed := [[1]] }), 5, false, by decide +kernel⟩⟩

/-- The hypotheses of PowerQualityRows can be met. -/
theorem witness_PowerQualityRows :
    (∃ (s : State) (_ : Time), s.on MTR.CTRL.ENABLE = true ∧ s.on MTR.STATUS.Q_VALID = true ∧ 10 ≤ s.mtr.okA ∧ s.rd
      PQE.STATUS.PHSEQ ≠ 1) ∧
    (∃ (s : State) (_ : Time), s.on MTR.CTRL.ENABLE = true ∧ s.on MTR.STATUS.Q_VALID = true ∧ s.mtr.okA < 10 ∧ 10 ≤
      s.mtr.okB ∧ s.rd PQE.STATUS.PHSEQ ≠ 2) ∧
    (∃ (s : State) (_ : Time), (s.on MTR.CTRL.ENABLE = false ∨ s.on MTR.STATUS.Q_VALID = false ∨ (s.mtr.okA < 10 ∧
      s.mtr.okB < 10 ∧ ((s.rd PQE.STATUS.PHSEQ = 1 ∧ 10 ≤ s.mtr.noA) ∨ (s.rd PQE.STATUS.PHSEQ = 2 ∧ 10 ≤
      s.mtr.noB)))) ∧ s.rd PQE.STATUS.PHSEQ ≠ 0) ∧
    (∃ (s : State) (_ : Time), s.on MTR.CTRL.WIRING = true ∧ s.on PQE.STATUS.NEU_MISSING = false ∧ 50 ≤
      s.mtr.neuOn) ∧
    (∃ (s : State) (_ : Time), (s.on MTR.CTRL.WIRING = false ∨ (s.on PQE.STATUS.NEU_MISSING = true ∧ 50 ≤
      s.mtr.neuOff))) ∧
    (∃ (s : State) (_ : Time) (w : PqWin) (rest : List PqWin), s.mtr.ended = w :: rest) ∧
    (∃ (s : State) (j : Fin 8), slotEn s j = true ∧ 15625 ≤ (s.chan (slotChan s j)).supWin.length) :=
  ⟨⟨((State.reset.set MTR.CTRL.ENABLE).set MTR.STATUS.Q_VALID).modMtr (fun m => { m with okA := 10 }), 5, by decide +kernel⟩,
    ⟨((State.reset.set MTR.CTRL.ENABLE).set MTR.STATUS.Q_VALID).modMtr (fun m => { m with okB := 10 }), 5, by decide +kernel⟩,
    ⟨(State.reset.wr PQE.STATUS.PHSEQ 1).modMtr (fun m => { m with noA := 10 }), 5, by decide +kernel⟩,
    ⟨(State.reset.set MTR.CTRL.WIRING).modMtr (fun m => { m with neuOn := 50 }), 5, by decide +kernel⟩,
    ⟨((State.reset.set MTR.CTRL.WIRING).set PQE.STATUS.NEU_MISSING).modMtr (fun m => { m with neuOff := 50 }), 5, by decide +kernel⟩,
    ⟨State.reset.modMtr (fun m => { m with ended := [{ start := 7, ch := [] }] }), 5, { start := 7, ch := [] }, [], by decide +kernel⟩,
    ⟨fullWindow, 0, by decide +kernel, by
      have h : (fullWindow.chan (slotChan fullWindow 0)).supWin = List.replicate 15625 0 := rfl
      exact Nat.le_of_eq (by rw [show ((0 : Fin 8) : Nat) = 0 from rfl, h, List.length_replicate])⟩⟩

/-- The hypotheses of ClockSynthesizerRows can be met. -/
theorem witness_ClockSynthesizerRows :
    (∃ (s : State) (_ : Time) (_ : Bool), s.on CLK.STATUS.LOCKED = false) ∧
    (∃ (s : State) (t : Time), (s.at' t).due .clockLoss ms = true) ∧
    (∃ (s : State) (_ : Time), s.on CLK.STATUS.HOLDOVER = false) ∧
    (∃ (s : State) (_ : Time) (ref other : Bool), s.on CLK.STATUS.HOLDOVER = true ∧ (ref != s.clk.lostRef || s.on
      CLK.CTRL.REVERT || !other) = true) ∧
    (∃ (s : State) (_ : Time) (_ : Bool), s.on CLK.STATUS.HOLDOVER = false ∧ s.rd CLK.STATUS.INPUT = 0 ∧ s.rd
      CLK.CTRL.SRC % 2 = 1 ∧ s.on CLK.CTRL.REVERT = true ∧ s.live5 = false) ∧
    (∃ (s : State) (t : Time), s.on CLK.STATUS.HOLDOVER = true ∧ (s.at' t).due .clkHold (s.rd CLK.HOLD.T * sec) =
      true) ∧
    (∃ (s : State) (_ : Time), s.on CLK.STATUS.RELOCK_PEND = true ∧ s.live5 = false) ∧
    (∃ (s : State) (t : Time), s.on CLK.STATUS.LOCKED = true ∧ (s.at' t).atSecond = true ∧ ((s.clk.wantAlign = true
      ∧ s.clk.lockAt + ms ≤ (s.at' t).secondAt) ∨ ((s.clk.wantRe = true ∨ (s.on CLK.STATUS.ALIGN_LOST = true ∧ s.on
      CLK.STATUS.ALIGNED = false)) ∧ s.live5 = false))) ∧
    (∃ (s : State) (_ : Time), s.live5 = false) ∧
    (∃ (s : State) (_ : Time), s.live5 = true) :=
  ⟨⟨State.reset.wr CLK.STATUS.LOCKED 0, 5, true, by decide +kernel⟩,
    ⟨since0 State.reset .clockLoss, 5, by decide +kernel⟩,
    ⟨State.reset.wr CLK.STATUS.HOLDOVER 0, 5, by decide +kernel⟩,
    ⟨(State.reset.set CLK.STATUS.HOLDOVER).start .clkHold, 5, true, false, by decide +kernel⟩,
    ⟨(((State.reset.wr CLK.STATUS.HOLDOVER 0).wr CLK.STATUS.INPUT 0).wr CLK.CTRL.SRC 1).set CLK.CTRL.REVERT, 5, true, by decide +kernel⟩,
    ⟨since0 (State.reset.set CLK.STATUS.HOLDOVER) .clkHold, 5, by decide +kernel⟩,
    ⟨(inState 4).set CLK.STATUS.RELOCK_PEND, 5, by decide +kernel⟩,
    ⟨{ (State.reset.set CLK.STATUS.LOCKED).modClk (fun c => { c with wantAlign := true, lockAt := 0 }) with now := 25600000000 }, 5, by decide +kernel⟩,
    ⟨inState 4, 5, by decide +kernel⟩,
    ⟨inState 8, 5, by decide +kernel⟩⟩

/-- The hypotheses of MemoriesAndGaffer can be met. -/
theorem witness_MemoriesAndGaffer :
    (∃ (s : State) (_ : Time) (r : ExtReq) (_ : Bool) (_ : List (List (Fin 13) × Bool)), r.dram = true ∧ r.write =
      true ∧ r.addr.toNat % 4 = 0 ∧ r.addr.toNat < s.rd GAF.EXT_WIN.SIZE * 2 ^ 20 ∧ s.on MEM.STATUS.RETRAIN =
      false) ∧
    (∃ (s : State) (_ : Time) (r : ExtReq) (_ : Bool) (_ : List (List (Fin 13) × Bool)), r.dram = true ∧ r.write =
      false ∧ r.addr.toNat % 4 = 0 ∧ r.addr.toNat < s.rd GAF.EXT_WIN.SIZE * 2 ^ 20 ∧ s.on MEM.STATUS.RETRAIN =
      false) ∧
    (∃ (s : State) (_ : Time) (r : ExtReq) (_ : Bool) (_ : List (List (Fin 13) × Bool)), (r.addr.toNat % 4 ≠ 0 ∨
      (r.dram = true ∧ s.rd GAF.EXT_WIN.SIZE * 2 ^ 20 ≤ r.addr.toNat) ∨ (r.dram = false ∧ (r.write = true ∨ 0x20000
      ≤ r.addr.toNat)))) ∧
    (∃ (_ : State) (_ : Time) (arb : Fin 3) (_ : Fin 13) (_ : Bool), arb.val ≠ 2) ∧
    (∃ (s : State) (t : Time) (req : Fin 13) (_ : Bool) (o : EpOwner), s.mem.own = some o ∧ o.req = req.val ∧
      o.since + s.rd (GAF.REQ.HOLD req) ≤ (s.at' t).cycle) ∧
    (∃ (s : State) (_ : Time) (req : Fin 13) (wait : BitVec 32), s.rd (GAF.REQ.STARVE_LIM req) ≠ 0 ∧ 64 * s.rd
      (GAF.REQ.STARVE_LIM req) ≤ wait.toNat) ∧
    (∃ (s : State) (_ : Time) (req : Fin 13) (wait : BitVec 32), (s.rd (GAF.REQ.STARVE_LIM req) = 0 ∨ wait.toNat <
      64 * s.rd (GAF.REQ.STARVE_LIM req))) ∧
    (∃ (s : State) (_ : Time) (_ _ : BitVec 16), s.on MEM.CTRL.SRAM_SCRUB = true) ∧
    (∃ (s : State) (_ : Time) (_ _ : BitVec 16), s.on MEM.CTRL.DRAM_SCRUB = true) ∧
    (∃ (s : State) (t : Time) (dram : Bool) (_ _ : BitVec 16), s.on (if dram then MEM.CTRL.DRAM_SCRUB else
      MEM.CTRL.SRAM_SCRUB) = true ∧ (s.at' t).due (if dram then TimerKey.scrubD else TimerKey.scrubS) (if dram then
      900 * sec else 60 * sec) = true) ∧
    (∃ (s : State) (t : Time) (which : Fin 5), ((s.at' t).bgLate which ≠ [] ∨ (which = 4 ∧ s.bus.points ≠ []))) ∧
    (∃ (s : State) (_ : Time) (_ : Fin 5), s.on MEM.STATUS.EMMC_ABSENT = false) ∧
    (∃ (s : State) (_ : Time) (_ _ : BitVec 32), s.on MEM.STATUS.EMMC_ABSENT = false) :=
  ⟨⟨(later State.reset).wr GAF.EXT_WIN.SIZE 1, 0, ⟨0, true, true, 8, 0x1234⟩, false, [], by decide +kernel⟩,
    ⟨(State.reset.wr GAF.EXT_WIN.SIZE 1).putDram 8 7, 0, ⟨1, false, true, 8, 0x1234⟩, true, [], by decide +kernel⟩,
    ⟨State.reset, 0, ⟨2, false, true, 9, 0⟩, true, [], by decide +kernel⟩,
    ⟨State.reset, 0, 0, 3, true, by decide +kernel⟩,
    ⟨State.reset.modMem (fun m => { m with own := some { req := 3, since := 0, till := 5, locked := false } }), 64 * 5000, 3, true, { req := 3, since := 0, till := 5, locked := false }, by decide +kernel⟩,
    ⟨State.reset.wr (GAF.REQ.STARVE_LIM 2) 1, 0, 2, 64, by decide +kernel⟩,
    ⟨State.reset, 0, 2, 64, by decide +kernel⟩,
    ⟨State.reset.set MEM.CTRL.SRAM_SCRUB, 5, 3, 0, by decide +kernel⟩,
    ⟨State.reset.set MEM.CTRL.DRAM_SCRUB, 5, 3, 2, by decide +kernel⟩,
    ⟨since0 (State.reset.set MEM.CTRL.DRAM_SCRUB) .scrubD, 5, true, 3, 2, by decide +kernel⟩,
    ⟨State.reset.modBus (fun b => { b with points := [setPoint5] }), 5, 4, by decide +kernel⟩,
    ⟨State.reset.wr MEM.STATUS.EMMC_ABSENT 0, 5, 4, by decide +kernel⟩,
    ⟨State.reset.wr MEM.STATUS.EMMC_ABSENT 0, 5, 40, 2, by decide +kernel⟩⟩

/-- The hypotheses of PortsAndRedundancy can be met. -/
theorem witness_PortsAndRedundancy :
    (∃ (s : State) (_ : Time) (h : NetHdr) (_ _ : Bool) (_ : BitVec 32), s.rd NET.CTRL.MODE = 2 ∧ s.portOn h.port =
      true ∧ h.dst ≠ Config.mac ∧ h.src ≠ Config.mac) ∧
    (∃ (s : State) (_ : Time) (h : NetHdr) (_ _ : Bool) (_ : BitVec 32), s.rd NET.CTRL.MODE = 2 ∧ s.portOn h.port =
      true ∧ h.dst ≠ Config.mac ∧ h.src = Config.mac) ∧
    (∃ (s : State) (_ : Time) (h : NetHdr) (_ _ : Bool) (_ : BitVec 32), (s.rd NET.CTRL.MODE ≠ 2 ∨ s.portOn h.port
      = false ∨ h.dst = Config.mac)) ∧
    (∃ (s : State) (t : Time), s.rd NET.CTRL.MODE ≠ 0 ∧ ((∀ t0, s.bus.supAt = some t0 → t0 + 2 * sec ≤ max s.now
      t))) ∧
    (∃ (s : State) (t : Time), (s.rd NET.CTRL.MODE = 0 ∨ (∃ t0, s.bus.supAt = some t0 ∧ max s.now t < t0 + 2 *
      sec))) ∧
    (∃ (s : State) (t t0 : Time) (p : Fin 2), s.rd NET.CTRL.MODE = 2 ∧ s.bus.back.getD p none = some t0 ∧ t0 + 6 *
      sec ≤ max s.now t ∧ s.on NET.STATUS.RING_OPEN = false) ∧
    (∃ (s : State) (t : Time), (s.rd NET.CTRL.MODE ≠ 2 ∨ (∀ (p : Fin 2) (t0 : Time), s.bus.back.getD p none = some
      t0 → max s.now t < t0 + 6 * sec))) :=
  ⟨⟨(State.reset.wr NET.CTRL.MODE 2).wr NET.CTRL.PA_EN 1, 5, ⟨0, Config.mac + 1, 2, Config.mac + 1, 4, none, none⟩, true, true, 9, by decide +kernel, by decide +kernel, another_mac, another_mac⟩,
    ⟨(State.reset.wr NET.CTRL.MODE 2).wr NET.CTRL.PA_EN 1, 5, ⟨0, Config.mac, 2, Config.mac + 1, 4, none, none⟩, true, true, 9, by decide +kernel, by decide +kernel, another_mac, rfl⟩,
    ⟨State.reset.wr NET.CTRL.PA_EN 1, 5, ⟨0, 1, 2, 3, 4, none, none⟩, true, true, 9, by decide +kernel⟩,
    ⟨(State.reset.wr NET.CTRL.MODE 1).wr NET.CTRL.PA_EN 1, 5, by decide +kernel⟩,
    ⟨State.reset.wr NET.CTRL.MODE 0, 5, by decide +kernel⟩,
    ⟨later ((State.reset.wr NET.CTRL.MODE 2).modBus (fun b => { b with back := [some 0, none] })), 5, 0, 0, by decide +kernel⟩,
    ⟨State.reset.set NET.STATUS.RING_OPEN, 5, by decide +kernel⟩⟩

/-- The hypotheses of PtpFollowsItsMaster can be met. -/
theorem witness_PtpFollowsItsMaster :
    (∃ (s : State) (_ : Time) (port : Fin 2) (dom : BitVec 8) (_ : BitVec 64) (_ _ : BitVec 32)
      (_ : BitVec
      16), s.on PTP.CTRL.EN = true ∧ s.portOn port = true ∧ dom.toNat = s.rd PTP.CTRL.DOMAIN) ∧
    (∃ (s : State) (_ : Time) (port : Fin 2) (dom : BitVec 8) (_ : BitVec 64) (_ _ : BitVec 32)
      (_ : BitVec
      16), (s.on PTP.CTRL.EN = false ∨ s.portOn port = false ∨ dom.toNat ≠ s.rd PTP.CTRL.DOMAIN)) ∧
    (∃ (s : State) (_ : Time) (port : Fin 2) (off : BitVec 64), s.on PTP.CTRL.EN = true ∧ s.rd PTP.STATUS.PORT =
      port ∧ (s.rd PTP.STATUS.STATE = 2 ∨ s.rd PTP.STATUS.STATE = 3) ∧ (s.bus.fresh = false ∨ off.toInt.natAbs ≤
      1000)) ∧
    (∃ (s : State) (_ : Time) (port : Fin 2) (off : BitVec 64), s.on PTP.CTRL.EN = true ∧ s.rd PTP.STATUS.PORT =
      port ∧ (s.rd PTP.STATUS.STATE = 2 ∨ s.rd PTP.STATUS.STATE = 3) ∧ s.bus.fresh = true ∧ 1000 <
      off.toInt.natAbs) ∧
    (∃ (s : State) (_ : Time) (port : Fin 2) (_ : BitVec 32), s.on PTP.CTRL.EN = true ∧ s.portOn port = true) ∧
    (∃ (s : State) (t : Time), (s.at' t).bestPort = none ∧ (s.rd PTP.STATUS.STATE = 2 ∨ s.rd PTP.STATUS.STATE = 3)) ∧
    (∃ (s : State) (t : Time) (p : Nat) (m : Master), (s.at' t).bestPort = some p ∧ p ≠ s.rd PTP.STATUS.PORT ∧
      s.bus.masters.get p none = some m) ∧
    (∃ (s : State) (t : Time), s.rd PTP.STATUS.STATE = 4 ∧ (s.at' t).due .traceHold (s.rd PTP.CTRL.HOLD_T * sec) =
      true) :=
  ⟨⟨((State.reset.set PTP.CTRL.EN).wr NET.CTRL.PA_EN 1).wr PTP.STATUS.STATE 1, 5, 0, 0, 7, 0x00010006, 0, 1000, by decide +kernel⟩,
    ⟨State.reset, 5, 0, 0, 7, 0x00010006, 0, 1000, by decide +kernel⟩,
    ⟨((State.reset.set PTP.CTRL.EN).wr PTP.STATUS.STATE 2).modBus (fun b => { b with fresh := false }), 5, 0, 5, by decide +kernel⟩,
    ⟨((State.reset.set PTP.CTRL.EN).wr PTP.STATUS.STATE 2).modBus (fun b => { b with fresh := true }), 5, 0, 5000, by decide +kernel⟩,
    ⟨(State.reset.set PTP.CTRL.EN).wr NET.CTRL.PA_EN 1, 5, 0, 77, by decide +kernel⟩,
    ⟨State.reset.wr PTP.STATUS.STATE 3, 5, by decide +kernel⟩,
    ⟨(State.reset.wr PTP.STATUS.STATE 3).modBus (fun b => { b with masters := b.masters.upd 1 (fun _ => some { gm := 7, q := 6, prio := 0, last := 0, every := 1000 }) }), 5, 1, { gm := 7, q := 6, prio := 0, last := 0, every := 1000 }, by decide +kernel⟩,
    ⟨since0 ((State.reset.wr PTP.STATUS.STATE 4).set PTP.STATUS.TRACEABLE) .traceHold, 5, by decide +kernel⟩⟩

/-- The hypotheses of ProcessBusSubscriptionsAndPublications can be met. -/
theorem witness_ProcessBusSubscriptionsAndPublications :
    (∃ (s : State) (_ : Time) (h : NetHdr) (_ : List SvAsdu), s.portOn h.port = true) ∧
    (∃ (s : State) (_ : Time) (h : NetHdr) (_ : GooseMsg), s.portOn h.port = true) ∧
    (∃ (s : State) (t : Time) (h : NetHdr) (a : SvAsdu) (c : Ctx), ((s.at' t).netTake h true).1 = true ∧
      s.bus.ctxs.filter (fun x => x.matches 1 h) = [c] ∧ s.ctx c.idx = some c ∧ c.idx < 256 ∧ (s.at' t).frameAuth c
      h.auth = true ∧ a.svId = c.name1 ∧ a.confRev.toNat = c.u 14 4 ∧ a.synch = 2 ∧ a.smpCnt.toNat < c.u 18 2) ∧
    (∃ (s : State) (t : Time) (h : NetHdr) (a : SvAsdu) (c : Ctx), ((s.at' t).netTake h true).1 = true ∧
      s.bus.ctxs.filter (fun x => x.matches 1 h) = [c] ∧ s.ctx c.idx = some c ∧ c.idx < 256 ∧ (s.at' t).frameAuth c
      h.auth = true ∧ (a.svId ≠ c.name1 ∨ a.confRev.toNat ≠ c.u 14 4 ∨ a.synch ≠ 2 ∨ c.u 18 2 ≤ a.smpCnt.toNat)) ∧
    (∃ (s : State) (t : Time) (h : NetHdr) (_ : SvAsdu) (c : Ctx), ((s.at' t).netTake h true).1 = true ∧
      s.bus.ctxs.filter (fun x => x.matches 1 h) = [c] ∧ s.ctx c.idx = some c ∧ (s.at' t).frameAuth c h.auth =
      false) ∧
    (∃ (s : State) (t t0 : Time) (i : BitVec 8) (c : Ctx), s.ctx i.toNat = some c ∧ c.kind = 1 ∧ s.startedAt
      (.svSup i.toNat) = some t0 ∧ (t0 + c.u 20 2 * 100 * us) / sclk < (s.at' t).cycle ∧ s.supv i.toNat = true) ∧
    (∃ (s : State) (t : Time) (h : NetHdr) (m : GooseMsg) (c : Ctx), ((s.at' t).netTake h true).1 = true ∧
      s.bus.ctxs.filter (fun x => x.matches 3 h) = [c] ∧ s.ctx c.idx = some c ∧ c.idx < 256 ∧ (s.at' t).frameAuth c
      h.auth = true ∧ m.gocbRef = c.name1 ∧ m.datSet = c.name2 ∧ m.confRev.toNat = c.u 14 4 ∧ m.ndsCom = false ∧
      (c.stNum ≤ m.stNum.toNat ∨ m.stNum = 1) ∧ m.test = false ∧ m.sim = false ∧ ((∀ t0, c.testTill = some t0 → t0
      ≤ max s.now t))) ∧
    (∃ (s : State) (t : Time) (h : NetHdr) (m : GooseMsg) (c : Ctx), ((s.at' t).netTake h true).1 = true ∧
      s.bus.ctxs.filter (fun x => x.matches 3 h) = [c] ∧ s.ctx c.idx = some c ∧ c.idx < 256 ∧ (s.at' t).frameAuth c
      h.auth = true ∧ m.gocbRef = c.name1 ∧ m.datSet = c.name2 ∧ m.confRev.toNat = c.u 14 4 ∧ m.ndsCom = false ∧
      (c.stNum ≤ m.stNum.toNat ∨ m.stNum = 1) ∧ (m.test = true ∨ m.sim = true)) ∧
    (∃ (s : State) (t : Time) (h : NetHdr) (m : GooseMsg) (c : Ctx), ((s.at' t).netTake h true).1 = true ∧
      s.bus.ctxs.filter (fun x => x.matches 3 h) = [c] ∧ s.ctx c.idx = some c ∧ (s.at' t).frameAuth c h.auth = true
      ∧ (m.gocbRef ≠ c.name1 ∨ m.datSet ≠ c.name2 ∨ m.confRev.toNat ≠ c.u 14 4 ∨ m.ndsCom = true ∨ (m.stNum.toNat <
      c.stNum ∧ m.stNum ≠ 1))) ∧
    (∃ (s : State) (t : Time) (i : BitVec 8) (c : Ctx), s.ctx i.toNat = some c ∧ c.kind = 3 ∧ (s.at' t).due
      (.gooseSup i.toNat) (c.ttl * ms) = true ∧ s.supv i.toNat = true) ∧
    (∃ (s : State) (t : Time) (i : BitVec 8) (c : Ctx), s.ctx i.toNat = some c ∧ c.kind = 4 ∧ (s.at' t).due
      (.gooseRetx i.toNat) (c.every * ms) = true) ∧
    (∃ (s : State) (t : Time) (i : BitVec 8) (c : Ctx), s.ctx i.toNat = some c ∧ c.kind = 2 ∧
      (let d := frameDue (s.at' t).tai (c.u 18 2); let last := d.2.1 * 10 ^ 9 + (rneDiv (((d.1 + d.2.2 - 1) * 10 ^ 9 : Nat) : Int) (c.u 18 2)).toNat; c.lastAt
      ≠ some last)) :=
  ⟨⟨State.reset.wr NET.CTRL.PA_EN 1, 5, ⟨0, 1, 2, 3, 4, none, none⟩, [], by decide +kernel⟩,
    ⟨busState svCtx0, 5, ⟨0, 1, 2, 3, 4, none, none⟩, ⟨[], [], 0, false, false, false, 2, 9, []⟩, by decide +kernel⟩,
    ⟨busState svCtx0, 5, ⟨0, 1, 2, 2, 0, none, none⟩, ⟨[], 0, 2, 0, []⟩, svCtx0, by decide +kernel⟩,
    ⟨busState svCtx0, 5, ⟨0, 1, 2, 2, 0, none, none⟩, ⟨[], 0, 1, 0, []⟩, svCtx0, by decide +kernel⟩,
    ⟨busState { svCtx0 with block := svCtx0.block.set 2 1 }, 5, ⟨0, 1, 2, 2, 0, none, none⟩, ⟨[], 0, 1, 0, []⟩, { svCtx0 with block := svCtx0.block.set 2 1 }, by decide +kernel⟩,
    ⟨since0 ((busState svCtx0).supvOn 3) (.svSup 3), 5, 0, 3, svCtx0, by decide +kernel⟩,
    ⟨busState gooseCtx0, 5, ⟨0, 1, 2, 2, 0, none, none⟩, ⟨[], [], 0, false, false, false, 2, 9, []⟩, gooseCtx0, by decide +kernel⟩,
    ⟨busState gooseCtx0, 5, ⟨0, 1, 2, 2, 0, none, none⟩, ⟨[], [], 0, false, true, false, 2, 9, []⟩, gooseCtx0, by decide +kernel⟩,
    ⟨busState gooseCtx0, 5, ⟨0, 1, 2, 2, 0, none, none⟩, ⟨[], [], 0, true, false, false, 2, 9, []⟩, gooseCtx0, by decide +kernel⟩,
    ⟨since0 (((((busState gooseCtx0).supvOn 3).wr (ISD.DEV.EN 4) 1).wr (ISD.DEV.CTX 4) 3)) (.gooseSup 3), 5, 3, gooseCtx0, by decide +kernel⟩,
    ⟨since0 (busState { gooseCtx0 with kind := 4 }) (.gooseRetx 3), 5, 3, { gooseCtx0 with kind := 4 }, by decide +kernel⟩,
    ⟨busState { svCtx0 with kind := 2 }, 5, 3, { svCtx0 with kind := 2 }, by decide +kernel⟩⟩

/-- The hypotheses of FramePeriodFollowsItsRegister can be met. -/
theorem witness_FramePeriodFollowsItsRegister :
    (∃ (s : State) (_ : Time) (v : Word), 2000 ≤ v.toNat % 2 ^ 15 ∧ v.toNat % 2 ^ 15 ≤ 20000 ∧ s.leastPeriod ≤
      v.toNat % 2 ^ 15) ∧
    (∃ (s : State) (_ : Time) (v : Word), (v.toNat % 2 ^ 15 < 2000 ∨ 20000 < v.toNat % 2 ^ 15 ∨ v.toNat % 2 ^ 15 <
      s.leastPeriod)) ∧
    (∃ (s : State) (t : Time) (l : List PendWrite) (w : PendWrite), (s.at' t).tickDue = true ∧ s.pend = l ++ [w] ∧
      w.space = .reg ∧ w.addr = 0x3000 ∧ w.cycle < (s.at' t).cycle) ∧
    (∃ (s : State) (t : Time), s.seq.ticked = true ∧ (s.at' t).cycle < s.seq.tickCycle + s.seq.period) ∧
    (∃ (s : State) (t : Time), s.seq.ticked = true ∧ s.seq.tickCycle + s.seq.period ≤ (s.at' t).cycle ∧ s.sys.dark
      = false ∧ stBOOT < s.code ∧ s.clk.stopped = false) :=
  ⟨⟨State.reset, 5, 2000, by decide +kernel⟩,
    ⟨State.reset, 5, 20001, by decide +kernel⟩,
    ⟨tickReady 1000, 64 * 5000, [], { space := .reg, addr := 0x3000, val := 2500, cycle := 5 }, by decide +kernel⟩,
    ⟨tickReady 100, 64 * 4099, by decide +kernel⟩,
    ⟨tickReady 100, 64 * 4100, by decide +kernel⟩⟩

/-- The hypotheses of TickOpensAFrame can be met. -/
theorem witness_TickOpensAFrame :
    (∃ (s : State) (t : Time), (s.at' t).tickDue = true) ∧
    (∃ (s : State) (t : Time), (s.at' t).tickDue = false) ∧
    (∃ (s : State) (t : Time) (q : Bool × Nat × Nat), s.cue.resetBy = some q ∧ (s.at' t).due .resetQueued (100 *
      ms) = true) :=
  ⟨⟨(inState 4).modSys (fun y => { y with dark := false }), 5, by decide +kernel⟩,
    ⟨State.reset, 5, by decide +kernel⟩,
    ⟨{ (inState 4).modCue (fun q => { q with resetBy := some (false, 0, 7) }) with timers := [(.resetQueued, 0)] }, 10 ^ 12, (false, 0, 7), by decide +kernel⟩⟩

/-- The hypotheses of StepRunsTheFrontCommand can be met. -/
theorem witness_StepRunsTheFrontCommand :
    (∃ (s : State) (c : Instr) (rest : List Instr), s.pending = c :: rest) ∧
    (∃ s : State, s.pending = []) :=
  ⟨⟨{ State.reset with pending := [.tick 3, .tick 4] }, .tick 3, [.tick 4], rfl⟩,
    ⟨State.reset, rfl⟩⟩

/-- The hypotheses of CommandsKeepQueueAndClock can be met. -/
theorem witness_CommandsKeepQueueAndClock :
    (∃ (c : Instr) (s s' : State), exec c s = .next s') :=
  ⟨.digestCheck 5 true, State.reset, _, rfl⟩

/-- The hypotheses of FiveCommandsReachDram can be met. -/
theorem witness_FiveCommandsReachDram :
    (∃ (c : Instr) (s s' : State), exec c s = .next s' ∧ reachesDram c = false) :=
  ⟨.digestCheck 5 true, State.reset, _, rfl, rfl⟩

/-- The hypotheses of EveryStepKeepsDramCanonical can be met. -/
theorem witness_EveryStepKeepsDramCanonical :
    (∃ s s' : State, mapWf (fun _ => (0 : Byte)) s.mem.dram = true ∧ step s = .next s') :=
  ⟨{ State.reset with mem := { State.reset.mem with dram := [(5, 7), (8, 1)] } }, _, by decide, rfl⟩

/-- The hypotheses of OnlyAnImpossibleLoadStops can be met. -/
theorem witness_OnlyAnImpossibleLoadStops :
    (∃ (_ : State) (_ : Shot) (_ : ShotCheck) (lat : Nat), (lat = 0 ∨ 14 < lat)) ∧
    (∃ c : Instr, ∀ w k lat, c = .load w k lat → 1 ≤ lat ∧ lat ≤ 14) :=
  ⟨⟨State.reset, ⟨0, 0, 0, 0, 0, 0⟩, .good, 15, by decide +kernel⟩,
    ⟨.load ⟨1, 0x600, 0x600, 0, 0, 0⟩ .good 14, by intro _ _ _ h; cases h; decide⟩⟩
end Sys2Proof.Tests
end

section
/-! ## The frame's view: what of the state the tick alone reaches

Of all that a step may do, the opening of a frame turns on nine quantities: the clock and its time base, the frame
count, the slate's time, the period shown and in force, and the frame that runs. They make up `State.frameView`. Each
part of a tick either spares the view or reaches it as stated; this part covers the operations of the state (R29, R36). -/

namespace Sys2Proof.Machine
open Reg

/-- A fold over any list of steps that each keep a quantity keeps it. -/
theorem foldl_keeps {α β : Type} (q : State → β) {f : State → α → State} (h : ∀ s x, q (f s x) = q s)
    (l : List α) (s : State) : q (l.foldl f s) = q s := by
  induction l generalizing s with
  | nil => rfl
  | cons x l ih => rw [List.foldl_cons, ih, h]

/-- What the tick alone reaches: the clock and its time base, the words of the frame count and of the slate's time,
the period shown and in force, and the frame that runs. -/
structure FrameView where
  now : Time
  time : TimeBase
  count : Nat
  latched : Nat
  shown : Word
  period : Nat
  tickCycle : Nat
  ticked : Bool
  phase : FramePhase

/-- What a state shows of the frame. -/
def State.frameView (s : State) : FrameView where
  now := s.now
  time := s.time
  count := s.rd SEQ.FRAMECNT.COUNT
  latched := s.rd64 SEQ.SLATE_TIME.TAI_NS
  shown := mapGet resetWord s.eff 0x3000
  period := s.seq.period
  tickCycle := s.seq.tickCycle
  ticked := s.seq.ticked
  phase := s.seq.phase

/-- An address outside SEQ.FRAMECNT and SEQ.SLATE_TIME. -/
def FrameClear (a : Nat) : Prop := a < 0x300C ∨ 0x3018 ≤ a

@[simp] theorem frameClear_add {a : Nat} (h : 0x3018 ≤ a) (n : Nat) : FrameClear (a + n) := .inr (by omega)
@[simp] theorem frameClear_below {a : Nat} (h : a < 0x300C) : FrameClear a := .inl h
@[simp] theorem frameClear_above {a : Nat} (h : 0x3018 ≤ a) : FrameClear a := .inr h

namespace State

theorem frameView_now (s : State) : s.frameView.now = s.now := rfl
theorem frameView_time (s : State) : s.frameView.time = s.time := rfl
theorem frameView_count (s : State) : s.frameView.count = s.rd SEQ.FRAMECNT.COUNT := rfl
theorem frameView_latched (s : State) : s.frameView.latched = s.rd64 SEQ.SLATE_TIME.TAI_NS := rfl
theorem frameView_shown (s : State) : s.frameView.shown = mapGet resetWord s.eff 0x3000 := rfl
theorem frameView_period (s : State) : s.frameView.period = s.seq.period := rfl
theorem frameView_tickCycle (s : State) : s.frameView.tickCycle = s.seq.tickCycle := rfl
theorem frameView_ticked (s : State) : s.frameView.ticked = s.seq.ticked := rfl
theorem frameView_phase (s : State) : s.frameView.phase = s.seq.phase := rfl

/-- The view hangs on five components of the state. -/
theorem frameView_congr {s t : State} (hn : t.now = s.now) (ht : t.time = s.time) (hr : t.regs = s.regs)
    (he : mapGet resetWord t.eff 0x3000 = mapGet resetWord s.eff 0x3000) (hq : t.seq = s.seq) : t.frameView = s.frameView := by
  simp only [frameView, rd, rd64, word, hn, ht, hr, he, hq]

/-- A word in effect other than SEQ.PERIOD's, and the waiting writes, are no part of the view. -/
theorem frameView_of_eff (s : State) {m : SMap Word} (hm : m = s.eff) {a : Nat} (ha : a ≠ 0x3000) (w : Word)
    (l : List PendWrite) : State.frameView { s with eff := mapPut resetWord m a w, pend := l } = s.frameView :=
  frameView_congr rfl rfl rfl (hm ▸ mapGet_mapPut_other resetWord m w ha.symm) rfl

@[simp] theorem setWord_frameView (s : State) {a : Nat} (w : Word) (h : FrameClear a) :
    (s.setWord a w).frameView = s.frameView := by
  have hw : ∀ b, ¬ FrameClear b → (s.setWord a w).word b = s.word b :=
    fun b hb => word_setWord_other s w (fun e => hb (e ▸ h))
  have h₁ := hw 0x300C (by unfold FrameClear; omega)
  have h₂ := hw 0x3010 (by unfold FrameClear; omega)
  have h₃ := hw (0x3010 + 4) (by unfold FrameClear; omega)
  simp only [frameView, rd, rd64, h₁, h₂, h₃, setWord_now, setWord_time, setWord_seq, setWord_eff]

@[simp] theorem wr_frameView (s : State) (f : Field) (v : Nat) (h : FrameClear f.addr) :
    (s.wr f v).frameView = s.frameView := State.setWord_frameView s _ h
@[simp] theorem wr64_frameView (s : State) (f : Field) (v : Nat) (h : FrameClear f.addr) (h' : FrameClear (f.addr + 4)) :
    (s.wr64 f v).frameView = s.frameView := by
  simp [wr64, h, h']
@[simp] theorem set_frameView (s : State) (f : Field) (h : FrameClear f.addr) : (s.set f).frameView = s.frameView := s.wr_frameView f 1 h
@[simp] theorem wrB_frameView (s : State) (f : Field) (b : Bool) (h : FrameClear f.addr) : (s.wrB f b).frameView = s.frameView := s.wr_frameView f _ h
@[simp] theorem wrI_frameView (s : State) (f : Field) (v : Int) (h : FrameClear f.addr) : (s.wrI f v).frameView = s.frameView := s.wr_frameView f _ h
@[simp] theorem wrBit_frameView (s : State) (f : Field) (i : Nat) (b : Bool) (h : FrameClear f.addr) : (s.wrBit f i b).frameView = s.frameView :=
  s.wr_frameView f _ h
@[simp] theorem inc_frameView (s : State) (f : Field) (h : FrameClear f.addr) : (s.inc f).frameView = s.frameView := s.wr_frameView f _ h
@[simp] theorem sat_frameView (s : State) (f : Field) (h : FrameClear f.addr) : (s.sat f).frameView = s.frameView := s.wr_frameView f _ h
@[simp] theorem satAdd_frameView (s : State) (f : Field) (n : Nat) (h : FrameClear f.addr) : (s.satAdd f n).frameView = s.frameView := s.wr_frameView f _ h
@[simp] theorem start_frameView (s : State) (k : TimerKey) : (s.start k).frameView = s.frameView :=
  frameView_congr rfl rfl rfl rfl rfl
@[simp] theorem stop_frameView (s : State) (k : TimerKey) : (s.stop k).frameView = s.frameView :=
  frameView_congr rfl rfl rfl rfl rfl
@[simp] theorem modTrip_frameView (s : State) (f : Trip → Trip) : (s.modTrip f).frameView = s.frameView :=
  frameView_congr rfl rfl rfl rfl rfl
@[simp] theorem modSys_frameView (s : State) (f : Sys → Sys) : (s.modSys f).frameView = s.frameView :=
  frameView_congr rfl rfl rfl rfl rfl
@[simp] theorem modLeg_frameView (s : State) (n : Nat) (f : BandLeg → BandLeg) : (s.modLeg n f).frameView = s.frameView :=
  frameView_congr rfl rfl rfl rfl rfl
@[simp] theorem modUnit_frameView (s : State) (n : Nat) (f : CarrierUnit → CarrierUnit) : (s.modUnit n f).frameView = s.frameView :=
  frameView_congr rfl rfl rfl rfl rfl
@[simp] theorem modReel_frameView (s : State) (n : Nat) (f : Reel → Reel) : (s.modReel n f).frameView = s.frameView :=
  frameView_congr rfl rfl rfl rfl rfl
@[simp] theorem modClk_frameView (s : State) (f : Clk → Clk) : (s.modClk f).frameView = s.frameView :=
  frameView_congr rfl rfl rfl rfl rfl
@[simp] theorem modCue_frameView (s : State) (f : CueState → CueState) : (s.modCue f).frameView = s.frameView :=
  frameView_congr rfl rfl rfl rfl rfl
@[simp] theorem modFeed_frameView (s : State) (n : Nat) (f : Feed → Feed) : (s.modFeed n f).frameView = s.frameView :=
  frameView_congr rfl rfl rfl rfl rfl
@[simp] theorem modFrt_frameView (s : State) (f : Frt → Frt) : (s.modFrt f).frameView = s.frameView :=
  frameView_congr rfl rfl rfl rfl rfl
@[simp] theorem modBus_frameView (s : State) (f : Bus → Bus) : (s.modBus f).frameView = s.frameView :=
  frameView_congr rfl rfl rfl rfl rfl
@[simp] theorem modChan_frameView (s : State) (n : Nat) (f : Chan → Chan) : (s.modChan n f).frameView = s.frameView :=
  frameView_congr rfl rfl rfl rfl rfl
@[simp] theorem modMeas_frameView (s : State) (f : Meas → Meas) : (s.modMeas f).frameView = s.frameView :=
  frameView_congr rfl rfl rfl rfl rfl
@[simp] theorem modMtr_frameView (s : State) (f : Mtr → Mtr) : (s.modMtr f).frameView = s.frameView :=
  frameView_congr rfl rfl rfl rfl rfl
@[simp] theorem modNvm_frameView (s : State) (f : Nvm → Nvm) : (s.modNvm f).frameView = s.frameView :=
  frameView_congr rfl rfl rfl rfl rfl
@[simp] theorem modIsd_frameView (s : State) (f : Isd → Isd) : (s.modIsd f).frameView = s.frameView :=
  frameView_congr rfl rfl rfl rfl rfl
@[simp] theorem modHist_frameView (s : State) (f : Hist → Hist) : (s.modHist f).frameView = s.frameView :=
  frameView_congr rfl rfl rfl rfl rfl
@[simp] theorem modSync_frameView (s : State) (f : Sync → Sync) : (s.modSync f).frameView = s.frameView :=
  frameView_congr rfl rfl rfl rfl rfl
@[simp] theorem modSeq_frameView (s : State) (f : Seq → Seq) (hp : ∀ q, (f q).period = q.period)
    (hc : ∀ q, (f q).tickCycle = q.tickCycle) (ht : ∀ q, (f q).ticked = q.ticked)
    (hf : ∀ q, (f q).phase = q.phase) : (s.modSeq f).frameView = s.frameView := by
  unfold frameView
  simp only [modSeq_seq, hp, hc, ht, hf]
  rfl
@[simp] theorem with_nvm_frameView (s : State) (x : Nvm) : State.frameView { s with nvm := x } = s.frameView :=
  frameView_congr rfl rfl rfl rfl rfl
@[simp] theorem putSw_frameView (s : State) (a : Nat) (v : F32) : (s.putSw a v).frameView = s.frameView := (rfl)
@[simp] theorem initWords_frameView (s : State) (b : Bool) : (s.initWords b).frameView = s.frameView := (rfl)
@[simp] theorem modActive_frameView (s : State) (f : Bank → Bank) : (s.modActive f).frameView = s.frameView := by
  unfold modActive modSeq frameView; split <;> rfl
@[simp] theorem each_frameView {f : State → Nat → State} (h : ∀ s n, (f s n).frameView = s.frameView) (l : List Nat)
    (s : State) : (s.each l f).frameView = s.frameView := each_keeps State.frameView f h l s
/-- Both ways of a branch keep the view. -/
theorem ite_frameView {c : Prop} [Decidable c] {s a b : State} (ha : a.frameView = s.frameView)
    (hb : b.frameView = s.frameView) : (if c then a else b).frameView = s.frameView := by
  split
  · exact ha
  · exact hb

/-- A fold of steps that keep the view keeps it. -/
theorem foldl_frameView {α : Type} {f : State → α → State} (h : ∀ s x, (f s x).frameView = s.frameView) (l : List α)
    (s : State) : (l.foldl f s).frameView = s.frameView := foldl_keeps frameView h l s

/-- No trip path reaches the view: what it writes lies outside the spared words. -/
theorem tripBlind_frameView : TripBlind State.frameView where
  regs s a w h := s.setWord_frameView w (by
    rcases h with h | h | h | h | h
    · exact .inr (by omega)
    · exact .inr (by omega)
    all_goals subst h; simp)
  timers _ _ := rfl
  hot _ _ := rfl
  leg _ _ _ := rfl
  trip _ _ := rfl
  sys _ _ := rfl
  island _ _ _ := rfl
  unit _ _ _ := rfl
  reel _ _ _ := rfl
  ramps _ _ := rfl

section
variable (s : State)
@[simp] theorem startIf_frameView (k : TimerKey) : (s.startIf k).frameView = s.frameView := tripBlind_frameView.startIf s k
@[simp] theorem groupOff_frameView : s.groupOff.frameView = s.frameView := tripBlind_frameView.groupOff s
@[simp] theorem dumpOff_frameView : s.dumpOff.frameView = s.frameView := tripBlind_frameView.dumpOff s
@[simp] theorem showReturning_frameView : s.showReturning.frameView = s.frameView := tripBlind_frameView.showReturning s
@[simp] theorem legOff_frameView (n : Nat) : (s.legOff n).frameView = s.frameView := tripBlind_frameView.legOff s n
@[simp] theorem stopDischarge_frameView : s.stopDischarge.frameView = s.frameView := tripBlind_frameView.stopDischarge s
@[simp] theorem actOn_frameView (m : Nat) (b : Bool) : (s.actOn m b).frameView = s.frameView := tripBlind_frameView.actOn s m b
@[simp] theorem putLatch_frameView (n : Nat) (b : Bool) : (s.putLatch n b).frameView = s.frameView := tripBlind_frameView.putLatch s n b
@[simp] theorem refreshTrips_frameView : s.refreshTrips.frameView = s.frameView := tripBlind_frameView.refreshTrips s
@[simp] theorem assertSrc_frameView (n : Nat) : (s.assertSrc n).frameView = s.frameView := tripBlind_frameView.assertSrc s n
@[simp] theorem dropSrc_frameView (n : Nat) : (s.dropSrc n).frameView = s.frameView := tripBlind_frameView.dropSrc s n
@[simp] theorem putSource_frameView (n : Nat) (b : Bool) : (s.putSource n b).frameView = s.frameView := tripBlind_frameView.putSource s n b
@[simp] theorem forceTrip_frameView (n m : Nat) : (s.forceTrip n m).frameView = s.frameView := tripBlind_frameView.forceTrip s n m
@[simp] theorem pulseSrc_frameView (n : Nat) : (s.pulseSrc n).frameView = s.frameView := tripBlind_frameView.pulseSrc s n
@[simp] theorem putForced_frameView (n m : Nat) : (s.putForced n m).frameView = s.frameView :=
  frameView_congr rfl rfl rfl rfl rfl
@[simp] theorem feedLow_frameView (n : Nat) : (s.feedLow n).frameView = s.frameView := by simp [feedLow]
@[simp] theorem sendDown_frameView (n : Nat) (d : Down) (t : Time) : (s.sendDown n d t).frameView = s.frameView :=
  frameView_congr rfl rfl rfl rfl rfl

@[simp] theorem detect_frameView (c d r : Nat) : (s.detect c d r).frameView = s.frameView :=
  detect_keeps frameView c (fun s a w h => s.setWord_frameView w (by rcases h with h | h <;> exact .inr (by omega)))
    (fun _ _ => rfl) (fun _ _ => rfl) s d r
@[simp] theorem logIt_frameView (o r : Nat) (x c : Bool) (op tg ov nv : Nat) : (s.logIt o r x c op tg ov nv).frameView = s.frameView :=
  logIt_keeps frameView (fun s a w h => s.setWord_frameView w (by rcases h with h | h | h <;> exact .inr (by omega)))
    (fun _ _ => rfl) (fun _ _ => rfl) (fun _ _ => rfl) s o r x c op tg ov nv
@[simp] theorem reelEvent_frameView (t : Time) (c k l : Nat) : (s.reelEvent t c k l).frameView = s.frameView :=
  reelEvent_keeps frameView (fun _ _ _ => rfl) s t c k l
@[simp] theorem logChange_frameView (op tg ov nv : Nat) : (s.logChange op tg ov nv).frameView = s.frameView := by
  simp [logChange]
@[simp] theorem logCue_frameView (tg ov nv : Nat) : (s.logCue tg ov nv).frameView = s.frameView := s.logChange_frameView _ _ _ _
end
end State
end Sys2Proof.Machine
end

section
/-! ## Pads, topology, network and cues spare the view -/

namespace Sys2Proof.Machine
open Reg
namespace State
section
variable (s : State)

@[simp] theorem putPad_frameView (n out : Nat) (on : Bool) : (s.putPad n out on).frameView = s.frameView := by
  unfold putPad
  dsimp only
  have h : ∀ b c d : Bool, (if 1 ≤ n ∧ n ≤ 8 then s.wrBit PWM.OUT.FD (2 * (n - 1) + out) b
      else if 10 ≤ n ∧ s.bitOf PWM.PINSEL.AUX (2 * (n - 10) + out) = true then
        (s.wrBit PWM.OUT.AUX (2 * (n - 10) + out) c).wrBit SYS.GPIO_IN.LEVEL (12 + (2 * (n - 10) + out)) d
      else s).frameView = s.frameView := by
    intro b c d
    repeat' split
    all_goals simp
  split <;> simp [h]

@[simp] theorem unitOff_frameView (n : Nat) : (s.unitOff n).frameView = s.frameView := by
  unfold unitOff
  repeat' split
  all_goals simp

@[simp] theorem showRunning_frameView (n : Nat) : (s.showRunning n).frameView = s.frameView := by
  simp [showRunning]

@[simp] theorem takeResources_frameView : s.takeResources.frameView = s.frameView := by
  unfold takeResources
  refine each_frameView (fun s n => ?_) _ s
  dsimp only
  rw [showRunning_frameView]
  split <;> simp

@[simp] theorem topoEval_frameView (b : Bool) : (s.topoEval b).frameView = s.frameView := by
  unfold topoEval
  dsimp only
  repeat' split
  all_goals simp

@[simp] theorem refreshDegraded_frameView : s.refreshDegraded.frameView = s.frameView := by simp [refreshDegraded]

@[simp] theorem supvLose_frameView (i : Nat) : (s.supvLose i).frameView = s.frameView := by
  unfold supvLose
  split <;> simp

@[simp] theorem devicesLost_frameView (i : Nat) : (s.devicesLost i).frameView = s.frameView := by simp [devicesLost]

@[simp] theorem putCtx_frameView (i : Nat) (b : Option (List Byte)) : (s.putCtx i b).frameView = s.frameView := by
  unfold putCtx
  cases b <;> simp [refreshUsed]

@[simp] theorem applyCtxs_frameView (p : Nat → Bool) : (s.applyCtxs p).frameView = s.frameView := by
  unfold applyCtxs
  rw [foldl_frameView (fun s w => by simp), modBus_frameView]

@[simp] theorem applyQs_frameView (p : Nat → Bool) : (s.applyQs p).frameView = s.frameView := by
  unfold applyQs
  rw [foldl_frameView (fun s w => by simp), modBus_frameView]

@[simp] theorem applyModel_frameView (p : Nat → Bool) : (s.applyModel p).frameView = s.frameView := by
  unfold applyModel
  repeat' split
  all_goals simp

@[simp] theorem applyNet_frameView (p : Nat → Bool) : (s.applyNet p).frameView = s.frameView := by simp [applyNet]

@[simp] theorem holdRows_frameView : s.holdRows.frameView = s.frameView := by simp [holdRows]

/-! ### Cues -/

@[simp] theorem refreshQueue_frameView : s.refreshQueue.frameView = s.frameView := by simp [refreshQueue]

@[simp] theorem send_frameView (e : Entry) (st d : Nat) (data : List Byte) (final : Bool) :
    (s.send e st d data final).frameView = s.frameView := by
  unfold send
  dsimp only
  repeat' split
  all_goals simp [modSess]

@[simp] theorem finishCue_frameView (k : DeferKind) (st d : Nat) (data : List Byte) :
    (s.finishCue k st d data).frameView = s.frameView := by
  unfold finishCue
  split
  · rfl
  · dsimp only
    split
    · simp
    · split <;> simp

@[simp] theorem actFor_frameView (k : DeferKind) : (s.actFor k).frameView = s.frameView := by
  unfold actFor
  split
  · rfl
  · split
    · rfl
    · exact modCue_frameView _ _

@[simp] theorem takeSwap_frameView : s.takeSwap.frameView = s.frameView := by
  unfold takeSwap
  split
  · rfl
  · simp [showImage, raiseCnt, actNone]
end
end State
end Sys2Proof.Machine
end

section
/-! ## The special register writes spare the view -/

namespace Sys2Proof.Machine
open Reg

/-- Every bit of the spared words is RO. -/
theorem rowOf_spared {a : Nat} {r : RegRow} (h : ¬ FrameClear a) (hr : rowOf a = some r) :
    r.mRw = 0 ∧ r.mRws = 0 ∧ r.mW1c = 0 := by
  obtain ⟨h1, h2⟩ : 0x300C ≤ a ∧ a < 0x3018 := by unfold FrameClear at h; omega
  have key : ∀ k < 12, ∀ r ∈ rowOf (0x300C + k), r.mRw = 0 ∧ r.mRws = 0 ∧ r.mW1c = 0 := by decide
  exact key (a - 0x300C) (by omega) r (by rw [show 0x300C + (a - 0x300C) = a by omega]; exact hr)

/-- A configuration error never shows in the spared words. -/
theorem errBit_clear {a : Nat} {f : Field} (h : errBit a = some f) : FrameClear f.addr := by
  unfold errBit at h
  split at h
  case h_1 => split at h <;> cases h <;> simp
  all_goals cases h <;> simp

namespace State
section
variable (s : State)

@[simp] theorem setWord_self_frameView (a : Nat) : (s.setWord a (s.word a)).frameView = s.frameView := by
  have h : ∀ b, (s.setWord a (s.word a)).word b = s.word b := fun b => by
    rw [word_setWord]
    split
    · next e => rw [e]
    · rfl
  unfold frameView
  simp only [rd, rd64, h, setWord_now, setWord_time, setWord_eff, setWord_seq]

theorem pendReg_frameView {a : Nat} (w : Word) (h : FrameClear a) : (s.pendReg a w).frameView = s.frameView :=
  (frameView_congr (s := s.setWord a w) rfl rfl rfl rfl rfl).trans (s.setWord_frameView w h)

@[simp] theorem periodWrite_frameView (v : Word) : (s.periodWrite v).frameView = s.frameView := by
  unfold periodWrite
  extract_lets x low
  split
  · simp
  · exact s.pendReg_frameView _ (by simp)

@[simp] theorem refreshInvalid_frameView (n : Nat) : (s.refreshInvalid n).frameView = s.frameView := by
  unfold refreshInvalid
  split <;> simp

@[simp] theorem writeSupra_frameView (hi : Bool) (v : Word) : (s.writeSupra hi v).frameView = s.frameView := by
  unfold writeSupra
  split
  · simp
  · dsimp only
    rw [each_frameView (fun s n => ?_), setWord_frameView]
    · cases hi <;> simp
    · rw [refreshInvalid_frameView]
      repeat' split
      all_goals simp

@[simp] theorem feedTo_frameView (k st : Nat) : (s.feedTo k st).frameView = s.frameView := by
  unfold feedTo
  extract_lets s₁ s₂
  have h : s₂.frameView = s.frameView := by
    unfold s₂ s₁
    split <;> simp
  split
  · rw [modFeed_frameView, h]
  · exact h

@[simp] theorem writeFedCfg_frameView (k : Nat) (v : Word) : (s.writeFedCfg k v).frameView = s.frameView := by
  unfold writeFedCfg
  extract_lets st old mode badMode badSrc take s₁ s₂
  have h : s₂.frameView = s.frameView := by
    unfold s₂ s₁
    split <;> simp
  repeat' split
  all_goals simp [h]

@[simp] theorem writeFix_frameView (k : Nat) (v : Word) : (s.writeFix k v).frameView = s.frameView := by
  unfold writeFix
  extract_lets x bad a v s₁ w s₂ s₃
  have h : s₃.frameView = s.frameView := by
    unfold s₃ s₂ s₁
    rw [start_frameView]
    exact (frameView_congr (s := s.setWord a v) rfl rfl rfl rfl rfl).trans (s.setWord_frameView v (by simp [a]))
  split <;> simp [h]

@[simp] theorem putShadow_frameView (n : Nat) (i : ShadowItem) (v : Nat) : (s.putShadow n i v).frameView = s.frameView := by
  unfold putShadow
  dsimp only
  rw [modUnit_frameView]
  cases i <;> dsimp only <;> split <;> simp [pendBit]

@[simp] theorem writeShadow_frameView (n : Nat) (i : ShadowItem) (v : Word) : (s.writeShadow n i v).frameView = s.frameView := by
  unfold writeShadow
  split
  · split <;> simp
  · simp

@[simp] theorem clearLatches_frameView (m : Nat) (p : Nat → Bool) : (s.clearLatches m p).frameView = s.frameView := by
  unfold clearLatches
  rw [refreshTrips_frameView]
  refine each_frameView (fun s n => ?_) _ s
  repeat' split
  all_goals simp

@[simp] theorem testStart_frameView (n : Nat) : (s.testStart n).frameView = s.frameView := by
  unfold testStart
  dsimp only
  split <;> simp

@[simp] theorem commitGo_frameView (n : Nat) : (s.commitGo n).frameView = s.frameView := by
  unfold commitGo
  dsimp only
  split <;> simp

@[simp] theorem snapGo_frameView : s.snapGo.frameView = s.frameView := by
  have h : s.showSnap.frameView = s.frameView := by
    unfold showSnap
    exact each_frameView (fun s j => s.wr64_frameView _ _ (by simp) (.inr (by simp only; omega))) _ s
  simp [snapGo, h]

@[simp] theorem testGo_frameView (n : Nat) : (s.testGo n).frameView = s.frameView := by
  unfold testGo
  split <;> simp

@[simp] theorem alignGo_frameView : s.alignGo.frameView = s.frameView := by
  unfold alignGo
  split <;> simp

@[simp] theorem goWrite_frameView (a : Nat) (v : Word) : (s.goWrite a v).frameView = s.frameView := by
  unfold goWrite
  repeat' split
  all_goals simp
end
end State
end Sys2Proof.Machine
end

section
/-! ## A register write spares the view -/

namespace Sys2Proof.Machine
open Reg
namespace State
section
variable (s : State)

@[simp] theorem startAll_frameView (l : List TimerKey) : (s.startAll l).frameView = s.frameView :=
  foldl_frameView (fun s k => s.start_frameView k) l s

@[simp] theorem sendCfg_frameView (n : Nat) (l : List Nat) : (s.sendCfg n l).frameView = s.frameView := by
  unfold sendCfg
  split
  · exact each_frameView (fun s k => s.sendDown_frameView _ _ _) l s
  · rfl

@[simp] theorem chanRestart_frameView (n : Nat) : (s.chanRestart n).frameView = s.frameView := by
  simp [chanRestart, calFail, pathsInvalid, refreshDelays]

@[simp] theorem bgMonitor_frameView (n : Nat) : (s.bgMonitor n).frameView = s.frameView := by
  unfold bgMonitor bgAbandon
  repeat' split
  all_goals simp

@[simp] theorem refreshBidir_frameView (k : Nat) : (s.refreshBidir k).frameView = s.frameView := by
  unfold refreshBidir
  extract_lets on s₁ f s₂
  have h : s₁.frameView = s.frameView := s.wrB_frameView _ _ (by simp)
  split
  · exact h
  · exact (frameView_of_eff s₂ (s₁.wr_eff f 0).symm (by simp only [f]; omega) _ _).trans
      ((s₁.wr_frameView f 0 (by simp [f])).trans h)

@[simp] theorem unitCfg_frameView (n : Nat) (o w : Word) : (s.unitCfg n o w).frameView = s.frameView := by
  unfold unitCfg
  extract_lets a b s₁ s₂
  have h₁ : s₁.frameView = s.frameView := by
    unfold s₁
    split <;> simp
  have h₂ : s₂.frameView = s₁.frameView := by
    unfold s₂
    repeat' split
    all_goals simp
  rw [showRunning_frameView, h₂, h₁]

@[simp] theorem clockLoss_frameView : s.clockLoss.frameView = s.frameView := by simp [clockLoss]

@[simp] theorem unalign_frameView : s.unalign.frameView = s.frameView := by
  unfold unalign
  split
  · split <;> simp
  · rfl

@[simp] theorem loseLock_frameView (b : Bool) : (s.loseLock b).frameView = s.frameView := by
  unfold loseLock
  rw [clockLoss_frameView, modClk_frameView]
  simp

@[simp] theorem refreshFofs_frameView : s.refreshFofs.frameView = s.frameView := by
  unfold refreshFofs
  split <;> simp

@[simp] theorem clkCtrl_frameView (o n : Word) : (s.clkCtrl o n).frameView = s.frameView := by
  unfold clkCtrl
  extract_lets src relock
  split <;> simp

@[simp] theorem netCtrl_frameView (o n : Word) : (s.netCtrl o n).frameView = s.frameView := by
  unfold netCtrl
  split <;> simp

@[simp] theorem probeCheck_frameView : s.probeCheck.frameView = s.frameView := by
  unfold probeCheck
  split <;> simp

@[simp] theorem traceEnd_frameView : s.traceEnd.frameView = s.frameView := by
  unfold traceEnd
  split <;> simp

@[simp] theorem ptpHold_frameView : s.ptpHold.frameView = s.frameView := by
  unfold ptpHold
  extract_lets l s₁
  have h : s₁.frameView = s.frameView := s.set_frameView _ (by simp)
  split <;> simp [h]

@[simp] theorem ptpCtrl_frameView (o n : Word) : (s.ptpCtrl o n).frameView = s.frameView := by
  unfold ptpCtrl
  extract_lets a b
  split
  · rfl
  · split
    · simp
    · rw [modBus_frameView, traceEnd_frameView, wr_frameView _ _ _ (by simp)]
      split <;> simp

@[simp] theorem refreshSealed_frameView : s.refreshSealed.frameView = s.frameView := by simp [refreshSealed]

@[simp] theorem meterOff_frameView : s.meterOff.frameView = s.frameView := by
  unfold meterOff qLost
  extract_lets s₁ s₂
  have h : s₂.frameView = s.frameView := by simp [s₂, s₁]
  rw [modMtr_frameView]
  split <;> simp [h]

@[simp] theorem meterCtrl_frameView : s.meterCtrl.frameView = s.frameView := by
  unfold meterCtrl
  extract_lets s₁
  have h : s₁.frameView = s.frameView := by
    unfold s₁
    split <;> simp
  split <;> simp [h]

@[simp] theorem pulsesOff_frameView : s.pulsesOff.frameView = s.frameView :=
  each_frameView (fun s _ => s.modMtr_frameView _) _ s

@[simp] theorem refreshGov_frameView : s.refreshGov.frameView = s.frameView := by simp [refreshGov]

@[simp] theorem showHold_frameView : s.showHold.frameView = s.frameView := by simp [showHold]

@[simp] theorem afterWrite_frameView (a : Nat) (o n : Word) (b : Bool) : (s.afterWrite a o n b).frameView = s.frameView := by
  unfold afterWrite
  repeat' with_reducible apply ite_frameView
  all_goals simp [apply_ite frameView]

/-- A register write spares the view: on the spared words, whose bits are all RO, it puts the word back. -/
theorem regWrite_frameView (a : Nat) (v : Word) : (s.regWrite a v).frameView = s.frameView := by
  unfold regWrite
  split
  · rfl
  · next r hr =>
    repeat' with_reducible apply ite_frameView
    case hb =>
      extract_lets o rw w kept n s₁ s₂ shut s₃
      have h₁ : s₁.frameView = s.frameView := by
        by_cases hc : FrameClear a
        · simp [s₁, hc, pendReg_frameView, apply_ite frameView]
        · obtain ⟨hrw, hrws, hw1c⟩ := rowOf_spared hc hr
          have hz : rw = 0 := by simp [rw, settable, hrw, hrws]
          have hall : ∀ x : Word, x &&& 4294967295#32 = x := fun _ => BitVec.and_allOnes
          have hn : n = o := by simp [n, kept, hz, hw1c, hall]
          simp [s₁, hrws, hn, o]
      have h₃ : s₃.frameView = s₁.frameView := by
        unfold s₃
        split
        · exact s₁.afterWrite_frameView a o n _
        · split
          · next f hf => simp [s₂, errBit_clear hf]
          · exact s₁.afterWrite_frameView a o n _
      rw [goWrite_frameView, h₃, h₁]
    all_goals simp

@[simp] theorem maskWrite_frameView (a : Nat) (m v : Word) : (s.maskWrite a m v).frameView = s.frameView := by
  unfold maskWrite
  split
  · rfl
  · exact s.regWrite_frameView a _

end
end State
end Sys2Proof.Machine
end

section
/-! ## The frame that ends, and the writes that reach a tick (R36, R47) -/

namespace Sys2Proof.Machine
open Reg
namespace State
section
variable (s : State)

@[simp] theorem showAngle_frameView : s.showAngle.frameView = s.frameView := by simp [showAngle]

@[simp] theorem advanceTheta_frameView (c : Nat) : (s.advanceTheta c).frameView = s.frameView := s.modSync_frameView _

@[simp] theorem slewTheta_frameView : s.slewTheta.frameView = s.frameView := by
  unfold slewTheta
  extract_lets d s₁
  rw [wr_frameView _ _ _ (by simp)]
  exact frameView_congr rfl rfl rfl rfl rfl

@[simp] theorem showCount_frameView (n : Nat) : (s.showCount n).frameView = s.frameView := by simp [showCount]

@[simp] theorem endClapOut_frameView : s.endClapOut.frameView = s.frameView := by
  unfold endClapOut
  split
  · split
    · rw [wrBit_frameView _ _ _ _ (by simp), wr_frameView _ _ _ (by simp)]
      exact frameView_congr rfl rfl rfl rfl rfl
    · rfl
  · rfl

@[simp] theorem showOwner_frameView : s.showOwner.frameView = s.frameView := by simp [showOwner]

@[simp] theorem showScale_frameView : s.showScale.frameView = s.frameView := by
  unfold showScale
  extract_lets f r s₁
  have h : s₁.frameView = s.frameView := by
    unfold s₁
    split
    · exact frameView_congr rfl rfl rfl rfl rfl
    · rfl
  rw [wrB_frameView _ _ _ (by simp), setWord_frameView _ _ (by simp), h]

@[simp] theorem showSupra_frameView (j : Nat) : (s.showSupra j).frameView = s.frameView := by
  unfold showSupra
  split <;> simp

@[simp] theorem showHoldover_frameView : s.showHoldover.frameView = s.frameView := by
  unfold showHoldover
  split <;> simp

@[simp] theorem live_frameView (a : Nat) : (s.live a).frameView = s.frameView := by
  unfold live
  repeat' with_reducible apply ite_frameView
  all_goals simp

@[simp] theorem regRead_frameView (p a : Nat) : (s.regRead p a).2.frameView = s.frameView := by
  unfold regRead
  split
  · rfl
  · dsimp only
    split
    · exact (frameView_congr (s := s.live a) rfl rfl rfl rfl rfl).trans (s.live_frameView a)
    · split <;> exact s.live_frameView a

@[simp] theorem cueWrite_frameView (a : Nat) (m v : Word) : (s.cueWrite a m v).2.frameView = s.frameView := by
  unfold cueWrite
  extract_lets s₁ o s₂ n s₃
  have h₁ : s₁.frameView = s.frameView := by
    unfold s₁
    split
    · exact frameView_congr rfl rfl rfl rfl rfl
    · rfl
  have h₂ : s₂.frameView = s₁.frameView := s₁.maskWrite_frameView a m v
  have h₃ : s₃.frameView = s₂.frameView := by
    unfold s₃
    split <;> simp
  rw [regRead_frameView, h₃, h₂, h₁]

/-! ### The frame that ends -/

@[simp] theorem commitStore_frameView (t : Nat) (v : Word) : (s.commitStore t v).frameView = s.frameView := by
  unfold commitStore
  extract_lets a
  split <;> simp [a]

/-- The shadows of a unit's ports: a quantity that each of the shadow writes keeps. -/
theorem portShadows_keeps {β : Type} (q : State → β) (hp : ∀ s n i v, q (putShadow s n i v) = q s)
    (hr : ∀ s, q (set s PWM.STATUS.PRD_REJECT) = q s) (hc : ∀ s n, q (commitGo s n) = q s) (n : Nat)
    (f : Nat → Option Int) : q (s.portShadows n f) = q s := by
  unfold portShadows
  extract_lets base cnt s₁ s₂ s₃
  have h₁ : q s₁ = q s := by
    unfold s₁
    split
    · dsimp only
      split
      · exact hr s
      · exact hp s _ _ _
    · rfl
  have h₂ : q s₂ = q s₁ := by
    unfold s₂
    split
    · exact hp s₁ _ _ _
    · rfl
  have h₃ : q s₃ = q s₂ := by
    unfold s₃
    split
    · exact hp s₂ _ _ _
    · rfl
  rw [← h₁, ← h₂, ← h₃]
  split
  · split
    · exact hc s₃ n
    · rfl
  · rfl

@[simp] theorem refreshWin_frameView : s.refreshWin.frameView = s.frameView := by
  unfold refreshWin
  extract_lets c w s₁
  rw [wr_frameView _ _ _ (by simp)]
  unfold s₁
  split <;> simp

/-- The commit of a frame: a quantity that ports, stores, shadows and OLP.WIN spare. -/
theorem commitFrame_keeps {β : Type} (q : State → β)
    (hm : ∀ s (e : Nat × Word), q (modSeq s (fun x => { x with ports := mapPut (fun _ => 0) x.ports e.1 (f32ToQ e.2) })) = q s)
    (hs : ∀ s t v, q (commitStore s t v) = q s) (hp : ∀ s n f, q (portShadows s n f) = q s)
    (hw : ∀ s, q (refreshWin s) = q s) : q s.commitFrame = q s := by
  unfold commitFrame
  dsimp only
  rw [hw]
  split
  · rfl
  · rw [each_keeps q _ (fun s n => hp s n _), foldl_keeps (α := Nat × Word) q (fun s e => hs s e.1 e.2)]
    exact foldl_keeps q hm _ s

@[simp] theorem commitFrame_frameView : s.commitFrame.frameView = s.frameView :=
  s.commitFrame_keeps frameView (fun s _ => s.modSeq_frameView _ (fun _ => rfl) (fun _ => rfl) (fun _ => rfl) (fun _ => rfl))
    commitStore_frameView (portShadows_keeps · frameView putShadow_frameView (fun s => s.set_frameView _ (by simp))
      commitGo_frameView) refreshWin_frameView

@[simp] theorem countOverrun_frameView : s.countOverrun.frameView = s.frameView := by
  unfold countOverrun
  extract_lets s₁ s₂ s₃ s₄
  have h : s₄.frameView = s.frameView := by simp [s₄, s₃, s₂, s₁]
  split <;> simp [pilotCause, h]

@[simp] theorem closeRunning_frameView : s.closeRunning.frameView = s.frameView := by
  unfold closeRunning
  split <;> simp

/-! ### Writes that reach the tick -/

/-- A write that is not of SEQ.PERIOD leaves the view. -/
theorem takeWrite_frameView (w : PendWrite) (h : w.space = .reg → w.addr ≠ 0x3000) :
    (s.takeWrite w).frameView = s.frameView := by
  unfold takeWrite
  split
  · next hs => exact frameView_congr rfl rfl rfl (mapGet_mapPut_other resetWord s.eff w.val (h hs).symm) rfl
  · simp
  · simp
  · simp [actNone, asDirector]
  · simp

/-- A write of SEQ.PERIOD is in effect. -/
theorem takeWrite_frameView_period (w : PendWrite) (hs : w.space = .reg) (ha : w.addr = 0x3000) :
    (s.takeWrite w).frameView = { s.frameView with shown := w.val } := by
  unfold takeWrite
  rw [hs]
  simp only [frameView, ha, mapGet_mapPut_same]
  rfl

/-- Of the view, writes reach what SEQ.PERIOD shows alone. -/
theorem foldl_takeWrite_frameView (l : List PendWrite) (s : State) :
    ∃ x, (l.foldl takeWrite s).frameView = { s.frameView with shown := x } := by
  induction l generalizing s with
  | nil => exact ⟨_, rfl⟩
  | cons w l ih =>
    obtain ⟨x, hx⟩ := ih (s.takeWrite w)
    refine ⟨x, ?_⟩
    rw [List.foldl_cons, hx]
    by_cases h : w.space = .reg ∧ w.addr = 0x3000
    · rw [takeWrite_frameView_period s w h.1 h.2]
    · rw [takeWrite_frameView s w (fun hs ha => h ⟨hs, ha⟩)]

/-- The writes that reach a tick: those of earlier cycles, each in its turn. -/
def written : State :=
  (s.pend.filter (fun w => decide (w.cycle < s.cycle))).foldl takeWrite
    { s with pend := s.pend.filter (fun w => decide (s.cycle ≤ w.cycle)) }

/-- The period in force becomes what SEQ.PERIOD shows. -/
theorem takeWrites_frameView : s.takeWrites.frameView =
    { s.written.frameView with period := getField s.written.frameView.shown SEQ.PERIOD.CYCLES } := rfl

/-- So the writes of one tick do. -/
theorem written_frameView : ∃ x, s.written.frameView = { s.frameView with shown := x } :=
  foldl_takeWrite_frameView _ _

/-- A write of SEQ.PERIOD that waits last is the one in effect. -/
theorem written_shown {l : List PendWrite} {w : PendWrite} (hp : s.pend = l ++ [w]) (hs : w.space = .reg)
    (ha : w.addr = 0x3000) (hc : w.cycle < s.cycle) : s.written.frameView.shown = w.val := by
  have e : s.pend.filter (fun w => decide (w.cycle < s.cycle)) =
      l.filter (fun w => decide (w.cycle < s.cycle)) ++ [w] := by
    rw [hp, List.filter_append, List.filter_cons_of_pos (by simpa using hc), List.filter_nil]
  unfold written
  rw [e, List.foldl_append, List.foldl_cons, List.foldl_nil, takeWrite_frameView_period _ w hs ha]
end
end State
end Sys2Proof.Machine
end

section
/-! ## The state machine spares the view -/

namespace Sys2Proof.Machine
open Reg
namespace State
section
variable (s : State)

/-! ### The state machine -/

@[simp] theorem refuseRequest_frameView (n : Nat) : (s.refuseRequest n).frameView = s.frameView := by
  simp [refuseRequest]

@[simp] theorem loseRequest_frameView : s.loseRequest.frameView = s.frameView := by
  unfold loseRequest
  split <;> simp

@[simp] theorem dropSequence_frameView : s.dropSequence.frameView = s.frameView := by
  simp [dropSequence]

@[simp] theorem moveTo_frameView (n o r : Nat) (b : Bool) : (s.moveTo n o r b).frameView = s.frameView := by
  simp [moveTo]

@[simp] theorem isolate_frameView : s.isolate.frameView = s.frameView := by simp [isolate]

@[simp] theorem openBreaker_frameView : s.openBreaker.frameView = s.frameView := by simp [openBreaker]

@[simp] theorem enterHalt_frameView (n : Nat) : (s.enterHalt n).frameView = s.frameView := by simp [enterHalt]

@[simp] theorem enterPilot_frameView (n : Nat) : (s.enterPilot n).frameView = s.frameView := by simp [enterPilot]

@[simp] theorem enterStandby_frameView (o r : Nat) (b : Bool) : (s.enterStandby o r b).frameView = s.frameView := by
  simp [enterStandby]

@[simp] theorem trackStop_frameView : s.trackStop.frameView = s.frameView := by
  unfold trackStop
  repeat' with_reducible apply ite_frameView
  all_goals simp

@[simp] theorem trackPrecharge_frameView : s.trackPrecharge.frameView = s.frameView := by
  unfold trackPrecharge
  repeat' with_reducible apply ite_frameView
  all_goals simp

@[simp] theorem switchOff_frameView : s.switchOff.frameView = s.frameView := by
  unfold switchOff
  extract_lets s₁ s₂ s₃
  have h₁ : s₁.frameView = s.frameView := ite_frameView rfl (by simp)
  have h₃ : s₃.frameView = s.frameView := by simp [s₃, s₂, h₁]
  split <;> simp [h₃]

@[simp] theorem enterStopping_frameView (c : StopCause) (o r : Nat) (b : Bool) :
    (s.enterStopping c o r b).frameView = s.frameView := by
  unfold enterStopping
  extract_lets s₁ s₂ s₃
  have h : s₃.frameView = s.frameView := by simp [s₃, s₂, s₁]
  split <;> simp [h]

@[simp] theorem sendEdge_frameView (l : Nat) (e : Edge) (t : Time) : (s.sendEdge l e t).frameView = s.frameView := by
  unfold sendEdge
  repeat' with_reducible apply ite_frameView
  all_goals simp

@[simp] theorem showArmed_frameView (l : Nat) : (s.showArmed l).frameView = s.frameView := by
  unfold showArmed
  split <;> simp

@[simp] theorem putLevel_frameView (l v : Nat) : (s.putLevel l v).frameView = s.frameView := by
  unfold putLevel
  split <;> simp

@[simp] theorem armEdge_frameView (l : Nat) (e : Edge) (t : Time) : (s.armEdge l e t).frameView = s.frameView := by
  simp [armEdge]

@[simp] theorem releaseLeg_frameView (l : Nat) : (s.releaseLeg l).frameView = s.frameView := by
  unfold releaseLeg
  split
  · rfl
  · extract_lets te h0 s₁ s₂ s₃ e s₄ v
    have h₁ : s₁.frameView = s.frameView := by simp [s₁]
    have h₂ : s₂.frameView = s.frameView := by simp [s₂, h₁]
    have h₃ : s₃.frameView = s.frameView := (ite_frameView (by simp) rfl).trans h₂
    rw [← h₃]
    repeat' with_reducible apply ite_frameView
    all_goals simp [s₄]

@[simp] theorem releaseDump_frameView : s.releaseDump.frameView = s.frameView := by
  unfold releaseDump
  split <;> simp

@[simp] theorem enterStart_frameView (n o r : Nat) : (s.enterStart n o r).frameView = s.frameView := by
  unfold enterStart
  extract_lets k s₁ s₂
  have h₁ : s₁.frameView = s.frameView := by simp [s₁]
  have h₂ : s₂.frameView = s₁.frameView := by simp [s₂]
  rw [← h₁]
  repeat' with_reducible apply ite_frameView
  · simp
  · rw [releaseDump_frameView, ← h₂]
    exact ite_frameView (by simp) (by simp)
  · simp
  · rfl

@[simp] theorem noteMatch_frameView (n : Nat) (f : Option Nat) : (s.noteMatch n f).frameView = s.frameView := by
  unfold noteMatch
  split <;> simp

@[simp] theorem acceptRequest_frameView (n : Nat) : (s.acceptRequest n).frameView = s.frameView := by
  unfold acceptRequest
  split
  next o r _ =>
  extract_lets c s₁ av s₂ s₃
  have h₁ : s₁.frameView = s.frameView := by simp [s₁]
  have h₂ : s₂.frameView = s₁.frameView := ite_frameView (frameView_congr rfl rfl rfl rfl rfl) rfl
  have h₃ : s₃.frameView = s₂.frameView := ite_frameView (ite_frameView (by simp) (by simp)) (by simp)
  rw [finishCue_frameView, h₃, h₂, h₁]

@[simp] theorem requestTick_frameView : s.requestTick.frameView = s.frameView := by
  unfold requestTick
  split
  · rfl
  · dsimp only
    split <;> simp

@[simp] theorem stateMoves_frameView : s.stateMoves.frameView = s.frameView := by
  unfold stateMoves
  extract_lets c y s₁ s₂ s₃
  have h₁ : s₁.frameView = s.frameView := ite_frameView (by simp) rfl
  have h₂ : s₂.frameView = s.frameView := (s₁.modSys_frameView _).trans h₁
  have h₃ : s₃.frameView = s.frameView := s₂.requestTick_frameView.trans h₂
  repeat' with_reducible apply ite_frameView
  all_goals simp [h₁, h₂, h₃]

@[simp] theorem dischargeTick_frameView : s.dischargeTick.frameView = s.frameView := by
  unfold dischargeTick
  repeat' with_reducible apply ite_frameView
  all_goals simp [blockDischarge]

@[simp] theorem stateTick_frameView : s.stateTick.frameView = s.frameView := by
  unfold stateTick
  rw [dischargeTick_frameView]
  exact (ite_frameView (by simp) rfl).trans s.stateMoves_frameView
end
end State
end Sys2Proof.Machine
end

section
/-! ## The rest of the slate, and what L2 does once per frame, spare the view -/

namespace Sys2Proof.Machine
open Reg
namespace State
section
variable (s : State)

/-! ### The slate -/

@[simp] theorem putWords_frameView (a : Nat) (l : List F32) : (s.putWords a l).frameView = s.frameView :=
  foldl_frameView (α := F32 × Nat) (fun s _ => s.putSw_frameView _ _) _ s

@[simp] theorem slateInputs_frameView : s.slateInputs.frameView = s.frameView := by simp [slateInputs]

@[simp] theorem modCtx_frameView (i : Nat) (f : Ctx → Ctx) : (s.modCtx i f).frameView = s.frameView :=
  s.modBus_frameView _

@[simp] theorem sourceLeft_frameView (c : Nat) : (s.sourceLeft c).frameView = s.frameView := by
  unfold sourceLeft
  split <;> simp

@[simp] theorem fuseQ_frameView (q : Nat) : (s.fuseQ q).frameView = s.frameView := by
  unfold fuseQ
  extract_lets k p x s₁ f use okOf due s₂ taken s₃ s₄ s₅ s₆ code s₇ age
  have h₁ : s₁.frameView = s.frameView := by simp [s₁]
  have h₂ : s₂.frameView = s₁.frameView := ite_frameView (by simp) rfl
  have h₃ : s₃.frameView = s₂.frameView := ite_frameView (by simp) rfl
  have h₄ : s₄.frameView = s₃.frameView := by
    unfold s₄
    generalize due = d
    cases d with
    | none => rfl
    | some b => exact ite_frameView (by simp) rfl
  have h₅ : s₅.frameView = s₄.frameView := ite_frameView (by simp) rfl
  have h₆ : s₆.frameView = s₅.frameView := ite_frameView (by simp) rfl
  have h₇ : s₇.frameView = s₆.frameView := by
    refine ite_frameView ?_ rfl
    split
    · rfl
    · split <;> simp
  rw [wr_frameView _ _ _ (by simp), h₇, h₆, h₅, h₄, h₃, h₂, h₁]

@[simp] theorem fuseNone_frameView (q : Nat) : (s.fuseNone q).frameView = s.frameView := by
  unfold fuseNone
  split
  · split <;> simp
  · rfl

@[simp] theorem fuseTick_frameView : s.fuseTick.frameView = s.frameView :=
  each_frameView (fun s q => ite_frameView (s.fuseQ_frameView q) (s.fuseNone_frameView q)) _ s

@[simp] theorem slateRest_frameView : s.slateRest.frameView = s.frameView := by
  unfold slateRest
  extract_lets tai s₁ s₂
  have h₂ : s₂.frameView = s₁.frameView := foldl_frameView (fun s k => s.putWords_frameView _ _) _ s₁
  rw [putSw_frameView, putWords_frameView, h₂]
  exact s.putWords_frameView _ _

/-! ### What follows the opening of a frame -/

@[simp] theorem rampTick_frameView : s.rampTick.frameView = s.frameView := frameView_congr rfl rfl rfl rfl rfl

@[simp] theorem adapt_frameView (l : List Nat) : (s.adapt l).frameView = s.frameView := by
  unfold adapt
  extract_lets l₀ n wins full cnt cyc den tgt g h diff lo hi h' clamped far s₁ f s₂
  have h₂ : s₂.frameView = s.frameView :=
    (each_frameView (fun s i => by simp) l s₁).trans (s.modLeg_frameView _ _)
  repeat' with_reducible apply ite_frameView
  all_goals simp [h₂]

@[simp] theorem bandTick_frameView (c : Nat) : (s.bandTick c).frameView = s.frameView :=
  (foldl_frameView adapt_frameView _ _).trans (each_frameView (fun s _ => s.modLeg_frameView _ _) _ s)

@[simp] theorem putSweep_frameView (k : Nat) (w : Sweep) : (s.putSweep k w).frameView = s.frameView := by
  unfold putSweep
  extract_lets on s₁
  have h : s₁.frameView = s.frameView := by simp [s₁]
  rw [← h]
  repeat' with_reducible apply ite_frameView
  all_goals simp

@[simp] theorem sweepAbort_frameView (k : Nat) : (s.sweepAbort k).frameView = s.frameView := by
  unfold sweepAbort
  split <;> simp

@[simp] theorem feedFault_frameView (k c : Nat) : (s.feedFault k c).frameView = s.frameView := by
  unfold feedFault
  split
  · rfl
  · extract_lets s₁ soft s₂ ev s₃
    have h₁ : s₁.frameView = s.frameView := by simp [s₁]
    have h₂ : s₂.frameView = s₁.frameView := (feedTo_frameView _ _ _).trans (ite_frameView rfl (by simp))
    have h₃ : s₃.frameView = s₂.frameView := by simp [s₃]
    simp [h₃, h₂, h₁]

@[simp] theorem feedStop_frameView (k : Nat) : (s.feedStop k).frameView = s.frameView := by
  unfold feedStop
  rw [modLeg_frameView, feedTo_frameView, putSweep_frameView, sweepAbort_frameView]

@[simp] theorem trackTick_frameView (k : Nat) : (s.trackTick k).frameView = s.frameView := s.modFeed_frameView _ _

@[simp] theorem sweepTick_frameView (k c : Nat) : (s.sweepTick k c).frameView = s.frameView := by
  unfold sweepTick
  extract_lets f
  split
  · rfl
  · refine ite_frameView ?_ (by simp)
    simp
  · refine ite_frameView rfl ?_
    simp
  · exact ite_frameView (by simp) (by simp)
  · simp

@[simp] theorem feedTick1_frameView (k c : Nat) : (s.feedTick1 k c).frameView = s.frameView := by
  unfold feedTick1
  extract_lets base stopReq s₁ s₂ act trip blocked st gone s₃ st' s₄ s₅ st'' dist r tgt d v s₆ s₇ w s₈ vr s₉ p stop
  have h₂ : s₂.frameView = s.frameView := by simp [s₂, s₁]
  have h₃ : s₃.frameView = s₂.frameView :=
    ite_frameView (by simp) (ite_frameView (by simp) (ite_frameView (by simp) rfl))
  have h₄ : s₄.frameView = s₃.frameView := ite_frameView (by simp) (ite_frameView (by simp) rfl)
  have h₅ : s₅.frameView = s₄.frameView := ite_frameView (by simp) rfl
  have h₆ : s₆.frameView = s₅.frameView :=
    ite_frameView (by simp) (ite_frameView (ite_frameView (by simp) (ite_frameView rfl (by simp))) (by simp))
  have h₈ : s₈.frameView = s₆.frameView := by simp [s₈, s₇]
  have h₉ : s₉.frameView = s₈.frameView := ite_frameView (by simp) (ite_frameView (by simp) rfl)
  rw [← h₂, ← h₃, ← h₄, ← h₅, ← h₆, ← h₈, ← h₉]
  exact ite_frameView (by simp) (ite_frameView (by simp) (ite_frameView (by simp) rfl))

@[simp] theorem feedTick_frameView (c : Nat) : (s.feedTick c).frameView = s.frameView := by simp [feedTick]

@[simp] theorem frtTick_frameView (c : Nat) : (s.frtTick c).frameView = s.frameView := by
  unfold frtTick
  extract_lets s₁ rise cap done cap' s₂
  have h₁ : s₁.frameView = s.frameView := s.modFrt_frameView _
  have h₂ : s₂.frameView = s₁.frameView := by simp [s₂]
  rw [← h₁]
  exact ite_frameView rfl ((ite_frameView (by simp) rfl).trans h₂)

@[simp] theorem liveTick_frameView (q : Nat → Option Int) : (s.liveTick q).frameView = s.frameView := by
  unfold liveTick
  extract_lets live m
  exact ite_frameView rfl (by simp)

@[simp] theorem scanPoint_frameView (i : Nat) : (s.scanPoint i).frameView = s.frameView := by
  unfold scanPoint
  split
  · rfl
  · exact ite_frameView (s.modBus_frameView _) rfl

@[simp] theorem scanTick_frameView : s.scanTick.frameView = s.frameView := by
  unfold scanTick
  extract_lets n a s₁
  have h₁ : s₁.frameView = s.frameView := each_frameView scanPoint_frameView _ s
  exact ite_frameView rfl ((s₁.modBus_frameView _).trans h₁)

@[simp] theorem netSend_frameView : s.netSend.frameView = s.frameView :=
  each_frameView (fun s p => s.inc_frameView _ (by simp)) _ s

@[simp] theorem gooseSend_frameView (i : Nat) : (s.gooseSend i).frameView = s.frameView := by
  unfold gooseSend
  extract_lets s₁
  have h₁ : s₁.frameView = s.frameView := by simp [s₁, tagFrame]
  split <;> simp [h₁]

@[simp] theorem gooseTick1_frameView (i : Nat) : (s.gooseTick1 i).frameView = s.frameView := by
  unfold gooseTick1
  split
  · rfl
  · exact ite_frameView rfl ((gooseSend_frameView _ i).trans (s.modCtx_frameView i _))

@[simp] theorem gooseTick_frameView : s.gooseTick.frameView = s.frameView := each_frameView gooseTick1_frameView _ s

@[simp] theorem closeOutage_frameView : s.closeOutage.frameView = s.frameView := by
  unfold closeOutage
  extract_lets a n s₁
  have h₁ : s₁.frameView = s.frameView := by simp [s₁]
  rw [← h₁]
  exact ite_frameView (by simp) (by simp)

@[simp] theorem with_avail_frameView (x : Avail) : State.frameView { s with avail := x } = s.frameView :=
  frameView_congr rfl rfl rfl rfl rfl

@[simp] theorem availTick_frameView : s.availTick.frameView = s.frameView := by
  unfold availTick
  split
  next p r g u _ =>
  extract_lets s₁ a₁ s₂ ok n a₂ s₃ s₄ a₄ t a₅ s₅ a₆ s₆ a₇
  have h₁ : s₁.frameView = s.frameView := by simp [s₁]
  have h₂ : s₂.frameView = s₁.frameView := ite_frameView (s₁.with_avail_frameView _) rfl
  have h₃ : s₃.frameView = s₂.frameView := ite_frameView (s₂.with_avail_frameView _) rfl
  have h₄ : s₄.frameView = s₃.frameView := ite_frameView s₃.closeOutage_frameView rfl
  have h₅ : s₅.frameView = s₃.frameView :=
    ite_frameView ((t.with_avail_frameView _).trans (s₃.set_frameView _ (by simp))) rfl
  have h₆ : s₆.frameView = s₃.frameView :=
    ite_frameView ((s₄.with_avail_frameView _).trans h₄) (ite_frameView ((s₅.with_avail_frameView _).trans h₅) rfl)
  rw [with_avail_frameView, h₆, h₃, h₂, h₁]

@[simp] theorem dailiesLatch_frameView : s.dailiesLatch.frameView = s.frameView := s.modHist_frameView _
end
end State
end Sys2Proof.Machine
end

section
/-! ## The slate's head and the opening of a frame reach the view (R29 to R31, R37, R38) -/

namespace Sys2Proof.Machine
open Reg
/-- A filter on addresses keeps what the map holds at an address it lets through. -/
theorem mapGet_filter {α : Type} (d : Nat → α) (p : Nat → Bool) (m : SMap α) {a : Nat} (h : p a = true) :
    mapGet d (m.filter (fun e => p e.1)) a = mapGet d m a := by
  induction m with
  | nil => rfl
  | cons e m ih =>
    obtain ⟨k, v⟩ := e
    by_cases hk : p k = true
    · rw [List.filter_cons_of_pos (by exact hk)]
      simp only [mapGet, ih]
    · rw [List.filter_cons_of_neg (by exact hk), ih]
      have : a ≠ k := fun e => hk (e ▸ h)
      simp [mapGet, this]

namespace State
section
variable (s : State)

@[simp] theorem quietOlp_frameView (n : Nat) : (s.quietOlp n).frameView = s.frameView := by
  unfold quietOlp
  refine ite_frameView ?_ rfl
  have hw : ∀ b, ¬ (0xC000 ≤ b ∧ b < 0xC800) → State.word { s with
      regs := s.regs.filter (fun e => decide (¬(0xC000 ≤ e.1 ∧ e.1 < 0xC800))) } b = s.word b :=
    fun b hb => mapGet_filter resetWord (fun b => decide (¬(0xC000 ≤ b ∧ b < 0xC800))) s.regs (decide_eq_true hb)
  simp only [frameView, rd, rd64, hw 0x300C (by omega), hw 0x3010 (by omega), hw (0x3010 + 4) (by omega)]

/-- The frame opens: its cycle is this one, and it has not ended. -/
theorem openFrame_frameView : ∃ ph, ph ≠ FramePhase.ended ∧
    s.openFrame.frameView = { s.frameView with tickCycle := s.cycle, ticked := true, phase := ph } := by
  have h : ((s.quietOlp s.sceneNow).wr SEQ.MODE.ACTIVE s.sceneNow).frameView = s.frameView := by simp
  refine ⟨if s.hasScene s.sceneNow then .running else .none, by split <;> simp, ?_⟩
  rw [← h]
  rfl

/-- A write of the count is seen as the count alone. -/
theorem wr_count_frameView (v : Nat) :
    (s.wr SEQ.FRAMECNT.COUNT v).frameView = { s.frameView with count := v % 2 ^ 32 } := by
  have h : (s.wr SEQ.FRAMECNT.COUNT v).rd64 SEQ.SLATE_TIME.TAI_NS = s.rd64 SEQ.SLATE_TIME.TAI_NS := by
    unfold rd64
    rw [word_wr_other _ _ _ (by decide), word_wr_other _ _ _ (by decide)]
  simp only [frameView, h, rd_wr s SEQ.FRAMECNT.COUNT v (by decide), wr_now, wr_time, wr_eff, wr_seq]

/-- A write of the slate's time is seen as that time alone. -/
theorem wr64_latched_frameView (v : Nat) :
    (s.wr64 SEQ.SLATE_TIME.TAI_NS v).frameView = { s.frameView with latched := v % 2 ^ 64 } := by
  have hc : (s.wr64 SEQ.SLATE_TIME.TAI_NS v).rd SEQ.FRAMECNT.COUNT = s.rd SEQ.FRAMECNT.COUNT := by
    unfold wr64
    rw [rd_setWord_other _ _ _ _ (by decide), rd_setWord_other _ _ _ _ (by decide)]
  have hl : (s.wr64 SEQ.SLATE_TIME.TAI_NS v).rd64 SEQ.SLATE_TIME.TAI_NS = v % 2 ^ 64 := by
    unfold rd64 wr64
    rw [word_setWord_same, word_setWord_other _ _ (by decide), word_setWord_same]
    simp only [BitVec.toNat_ofNat]
    omega
  simp only [frameView, hc, hl]
  rfl

/-- The slate's head: the count moves on, or starts at 0, and the time is latched. -/
theorem slateHead_frameView (first : Bool) : (s.slateHead first).frameView =
    { s.frameView with
      count := if first then 0 else (s.rd SEQ.FRAMECNT.COUNT + 1) % 2 ^ 32
      latched := s.tai } := by
  unfold slateHead
  extract_lets s₁
  have h₁ : s₁.frameView = { s.frameView with
      count := if first then 0 else (s.rd SEQ.FRAMECNT.COUNT + 1) % 2 ^ 32 } := by
    cases first
    · exact s.wr_count_frameView _
    · exact s.wr_count_frameView 0
  have ht : s₁.tai % 2 ^ 64 = s.tai := by
    have hn : s₁.now = s.now := congrArg FrameView.now h₁
    have htm : s₁.time = s.time := congrArg FrameView.time h₁
    simp only [tai, hn, htm, Nat.mod_mod]
  split
  rw [modSync_frameView, wr_frameView _ _ _ (by simp), wr64_latched_frameView, ht, h₁]
end
end State

end Sys2Proof.Machine
end

section
/-! ## The tick as a whole -/

namespace Sys2Proof.Machine
open Reg

/-! ### Waiting writes while the frame ends -/

/-- No trip path reaches the waiting writes. -/
theorem tripBlind_pend : TripBlind (fun s : State => s.pend) where
  regs _ _ _ _ := rfl
  timers _ _ := rfl
  hot _ _ := rfl
  leg _ _ _ := rfl
  trip _ _ := rfl
  sys _ _ := rfl
  island _ _ _ := rfl
  unit _ _ _ := rfl
  reel _ _ _ := rfl
  ramps _ _ := rfl

namespace State
section
variable (s : State)

theorem countOverrun_pend : s.countOverrun.pend = s.pend := by
  unfold countOverrun
  extract_lets s₁ s₂ s₃ s₄
  have h : s₄.pend = s.pend := by
    rw [show s₄.pend = s₃.pend from s₃.detect_pend _ _ _, show s₃.pend = s₂.pend from tripBlind_pend.pulseSrc s₂ 33]
    exact (reelEvent_pend _ _ _ _ _).trans rfl
  split
  · rw [detect_pend]
    exact h
  · exact h

theorem closeRunning_pend : s.closeRunning.pend = s.pend := by
  unfold closeRunning
  split
  · rfl
  · exact s.countOverrun_pend

theorem putShadow_pend (n : Nat) (i : ShadowItem) (v : Nat) : (s.putShadow n i v).pend = s.pend := by
  unfold putShadow
  dsimp only
  rw [modUnit_pend]
  cases i <;> dsimp only <;> split <;> rfl

theorem commitGo_pend (n : Nat) : (s.commitGo n).pend = s.pend := by
  unfold commitGo
  dsimp only
  rw [modUnit_pend]
  split <;> rfl

theorem commitStore_pend (t : Nat) (v : Word) : (s.commitStore t v).pend = s.pend := by
  unfold commitStore
  extract_lets a
  split <;> rfl

theorem refreshWin_pend : s.refreshWin.pend = s.pend := by
  unfold refreshWin
  extract_lets c w s₁
  rw [wr_pend]
  unfold s₁
  split <;> rfl

theorem commitFrame_pend : s.commitFrame.pend = s.pend :=
  s.commitFrame_keeps pend (fun _ _ => rfl) commitStore_pend
    (portShadows_keeps · pend putShadow_pend (fun _ => rfl) commitGo_pend) refreshWin_pend

/-! ### The parts of a due tick -/

/-- The frame that ends, and its commit. -/
def tickEnds : State := s.holdRows.closeRunning.commitFrame

/-- Writes, a swap and the network's changes take effect. -/
def tickTakes : State := s.tickEnds.takeWrites.takeSwap.applyNet (fun c => decide (c < s.cycle))

/-- The slate is latched, the state machine moves, and the next frame opens. -/
def tickOpens : State := (s.tickTakes.slateHead (!s.seq.ticked)).fuseTick.slateInputs.stateTick.openFrame

/-- What L2 does once per frame follows. -/
def tickEffect : State :=
  let cycles := if !s.seq.ticked then s.seq.period else s.cycle - s.seq.tickCycle
  let o := s.tickOpens.rampTick.bandTick cycles
  (((o.feedTick cycles).frtTick cycles).liveTick o.qFix).slateRest.scanTick.gooseTick.showHoldover.availTick.dailiesLatch

/-- Held reel rows touch the reel alone. -/
theorem holdRows_keeps {β : Type} (q : State → β) (h : ∀ s r f, q (modReel s r f) = q s) : q s.holdRows = q s := by
  unfold holdRows
  exact each_keeps q _ (fun s r => h s r _) _ s

/-- What the step accounts for at its end is no part of the view. -/
theorem keep_frameView (s n : State) (h : n.now = s.now) : (s.keep n).frameView = n.frameView :=
  frameView_congr h.symm rfl rfl rfl rfl

theorem cycle_congr {s t : State} (h : t.now = s.now) : t.cycle = s.cycle := congrArg (· / sclk) h

theorem tai_congr {s t : State} (hn : t.now = s.now) (ht : t.time = s.time) : t.tai = s.tai := by
  simp only [tai, hn, ht]

theorem tickEnds_frameView : s.tickEnds.frameView = s.frameView := by simp [tickEnds]

theorem tickEnds_pend : s.tickEnds.pend = s.pend := by
  rw [tickEnds, commitFrame_pend, closeRunning_pend, s.holdRows_keeps pend (fun _ _ _ => rfl)]

/-- Of the view, the writes reach SEQ.PERIOD alone, and with it the period in force. -/
theorem tickTakes_frameView : s.tickTakes.frameView = { s.frameView with
    shown := s.tickEnds.written.frameView.shown
    period := getField s.tickEnds.written.frameView.shown SEQ.PERIOD.CYCLES } := by
  obtain ⟨x, hx⟩ := s.tickEnds.written_frameView
  rw [tickTakes, applyNet_frameView, takeSwap_frameView, takeWrites_frameView, hx, tickEnds_frameView]

/-- The frame opens at the tick's own cycle, with the slate latched and the frame counted. -/
theorem tickOpens_frameView : ∃ ph, ph ≠ FramePhase.ended ∧ s.tickOpens.frameView = {
    now := s.now
    time := s.time
    count := if s.seq.ticked then (s.rd SEQ.FRAMECNT.COUNT + 1) % 2 ^ 32 else 0
    latched := s.tai
    shown := s.tickEnds.written.frameView.shown
    period := getField s.tickEnds.written.frameView.shown SEQ.PERIOD.CYCLES
    tickCycle := s.cycle
    ticked := true
    phase := ph } := by
  have hk := s.tickTakes_frameView
  have hnow : s.tickTakes.now = s.now := by rw [← frameView_now, hk]; rfl
  have htime : s.tickTakes.time = s.time := by rw [← frameView_time, hk]; rfl
  have hcount : s.tickTakes.rd SEQ.FRAMECNT.COUNT = s.rd SEQ.FRAMECNT.COUNT := by rw [← frameView_count, hk]; rfl
  generalize hm : (s.tickTakes.slateHead (!s.seq.ticked)).fuseTick.slateInputs.stateTick = m
  have hv : m.frameView = { s.tickTakes.frameView with
      count := if !s.seq.ticked then 0 else (s.rd SEQ.FRAMECNT.COUNT + 1) % 2 ^ 32, latched := s.tai } := by
    rw [← hm, stateTick_frameView, slateInputs_frameView, fuseTick_frameView, slateHead_frameView, hcount,
      tai_congr hnow htime]
  have hcyc : m.cycle = s.cycle := cycle_congr (by rw [← frameView_now, hv]; exact hnow)
  obtain ⟨ph, hph, ho⟩ := m.openFrame_frameView
  refine ⟨ph, hph, ?_⟩
  have hif : (if !s.seq.ticked then 0 else (s.rd SEQ.FRAMECNT.COUNT + 1) % 2 ^ 32) =
      if s.seq.ticked then (s.rd SEQ.FRAMECNT.COUNT + 1) % 2 ^ 32 else 0 := by cases s.seq.ticked <;> simp
  rw [tickOpens, hm, ho, hv, hk, hcyc, hif]
  simp only [frameView_now, frameView_time]

/-- What follows the opening leaves the view. -/
theorem tickEffect_frameView : s.tickEffect.frameView = s.tickOpens.frameView := by simp [tickEffect]
end
end State

/-- A due tick has its effect. -/
theorem exec_tick_due {t : Time} {s : State} (h : (s.at' t).tickDue = true) :
    exec (.tick t) s = .next ((s.at' t).keep (s.at' t).tickEffect) := by
  have hq := (s.at' t).holdRows_keeps State.seq (fun _ _ _ => rfl)
  have hc := (s.at' t).holdRows_keeps State.cycle (fun _ _ _ => rfl)
  show execTick t s = _
  unfold execTick State.during State.doing
  dsimp only
  rw [h]
  simp only [Bool.not_true, Bool.false_eq_true, if_false, hq, hc]
  rfl

/-- A tick that is not due moves the clock alone. -/
theorem exec_tick_not_due {t : Time} {s : State} (h : (s.at' t).tickDue = false) :
    exec (.tick t) s = .next { s with now := max s.now t } := by
  show execTick t s = _
  unfold execTick State.during State.doing
  dsimp only
  rw [h]
  rfl

/-- What a due tick leaves of the view; `x` is what SEQ.PERIOD shows then. -/
theorem exec_tick_frameView {t : Time} {s : State} (h : (s.at' t).tickDue = true) : ∃ s' ph,
    exec (.tick t) s = .next s' ∧ ph ≠ FramePhase.ended ∧ s'.frameView = {
      now := max s.now t
      time := s.time
      count := if s.seq.ticked then (s.rd SEQ.FRAMECNT.COUNT + 1) % 2 ^ 32 else 0
      latched := (s.at' t).tai
      shown := (s.at' t).tickEnds.written.frameView.shown
      period := getField (s.at' t).tickEnds.written.frameView.shown SEQ.PERIOD.CYCLES
      tickCycle := (s.at' t).cycle
      ticked := true
      phase := ph } := by
  obtain ⟨ph, hph, ho⟩ := (s.at' t).tickOpens_frameView
  refine ⟨_, ph, exec_tick_due h, hph, ?_⟩
  have he := (s.at' t).tickEffect_frameView.trans ho
  rw [State.keep_frameView _ _ (by rw [← State.frameView_now, he]), he]
  rfl
end Sys2Proof.Machine
end

section
/-! ## Frame period and frame opening (O53, O54) -/

namespace Sys2Proof.Machine
open Reg

/-! ### PERIOD_WRITE (R36) -/

/-- The field of SEQ.PERIOD is its 15 low bits. -/
theorem getField_period (v : Word) : getField v SEQ.PERIOD.CYCLES = v.toNat % 2 ^ 15 := by
  simp [getField]

/-- The row of SEQ.PERIOD: RWS bits alone. -/
theorem rowOf_period :
    rowOf 0x3000 = some { base := 0x3000, stride := 0x4, count := 1, reset := 0xFA0, mRws := 0x7FFF } := by decide

namespace State
section
variable (s : State)

/-- A write of SEQ.PERIOD goes by its own rule. -/
theorem regWrite_period (v : Word) : s.regWrite 0x3000 v = s.periodWrite v := by
  unfold regWrite
  rw [rowOf_period]
  rfl

/-- A period of the range that no image forbids is held for the next tick. -/
theorem periodWrite_taken {v : Word} (hlo : 2000 ≤ v.toNat % 2 ^ 15) (hhi : v.toNat % 2 ^ 15 ≤ 20000)
    (hp : s.leastPeriod ≤ v.toNat % 2 ^ 15) :
    s.periodWrite v = s.pendReg 0x3000 (BitVec.ofNat 32 (v.toNat % 2 ^ 15)) := by
  unfold leastPeriod at hp
  unfold periodWrite
  rw [getField_period]
  exact if_neg (by omega)

/-- Any other is not taken. -/
theorem periodWrite_refused {v : Word}
    (h : v.toNat % 2 ^ 15 < 2000 ∨ 20000 < v.toNat % 2 ^ 15 ∨ v.toNat % 2 ^ 15 < s.leastPeriod) :
    s.periodWrite v = s.set SEQ.STATUS.PERIOD_REJECT := by
  unfold leastPeriod at h
  unfold periodWrite
  rw [getField_period]
  exact if_pos h

/-- SEQ.PERIOD has no SEAL bits: a direct write of it is the period write, logged where the word changes. -/
theorem hostWord_period (v : Word) : s.hostWord 0x3000 v =
    if s.word 0x3000 = (s.periodWrite v).word 0x3000 then s.periodWrite v
    else (s.periodWrite v).logIt orHOST (actingRole roO ((s.periodWrite v).rolesOf 0)) false false evREGWRITE
      (tgReg 0x3000) (s.word 0x3000).toNat ((s.periodWrite v).word 0x3000).toNat := by
  unfold hostWord
  simp only [rowOf_period, BitVec.ofNat_eq_ofNat, BitVec.and_zero, if_true, regWrite_period]

/-- The word shown, the write held, and all the rest left: what a period taken leaves. -/
theorem hostWord_period_taken {v : Word} (hlo : 2000 ≤ v.toNat % 2 ^ 15) (hhi : v.toNat % 2 ^ 15 ≤ 20000)
    (hp : s.leastPeriod ≤ v.toNat % 2 ^ 15) :
    let p := BitVec.ofNat 32 (v.toNat % 2 ^ 15)
    let s' := s.hostWord 0x3000 v
    (∀ a, a < 0x1D000 → s'.word a = if a = 0x3000 then p else s.word a) ∧ s'.eff = s.eff ∧ s'.seq = s.seq ∧
      s'.pend = (s.pendReg 0x3000 p).pend := by
  intro p s'
  have e : s.periodWrite v = s.pendReg 0x3000 p := s.periodWrite_taken hlo hhi hp
  have hw : ∀ a, (s.pendReg 0x3000 p).word a = if a = 0x3000 then p else s.word a :=
    fun a => s.word_setWord 0x3000 a p
  have hs : s' = s.hostWord 0x3000 v := rfl
  rw [hostWord_period, e] at hs
  split at hs
  · exact ⟨fun a _ => by rw [hs, hw], by rw [hs]; rfl, by rw [hs]; rfl, by rw [hs]⟩
  · refine ⟨fun a ha => ?_, ?_, ?_, ?_⟩
    · rw [hs, logIt_word _ _ _ _ _ _ _ _ _ (.inl ha), hw]
    · rw [hs, logIt_eff]; rfl
    · rw [hs, logIt_seq]; rfl
    · rw [hs, logIt_pend]

/-- What a period refused leaves. -/
theorem hostWord_period_refused {v : Word}
    (h : v.toNat % 2 ^ 15 < 2000 ∨ 20000 < v.toNat % 2 ^ 15 ∨ v.toNat % 2 ^ 15 < s.leastPeriod) :
    s.hostWord 0x3000 v = s.set SEQ.STATUS.PERIOD_REJECT := by
  have hw : (s.set SEQ.STATUS.PERIOD_REJECT).word 0x3000 = s.word 0x3000 := s.word_wr_other _ _ (by decide)
  rw [hostWord_period, s.periodWrite_refused h, hw, if_pos rfl]
end
end State

/-- PERIOD_WRITE is a direct write of SEQ.PERIOD. -/
theorem exec_periodWrite (t : Time) (v : Word) (s : State) :
    exec (.periodWrite t v) s = .next ((s.at' t).keep ((s.at' t).hostWord 0x3000 v)) := rfl

/-! ### When a tick is due -/

/-- Before a period has passed since the last tick, none is due. -/
theorem State.tickDue_of_early {s : State} {t : Time} (ht : s.seq.ticked = true)
    (h : (s.at' t).cycle < s.seq.tickCycle + s.seq.period) : (s.at' t).tickDue = false := by
  have h' : ¬ s.seq.tickCycle + s.seq.period ≤ (s.at' t).cycle := by omega
  simp [tickDue, ht, h']

/-- Once it has passed, one is due while the device runs with its clock. -/
theorem State.tickDue_of_late {s : State} {t : Time} (h : s.seq.tickCycle + s.seq.period ≤ (s.at' t).cycle)
    (hd : s.sys.dark = false) (hb : stBOOT < s.code) (hc : s.clk.stopped = false) : (s.at' t).tickDue = true := by
  have hb' : stBOOT < (s.at' t).code := hb
  simp [tickDue, hd, hb', hc, h]

/-! ### Resets (R276, R287) -/

theorem State.keepFields_seq (s u : State) (l : List Field) : (s.keepFields u l).seq = s.seq := by
  unfold keepFields
  exact foldl_keeps (α := Field) State.seq (fun s f => s.wr_seq f _) l s

theorem State.cold_seq (s : State) : s.cold.seq = State.reset.seq := by
  unfold cold
  dsimp only
  rw [wr_seq, keepFields_seq]

theorem State.warm_seq (s : State) : s.warm.seq = State.reset.seq := by
  unfold warm
  dsimp only
  rw [keepFields_seq, cold_seq]

/-- What a command that may reach DRAM leaves of the sequencer is what its effect does. -/
theorem State.duringMem_seq {s : State} {t : Time} {f : State → State} {q : Seq} (h : (f (s.at' t)).seq = q) :
    ∃ s', s.duringMem t f = .next s' ∧ s'.seq = q := ⟨_, rfl, h⟩

/-- A power-on reset leaves the sequencer as it is before the first tick. -/
theorem exec_powerOnReset_seq (t : Time) (v : Bool) (s : State) :
    ∃ s', exec (.powerOnReset t v) s = .next s' ∧ s'.seq = State.reset.seq := by
  show ∃ s', execPowerOnReset t v s = .next s' ∧ _
  unfold execPowerOnReset
  refine State.duringMem_seq ?_
  dsimp only
  rw [State.modSys_seq, State.cold_seq]

/-- So does the reset of the cue, once it is due. -/
theorem exec_resetStart_seq {t : Time} {s : State} {q : Bool × Nat × Nat} (hq : s.cue.resetBy = some q)
    (hd : (s.at' t).due .resetQueued (100 * ms) = true) :
    ∃ s', exec (.resetStart t) s = .next s' ∧ s'.seq = State.reset.seq := by
  obtain ⟨admin, id, seq⟩ := q
  have hq' : (s.at' t).cue.resetBy = some (admin, id, seq) := hq
  show ∃ s', execResetStart t s = .next s' ∧ _
  unfold execResetStart
  refine State.duringMem_seq ?_
  dsimp only
  simp only [hq', hd, Bool.not_true, Bool.and_false, Bool.false_eq_true, if_false]
  exact State.warm_seq _

/-! ### The obligations -/

/-- Settles O53: a period taken waits as the last write of SEQ.PERIOD (`hostWord_period_taken`), one refused sets the
reject bit alone (`hostWord_period_refused`), and of a due tick only those writes reach the period
(`exec_tick_frameView`). -/
theorem framePeriodFollowsItsRegister : Obligations.FramePeriodFollowsItsRegister := by
  unfold Obligations.FramePeriodFollowsItsRegister
  refine ⟨by decide, rfl, ?_, ?_, ?_, ?_, ?_⟩
  · intro s t v hlo hhi hp
    obtain ⟨hw, he, hq, hpd⟩ := (s.at' t).hostWord_period_taken hlo hhi hp
    refine ⟨_, exec_periodWrite t v s, ?_, he, hq, ?_, fun a ha hne => ?_⟩
    · rw [State.keep_word, hw _ (by decide), if_pos rfl]
    · rw [State.keep_pend, hpd]
      exact List.getLast?_concat
    · rw [State.keep_word, hw a ha, if_neg hne]; rfl
  · intro s t v h
    refine ⟨_, exec_periodWrite t v s, ?_⟩
    rw [(s.at' t).hostWord_period_refused h]
    refine ⟨?_, ?_, rfl, fun a ha => ?_⟩
    · exact (s.at' t).rd_wr _ 1 (by decide)
    · exact (s.at' t).rd_wr_addr _ _ 1 (by decide)
    · exact (s.at' t).word_wr_other _ 1 ha
  · intro s t l w hdue hpend hs ha hc
    obtain ⟨s', ph, hx, -, hv⟩ := exec_tick_frameView hdue
    have hnow : (s.at' t).tickEnds.now = (s.at' t).now := by
      rw [← State.frameView_now, State.tickEnds_frameView]; rfl
    have hshown : (s.at' t).tickEnds.written.frameView.shown = w.val :=
      (s.at' t).tickEnds.written_shown ((s.at' t).tickEnds_pend.trans hpend) hs ha (by rw [State.cycle_congr hnow]; exact hc)
    rw [hshown, getField_period] at hv
    refine ⟨s', hx, ?_, ?_, ?_⟩
    · rw [← State.frameView_period, hv]
    · have he : mapGet resetWord s'.eff 0x3000 = w.val := by rw [← State.frameView_shown, hv]
      exact (congrArg (getField · SEQ.PERIOD.CYCLES) he).trans (getField_period _)
    · rw [← State.frameView_tickCycle, hv]
  · intro s t ht hlt
    exact exec_tick_not_due (State.tickDue_of_early ht hlt)
  · intro s t ht hge hd hb hc
    obtain ⟨s', ph, hx, -, hv⟩ := exec_tick_frameView (State.tickDue_of_late hge hd hb hc)
    exact ⟨s', hx, by rw [← State.frameView_tickCycle, hv]⟩

/-- Settles O54: of all that a due tick does, the slate's head and the opening of the frame alone reach the frame's
view (`exec_tick_frameView`); both resets put back the sequencer of before the first tick. -/
theorem tickOpensAFrame : Obligations.TickOpensAFrame := by
  unfold Obligations.TickOpensAFrame
  refine ⟨fun s t h => ?_, fun s t h => ⟨_, exec_tick_not_due h, rfl⟩, rfl, fun s t v => ?_, fun s t q hq hd => ?_⟩
  · obtain ⟨s', ph, hx, hph, hv⟩ := exec_tick_frameView h
    refine ⟨s', hx, ?_, ?_, ?_, ?_, ?_⟩
    · rw [← State.frameView_ticked, hv]
    · rw [← State.frameView_tickCycle, hv]
    · rw [← State.frameView_phase, hv]; exact hph
    · rw [← State.frameView_latched, hv]
    · rw [← State.frameView_count, hv]
  · obtain ⟨s', hx, hs⟩ := exec_powerOnReset_seq t v s
    exact ⟨s', hx, by rw [hs]; rfl⟩
  · obtain ⟨s', hx, hs⟩ := exec_resetStart_seq hq hd
    exact ⟨s', hx, by rw [hs]; rfl⟩
end Sys2Proof.Machine
end

section
/-! ## A director's write at an unlisted address

R424 gives an unlisted address no effect, and R24 lets a decision of the director's wait for the next tick. In the model
the second comes first: `State.directWrite` queues the write before any row of the register map is looked up. -/

namespace Sys2Proof.Machine
open Reg

/-- REGISTER_WRITE is the cue 0x0101 over the machine at its instant. -/
theorem exec_registerWrite (t : Time) (c : Cue) (s : State) :
    exec (.registerWrite t c) s = .next ((s.at' t).keep ((s.at' t).runCue 0x0101 c
      ((fieldsOf c [4, 4, 4]).or (writeBad c 0)) (fun s => s.cueWrites [writeAt c 0]))) := rfl

/-- The state after reset in STANDBY. -/
def standbyState : State := State.reset.wr SYS.STATE.CODE stSTANDBY

/-- A REGISTER_WRITE of the director's that writes 1 over the whole word at 0x18000, where no register is listed. -/
def strayDirectorWrite : Cue where
  cls := 5
  sender := 0
  session := 1
  seq := 7
  flags := 0
  crc := 0
  payload := leBytes 4 0x18000 ++ leBytes 4 0xFFFFFFFF ++ leBytes 4 1

theorem standbyState_admits_strayDirectorWrite :
    (standbyState.at' 0).admits 0x0101 strayDirectorWrite = true := by decide +kernel

theorem strayDirectorWrite_unlisted : strayDirectorWrite.payload.length = 12 ∧
    addrOk (strayDirectorWrite.u 0 4) = true ∧ rowOf (strayDirectorWrite.u 0 4) = none := by decide

/-- The cue completes with its write waiting for the tick. -/
theorem pend_after_strayDirectorWrite :
    ((standbyState.at' 0).runCue 0x0101 strayDirectorWrite
      ((fieldsOf strayDirectorWrite [4, 4, 4]).or (writeBad strayDirectorWrite 0))
      (fun s => s.cueWrites [writeAt strayDirectorWrite 0])).pend =
    [{ space := .direct, addr := 0x18000, val := 1, cycle := 0, mask := 0xFFFFFFFF, op := 0x0101 }] := by
  decide +kernel

/-- Refutes O18: a REGISTER_WRITE of the director's (origin class 5) at the unlisted 0x18000 is answered OK and
joins the writes that wait for the tick (R24), while the statement has them stand. -/
theorem not_unlistedAddressesReadZeroAndIgnoreWrites : ¬ Obligations.UnlistedAddressesReadZeroAndIgnoreWrites := by
  unfold Obligations.UnlistedAddressesReadZeroAndIgnoreWrites
  rintro ⟨-, -, -, -, hwrite, -⟩
  obtain ⟨s', hx, -, hs', -⟩ :=
    hwrite standbyState 0 strayDirectorWrite standbyState_admits_strayDirectorWrite strayDirectorWrite_unlisted
  have hstands : s'.pend = [] := by rw [hs']; rfl
  rw [exec_registerWrite] at hx
  cases hx
  rw [State.keep_pend, pend_after_strayDirectorWrite] at hstands
  cases hstands
end Sys2Proof.Machine
end
